-- ==== Sys2Proof/Word.lean ====
section
/-! DEFINITION. The words of the block: bytes and the plain numbers the rest of the model is written with. -/
namespace Sys2Proof

/-- One byte of memory. -/
abbrev Byte := BitVec 8
/-- A 64-bit tiller register or memory word (R389). -/
abbrev Word := BitVec 64

end Sys2Proof
end

