-- ==== Sys2Proof/Syntax.lean ====
section
/-! DEFINITION. The commands of the block: one constructor for each row of the opcode table, with its operands. -/
namespace Sys2Proof

/-- A KPB packet as it arrives: its 16-byte header, its payload, the data CRC that follows the payload, and whether its marker
block arrived errored (R78, R81, R85). -/
structure Pkt where
  hdr : List (BitVec 8) := []
  data : List (BitVec 8) := []
  dcrc : Nat := 0
  errored : Bool := false
deriving DecidableEq, Repr
/-- Where a configuration request comes: the function it names, and the link it comes on, 0 A or the x16 link, 1 B (R605). -/
structure CfgTo where
  fn : Nat
  link : Nat
deriving DecidableEq, Repr

/-- A firmware image as its header and the checks on it show it (R594): MAGIC, FMT, LVL_OWN, KEY_IDX, SVN, VERSION, LENGTH, and
whether the SHA-384 of PUBKEY equals the fused key hash, SIG is a valid signature and DIGEST equals the SHA-384 of the body. -/
structure Image where
  magic : Nat := 0
  fmt : Nat := 0
  lvl : Nat := 0
  key : Nat := 0
  svn : Nat := 0
  version : Nat := 0
  length : Nat := 0
  keyHashOk : Bool := false
  sigOk : Bool := false
  digestOk : Bool := false
deriving DecidableEq, Repr


/-- The commands and events of the block, one for each row of the opcode table. Numbers are natural numbers; `WellFormed`
says which are in range. -/
inductive Instr where
  /-- `REGISTER_WRITE` (R45): A write to a register field that has no row of its own: RWC fields go to the shadow, other
  fields act at once under their access codes. -/
  | registerWrite (fn off size value : Nat)
  /-- `PAGE_CROSSING_READ` (R40): A read that crosses a page boundary returns zero and sets PAGE_ERR.ACCESS on the starting
  page. -/
  | pageCrossingRead (fn off size : Nat)
  /-- `PAGE_COMMIT_CANCEL` (R46): A PAGE_COMMIT write with POINT CANCEL disarms the pending commit and keeps the shadow. -/
  | pageCommitCancel (fn blk unit : Nat)
  /-- `PAGE_COMMIT_NOW` (R49): A PAGE_COMMIT write with POINT NOW applies the shadow before the page serves any later
  request. -/
  | pageCommitNow (fn blk unit arg : Nat)
  /-- `PAGE_COMMIT_FRAME` (R46): A PAGE_COMMIT write with POINT FRAME arms a commit for the next frame boundary of the named
  root port. -/
  | pageCommitFrame (fn blk unit arg : Nat)
  /-- `PAGE_COMMIT_EPOCH` (R46): A PAGE_COMMIT write with POINT EPOCH arms a commit for the next device epoch boundary. -/
  | pageCommitEpoch (fn blk unit arg : Nat)
  /-- `PAGE_COMMIT_POSITION` (R46): A PAGE_COMMIT write with POINT POSITION arms a commit for the next firing of the named
  PCU. -/
  | pageCommitPosition (fn blk unit arg : Nat)
  /-- `PAGE_CTL_DISCARD` (R606): A PAGE_CTL write with DISCARD empties the shadow, or is dropped with SHADOW_LOCKED while a
  commit is pending. -/
  | pageCtlDiscard (fn blk unit value : Nat)
  /-- `PAGE_CTL_RELEASE` (R61): A PAGE_CTL write with RELEASE ends the writing function's snapshot latch on the page. -/
  | pageCtlRelease (fn blk unit value : Nat)
  /-- `PAGE_CTL_SNAP` (R60): A PAGE_CTL write with SNAP copies the page's RO, RWC and W1C values into the writing function's
  latch. -/
  | pageCtlSnap (fn blk unit value : Nat)
  /-- `SNAPSHOT_TIMEOUT` (R61): A snapshot latch is released 10 ms after its SNAP. -/
  | snapshotTimeout (fn : Nat)
  /-- `EPOCH_ADVANCE` (R57): A write of DEV_EPOCH_ADV.ADVANCE requests an epoch boundary, served no sooner than 10 µs after
  the last one. -/
  | epochAdvance (fn : Nat)
  /-- `EPOCH_TIMER_EXPIRY` (R70): The epoch timer reaches DEV_EPOCH_PERIOD × 10 µs after the last boundary and brings a
  boundary. -/
  | epochTimerExpiry
  /-- `EPOCH_BOUNDARY` (R57): DEV_EPOCH increments and every pending EPOCH commit applies together with the banked-table
  swaps and re-keys due there. -/
  | epochBoundary
  /-- `INSTANCE_REFUSED_ACCESS` (R460): A BAR access by an instance that its grant does not cover is refused: writes are
  dropped and a refusal is counted. -/
  | instanceRefusedAccess (fn off : Nat) (write : Bool)
  /-- `REFUSAL_DONE` (R460): A refused read, NOT_PERMITTED completion or refused stream operation ends 2.000 µs after it
  arrived. -/
  | refusalDone (fn : Nat)
  /-- `TS` (R100): A training block is received; counts of consecutive valid TS move the link between DETECT, PRESENT,
  CONFIG, FULL and RETRAIN. -/
  | ts (port lane : Nat) (ts : List (BitVec 8))
  /-- `EIE` (R125): An EIE block on a lane announces electrical idle; with 100 µs of idle on lane 0 a hub-role port resets
  its KPB state. -/
  | eie (port lane : Nat)
  /-- `EIX` (R78): An EIX block marks a lane leaving electrical idle ahead of its TS blocks. -/
  | eix (port lane : Nat)
  /-- `WSW` (R109): A width-switch block makes the receiver stripe from the next block over the new width. -/
  | wsw (port width : Nat)
  /-- `FEC_UNCORRECTABLE` (R81): An uncorrectable RS codeword pair errors every overlapping block and counts in
  KRP_CNT_FEC_UNC; three in a row start recovery. -/
  | fecUncorrectable (port lane run : Nat)
  /-- `BLOCK_LOCK_LOSS` (R105): Loss of block lock for 1 µs sends a link in FULL, SHED or STEPPED to RETRAIN. -/
  | blockLockLoss (port : Nat)
  /-- `PRESENT_TIMEOUT` (R100): A link in PRESENT with no valid TS for 1 ms returns to DETECT. -/
  | presentTimeout (port : Nat)
  /-- `CONFIG_TIMEOUT` (R103): A CONFIG attempt fails after 50 ms; after three failures the next lower configuration is
  tried, and DETECT follows when all fail. -/
  | configTimeout (port : Nat)
  /-- `RETRAIN_TIMEOUT` (R106): A recovery that fails within its bound sends the link to CONFIG from the configuration it
  had. -/
  | retrainTimeout (port : Nat)
  /-- `DAT` (R85): A DAT packet is received and handled by kind: bulk window check, periodic delivery or control
  acknowledgement. -/
  | dat (port : Nat) (pkt : Pkt)
  /-- `ACK` (R98): An ACK for a control DAT advances the control transfer to its next stage. -/
  | ack (port : Nat) (pkt : Pkt)
  /-- `NAK` (R91): A NAK ends the attempt without counting it; the endpoint is served again at its next turn. -/
  | nak (port : Nat) (pkt : Pkt)
  /-- `KPB_STL` (R91): An STL packet completes the transfer step as STALL and halts its queue. -/
  | kpbStl (port : Nat) (pkt : Pkt)
  /-- `BUR` (R95): A BUR from the device acknowledges bulk OUT packets up to NEXT and grants CREDIT. -/
  | bur (port : Nat) (pkt : Pkt)
  /-- `HUB` (R133): A HUB status packet reports port changes; Zhoem ACKs it and acts on connects and detaches. -/
  | hub (port : Nat) (pkt : Pkt)
  /-- `PING` (R88): A received LNK PING is answered with PONG within 1 µs, and in SLEEP on a listening port it is a KPB
  remote wake. -/
  | ping (port : Nat) (pkt : Pkt)
  /-- `PONG` (R165): A PONG ends the round-trip measurement that dates KPB position samples. -/
  | pong (port : Nat) (pkt : Pkt)
  /-- `SHED_ACK` (R109): SHED_ACK from the partner makes both sides send WSW and shed lanes to the new width. -/
  | shedAck (port : Nat) (pkt : Pkt)
  /-- `WIDEN_ACK` (R110): WIDEN_ACK with valid TS on the waking lanes lets Zhoem send WSW and stripe over the wider width. -/
  | widenAck (port : Nat) (pkt : Pkt)
  /-- `STEP_ACK` (R111): STEP_ACK lets Zhoem wait for a frame with at least 22 µs left to retrain at the new rate. -/
  | stepAck (port : Nat) (pkt : Pkt)
  /-- `REFUSE` (R114): A REFUSE of a shed or step request stops new requests of that kind for one DWELL. -/
  | refuse (port : Nat) (pkt : Pkt)
  /-- `SHED_REQ` (R114): In hub role Zhoem's upstream port receives SHED_REQ and answers SHED_ACK or REFUSE. -/
  | shedReq (port : Nat) (pkt : Pkt)
  /-- `WIDEN_REQ` (R114): In hub role Zhoem's upstream port receives WIDEN_REQ and must widen. -/
  | widenReq (port : Nat) (pkt : Pkt)
  /-- `STEP_REQ` (R114): In hub role Zhoem's upstream port receives STEP_REQ and answers STEP_ACK or REFUSE. -/
  | stepReq (port : Nat) (pkt : Pkt)
  /-- `HUB_ROLE_DOWNSTREAM_PACKET` (R130): A packet received on the upstream port of a hub-role quad is forwarded to enabled
  ports or served by the device function. -/
  | hubRoleDownstreamPacket (port : Nat) (pkt : Pkt)
  /-- `RESPONSE_TIMEOUT` (R90): RSP_TMO expires without a valid response; the token is repeated or the transfer ends
  PROTOCOL_ERROR or DEVICE_GONE. -/
  | responseTimeout (port : Nat)
  /-- `KRP_CMD_RETRAIN` (R105): A write of KRP_CMD.RETRAIN starts recovery at the same configuration. -/
  | krpCmdRetrain (fn port : Nat)
  /-- `KRP_CMD_WIDEN` (R110): A write of KRP_CMD.WIDEN makes a shed or stepped link widen or step up now. -/
  | krpCmdWiden (fn port : Nat)
  /-- `KPB_UTIL_WINDOW` (R108): A 100 µs utilisation window ends and KRP_UTIL is updated. -/
  | kpbUtilWindow (port corrected : Nat)
  /-- `KPB_SHED_START` (R109): Utilisation stayed below SHED_PCT for DWELL, so Zhoem sends SHED_REQ. -/
  | kpbShedStart (port : Nat)
  /-- `KPB_STEP_DOWN_START` (R111): An x1 link at 0b10 meets the step-down conditions for DWELL, so Zhoem sends STEP_REQ. -/
  | kpbStepDownStart (port : Nat)
  /-- `KPB_WIDEN_START` (R110): Utilisation reaches UP_PCT within 5 µs, so Zhoem sends WIDEN_REQ or a step-up STEP_REQ. -/
  | kpbWidenStart (port : Nat)
  /-- `STEP_WAIT_LIMIT` (R113): At the seedling-to-full transition the wait for a suitable frame ends after 100 ms and the
  next boundary is used. -/
  | stepWaitLimit (port : Nat)
  /-- `PING_TIMER` (R165): Once per second Zhoem sends LNK PING on a root port to measure its round trip. -/
  | pingTimer (port : Nat)
  /-- `PORT_RESET_IDLE_END` (R125): A port reset's 200 µs of electrical idle ends and the port enters DETECT. -/
  | portResetIdleEnd (port : Nat)
  /-- `ENUM_DEBOUNCE_END` (R136): A port still ready after DEBOUNCE is queued for enumeration. -/
  | enumDebounceEnd (port hub hport : Nat)
  /-- `ENUM_PORT_TURN` (R136): A queued port's turn comes and Zhoem resets it to begin enumeration. -/
  | enumPortTurn (port : Nat)
  /-- `ENUM_WAIT_END` (R126): An enumeration wait of 1 ms, 100 µs or PWR_ON_MS ends and the next control request is sent. -/
  | enumWaitEnd (port : Nat)
  /-- `ENUM_ATTEMPT_TIMEOUT` (R138): The 100 ms bound of an enumeration attempt expires; Zhoem retries from step 3 or
  records FAILED. -/
  | enumAttemptTimeout (port : Nat)
  /-- `HUB_STATUS_POLL` (R134): STAT_POLL expires and Zhoem polls a configured hub's status endpoint in the control turn. -/
  | hubStatusPoll (port hub : Nat)
  /-- `KHUB_TREE_BASE_WRITE` (R142): A write of KHUB_TREE_BASE starts a full rewrite of the tree's device table. -/
  | khubTreeBaseWrite (fn port value : Nat)
  /-- `KHUB_TREE_ACK_WRITE` (R141): A write of KHUB_TREE_ACK frees GONE entries whose SEQ it covers. -/
  | khubTreeAckWrite (fn port value : Nat)
  /-- `ENUM_EN_WRITE` (R147): A write of ENUM_EN starts enumeration or stops it at the end of the current step. -/
  | enumEnWrite (fn port : Nat) (on : Bool)
  /-- `RESCAN` (R136): A write of KHUB_TREE_CTL.RESCAN detaches attached devices and treats every port of the tree as newly
  ready. -/
  | rescan (fn port : Nat)
  /-- `PORT_POWER_ON` (R149): PWR_ON = 1 sets PSTATE RAMP and waits for the stagger limit. -/
  | portPowerOn (fn port : Nat)
  /-- `PORT_POWER_OFF` (R150): PWR_ON = 0 sends EIE, detaches the port's devices, writes OPERATION 0x00 and sets PSTATE OFF. -/
  | portPowerOff (fn port : Nat)
  /-- `POWER_STAGGER_ALLOWS` (R149): The stagger allows the port, so Zhoem writes OPERATION 0x80 to its switch. -/
  | powerStaggerAllows (port : Nat)
  /-- `POWER_GOOD` (R149): STATUS_WORD shows power good and PSTATE becomes ON. -/
  | powerGood (port : Nat)
  /-- `POWER_GOOD_TIMEOUT` (R149): PG_TMO expires without power good; the switch is turned off and PSTATE becomes FAULT. -/
  | powerGoodTimeout (port : Nat)
  /-- `PMB_ALERT` (R151): PMB_ALERT_N asserts; Zhoem reads the Alert Response Address and trips overcurrent ports to FAULT. -/
  | pmbAlert (answers : List (Nat × Nat)) (still : Bool)
  /-- `TELEMETRY_POLL` (R152): POLL_MS expires and Zhoem reads STATUS_WORD and READ_PIN of each fitted switch, feeding
  energy accounting. -/
  | telemetryPoll (port status pin : Nat) (ok : Bool)
  /-- `ENCODER_EDGE` (R611): An accepted A or B edge changes the count by ±1 and updates direction, velocity, stuck and
  index-missing checks. -/
  | encoderEdge (ref chan : Nat)
  /-- `GLITCH` (R158): A level change that reverts before FILT_NS is discarded and counted; eight in 1 µs set OVERSPEED. -/
  | glitch (ref chan : Nat)
  /-- `INDEX_EDGE` (R162): An accepted index edge writes PREF_IDX_ERR and acts by INDEX_MODE, possibly homing or correcting
  the count. -/
  | indexEdge (ref : Nat) (level : Bool)
  /-- `STANDSTILL` (R173): STILL_TMO expires with no edge; STANDSTILL sets and the fraction and velocity freeze. -/
  | standstill (ref : Nat)
  /-- `SRC_LOST` (R166): LOST_FRAMES frames pass with no usable KPB sample; SRC_LOST and UNRELIABLE set. -/
  | srcLost (ref : Nat)
  /-- `PREF_SET` (R169): A write of PREF_SET jumps the position to the written value and clears UNRELIABLE. -/
  | prefSet (fn ref value : Nat)
  /-- `PREF_HOST_MOVE` (R167): A write of PREF_HOST_MOVE sets the position as motion and fires units it crosses. -/
  | prefHostMove (fn ref value : Nat)
  /-- `PREF_HOST_VEL` (R167): A write of PREF_HOST_VEL stores the rate that takes effect at the next move. -/
  | prefHostVel (fn ref value : Nat)
  /-- `PCU_FIRE` (R178): A compare unit's reference or device time reaches its target; it fires, advances its target and
  applies POSITION commits. -/
  | pcuFire (unit : Nat)
  /-- `PCU_ARM_ARM` (R191): A PCU_ARM write with ARM arms the unit with next target TGT and loads its count. -/
  | pcuArmArm (fn unit : Nat) (disarm : Bool)
  /-- `PCU_ARM_DISARM` (R191): A PCU_ARM write with DISARM disarms the unit now. -/
  | pcuArmDisarm (fn unit : Nat)
  /-- `PIN_ACTION` (R182): A firing's pin action takes effect at the crossing plus 64 ns plus PCU_DELAY: PULSE, TOGGLE, SET
  or CLEAR. -/
  | pinAction (pin : Nat)
  /-- `PULSE_END` (R182): A trigger pulse reaches PULSE_NS and ends, leaving the pin at its static level. -/
  | pulseEnd (pin : Nat)
  /-- `PPS_IN` (R186): A PPS_IN edge is captured into TIME_PPS_IN and drives the REF servo's step, slew and lock. -/
  | ppsIn (ref10 : Bool)
  /-- `REF10M_LOSS` (R186): REF10M_IN is lost for 3 µs; HOLDOVER sets and LOCKED clears. -/
  | ref10mLoss
  /-- `PPS_MISSING` (R186): PPS_IN is missing for 1.1 s; HOLDOVER sets and LOCKED clears. -/
  | ppsMissing
  /-- `TIME_CMD_SET` (R187): A TIME_CMD write with SET loads device time from TIME_SET as a jump, or is refused. -/
  | timeCmdSet (fn : Nat) (step : Bool)
  /-- `TIME_CMD_STEP` (R187): A TIME_CMD write with STEP adds TIME_STEP to device time as a jump, or is refused. -/
  | timeCmdStep (fn : Nat)
  /-- `TIME_RATE_WRITE` (R187): A write of TIME_RATE changes the SOFT-mode rate correction on arrival. -/
  | timeRateWrite (fn value : Nat)
  /-- `PPS_OUT_SECOND` (R189): Running device time reaches a whole second and PPS_OUT goes active for PPS_OUT_WIDTH. -/
  | ppsOutSecond
  /-- `PPS_OUT_PULSE_END` (R189): The PPS_OUT pulse reaches its width and ends. -/
  | ppsOutPulseEnd
  /-- `POSITION_BOUNDARY` (R196): The clocking reference crosses a multiple of KSCH_PITCH in an allowed direction, making a
  frame due. -/
  | positionBoundary (port : Nat)
  /-- `TIME_BOUNDARY` (R200): FLEN.MAX of elapsed time passes on a time-clocked port, making a frame due. -/
  | timeBoundary (port : Nat)
  /-- `FILLER_BOUNDARY` (R201): FLEN.MAX passes on a position-clocked port with no other boundary, making a filler frame
  due. -/
  | fillerBoundary (port : Nat)
  /-- `FRM_DEPART` (R203): The held boundary's conditions hold, the FRM leaves, FRAME commits apply, TRGs and periodic
  services follow, and overload trimming runs. -/
  | frmDepart (port : Nat)
  /-- `SERVICE_END` (R218): A periodic service ends; its completion is written, a task may be created and the next service's
  token leaves. -/
  | serviceEnd (port : Nat)
  /-- `SERVICE_RESPONSE_TIMEOUT` (R218): No response begins within one block time plus TURN after a periodic IN token; the
  service ends SHORT. -/
  | serviceResponseTimeout (port : Nat)
  /-- `CONTROL_TURN_TIMER` (R194): With the sequencer disabled, a new control turn starts every 125 µs. -/
  | controlTurnTimer (port : Nat)
  /-- `KSCH_CMD_ADMIT` (R213): A write of KSCH_CMD.ADMIT reads and checks the candidate table and its ring headers. -/
  | kschCmdAdmit (fn port : Nat)
  /-- `ADMISSION_DONE` (R213): Admission ends, writing RESULT, FAIL_ENTRY and KSCH_ADM_LOAD and clearing RUNNING. -/
  | admissionDone (port : Nat)
  /-- `CAND_VALID` (R213): The service lists of an admitted candidate exist for the next two frames and CAND_VALID sets. -/
  | candValid (port : Nat)
  /-- `KSCH_CMD_DROP_CAND` (R214): A write of KSCH_CMD.DROP_CAND clears CAND_VALID. -/
  | kschCmdDropCand (fn port : Nat)
  /-- `DOORBELL_TAIL` (R248): A TAIL doorbell advances the queue's TAIL, is ignored as stale, or is dropped with DB_ERR. -/
  | doorbellTail (fn slot value size : Nat)
  /-- `DOORBELL_INVALIDATE` (R252): An INVALIDATE doorbell discards unaccepted copies from FROM and stops fetching there
  until the next TAIL doorbell. -/
  | doorbellInvalidate (fn slot value size : Nat)
  /-- `PUSH_WINDOW_WRITE` (R250): A write into the push window records descriptor words for the next TAIL doorbell. -/
  | pushWindowWrite (fn slot offset : Nat) (bytes : List (BitVec 8))
  /-- `DESCRIPTOR_FETCH` (R252): A read of an announced descriptor slot completes and its copy is held for acceptance. -/
  | descriptorFetch (queue index : Nat)
  /-- `DESCRIPTOR_ACCEPT` (R241): When enable, fence and completion-slot conditions hold, Zhoem takes a descriptor, reserves
  its slot and advances HEAD. -/
  | descriptorAccept (queue : Nat)
  /-- `WQ_ENABLE` (R240): ENABLE set from 0 to 1 on WQ_CFG resets HEAD, TAIL and WQ_HSEQ and applies SIZE_LOG2 and CQ. -/
  | wqEnable (fn queue value : Nat)
  /-- `WQ_DISABLE` (R265): ENABLE = 0 on WQ_CFG squashes unstarted accepted descriptors and sets IDLE after started ones
  end. -/
  | wqDisable (fn queue value : Nat)
  /-- `WQ_CMD_RESUME` (R265): WQ_CMD.RESUME clears HALTED and accepted descriptors continue. -/
  | wqCmdResume (fn queue : Nat)
  /-- `WQ_CMD_ABORT` (R265): WQ_CMD.ABORT completes every descriptor from HEAD to TAIL as SQUASHED and clears HALTED. -/
  | wqCmdAbort (fn queue : Nat)
  /-- `WQ_RSY_CTL_QUIESCE` (R267): QUIESCE stops acceptance on every queue of the instance. -/
  | wqRsyCtlQuiesce (fn inst : Nat)
  /-- `WQ_RSY_CTL_RESUME` (R267): RESUME clears QUIESCED on every queue of the instance. -/
  | wqRsyCtlResume (fn inst : Nat)
  /-- `WQ_RSY_CTL_SQUASH` (R267): SQUASH completes every unfinished accepted descriptor of the instance as SQUASHED within 2
  ms. -/
  | wqRsyCtlSquash (fn inst : Nat)
  /-- `CQ_ENABLE` (R257): CQ_CFG.ENABLE set from 0 to 1 sets CQ_HEAD and CQ_TAIL to 0 and restarts QSEQ at 1. -/
  | cqEnable (fn ring value : Nat)
  /-- `CQ_HEAD_WRITE` (R261): A write of CQ_HEAD frees slots, releasing held completions, or is dropped with HEAD_ERR. -/
  | cqHeadWrite (fn ring value : Nat)
  /-- `CQ_ARM` (R262): A write of CQ_ARM.ARM arms the ring's event and applies the coalescing test at once. -/
  | cqArm (fn ring : Nat)
  /-- `COALESCE_TIMEOUT` (R262): The oldest pending entry reaches COAL_US and the armed ring raises its event. -/
  | coalesceTimeout (ring : Nat)
  /-- `DMA_ENABLE` (R277): DMA_CTL.ENABLE set from 0 to 1 starts the channel with NEXT at 0. -/
  | dmaEnable (fn chan ctl : Nat)
  /-- `DMA_DISABLE` (R293): DMA_CTL.ENABLE = 0 stops the channel at the boundary and squashes parked and waiting stream
  descriptors. -/
  | dmaDisable (fn chan ctl : Nat)
  /-- `DMA_CMD_KICK` (R279): KICK rereads the ring slot of a channel in WAIT_OWN and re-evaluates pacing. -/
  | dmaCmdKick (fn chan : Nat)
  /-- `DMA_CMD_STOP` (R289): STOP sets STOP_PENDING; the channel enters STOPPED at the next descriptor boundary. -/
  | dmaCmdStop (fn chan : Nat)
  /-- `DMA_CMD_GO` (R289): GO clears STOP_PENDING and a stopped channel continues. -/
  | dmaCmdGo (fn chan : Nat)
  /-- `DMA_CMD_DISCARD_PARKED` (R292): DISCARD_PARKED ends a parked descriptor as XLATE_FAULT with UNITS at the cursor. -/
  | dmaCmdDiscardParked (fn chan : Nat)
  /-- `DMA_POLL` (R279): POLL_US expires and the channel rereads its ring slot or its KIND 1 pacing level. -/
  | dmaPoll (chan : Nat)
  /-- `DMA_RING_READ` (R279): A read of ring slot NEXT completes: OWN 1 takes the descriptor, OWN 0 enters WAIT_OWN. -/
  | dmaRingRead (chan : Nat)
  /-- `DMA_DESCRIPTOR_END` (R273): A DMA descriptor ends with its writes visible; its outcome is reported and the next may
  start. -/
  | dmaDescriptorEnd (chan : Nat)
  /-- `TX_FRAME_FETCHED` (R303): A transmit descriptor's whole frame is fetched into the stook buffer and becomes ready to
  send. -/
  | txFrameFetched (queue : Nat)
  /-- `TX_FRAME_START` (R307): At a frame start point the MAC picks the highest eligible class, charges its bucket and sends
  its next frame. -/
  | txFrameStart (port : Nat)
  /-- `TX_FRAME_END` (R309): A frame's last byte leaves; the timestamp record and completion are written. -/
  | txFrameEnd (port : Nat)
  /-- `RX_FRAME` (R302): A frame is received whole, checked for runt, oversize and FCS, and passed through the receive
  stages. -/
  | rxFrame (port : Nat) (bytes : List (BitVec 8)) (fcsOk : Bool) (age : Nat)
  /-- `EMAC_LINK_UP` (R299): The PCS gains alignment and FEC lock on every lane, with negotiation done, and the port's link
  is up. -/
  | emacLinkUp (port : Nat) (remote : Bool)
  /-- `EMAC_LINK_DOWN` (R299): The port's link goes down, counting EMAC_CNT_LINK and setting LINK_DOWN. -/
  | emacLinkDown (port : Nat) (local_ remote receiving : Bool)
  /-- `EMAC_CMD_RETRAIN` (R299): EMAC_CMD.RETRAIN takes the link down and brings it up again. -/
  | emacCmdRetrain (fn port : Nat)
  /-- `EMAC_CMD_WIDEN` (R323): EMAC_CMD.WIDEN makes a shed port widen one step. -/
  | emacCmdWiden (fn port : Nat)
  /-- `HELLO` (R321): A received LSX HELLO sets PARTNER_ZHOEM and decides the leader. -/
  | hello (port addr arg nonce : Nat)
  /-- `HELLO_TIMER` (R321): Once per second a port of two or more lanes sends HELLO. -/
  | helloTimer (port : Nat)
  /-- `HELLO_ABSENCE` (R321): No HELLO for 3 s clears PARTNER_ZHOEM. -/
  | helloAbsence (port : Nat)
  /-- `LSX_SHED_REQ` (R322): A received LSX SHED_REQ is answered SHED_ACK or REFUSE by the follower. -/
  | lsxShedReq (port arg nonce : Nat)
  /-- `LSX_SHED_ACK` (R322): A received LSX SHED_ACK makes each side end its frame and switch width at the next alignment
  marker. -/
  | lsxShedAck (port arg nonce : Nat)
  /-- `LSX_WIDEN_REQ` (R323): A received LSX WIDEN_REQ makes the leader wake its lanes and widen. -/
  | lsxWidenReq (port arg nonce : Nat)
  /-- `LSX_WIDEN_ACK` (R322): A received LSX WIDEN_ACK, in both directions, starts the width switch. -/
  | lsxWidenAck (port arg nonce : Nat)
  /-- `LSX_REFUSE` (R322): A received LSX REFUSE stops new SHED_REQ for one DWELL. -/
  | lsxRefuse (port arg nonce : Nat)
  /-- `LSX_SHED_START` (R322): The leader finds utilisation below SHED_PCT for DWELL and sends SHED_REQ. -/
  | lsxShedStart (port : Nat)
  /-- `LSX_WIDEN_START` (R323): A widen condition holds and the side sends WIDEN_REQ or widens. -/
  | lsxWidenStart (port : Nat)
  /-- `LSX_ANSWER_TIMEOUT` (R322): No answer to SHED_REQ in 10 µs abandons the shed. -/
  | lsxAnswerTimeout (port : Nat)
  /-- `LSX_SWITCH` (R322): At the next alignment marker the PCS switches to the new width and shed lanes go idle. -/
  | lsxSwitch (port : Nat)
  /-- `LSX_REALIGNED` (R324): Receivers realign at the new width and frames resume. -/
  | lsxRealigned (port : Nat)
  /-- `LSX_REALIGN_FAIL` (R326): Realignment misses its bound; the port retrains at full width and sets LSX_FAIL. -/
  | lsxRealignFail (port : Nat)
  /-- `PAUSE_FRAME` (R344): A received PAUSE frame pauses every traffic class for its quanta. -/
  | pauseFrame (port quanta : Nat)
  /-- `PFC_FRAME` (R344): A received PFC frame pauses each enabled priority's class for its time. -/
  | pfcFrame (port vec : Nat) (times : List Nat)
  /-- `PAUSE_TIMER_EXPIRY` (R345): A class's pause timer expires and its frames may start again. -/
  | pauseTimerExpiry (port cls : Nat)
  /-- `PAUSE_RESEND` (R347): QUANTA / 2 passes while a pause is asserted and the pause frame is sent again. -/
  | pauseResend (port : Nat)
  /-- `ESTR_LOAD_CMD_CLEAR` (R338): CLEAR empties the inactive steering bank and draws a new placement key. -/
  | estrLoadCmdClear (fn : Nat)
  /-- `ESTR_LOAD_CMD_COPY` (R338): COPY fills the inactive bank with the active bank's entries under its own key. -/
  | estrLoadCmdCopy (fn : Nat)
  /-- `ESTR_LOAD_CMD_LOAD` (R338): LOAD applies ESTR_LOAD_LEN records to the inactive bank. -/
  | estrLoadCmdLoad (fn : Nat)
  /-- `STEERING_COMMAND_DONE` (R339): A steering command ends with RESULT OK, PROTOCOL_ERROR or XLATE_FAULT. -/
  | steeringCommandDone
  /-- `ESTR_CMD_REKEY` (R342): ESTR_CMD.REKEY re-keys the MAC at the next epoch boundary, which Zhoem requests. -/
  | estrCmdRekey (fn port : Nat)
  /-- `IMBALANCE_WINDOW` (R342): A 100 ms spreading window ends; persistent imbalance requests an epoch re-key with backoff. -/
  | imbalanceWindow (port : Nat)
  /-- `STEERING_DRAIN_END` (R343): The steering drain after a re-key or swap ends, at the latest 1 ms after the boundary,
  releasing moved frames. -/
  | steeringDrainEnd (port : Nat)
  /-- `EFLT_WAKE_CMD_LOAD` (R354): LOAD reads 32 wake pattern records into the port's wake store. -/
  | efltWakeCmdLoad (fn port : Nat)
  /-- `WAKE_LOAD_DONE` (R354): The wake store load ends with LOAD_RESULT OK or XLATE_FAULT. -/
  | wakeLoadDone (port : Nat)
  /-- `MSEC_KEY_CMD_LOAD` (R359): LOAD copies the staged key into an association, or is refused when it is IN_USE, and
  zeroes the staging registers. -/
  | msecKeyCmdLoad (fn port value : Nat)
  /-- `TASK_DISPATCH` (R371): A tiller place becomes free and the dispatcher chooses the next ready task. -/
  | taskDispatch (sheaf : Nat)
  /-- `COMMIT_INSTANT` (R380): A task's stream operations have ended, the commit is recorded and its held effects are
  released in issue order. -/
  | commitInstant (sheaf seq : Nat)
  /-- `TASK_DEADLINE_MISS` (R370): A task's deadline passes before it commits and TSK_CNT_DL_MISS increments. -/
  | taskDeadlineMiss (sheaf : Nat)
  /-- `TILLER_FAILURE` (R381): A tiller fails and its task replays from its last checkpoint on another place. -/
  | tillerFailure (sheaf seq : Nat)
  /-- `SHF_LOAD_CMD_LOAD` (R386): LOAD reads a program image into a slot for an instance. -/
  | shfLoadCmdLoad (fn sheaf inst slot len : Nat)
  /-- `PROGRAM_LOAD_DONE` (R386): A program load ends with RESULT OK, NOT_PERMITTED, BUSY or XLATE_FAULT. -/
  | programLoadDone (sheaf : Nat)
  /-- `ADD` (R394): ALU ADD: rd = ra + rb modulo 2^64. -/
  | add (sheaf seq : Nat)
  /-- `SUB` (R394): ALU SUB: rd = ra − rb. -/
  | sub (sheaf seq : Nat)
  /-- `AND` (R394): ALU AND of ra and rb. -/
  | and (sheaf seq : Nat)
  /-- `OR` (R394): ALU OR of ra and rb. -/
  | or (sheaf seq : Nat)
  /-- `XOR` (R394): ALU XOR of ra and rb. -/
  | xor (sheaf seq : Nat)
  /-- `NOR` (R394): ALU NOR of ra and rb. -/
  | nor (sheaf seq : Nat)
  /-- `SLT` (R394): ALU SLT: 1 if ra < rb signed. -/
  | slt (sheaf seq : Nat)
  /-- `SLTU` (R394): ALU SLTU: 1 if ra < rb unsigned. -/
  | sltu (sheaf seq : Nat)
  /-- `SLL` (R394): ALU shift left logical by rb[5:0]. -/
  | sll (sheaf seq : Nat)
  /-- `SRL` (R394): ALU shift right logical by rb[5:0]. -/
  | srl (sheaf seq : Nat)
  /-- `SRA` (R394): ALU shift right arithmetic by rb[5:0]. -/
  | sra (sheaf seq : Nat)
  /-- `ROR` (R394): ALU rotate right by rb[5:0]. -/
  | ror (sheaf seq : Nat)
  /-- `MUL` (R394): ALU MUL: low 64 bits of the product. -/
  | mul (sheaf seq : Nat)
  /-- `MULHU` (R394): ALU MULHU: high 64 bits of the unsigned product. -/
  | mulhu (sheaf seq : Nat)
  /-- `MIN` (R394): ALU signed minimum. -/
  | min (sheaf seq : Nat)
  /-- `MAX` (R394): ALU signed maximum. -/
  | max (sheaf seq : Nat)
  /-- `MINU` (R394): ALU unsigned minimum. -/
  | minu (sheaf seq : Nat)
  /-- `MAXU` (R394): ALU unsigned maximum. -/
  | maxu (sheaf seq : Nat)
  /-- `CLZ` (R394): ALU count of leading zeros of ra. -/
  | clz (sheaf seq : Nat)
  /-- `POPC` (R394): ALU population count of ra. -/
  | popc (sheaf seq : Nat)
  /-- `BSWAP` (R394): ALU byte swap of ra. -/
  | bswap (sheaf seq : Nat)
  /-- `ADDI` (R393): rd = ra + sign-extended IMM. -/
  | addi (sheaf seq : Nat)
  /-- `ANDI` (R393): rd = ra AND zero-extended IMM. -/
  | andi (sheaf seq : Nat)
  /-- `ORI` (R393): rd = ra OR zero-extended IMM. -/
  | ori (sheaf seq : Nat)
  /-- `XORI` (R393): rd = ra XOR zero-extended IMM. -/
  | xori (sheaf seq : Nat)
  /-- `SLTI` (R393): rd = 1 if ra < IMM signed. -/
  | slti (sheaf seq : Nat)
  /-- `SLTIU` (R393): rd = 1 if ra < sign-extended IMM unsigned. -/
  | sltiu (sheaf seq : Nat)
  /-- `LUI` (R393): rd = IMM << 16. -/
  | lui (sheaf seq : Nat)
  /-- `SHI` (R393): rd = (ra << 16) OR zero-extended IMM. -/
  | shi (sheaf seq : Nat)
  /-- `SHFI_SLL` (R393): SHFI with IMM[7:6] 0 shifts ra left logical by IMM[5:0]. -/
  | shfiSll (sheaf seq : Nat)
  /-- `SHFI_SRL` (R393): SHFI with IMM[7:6] 1 shifts ra right logical. -/
  | shfiSrl (sheaf seq : Nat)
  /-- `SHFI_SRA` (R393): SHFI with IMM[7:6] 2 shifts ra right arithmetic. -/
  | shfiSra (sheaf seq : Nat)
  /-- `SHFI_ROR` (R393): SHFI with IMM[7:6] 3 rotates ra right. -/
  | shfiRor (sheaf seq : Nat)
  /-- `LDL` (R395): Local load from the task's window. -/
  | ldl (sheaf seq : Nat)
  /-- `STL` (R395): Local store to the task's window. -/
  | stl (sheaf seq : Nat)
  /-- `LDX` (R396): External load through translation from the instance's address space. -/
  | ldx (sheaf seq : Nat)
  /-- `STX` (R397): Held external store of a register. -/
  | stx (sheaf seq : Nat)
  /-- `STXW` (R397): Held external store of 16 to 64 window bytes. -/
  | stxw (sheaf seq : Nat)
  /-- `BEQ` (R399): Branch with delay slot when ra = rb. -/
  | beq (sheaf seq : Nat)
  /-- `BNE` (R399): Branch with delay slot when ra ≠ rb. -/
  | bne (sheaf seq : Nat)
  /-- `BLT` (R399): Branch with delay slot when ra < rb signed. -/
  | blt (sheaf seq : Nat)
  /-- `BGE` (R399): Branch with delay slot when ra ≥ rb signed. -/
  | bge (sheaf seq : Nat)
  /-- `BLTU` (R399): Branch with delay slot when ra < rb unsigned. -/
  | bltu (sheaf seq : Nat)
  /-- `BGEU` (R399): Branch with delay slot when ra ≥ rb unsigned. -/
  | bgeu (sheaf seq : Nat)
  /-- `J` (R399): Jump with delay slot. -/
  | j (sheaf seq : Nat)
  /-- `JAL` (R399): Jump with delay slot, writing the return offset into g31. -/
  | jal (sheaf seq : Nat)
  /-- `JR` (R399): Jump to ra with delay slot. -/
  | jr (sheaf seq : Nat)
  /-- `JALR` (R399): Jump to ra with delay slot, writing offset + 8 into rd. -/
  | jalr (sheaf seq : Nat)
  /-- `MFS` (R391): Read a special register into rd. -/
  | mfs (sheaf seq : Nat)
  /-- `MTS` (R391): Write ra into a writable special register. -/
  | mts (sheaf seq : Nat)
  /-- `ERET` (R418): Return from the exception handler to epc in mode PMODE and clear EXC. -/
  | eret (sheaf seq : Nat)
  /-- `END` (R398): Commit and end the task, or return a hook's verdict to the base program. -/
  | endTask (sheaf seq : Nat)
  /-- `CMT` (R398): Commit the task's held effects and checkpoint, then continue. -/
  | cmt (sheaf seq : Nat)
  /-- `TRAP` (R413): Raise the TRAP exception with the rb code. -/
  | trap (sheaf seq : Nat)
  /-- `LOOP` (R401): Open a hardware loop level with count ra and body length IMM. -/
  | loop (sheaf seq : Nat)
  /-- `MODE` (R405): Change between CTRL and STRM mode after a two-instruction shadow. -/
  | mode (sheaf seq : Nat)
  /-- `DBELL` (R397): Held doorbell to a local queue of the task's instance. -/
  | dbell (sheaf seq : Nat)
  /-- `PGW` (R397): Held register write to the instance's BAR0. -/
  | pgw (sheaf seq : Nat)
  /-- `SDMA` (R408): Hand a 64-byte window descriptor to a DMA channel as a STREAM descriptor. -/
  | sdma (sheaf seq : Nat)
  /-- `SGET` (R408): Stream read of up to 2,048 bytes into the window. -/
  | sget (sheaf seq : Nat)
  /-- `SPUT` (R408): Stream write of up to 2,048 window bytes to an address. -/
  | sput (sheaf seq : Nat)
  /-- `SWAIT` (R410): Wait for a tag's stream operations and return the first non-OK status. -/
  | swait (sheaf seq : Nat)
  /-- `STREAM_OP_END` (R409): An SGET or SPUT ends and its non-OK status is kept for its tag. -/
  | streamOpEnd (sheaf seq tag : Nat)
  /-- `WALK_COMPLETE` (R613): A table walk or cache lookup completes with a translation or the first applicable fault
  reason. -/
  | walkComplete (die inst vaddr : Nat) (write : Bool) (hostErr : Nat)
  /-- `ATS_COMPLETION` (R427): An ATS Translation completion is received; a grant is cached and used, a denial faults or
  sends a Page Request. -/
  | atsCompletion (die inst page out : Nat) (rd wr write : Bool)
  /-- `ATS_INVALIDATE_REQUEST` (R427): An ATS Invalidate Request removes every covered result. -/
  | atsInvalidateRequest (inst page count tag : Nat)
  /-- `ATS_INVALIDATE_COMPLETION` (R427): Once accesses that used removed results are complete, Zhoem sends the Invalidate
  Completion. -/
  | atsInvalidateCompletion (inst tag : Nat)
  /-- `PRI_RESPONSE` (R428): A Page Request response arrives; Success retries translation, failures fault as PRI_FAILED. -/
  | priResponse (inst group code : Nat)
  /-- `PRI_TIMEOUT` (R428): No Page Request response within PRI_TMO; the work faults as PRI_FAILED. -/
  | priTimeout (inst fid : Nat)
  /-- `DLOG_INV` (R432): A write of DLOG_INV invalidates cached translations of the pages named and increments INV_REQ. -/
  | dlogInv (fn inst value : Nat)
  /-- `INVALIDATION_DONE` (R432): No cache holds a covered entry and covered accesses have completed; INV_DONE advances. -/
  | invalidationDone (inst : Nat)
  /-- `DLOG_RESUME_RETRY` (R437): RETRY of a FID translates the waiting work again. -/
  | dlogResumeRetry (fn inst fid : Nat)
  /-- `DLOG_RESUME_ABORT` (R437): ABORT of a FID ends the waiting work as its fault kind states. -/
  | dlogResumeAbort (fn inst fid : Nat)
  /-- `DLOG_RESUME_RETRY_ALL` (R437): RETRY_ALL retries every waiting fault of the instance whose record has been written. -/
  | dlogResumeRetryAll (fn inst : Nat)
  /-- `DLOG_FQ_HEAD_WRITE` (R436): A write of DLOG_FQ_HEAD frees fault-queue slots for held records, or is dropped with
  FQ_ERR. -/
  | dlogFqHeadWrite (fn inst value : Nat)
  /-- `DLOG_SPILL_TAIL_WRITE` (R444): A write of DLOG_SPILL_TAIL releases spill units, or is dropped with SPILL_ERR. -/
  | dlogSpillTailWrite (fn inst value : Nat)
  /-- `DIRTY_LOG_FLUSH_DONE` (R449): After a bitmap swap the pending bits are written and DLOG_LOG_FLUSH.EPOCH is set. -/
  | dirtyLogFlushDone (inst : Nat)
  /-- `INST_CMD_START` (R452): START moves an instance from READY to RUNNING. -/
  | instCmdStart (fn inst : Nat)
  /-- `INST_CMD_RESET` (R463): RESET starts the reset of an instance. -/
  | instCmdReset (fn inst : Nat)
  /-- `INST_CMD_FREEZE` (R471): FREEZE stops acceptance, suspends periodic entries and stops the instance's channels. -/
  | instCmdFreeze (fn inst : Nat)
  /-- `INST_CMD_THAW` (R472): THAW resumes acceptance, channels and held frames. -/
  | instCmdThaw (fn inst : Nat)
  /-- `INST_CMD_SAVE` (R473): SAVE writes a frozen instance's image to INST_IMG_ADDR. -/
  | instCmdSave (fn inst : Nat)
  /-- `INST_CMD_RESTORE` (R473): RESTORE reads an image into an instance in READY. -/
  | instCmdRestore (fn inst : Nat)
  /-- `INST_CMD_DESTROY` (R452): DESTROY resets the instance, releases its grant and returns it to FREE. -/
  | instCmdDestroy (fn inst : Nat)
  /-- `FLR` (R463): A Function Level Reset of an instance's function starts its reset. -/
  | flr (inst : Nat)
  /-- `VF_ENABLE_CLEAR` (R463): The host clears VF Enable and the instance is reset, ending in READY. -/
  | vfEnableClear (inst : Nat)
  /-- `BUS_MASTER_ENABLE_CHANGE` (R453): Bus Master Enable of a function changes, stopping or releasing its host requests. -/
  | busMasterEnableChange (inst : Nat) (on : Bool)
  /-- `INST_RESET_CUT` (R463): 2 ms after the reset trigger, work still running is cut and completes SQUASHED. -/
  | instResetCut (inst : Nat)
  /-- `INST_RESET_DRAINED` (R463): Nothing of the instance runs; writes are settled, caches invalidated, owned pages reset
  and RESET_DONE sent. -/
  | instResetDrained (inst : Nat)
  /-- `FREEZE_DRAINED` (R471): A freezing instance drains within 2 ms and becomes FROZEN with RESULT OK. -/
  | freezeDrained (inst : Nat)
  /-- `FREEZE_TIMEOUT` (R471): A freezing instance does not drain in 2 ms; it stays RUNNING with RESULT BUSY. -/
  | freezeTimeout (inst : Nat)
  /-- `SAVE_DONE` (R473): The SAVE image write completes. -/
  | saveDone (inst : Nat)
  /-- `RESTORE_DONE` (R473): RESTORE completes into FROZEN, or ends PROTOCOL_ERROR leaving the instance READY. -/
  | restoreDone (inst : Nat)
  /-- `MBX_CMD_SEND` (R467): SEND copies the staged message into the next slot, stamps SEQ and raises the receiver's mailbox
  event. -/
  | mbxCmdSend (fn inst : Nat)
  /-- `MBX_CMD_TAKE` (R467): TAKE frees the head slot and shows the next message. -/
  | mbxCmdTake (fn inst : Nat)
  /-- `MBX_TIMEOUT` (R470): The oldest message stays untaken for TMO_MS; TIMEOUT sets and the sender's mailbox event rises. -/
  | mbxTimeout (inst : Nat) (toMgr : Bool)
  /-- `SOURCE_SIGNAL` (R479): An interrupt origin's level or pulse changes and sets PEND by SENSE, with storm accounting. -/
  | sourceSignal (kind unit : Nat)
  /-- `IRQ_CLAIM` (R484): A read of IRQ_CLAIM takes the highest eligible source, sets INSVC and starts its group's hold-off. -/
  | irqClaim (fn target size : Nat)
  /-- `IRQ_COMPLETE` (R485): A write of IRQ_COMPLETE clears the source's INSVC, or sets COMPLETE_ERR. -/
  | irqComplete (fn target source : Nat)
  /-- `HOLDOFF_EXPIRY` (R486): A group's hold-off timer ends and its sources become eligible again. -/
  | holdoffExpiry (group : Nat)
  /-- `STORM_WINDOW_END` (R487): A STORM_WIN window ends and assertion counts start again. -/
  | stormWindowEnd (page : Nat)
  /-- `IRQ_PEND_WRITE` (R488): A write of IRQ_PEND sets or clears pending bits; a 1 is the software trigger. -/
  | irqPendWrite (fn page word value : Nat)
  /-- `IRQ_EN_WRITE` (R489): A write of IRQ_EN enables or disables sources, limited by INST_IRQ.SOURCES. -/
  | irqEnWrite (fn page word value : Nat)
  /-- `IRQ_SRC_CFG_WRITE` (R478): A write of IRQ_SRC_CFG binds an origin, or is dropped with BIND_BAD. -/
  | irqSrcCfgWrite (fn source part value : Nat)
  /-- `FAULT_DETECT` (R494): A check fails in a unit; it is fenced and the fault is judged transient or permanent. -/
  | faultDetect (kind dom unit place : Nat) (transient : Bool)
  /-- `DUAL_COPY_MISMATCH` (R495): Two copies of a fixed-function block disagree; both reload the last checkpoint and
  repeat. -/
  | dualCopyMismatch (blk unit : Nat)
  /-- `TAKEOVER_RESUME` (R502): The reserve unit is ready and work resumes from the last checked point; the failed unit is
  marked. -/
  | takeoverResume (kind unit : Nat)
  /-- `RETIRE` (R498): A nominated unit reaches a quiet point and is retired to a reserve unit. -/
  | retire (kind unit : Nat)
  /-- `AGEING_SAMPLE` (R497): Every 10 s the ageing oscillators are sampled and slow units nominated. -/
  | ageingSample (slow : List (Nat × Nat × Nat × Nat))
  /-- `PHASE_CURRENT_SAMPLE` (R497): Every 1 ms IVR phase currents are sampled and unbalanced phases nominated. -/
  | phaseCurrentSample (outside : List (Nat × Nat))
  /-- `WINNOW_TIMER` (R499): WINNOW_H hours pass and reserve units are winnowed again. -/
  | winnowTimer
  /-- `WINNOW_DONE` (R501): A reserve unit's winnowing ends; a failure marks it failed in the repair map. -/
  | winnowDone (kind unit place : Nat) (passed : Bool)
  /-- `PWR_CMD_RUN` (R515): PWR_CMD.STATE RUN leaves IDLE. -/
  | pwrCmdRun (fn : Nat)
  /-- `PWR_CMD_IDLE` (R515): PWR_CMD.STATE IDLE stops tiller clocks. -/
  | pwrCmdIdle (fn : Nat)
  /-- `PWR_CMD_SLEEP` (R515): PWR_CMD.STATE SLEEP starts the drain toward SLEEP. -/
  | pwrCmdSleep (fn : Nat)
  /-- `PWR_CMD_DSLEEP` (R515): PWR_CMD.STATE DSLEEP starts the drain toward DSLEEP. -/
  | pwrCmdDsleep (fn : Nat)
  /-- `PWR_CMD_OFF` (R515): PWR_CMD.STATE OFF starts the drain toward OFF. -/
  | pwrCmdOff (fn : Nat)
  /-- `POWER_ENTRY` (R517): The drain holds and entry runs: commits applied, links taken down, retention CRCs computed and
  domains switched off. -/
  | powerEntry (samples : List (Nat × Nat × Nat))
  /-- `DRAIN_TIMEOUT` (R516): DRAIN_MS passes without drain; acceptance resumes and RESULT is BUSY. -/
  | drainTimeout
  /-- `WAKE_N` (R519): WAKE_N asserts and wakes the device from IDLE, SLEEP, DSLEEP or OFF. -/
  | wakeN
  /-- `SUPPLY_WARNING` (R527): VIN stays below 1.71 V for 2 µs; SUPPLY_LOW sets and tiller issue stops. -/
  | supplyWarning
  /-- `SUPPLY_RECOVERY` (R527): The supply is back for 100 µs before the point of no return; issue resumes and the dip
  counts. -/
  | supplyRecovery
  /-- `POINT_OF_NO_RETURN` (R527): 500 µs after the warning, accounts close, PWR_LOSS_TIME is written and the retention save
  starts. -/
  | pointOfNoReturn
  /-- `SHUTDOWN_SAVE_DONE` (R527): The always-on save is checked and every domain but always-on switches off into OFF. -/
  | shutdownSaveDone
  /-- `SUPPLY_RESTART` (R527): OFF held 10 ms with the supply good for 10 ms; start-up runs with wake source 8. -/
  | supplyRestart
  /-- `PHASE_FAIL` (R528): An IVR phase fails open; its load spreads and tiller issue is limited until a reserve phase is
  in. -/
  | phaseFail (stook phase : Nat)
  /-- `RESERVE_PHASE_IN` (R528): A reserve phase comes into service and the issue limit lifts. -/
  | reservePhaseIn (stook : Nat)
  /-- `PHASE_SENSE_FAIL` (R529): A phase's current sense fails; it runs on estimated current and is nominated for
  retirement. -/
  | phaseSenseFail (stook phase : Nat)
  /-- `THERMAL_THROTTLE_TICK` (R531): Every 100 µs at or above 100 °C a stook's tiller clock drops by 1/16. -/
  | thermalThrottleTick (stook temp : Nat)
  /-- `THERMAL_RAISE_TICK` (R531): Every 1 ms below 98 °C a stook's tiller clock rises by 1/16. -/
  | thermalRaiseTick (stook temp : Nat)
  /-- `THERMAL_TRIP` (R532): A sensor reaches the trip condition; shutdown runs from the point of no return and THERM_TRIP
  sets. -/
  | thermalTrip (dom temp : Nat)
  /-- `DEMAND_INTERVAL_END` (R536): A demand interval boundary passes; the interval closes into NRG_LAST and NRG_MAX. -/
  | demandIntervalEnd
  /-- `TARIFF_POINT` (R535): The time of day passes a VALID PWR_TOD point and the tariff band changes. -/
  | tariffPoint
  /-- `PWR_TARIFF_SET` (R535): A write of PWR_TARIFF.SET applies NEW_BAND at once. -/
  | pwrTariffSet (fn band : Nat)
  /-- `NRG_CMD_CLEAR_ACC` (R541): CLEAR_ACC zeroes NRG_ACC of the four bands. -/
  | nrgCmdClearAcc (fn port : Nat)
  /-- `NRG_CMD_CLEAR_MAX` (R541): CLEAR_MAX zeroes NRG_MAX_AVG and NRG_MAX_START. -/
  | nrgCmdClearMax (fn port : Nat)
  /-- `PMC_CNT_WRITE` (R546): A write of PMC_CNT replaces the count on arrival. -/
  | pmcCntWrite (fn bank counter value : Nat)
  /-- `COUNTER_OVERFLOW` (R544): A counter steps past 0xFFFF_FFFF_FFFF; it sets PMC_OVF, reloads or wraps, and may raise the
  overflow source. -/
  | counterOverflow (bank counter : Nat)
  /-- `GATHERER_SNAPSHOT` (R548): PERIOD_US passes and the gatherer writes one snapshot slot of the selected banks, or skips
  it. -/
  | gathererSnapshot
  /-- `SAMPLE_COUNTDOWN` (R550): A sheaf's sample countdown reaches zero and the next issued instruction is tagged. -/
  | sampleCountdown (sheaf : Nat)
  /-- `GLN_TRIG` (R552): A write of GLN_TRIG triggers the named Gleaner code. -/
  | glnTrig (fn code arg : Nat)
  /-- `GLEANER_TOKEN` (R553): PERIOD_US passes and one token is added to a code's bucket. -/
  | gleanerToken (code : Nat)
  /-- `GLEANER_RECORD_WRITE` (R554): A Gleaner record is written to the ring in SEQ order with its register words. -/
  | gleanerRecordWrite
  /-- `WALK` (R566): A WALK frame from upstream gives the unit its address and is passed on or answered by WALK_END. -/
  | walk (fromUp : Bool) (frame : List (BitVec 8))
  /-- `WALK_END` (R566): WALK_END reaches the head, which records COUNT and broadcasts LEVEL_SET. -/
  | walkEnd (fromUp : Bool) (frame : List (BitVec 8))
  /-- `LEVEL_SET` (R571): A LEVEL_SET frame makes each unit apply the chain level within 1 ms. -/
  | levelSet (fromUp : Bool) (frame : List (BitVec 8))
  /-- `JOIN` (R567): A JOIN frame at the head starts a walk. -/
  | join (fromUp : Bool) (frame : List (BitVec 8))
  /-- `WAKE` (R570): A chain WAKE frame for the unit raises wake source 2, or is counted as ignored in RUN. -/
  | wake (fromUp : Bool) (frame : List (BitVec 8))
  /-- `MSG` (R574): A MSG or level-gated frame for the unit is queued for software and sets RX_MSG. -/
  | msg (fromUp : Bool) (frame : List (BitVec 8))
  /-- `CHAIN_FRAME_REPEAT` (R565): A chain frame for another address is repeated onward within 200 ns. -/
  | chainFrameRepeat (fromUp : Bool) (frame : List (BitVec 8))
  /-- `LINK_BEAT` (R563): A transmit pair quiet for 4 µs sends a link beat. -/
  | linkBeat (up : Bool)
  /-- `CHAIN_LINK_LOSS` (R563): A receive pair quiet for 10 µs clears UP_LINK or DOWN_LINK. -/
  | chainLinkLoss (up : Bool)
  /-- `CHAIN_LINK_GAIN` (R567): A transition appears on a quiet receive pair; the link bit sets and a walk or JOIN follows. -/
  | chainLinkGain (up : Bool)
  /-- `WALK_TIMEOUT` (R567): No WALK_END reaches the head in 10 ms; it keeps COUNT and sets CHAIN_BREAK. -/
  | walkTimeout
  /-- `DCH_CMD_WALK` (R567): DCH_CMD.WALK on the head starts a walk. -/
  | dchCmdWalk (fn : Nat)
  /-- `DCH_CMD_SEND` (R574): DCH_CMD.SEND sends the staged header and payload as one frame, or is dropped. -/
  | dchCmdSend (fn : Nat)
  /-- `DCH_CMD_TAKE` (R574): DCH_CMD.TAKE frees the head of the chain receive queue. -/
  | dchCmdTake (fn : Nat)
  /-- `DCH_CMD_WAKE` (R570): DCH_CMD.WAKE sends a WAKE frame to DST. -/
  | dchCmdWake (fn dst : Nat)
  /-- `DCH_CMD_RELOAD` (R573): DCH_CMD.RELOAD drains the unit and brings every domain but always-on up from golden state and
  flash. -/
  | dchCmdReload (fn : Nat)
  /-- `POR_N_ASSERT` (R587): POR_N held low resets every domain, clears accounts, GLN_SEQ, chain address and the last-wake
  record. -/
  | porNAssert
  /-- `POR_N_RELEASE` (R597): POR_N rises; straps are sampled and start-up begins. -/
  | porNRelease (lead head : Nat)
  /-- `IMAGE_ACCEPTED` (R595): The boot image passes its checks with memory trained; Sage runs it and SAGE_READY sets, or
  fallback or RECOVERY follows. -/
  | imageAccepted (copies : List (BitVec 8) × List (BitVec 8)) (a b : Image) (hostCtl : List Nat)
  /-- `ENTROPY_READY` (R601): Two TRNG sources pass start-up tests; the DRBG is seeded and provisional keys are replaced. -/
  | entropyReady (sources : Nat)
  /-- `SEEDLING_SERVICE` (R598): The remaining domains are up and configured; SERVICE becomes SEEDLING with 32 sheaves. -/
  | seedlingService (cfg : List (Nat × Nat))
  /-- `FULL_SERVICE` (R600): Adaptation and winnowing end or the bound passes; SERVICE becomes FULL and links step and
  widen. -/
  | fullService
  /-- `PERST_N_ASSERT` (R589): PERST_N of a host port goes low; its links go down and its instances are reset. -/
  | perstNAssert (port : Nat)
  /-- `PERST_N_RELEASE` (R589): PERST_N of a host port rises and configuration completes normally from 20 ms later. -/
  | perstNRelease (port : Nat)
  /-- `REFCLK_LOSS` (R585): REFCLK stops for 1 µs; shutdown runs from the point of no return. -/
  | refclkLoss
  /-- `REFCLK_RETURN` (R585): REFCLK runs again for 10 ms and start-up follows with wake source 8. -/
  | refclkReturn
  /-- `SAGE_FL_CMD_WRITE` (R596): WRITE reads and checks a new image and programs the inactive flash slot. -/
  | sageFlCmdWrite (fn : Nat)
  /-- `FLASH_WRITE_DONE` (R596): The programmed slot is read back and checked and the directory names it; RESULT is set. -/
  | flashWriteDone (ok : Bool)
  /-- `SAGE_FL_CMD_RESTART` (R596): RESTART in RECOVERY runs start-up again from the boot. -/
  | sageFlCmdRestart (fn : Nat)
  /-- `SAGE_FL_CMD_COMMIT_SVN` (R596): COMMIT_SVN raises the fused SVN_MIN to the running image's SVN. -/
  | sageFlCmdCommitSvn (fn : Nat)
  /-- `RNG_OUT` (R601): A 16-byte read of RNG_OUT returns fresh DRBG output, or NOT_READY before entropy. -/
  | rngOut (fn size : Nat)
  /-- `RNG_CMD_RESEED` (R601): RESEED reseeds the DRBG now, subject to source health. -/
  | rngCmdReseed (fn : Nat)
  /-- `RESEED_TIMER` (R601): 100 ms or 65,536 generate requests pass and the DRBG reseeds, or starves. -/
  | reseedTimer
  /-- `HEALTH_TEST_FAIL` (R602): A TRNG source fails a health test and is taken out of service. -/
  | healthTestFail (source : Nat)
  /-- `REF10M_RETURN` (R186): REF10M_IN returns after a loss; REF10_PRESENT sets and, with PPS_IN present, holdover ends and
  locking restarts. -/
  | ref10mReturn (pps : Bool)
  /-- `REMOTE_FAULT` (R299): An Ethernet port begins or stops receiving remote fault signalling, stopping or allowing its
  transmission of frames. -/
  | remoteFault (port : Nat) (on : Bool)
  /-- `HOST_LINK_DOWN` (R605): The active PCIe link of a host port leaves L0; LINK_A_UP or LINK_B_UP clears, HOST_CNT_DOWN
  counts and BLK_ERR.LINK_DOWN sets. -/
  | hostLinkDown (port link : Nat)
  /-- `HOST_LINK_UP` (R605): A host port link trains to L0 and HOST_STAT shows its speed, width and FLIT mode. -/
  | hostLinkUp (port link speed width : Nat) (flit : Bool)
  /-- `VF_ENABLE_SET` (R451): The host sets VF Enable of a physical function, setting INST_STAT.VF_ENABLED and making later
  resets end in RUNNING. -/
  | vfEnableSet (inst : Nat)
  /-- `MSI_X_UNMASK` (R483): The host unmasks an MSI-X vector (`vector` 0 or 1) or the function (`vector` 2), and a message held
  pending in the Pending Bit Array is sent. -/
  | msiXUnmask (fn vector : Nat)
  /-- `CONFIGURATION_REQUEST` (R589): A PCIe configuration request reaches a function and completes normally, with Request
  Retry Status, or as SR-IOV requires for an unnamed VF. `dest` names the function and the link. -/
  | configurationRequest (dest : CfgTo) (field value : Nat) (write : Bool)
  /-- `RAILS_IN_TOLERANCE` (R583): After PWR_REQ rises in OFF, the board's rails come within tolerance and Zhoem starts up 1
  ms later without POR_N. -/
  | railsInTolerance
  /-- `PMB_SEGMENT_FAULT` (R148): A PMBus segment is held low or unanswered for 35 ms; SEG0_FAULT or SEG1_FAULT sets and
  BLK_ERR.PMB_FAULT is raised. -/
  | pmbSegmentFault (segment : Nat)
deriving DecidableEq, Repr

end Sys2Proof
end

