-- ==== Sys2Proof/Machine/Fec.lean ====
section
/-! DEFINITION. The forward error correction of a KPB lane (R80): RS(254,240) over GF(2^10), two codewords interleaved. -/

namespace Sys2Proof.Machine

/-- A symbol of the code: an element of GF(2^10) with the field polynomial x^10 + x^3 + 1 (R80). -/
abbrev Sym := BitVec 10

/-- The product of `a` and α, the root of the field polynomial (R80). -/
def Sym.alpha (a : Sym) : Sym := if a.msb then (a <<< 1) ^^^ 9#10 else a <<< 1

/-- The product of `a` with the polynomial whose coefficients from the lowest are `bs`. -/
def Sym.mulBits (a : Sym) : List Bool → Sym
  | [] => 0
  | b :: bs => (if b then a else 0) ^^^ Sym.mulBits (Sym.alpha a) bs

/-- The product in the field. -/
def Sym.mul (a b : Sym) : Sym := Sym.mulBits a ((List.range 10).map fun i => b.getLsbD i)

/-- α to the power `n`. -/
def Sym.pow : Nat → Sym
  | 0 => 1
  | n + 1 => Sym.alpha (Sym.pow n)

/-- The polynomial `p`, highest coefficient first, times (x + r). -/
def fecTimes (p : List Sym) (r : Sym) : List Sym :=
  List.zipWith (· ^^^ ·) (p ++ [0]) (0 :: p.map (Sym.mul r))

/-- The generator polynomial with the roots α^0 to α^13, highest coefficient first (R80). -/
def fecGen : List Sym := ((List.range 14).map Sym.pow).foldl fecTimes [1]

/-- One step of the division by `fecGen`: the remainder `r`, 14 symbols, takes in the data symbol `d`. -/
def fecShift (r : List Sym) (d : Sym) : List Sym :=
  let top := d ^^^ r.headD 0
  List.zipWith (· ^^^ ·) (r.tail ++ [0]) (fecGen.tail.map (Sym.mul top))

/-- The 14 parity symbols of the 240 data symbols `ds`. -/
def fecParity (ds : List Sym) : List Sym := ds.foldl fecShift (List.replicate 14 0)

/-- The codeword of the 240 data symbols `ds`: the data, then its parity. That the code is systematic and sends the parity last is a DESIGN
CHOICE (log entry 98): R80 gives the code, not the places. -/
def fecCode (ds : List Sym) : List Sym := ds ++ fecParity ds

/-- The value of the word `w`, highest coefficient first, at `x`. -/
def fecAt (w : List Sym) (x : Sym) : Sym := w.foldl (fun acc c => Sym.mul acc x ^^^ c) 0

/-- The 14 syndromes of a received word (R80). -/
def fecSyndromes (w : List Sym) : List Sym := (List.range 14).map fun i => fecAt w (Sym.pow i)

/-- `w` is a codeword: 254 symbols with every syndrome zero. -/
def fecIsCode (w : List Sym) : Bool := w.length == 254 && (fecSyndromes w).all (· == 0)

/-- Two codewords interleaved symbol by symbol (R80). -/
def fecPair : List Sym → List Sym → List Sym
  | a :: as, b :: bs => a :: b :: fecPair as bs
  | _, _ => []

/-- The symbols of the first (`true`) or second codeword of an interleaved pair. -/
def fecHalf : Bool → List Sym → List Sym
  | _, [] => []
  | true, a :: as => a :: fecHalf false as
  | false, _ :: as => fecHalf true as

/-- How many symbols of `got` differ from `sent`. -/
def fecErrors (sent got : List Sym) : Nat := ((List.zip sent got).filter fun p => p.1 != p.2).length

/-- A received pair is correctable: at most 7 symbol errors in each codeword (R80). A pair that is not is an FEC_UNCORRECTABLE event of its
lane (R81). -/
def fecCorrects (sent got : List Sym) : Bool :=
  decide (fecErrors (fecHalf true sent) (fecHalf true got) ≤ 7) && decide (fecErrors (fecHalf false sent) (fecHalf false got) ≤ 7)

end Sys2Proof.Machine
end

