-- ==== Sys2Proof/Machine/Maps.lean ====
section
/-! DEFINITION. Maps from numbers to values as lists of pairs in rising key order, and bit-field arithmetic on numbers. -/
namespace Sys2Proof.Machine

/-- A finite map: pairs in strictly rising key order. -/
abbrev PMap (α : Type) := List (Nat × α)

/-- The value at key `k`, if one is listed. -/
def PMap.find {α : Type} : PMap α → Nat → Option α
  | [], _ => none
  | (k', v) :: m, k => if k = k' then some v else PMap.find m k

/-- The value at key `k`, or `d` where none is listed. -/
def PMap.get {α : Type} (m : PMap α) (k : Nat) (d : α) : α := (PMap.find m k).getD d

/-- Put `v` at `k`, keeping the keys rising. -/
def PMap.put {α : Type} : PMap α → Nat → α → PMap α
  | [], k, v => [(k, v)]
  | (k', v') :: m, k, v =>
    if k < k' then (k, v) :: (k', v') :: m
    else if k = k' then (k, v) :: m
    else (k', v') :: PMap.put m k v

/-- Remove key `k`. -/
def PMap.del {α : Type} : PMap α → Nat → PMap α
  | [], _ => []
  | (k', v') :: m, k => if k = k' then m else (k', v') :: PMap.del m k

/-- Put `v` at `k`, where a key with value `d` is never listed. -/
def PMap.putD {α : Type} [DecidableEq α] (d : α) (m : PMap α) (k : Nat) (v : α) : PMap α :=
  if v = d then PMap.del m k else PMap.put m k v

/-- The keys rise strictly, each at least `lo`. -/
def PMap.risingFrom {α : Type} : Nat → PMap α → Bool
  | _, [] => true
  | lo, (k, _) :: m => decide (lo ≤ k) && PMap.risingFrom (k + 1) m

/-- The keys rise strictly. -/
def PMap.rising {α : Type} (m : PMap α) : Bool := PMap.risingFrom 0 m

/-- Bits `[lo + w - 1 : lo]` of `x`. -/
def bits (x lo w : Nat) : Nat := x / 2 ^ lo % 2 ^ w

/-- Bit `i` of `x`. -/
def bit (x i : Nat) : Bool := x / 2 ^ i % 2 == 1

/-- `x` with bits `[lo + w - 1 : lo]` replaced by `v`. -/
def setBits (x lo w v : Nat) : Nat :=
  x / 2 ^ (lo + w) * 2 ^ (lo + w) + v % 2 ^ w * 2 ^ lo + x % 2 ^ lo

/-- `x` with bit `i` set. -/
def setBit (x i : Nat) : Nat := if bit x i then x else x + 2 ^ i

/-- `x` with bit `i` cleared. -/
def clrBit (x i : Nat) : Nat := if bit x i then x - 2 ^ i else x

/-- A truth value as a number. -/
def b2n (b : Bool) : Nat := if b then 1 else 0

/-- A `w`-bit number read as two's complement. -/
def sgn (x w : Nat) : Int := if x < 2 ^ (w - 1) then (x : Int) else (x : Int) - (2 : Int) ^ w

/-- An integer as a `w`-bit two's-complement number. -/
def unsgn (z : Int) (w : Nat) : Nat := (z % (2 : Int) ^ w).toNat

/-- The number whose little-endian bytes are `bs` (R6). -/
def leNat : List (BitVec 8) → Nat
  | [] => 0
  | b :: bs => b.toNat + 256 * leNat bs

/-- The `n` little-endian bytes of `x` (R6). -/
def leBytes : Nat → Nat → List (BitVec 8)
  | 0, _ => []
  | n + 1, x => BitVec.ofNat 8 x :: leBytes n (x / 256)

/-- The field of `n` bytes at byte `at` of a little-endian structure. -/
def leAt (bs : List (BitVec 8)) (pos n : Nat) : Nat := leNat ((bs.drop pos).take n)

/-- The number of bits set among the low `n` bits of `x`. -/
def popcount : Nat → Nat → Nat
  | 0, _ => 0
  | n + 1, x => x % 2 + popcount n (x / 2)

/-- Replace the elements of `bs` from place `pos` by `vs` (the list keeps its length). -/
def overlay (bs : List (BitVec 8)) (pos : Nat) (vs : List (BitVec 8)) : List (BitVec 8) :=
  bs.take pos ++ (vs.take (bs.length - pos)) ++ bs.drop (pos + vs.length)

/-- Ceiling division. -/
def cdiv (a b : Nat) : Nat := (a + b - 1) / b

end Sys2Proof.Machine
end

