-- ==== Sys2Proof/Machine/Regs.lean ====
section
/-! DEFINITION. The register map: one constant per named field of a register page, written from the register and field
tables of the spec (Tables 02-2 to 20-14), and one layout (the list of a page's registers with their fields) per page kind.
-/
namespace Sys2Proof.Machine

/-- Access codes of Table 00-2 (R8); `LV` adds nothing to what a write does. -/
inductive Acc where | rw | ro | w1c | wo | rwc
deriving DecidableEq, Repr

/-- One field of a register: block type code, byte offset of its register in the page, width of the register in bytes,
low bit, width in bits, access code, reset value, byte stride where the register is one of an array, whether the field is
manager-only (R66), and the ranges of legal encodings (empty: every encoding is legal; R7, R41). -/
structure Fld where
  blk : Nat
  off : Nat
  bytes : Nat
  lo : Nat
  w : Nat
  acc : Acc
  rst : Nat
  stride : Nat
  mgr : Bool
  legal : List (Nat × Nat)
deriving DecidableEq, Repr

/-- One register of a page layout: offset, width in bytes, stride, first index, number of entries (index bound), whether it
is a data window (R39), and its fields. -/
structure RegEnt where
  off : Nat
  bytes : Nat
  stride : Nat
  first : Nat
  cnt : Nat
  win : Bool
  flds : List Fld
deriving DecidableEq, Repr

/-! ### Table 02-3 -/
def PAGE_ID_TYPE : Fld := ⟨0x0, 0x0, 4, 24, 8, .ro, 0, 0, false, []⟩
def PAGE_ID_UNIT : Fld := ⟨0x0, 0x0, 4, 16, 8, .ro, 0, 0, false, []⟩
def PAGE_ID_FMT_MAJOR : Fld := ⟨0x0, 0x0, 4, 8, 8, .ro, 1, 0, false, []⟩
def PAGE_ID_FMT_MINOR : Fld := ⟨0x0, 0x0, 4, 0, 8, .ro, 0, 0, false, []⟩
def PAGE_CAP_BLK_CAP : Fld := ⟨0x0, 0x4, 4, 16, 16, .ro, 0, 0, false, []⟩
def PAGE_CAP_ALIASABLE : Fld := ⟨0x0, 0x4, 4, 8, 1, .ro, 0, 0, false, []⟩
def PAGE_CAP_POS : Fld := ⟨0x0, 0x4, 4, 7, 1, .ro, 0, 0, false, []⟩
def PAGE_CAP_EPO : Fld := ⟨0x0, 0x4, 4, 6, 1, .ro, 0, 0, false, []⟩
def PAGE_CAP_FRM : Fld := ⟨0x0, 0x4, 4, 5, 1, .ro, 0, 0, false, []⟩
def PAGE_CAP_NOW : Fld := ⟨0x0, 0x4, 4, 4, 1, .ro, 0, 0, false, []⟩
def PAGE_CAP_TRANSACTIONAL : Fld := ⟨0x0, 0x4, 4, 0, 1, .ro, 0, 0, false, []⟩
def PAGE_CTL_COMMIT_EV_EN : Fld := ⟨0x0, 0x8, 4, 3, 1, .rw, 0, 0, false, []⟩
def PAGE_CTL_DISCARD : Fld := ⟨0x0, 0x8, 4, 2, 1, .wo, 0, 0, false, []⟩
def PAGE_CTL_RELEASE : Fld := ⟨0x0, 0x8, 4, 1, 1, .wo, 0, 0, false, []⟩
def PAGE_CTL_SNAP : Fld := ⟨0x0, 0x8, 4, 0, 1, .wo, 0, 0, false, []⟩
def PAGE_STAT_BLK_STAT : Fld := ⟨0x0, 0xc, 4, 16, 16, .ro, 0, 0, false, []⟩
def PAGE_STAT_POWERED_OFF : Fld := ⟨0x0, 0xc, 4, 5, 1, .ro, 0, 0, false, []⟩
def PAGE_STAT_ABSENT : Fld := ⟨0x0, 0xc, 4, 4, 1, .ro, 0, 0, false, []⟩
def PAGE_STAT_UNIT_READY : Fld := ⟨0x0, 0xc, 4, 3, 1, .ro, 0, 0, false, []⟩
def PAGE_STAT_SNAPPED : Fld := ⟨0x0, 0xc, 4, 2, 1, .ro, 0, 0, false, []⟩
def PAGE_STAT_COMMIT_PENDING : Fld := ⟨0x0, 0xc, 4, 1, 1, .ro, 0, 0, false, []⟩
def PAGE_STAT_SHADOW_DIRTY : Fld := ⟨0x0, 0xc, 4, 0, 1, .ro, 0, 0, false, []⟩
def PAGE_ERR_BLK_ERR : Fld := ⟨0x0, 0x10, 4, 16, 16, .w1c, 0, 0, false, []⟩
def PAGE_ERR_COMMIT_ABANDONED : Fld := ⟨0x0, 0x10, 4, 5, 1, .w1c, 0, 0, false, []⟩
def PAGE_ERR_SHADOW_DISCARDED : Fld := ⟨0x0, 0x10, 4, 4, 1, .w1c, 0, 0, false, []⟩
def PAGE_ERR_SHADOW_LOCKED : Fld := ⟨0x0, 0x10, 4, 3, 1, .w1c, 0, 0, false, []⟩
def PAGE_ERR_COMMIT_REFUSED : Fld := ⟨0x0, 0x10, 4, 2, 1, .w1c, 0, 0, false, []⟩
def PAGE_ERR_RESERVED_ENC : Fld := ⟨0x0, 0x10, 4, 1, 1, .w1c, 0, 0, false, []⟩
def PAGE_ERR_ACCESS : Fld := ⟨0x0, 0x10, 4, 0, 1, .w1c, 0, 0, false, []⟩
def PAGE_ERR_MASK : Fld := ⟨0x0, 0x14, 4, 0, 32, .rw, 0, 0, false, []⟩
def PAGE_COMMIT_ARG : Fld := ⟨0x0, 0x18, 8, 8, 24, .wo, 0, 0, false, []⟩
def PAGE_COMMIT_POINT : Fld := ⟨0x0, 0x18, 8, 0, 4, .wo, 0, 0, false, []⟩
def PAGE_EPOCH_COMMIT_SEQ : Fld := ⟨0x0, 0x20, 8, 48, 16, .ro, 0, 0, false, []⟩
def PAGE_EPOCH_EPOCH : Fld := ⟨0x0, 0x20, 8, 0, 48, .ro, 0, 0, false, []⟩
/-! ### Table 02-7 -/
def DEV_PART_PART : Fld := ⟨0x1, 0x40, 4, 16, 16, .ro, 31382, 0, false, []⟩
def DEV_PART_REV_LETTER : Fld := ⟨0x1, 0x40, 4, 8, 8, .ro, 65, 0, false, []⟩
def DEV_PART_REV_NUM : Fld := ⟨0x1, 0x40, 4, 0, 8, .ro, 1, 0, false, []⟩
def DEV_STRAPS_DCH_HEAD : Fld := ⟨0x1, 0x44, 4, 2, 1, .ro, 0, 0, false, []⟩
def DEV_STRAPS_LEAD_HOST : Fld := ⟨0x1, 0x44, 4, 0, 2, .ro, 0, 0, false, []⟩
def DEV_SERVICE_SHEAVES : Fld := ⟨0x1, 0x48, 4, 16, 8, .ro, 0, 0, false, []⟩
def DEV_SERVICE_ENTROPY_READY : Fld := ⟨0x1, 0x48, 4, 5, 1, .ro, 0, 0, false, []⟩
def DEV_SERVICE_SAGE_READY : Fld := ⟨0x1, 0x48, 4, 4, 1, .ro, 0, 0, false, []⟩
def DEV_SERVICE_SERVICE : Fld := ⟨0x1, 0x48, 4, 0, 2, .ro, 0, 0, false, []⟩
def DEV_EPOCH_EPOCH : Fld := ⟨0x1, 0x50, 8, 0, 48, .ro, 0, 0, false, []⟩
def DEV_EPOCH_PERIOD_PERIOD : Fld := ⟨0x1, 0x58, 4, 0, 16, .rwc, 100, 0, false, []⟩
def DEV_EPOCH_ADV_ADVANCE : Fld := ⟨0x1, 0x5c, 4, 0, 1, .wo, 0, 0, false, []⟩
def DEV_MEM_RSV01_M1 : Fld := ⟨0x1, 0x60, 8, 32, 32, .ro, 0, 0, false, []⟩
def DEV_MEM_RSV01_M0 : Fld := ⟨0x1, 0x60, 8, 0, 32, .ro, 0, 0, false, []⟩
def DEV_MEM_RSV23_M3 : Fld := ⟨0x1, 0x68, 8, 32, 32, .ro, 0, 0, false, []⟩
def DEV_MEM_RSV23_M2 : Fld := ⟨0x1, 0x68, 8, 0, 32, .ro, 0, 0, false, []⟩
def DEV_SERIAL_SERIAL : Fld := ⟨0x1, 0x70, 8, 0, 64, .ro, 0, 0, false, []⟩
def DEV_ERR_RSV_EXHAUSTED : Fld := ⟨0x1, 0x10, 4, 16, 4, .w1c, 0, 0, false, []⟩
/-! ### Table 03-14 -/
def SRDS_CTL_LANE_OFF : Fld := ⟨0x70, 0x40, 4, 4, 4, .rwc, 0, 0, false, []⟩
def SRDS_CTL_HUB_ROLE : Fld := ⟨0x70, 0x40, 4, 2, 1, .rwc, 0, 0, false, []⟩
def SRDS_CTL_MODE : Fld := ⟨0x70, 0x40, 4, 0, 2, .rwc, 0, 0, false, [(0, 2)]⟩
def SRDS_STAT_RESERVE_SLICE : Fld := ⟨0x70, 0x44, 4, 16, 1, .ro, 0, 0, false, []⟩
def SRDS_STAT_FEC_LOCK : Fld := ⟨0x70, 0x44, 4, 12, 4, .ro, 0, 0, false, []⟩
def SRDS_STAT_ADAPT_DONE : Fld := ⟨0x70, 0x44, 4, 8, 4, .ro, 0, 0, false, []⟩
def SRDS_STAT_CDR_LOCK : Fld := ⟨0x70, 0x44, 4, 4, 4, .ro, 0, 0, false, []⟩
def SRDS_STAT_SIG_DET : Fld := ⟨0x70, 0x44, 4, 0, 4, .ro, 0, 0, false, []⟩
def SRDS_MARGIN_L3 : Fld := ⟨0x70, 0x48, 4, 24, 8, .ro, 0, 0, false, []⟩
def SRDS_MARGIN_L2 : Fld := ⟨0x70, 0x48, 4, 16, 8, .ro, 0, 0, false, []⟩
def SRDS_MARGIN_L1 : Fld := ⟨0x70, 0x48, 4, 8, 8, .ro, 0, 0, false, []⟩
def SRDS_MARGIN_L0 : Fld := ⟨0x70, 0x48, 4, 0, 8, .ro, 0, 0, false, []⟩
def SRDS_ERR_HUB_TAKEN : Fld := ⟨0x70, 0x10, 4, 17, 1, .w1c, 0, 0, false, []⟩
def SRDS_ERR_MODE_BUSY : Fld := ⟨0x70, 0x10, 4, 16, 1, .w1c, 0, 0, false, []⟩
/-! ### Table 03-16 -/
def KRP_CTL_UP_READY : Fld := ⟨0x30, 0x40, 4, 16, 1, .rwc, 0, 0, false, []⟩
def KRP_CTL_LVL_MAX : Fld := ⟨0x30, 0x40, 4, 12, 4, .rwc, 1, 0, false, [(1, 1)]⟩
def KRP_CTL_LPM_EN : Fld := ⟨0x30, 0x40, 4, 11, 1, .rwc, 0, 0, false, []⟩
def KRP_CTL_MIN_RATE : Fld := ⟨0x30, 0x40, 4, 9, 2, .rwc, 2, 0, false, [(0, 2)]⟩
def KRP_CTL_MIN_WIDTH : Fld := ⟨0x30, 0x40, 4, 7, 2, .rwc, 0, 0, false, [(0, 2)]⟩
def KRP_CTL_RATE_MAX : Fld := ⟨0x30, 0x40, 4, 5, 2, .rwc, 2, 0, false, [(0, 2)]⟩
def KRP_CTL_WIDTH_MAX : Fld := ⟨0x30, 0x40, 4, 3, 2, .rwc, 0, 0, false, [(0, 2)]⟩
def KRP_CTL_ENABLE : Fld := ⟨0x30, 0x40, 4, 0, 1, .rwc, 0, 0, false, []⟩
def KRP_LPM_DWELL : Fld := ⟨0x30, 0x44, 4, 16, 8, .rwc, 100, 0, false, [(1, 255)]⟩
def KRP_LPM_UP_PCT : Fld := ⟨0x30, 0x44, 4, 8, 8, .rwc, 70, 0, false, [(1, 100)]⟩
def KRP_LPM_SHED_PCT : Fld := ⟨0x30, 0x44, 4, 0, 8, .rwc, 30, 0, false, [(1, 100)]⟩
def KRP_TMO_RETRY_MAX : Fld := ⟨0x30, 0x48, 4, 16, 4, .rwc, 3, 0, false, [(1, 15)]⟩
def KRP_TMO_RSP_TMO : Fld := ⟨0x30, 0x48, 4, 0, 16, .rwc, 200, 0, false, [(1, 65535)]⟩
def KRP_CMD_RETRAIN : Fld := ⟨0x30, 0x4c, 4, 1, 1, .wo, 0, 0, false, []⟩
def KRP_CMD_WIDEN : Fld := ⟨0x30, 0x4c, 4, 0, 1, .wo, 0, 0, false, []⟩
def KRP_STAT_LVL : Fld := ⟨0x30, 0x50, 4, 20, 4, .ro, 0, 0, false, []⟩
def KRP_STAT_BELOW_MIN : Fld := ⟨0x30, 0x50, 4, 19, 1, .ro, 0, 0, false, []⟩
def KRP_STAT_DEGRADED : Fld := ⟨0x30, 0x50, 4, 18, 1, .ro, 0, 0, false, []⟩
def KRP_STAT_LANE_REV : Fld := ⟨0x30, 0x50, 4, 17, 1, .ro, 0, 0, false, []⟩
def KRP_STAT_PARTNER_HUB : Fld := ⟨0x30, 0x50, 4, 16, 1, .ro, 0, 0, false, []⟩
def KRP_STAT_RATE : Fld := ⟨0x30, 0x50, 4, 10, 2, .ro, 0, 0, false, []⟩
def KRP_STAT_WIDTH : Fld := ⟨0x30, 0x50, 4, 8, 2, .ro, 0, 0, false, []⟩
def KRP_STAT_LSTATE : Fld := ⟨0x30, 0x50, 4, 0, 4, .ro, 0, 0, false, []⟩
def KRP_UTIL_UTIL : Fld := ⟨0x30, 0x54, 4, 0, 10, .ro, 0, 0, false, []⟩
def KRP_CNT_FEC_CORR_COUNT : Fld := ⟨0x30, 0x58, 8, 0, 64, .ro, 0, 0, false, []⟩
def KRP_CNT_FEC_UNC_COUNT : Fld := ⟨0x30, 0x60, 8, 0, 64, .ro, 0, 0, false, []⟩
def KRP_CNT_HCRC_COUNT : Fld := ⟨0x30, 0x68, 4, 0, 32, .ro, 0, 0, false, []⟩
def KRP_CNT_DCRC_COUNT : Fld := ⟨0x30, 0x6c, 4, 0, 32, .ro, 0, 0, false, []⟩
def KRP_CNT_SEQ_COUNT : Fld := ⟨0x30, 0x70, 4, 0, 32, .ro, 0, 0, false, []⟩
def KRP_CNT_RETRY_COUNT : Fld := ⟨0x30, 0x74, 4, 0, 32, .ro, 0, 0, false, []⟩
def KRP_CNT_LSTATE_COUNT : Fld := ⟨0x30, 0x78, 4, 0, 32, .ro, 0, 0, false, []⟩
def KRP_CNT_DISCARD_COUNT : Fld := ⟨0x30, 0x7c, 4, 0, 32, .ro, 0, 0, false, []⟩
def KRP_ERR_UNC_BURST : Fld := ⟨0x30, 0x10, 4, 20, 1, .w1c, 0, 0, false, []⟩
def KRP_ERR_PROTO : Fld := ⟨0x30, 0x10, 4, 19, 1, .w1c, 0, 0, false, []⟩
def KRP_ERR_CLAMPED : Fld := ⟨0x30, 0x10, 4, 18, 1, .w1c, 0, 0, false, []⟩
def KRP_ERR_DEGRADED : Fld := ⟨0x30, 0x10, 4, 17, 1, .w1c, 0, 0, false, []⟩
def KRP_ERR_LINK_DOWN : Fld := ⟨0x30, 0x10, 4, 16, 1, .w1c, 0, 0, false, []⟩
/-! ### Table 04-8 -/
def KHUB_CTL_STAT_POLL : Fld := ⟨0x32, 0x40, 4, 16, 8, .rwc, 10, 0, true, [(1, 255)]⟩
def KHUB_CTL_DEBOUNCE : Fld := ⟨0x32, 0x40, 4, 8, 8, .rwc, 2, 0, true, [(1, 255)]⟩
def KHUB_CTL_ENUM_ATTEMPTS : Fld := ⟨0x32, 0x40, 4, 0, 4, .rwc, 3, 0, true, [(1, 15)]⟩
def KHUB_PMB_PG_TMO : Fld := ⟨0x32, 0x44, 4, 24, 8, .rwc, 50, 0, true, [(1, 255)]⟩
def KHUB_PMB_STAGGER : Fld := ⟨0x32, 0x44, 4, 16, 8, .rwc, 8, 0, true, [(1, 96)]⟩
def KHUB_PMB_POLL_MS : Fld := ⟨0x32, 0x44, 4, 8, 8, .rwc, 10, 0, true, [(1, 255)]⟩
def KHUB_PMB_SEG1_SPEED : Fld := ⟨0x32, 0x44, 4, 2, 2, .rwc, 1, 0, true, [(0, 2)]⟩
def KHUB_PMB_SEG0_SPEED : Fld := ⟨0x32, 0x44, 4, 0, 2, .rwc, 1, 0, true, [(0, 2)]⟩
def KHUB_PMB_STAT_EFF_POLL : Fld := ⟨0x32, 0x48, 4, 8, 8, .ro, 0, 0, true, []⟩
def KHUB_PMB_STAT_SEG1_FAULT : Fld := ⟨0x32, 0x48, 4, 2, 1, .ro, 0, 0, true, []⟩
def KHUB_PMB_STAT_SEG0_FAULT : Fld := ⟨0x32, 0x48, 4, 1, 1, .ro, 0, 0, true, []⟩
def KHUB_PMB_STAT_ALERT : Fld := ⟨0x32, 0x48, 4, 0, 1, .ro, 0, 0, true, []⟩
def KHUB_HR_STAT_ACTIVE : Fld := ⟨0x32, 0x4c, 4, 12, 1, .ro, 0, 0, true, []⟩
def KHUB_HR_STAT_QUAD : Fld := ⟨0x32, 0x4c, 4, 7, 5, .ro, 0, 0, true, []⟩
def KHUB_HR_DESC_ADDR : Fld := ⟨0x32, 0x50, 8, 0, 64, .rwc, 0, 0, true, []⟩
def KHUB_HR_EPMAP_VALID : Fld := ⟨0x32, 0x7c, 4, 15, 1, .rwc, 0, 4, true, []⟩
def KHUB_HR_EPMAP_QUEUE : Fld := ⟨0x32, 0x7c, 4, 0, 10, .rwc, 0, 4, true, []⟩
def KHUB_TREE_BASE_ADDR : Fld := ⟨0x32, 0x100, 8, 0, 64, .rw, 0, 32, false, []⟩
def KHUB_TREE_CTL_RESCAN : Fld := ⟨0x32, 0x108, 4, 3, 1, .wo, 0, 32, false, []⟩
def KHUB_TREE_CTL_PWR_ON : Fld := ⟨0x32, 0x108, 4, 2, 1, .rw, 0, 32, false, []⟩
def KHUB_TREE_CTL_AUTO_CFG : Fld := ⟨0x32, 0x108, 4, 1, 1, .rw, 1, 32, false, []⟩
def KHUB_TREE_CTL_ENUM_EN : Fld := ⟨0x32, 0x108, 4, 0, 1, .rw, 0, 32, false, []⟩
def KHUB_TREE_CNT_FAILED : Fld := ⟨0x32, 0x10c, 4, 16, 16, .ro, 0, 32, false, []⟩
def KHUB_TREE_CNT_ATTACHED : Fld := ⟨0x32, 0x10c, 4, 0, 16, .ro, 0, 32, false, []⟩
def KHUB_TREE_SEQ_SEQ : Fld := ⟨0x32, 0x110, 4, 0, 32, .ro, 0, 32, false, []⟩
def KHUB_TREE_ACK_SEQ : Fld := ⟨0x32, 0x114, 4, 0, 32, .rw, 0, 32, false, []⟩
def KHUB_TREE_STAT_TOO_DEEP : Fld := ⟨0x32, 0x118, 4, 14, 1, .ro, 0, 32, false, []⟩
def KHUB_TREE_STAT_ADDR_EXHAUSTED : Fld := ⟨0x32, 0x118, 4, 13, 1, .ro, 0, 32, false, []⟩
def KHUB_TREE_STAT_TABLE_FAULT : Fld := ⟨0x32, 0x118, 4, 12, 1, .ro, 0, 32, false, []⟩
def KHUB_TREE_STAT_ENUM_STEP : Fld := ⟨0x32, 0x118, 4, 8, 4, .ro, 0, 32, false, []⟩
def KHUB_TREE_STAT_DEVICES : Fld := ⟨0x32, 0x118, 4, 0, 8, .ro, 0, 32, false, []⟩
def KHUB_PWR_STAT_PIN : Fld := ⟨0x32, 0x11c, 4, 16, 16, .ro, 0, 32, false, []⟩
def KHUB_PWR_STAT_TELEMETRY_STALE : Fld := ⟨0x32, 0x11c, 4, 4, 1, .ro, 0, 32, false, []⟩
def KHUB_PWR_STAT_PG : Fld := ⟨0x32, 0x11c, 4, 3, 1, .ro, 0, 32, false, []⟩
def KHUB_PWR_STAT_OVERCURRENT : Fld := ⟨0x32, 0x11c, 4, 2, 1, .ro, 0, 32, false, []⟩
def KHUB_PWR_STAT_PSTATE : Fld := ⟨0x32, 0x11c, 4, 0, 2, .ro, 0, 32, false, []⟩
def KHUB_PWR_MAP_PAGE : Fld := ⟨0x32, 0xd00, 4, 9, 8, .rwc, 0, 4, true, []⟩
def KHUB_PWR_MAP_ADDR : Fld := ⟨0x32, 0xd00, 4, 2, 7, .rwc, 0, 4, true, []⟩
def KHUB_PWR_MAP_SEG : Fld := ⟨0x32, 0xd00, 4, 1, 1, .rwc, 0, 4, true, []⟩
def KHUB_PWR_MAP_FITTED : Fld := ⟨0x32, 0xd00, 4, 0, 1, .rwc, 0, 4, true, []⟩
def KHUB_ERR_OVERCURRENT : Fld := ⟨0x32, 0x10, 4, 18, 1, .w1c, 0, 0, false, []⟩
def KHUB_ERR_PG_TIMEOUT : Fld := ⟨0x32, 0x10, 4, 17, 1, .w1c, 0, 0, false, []⟩
def KHUB_ERR_PMB_FAULT : Fld := ⟨0x32, 0x10, 4, 16, 1, .w1c, 0, 0, false, []⟩
/-! ### Table 05-6 -/
def PREF_CTL_INDEX_QUAL : Fld := ⟨0x20, 0x40, 4, 13, 1, .rwc, 0, 0, false, []⟩
def PREF_CTL_INDEX_POL : Fld := ⟨0x20, 0x40, 4, 12, 1, .rwc, 0, 0, false, []⟩
def PREF_CTL_INDEX_MODE : Fld := ⟨0x20, 0x40, 4, 10, 2, .rwc, 0, 0, false, []⟩
def PREF_CTL_INVERT_DIR : Fld := ⟨0x20, 0x40, 4, 9, 1, .rwc, 0, 0, false, []⟩
def PREF_CTL_QIN : Fld := ⟨0x20, 0x40, 4, 6, 3, .rwc, 0, 0, false, []⟩
def PREF_CTL_SRC : Fld := ⟨0x20, 0x40, 4, 0, 3, .rwc, 0, 0, false, [(0, 4)]⟩
def PREF_FILT_HYST : Fld := ⟨0x20, 0x44, 4, 16, 8, .rwc, 2, 0, false, []⟩
def PREF_FILT_INTERP_EDGES : Fld := ⟨0x20, 0x44, 4, 8, 8, .rwc, 8, 0, false, [(1, 64)]⟩
def PREF_FILT_FILT_NS : Fld := ⟨0x20, 0x44, 4, 0, 8, .rwc, 16, 0, false, [(2, 255)]⟩
def PREF_STILL_STUCK_EDGES : Fld := ⟨0x20, 0x48, 4, 24, 8, .rwc, 64, 0, false, [(8, 255)]⟩
def PREF_STILL_STILL_TMO : Fld := ⟨0x20, 0x48, 4, 0, 24, .rwc, 100000, 0, false, [(1, 16777215)]⟩
def PREF_KPB_LOST_FRAMES : Fld := ⟨0x20, 0x4c, 4, 20, 8, .rwc, 4, 0, false, [(1, 255)]⟩
def PREF_KPB_EP : Fld := ⟨0x20, 0x4c, 4, 16, 4, .rwc, 0, 0, false, []⟩
def PREF_KPB_ADDR : Fld := ⟨0x20, 0x4c, 4, 8, 8, .rwc, 0, 0, false, []⟩
def PREF_KPB_ROOT : Fld := ⟨0x20, 0x4c, 4, 0, 7, .rwc, 0, 0, false, []⟩
def PREF_INDEX_POS_COUNT : Fld := ⟨0x20, 0x50, 8, 0, 48, .rwc, 0, 0, false, []⟩
def PREF_INDEX_PERIOD_COUNTS : Fld := ⟨0x20, 0x58, 4, 0, 32, .rwc, 0, 0, false, []⟩
def PREF_TIME_DIV_NS : Fld := ⟨0x20, 0x5c, 4, 0, 16, .rwc, 1000, 0, false, [(1, 65535)]⟩
def PREF_POS_POS : Fld := ⟨0x20, 0x60, 8, 0, 64, .ro, 0, 0, false, []⟩
def PREF_VEL_VEL : Fld := ⟨0x20, 0x68, 8, 0, 64, .ro, 0, 0, false, []⟩
def PREF_STAT_HOMED : Fld := ⟨0x20, 0x70, 4, 8, 1, .ro, 0, 0, false, []⟩
def PREF_STAT_SRC_LOST : Fld := ⟨0x20, 0x70, 4, 7, 1, .ro, 0, 0, false, []⟩
def PREF_STAT_INDEX_MISSING : Fld := ⟨0x20, 0x70, 4, 6, 1, .ro, 0, 0, false, []⟩
def PREF_STAT_STUCK_B : Fld := ⟨0x20, 0x70, 4, 5, 1, .ro, 0, 0, false, []⟩
def PREF_STAT_STUCK_A : Fld := ⟨0x20, 0x70, 4, 4, 1, .ro, 0, 0, false, []⟩
def PREF_STAT_OVERSPEED : Fld := ⟨0x20, 0x70, 4, 3, 1, .ro, 0, 0, false, []⟩
def PREF_STAT_DIR : Fld := ⟨0x20, 0x70, 4, 2, 1, .ro, 0, 0, false, []⟩
def PREF_STAT_STANDSTILL : Fld := ⟨0x20, 0x70, 4, 1, 1, .ro, 0, 0, false, []⟩
def PREF_STAT_UNRELIABLE : Fld := ⟨0x20, 0x70, 4, 0, 1, .ro, 0, 0, false, []⟩
def PREF_IDX_ERR_ERR : Fld := ⟨0x20, 0x74, 4, 0, 32, .ro, 0, 0, false, []⟩
def PREF_CNT_GLITCH_COUNT : Fld := ⟨0x20, 0x78, 4, 0, 32, .ro, 0, 0, false, []⟩
def PREF_CNT_INDEX_COUNT : Fld := ⟨0x20, 0x7c, 4, 0, 32, .ro, 0, 0, false, []⟩
def PREF_SET_POS : Fld := ⟨0x20, 0x80, 8, 0, 64, .wo, 0, 0, false, []⟩
def PREF_HOST_MOVE_POS : Fld := ⟨0x20, 0x88, 8, 0, 64, .wo, 0, 0, false, []⟩
def PREF_HOST_VEL_VEL : Fld := ⟨0x20, 0x90, 8, 0, 64, .wo, 0, 0, false, []⟩
def PREF_ERR_SRC_LOST : Fld := ⟨0x20, 0x10, 4, 19, 1, .w1c, 0, 0, false, []⟩
def PREF_ERR_INDEX_MISSING : Fld := ⟨0x20, 0x10, 4, 18, 1, .w1c, 0, 0, false, []⟩
def PREF_ERR_STUCK : Fld := ⟨0x20, 0x10, 4, 17, 1, .w1c, 0, 0, false, []⟩
def PREF_ERR_UNRELIABLE : Fld := ⟨0x20, 0x10, 4, 16, 1, .w1c, 0, 0, false, []⟩
/-! ### Table 05-8 -/
def PCU_CTL_PIN_ACT : Fld := ⟨0x21, 0x40, 4, 16, 2, .rwc, 0, 0, false, []⟩
def PCU_CTL_EV_EN : Fld := ⟨0x21, 0x40, 4, 15, 1, .rwc, 0, 0, false, []⟩
def PCU_CTL_TASK_EN : Fld := ⟨0x21, 0x40, 4, 14, 1, .rwc, 0, 0, false, []⟩
def PCU_CTL_KPB_EN : Fld := ⟨0x21, 0x40, 4, 13, 1, .rwc, 0, 0, false, []⟩
def PCU_CTL_PIN : Fld := ⟨0x21, 0x40, 4, 8, 5, .rwc, 0, 0, false, []⟩
def PCU_CTL_PIN_EN : Fld := ⟨0x21, 0x40, 4, 7, 1, .rwc, 0, 0, false, []⟩
def PCU_CTL_DIR : Fld := ⟨0x21, 0x40, 4, 5, 2, .rwc, 1, 0, false, [(1, 3)]⟩
def PCU_CTL_PREF : Fld := ⟨0x21, 0x40, 4, 2, 3, .rwc, 0, 0, false, []⟩
def PCU_CTL_MODE : Fld := ⟨0x21, 0x40, 4, 0, 2, .rwc, 0, 0, false, [(0, 2)]⟩
def PCU_TASK_TAG : Fld := ⟨0x21, 0x44, 4, 16, 16, .rwc, 0, 0, false, []⟩
def PCU_TASK_SHEAF : Fld := ⟨0x21, 0x44, 4, 0, 6, .rwc, 0, 0, false, []⟩
def PCU_KPB_GROUP : Fld := ⟨0x21, 0x48, 8, 32, 16, .rwc, 0, 0, false, []⟩
def PCU_KPB_GROUPED : Fld := ⟨0x21, 0x48, 8, 24, 1, .rwc, 0, 0, false, []⟩
def PCU_KPB_ACTION : Fld := ⟨0x21, 0x48, 8, 16, 8, .rwc, 0, 0, false, []⟩
def PCU_KPB_ADDR : Fld := ⟨0x21, 0x48, 8, 8, 8, .rwc, 255, 0, false, []⟩
def PCU_KPB_ROOT : Fld := ⟨0x21, 0x48, 8, 0, 7, .rwc, 0, 0, false, []⟩
def PCU_TGT_TGT : Fld := ⟨0x21, 0x50, 8, 0, 64, .rwc, 0, 0, false, []⟩
def PCU_TGT_SEC_SEC : Fld := ⟨0x21, 0x58, 8, 0, 48, .rwc, 0, 0, false, []⟩
def PCU_INTERVAL_STEP : Fld := ⟨0x21, 0x60, 8, 0, 64, .rwc, 0, 0, false, []⟩
def PCU_COUNT_COUNT : Fld := ⟨0x21, 0x68, 4, 0, 32, .rwc, 0, 0, false, []⟩
def PCU_PULSE_PULSE_NS : Fld := ⟨0x21, 0x6c, 4, 0, 20, .rwc, 100, 0, false, [(4, 1000000)]⟩
def PCU_DELAY_NS : Fld := ⟨0x21, 0x70, 4, 0, 24, .rwc, 0, 0, false, []⟩
def PCU_ARM_DISARM : Fld := ⟨0x21, 0x74, 4, 1, 1, .wo, 0, 0, false, []⟩
def PCU_ARM_ARM : Fld := ⟨0x21, 0x74, 4, 0, 1, .wo, 0, 0, false, []⟩
def PCU_STAT_PREDICT : Fld := ⟨0x21, 0x78, 4, 3, 1, .ro, 0, 0, false, []⟩
def PCU_STAT_MISSED : Fld := ⟨0x21, 0x78, 4, 2, 1, .ro, 0, 0, false, []⟩
def PCU_STAT_LATE : Fld := ⟨0x21, 0x78, 4, 1, 1, .ro, 0, 0, false, []⟩
def PCU_STAT_ARMED : Fld := ⟨0x21, 0x78, 4, 0, 1, .ro, 0, 0, false, []⟩
def PCU_FIRED_COUNT : Fld := ⟨0x21, 0x7c, 4, 0, 32, .ro, 0, 0, false, []⟩
def PCU_NEXT_TGT : Fld := ⟨0x21, 0x80, 8, 0, 64, .ro, 0, 0, false, []⟩
def PCU_NEXT_SEC_SEC : Fld := ⟨0x21, 0x88, 8, 0, 48, .ro, 0, 0, false, []⟩
def PCU_LEFT_COUNT : Fld := ⟨0x21, 0x90, 4, 0, 32, .ro, 0, 0, false, []⟩
/-! ### Table 05-9 -/
def TRG_CTL_ACTIVE_LOW : Fld := ⟨0x23, 0x40, 4, 1, 1, .rwc, 0, 0, false, []⟩
def TRG_CTL_OE : Fld := ⟨0x23, 0x40, 4, 0, 1, .rwc, 0, 0, false, []⟩
def TRG_STAT_ACTIVE : Fld := ⟨0x23, 0x44, 4, 0, 1, .ro, 0, 0, false, []⟩
def TRG_CNT_PULSE_COUNT : Fld := ⟨0x23, 0x48, 4, 0, 32, .ro, 0, 0, false, []⟩
def TRG_CNT_MERGED_COUNT : Fld := ⟨0x23, 0x4c, 4, 0, 32, .ro, 0, 0, false, []⟩
/-! ### Table 05-11 -/
def TIME_CTL_PPS_IN_POL : Fld := ⟨0x24, 0x40, 4, 3, 1, .rwc, 0, 0, false, []⟩
def TIME_CTL_PPS_OUT_EN : Fld := ⟨0x24, 0x40, 4, 2, 1, .rwc, 0, 0, false, []⟩
def TIME_CTL_MODE : Fld := ⟨0x24, 0x40, 4, 0, 2, .rwc, 0, 0, false, [(0, 2)]⟩
def TIME_PPS_PPS_OUT_WIDTH : Fld := ⟨0x24, 0x44, 4, 0, 16, .rwc, 100, 0, false, [(1, 65535)]⟩
def TIME_RATE_ADJ : Fld := ⟨0x24, 0x48, 4, 0, 32, .rw, 0, 0, false, []⟩
def TIME_STAT_STEPS : Fld := ⟨0x24, 0x4c, 4, 16, 16, .ro, 0, 0, false, []⟩
def TIME_STAT_SET_ONCE : Fld := ⟨0x24, 0x4c, 4, 4, 1, .ro, 0, 0, false, []⟩
def TIME_STAT_HOLDOVER : Fld := ⟨0x24, 0x4c, 4, 3, 1, .ro, 0, 0, false, []⟩
def TIME_STAT_LOCKED : Fld := ⟨0x24, 0x4c, 4, 2, 1, .ro, 0, 0, false, []⟩
def TIME_STAT_PPS_PRESENT : Fld := ⟨0x24, 0x4c, 4, 1, 1, .ro, 0, 0, false, []⟩
def TIME_STAT_REF10_PRESENT : Fld := ⟨0x24, 0x4c, 4, 0, 1, .ro, 0, 0, false, []⟩
def TIME_NOW_TIME : Fld := ⟨0x24, 0x50, 16, 0, 96, .ro, 0, 0, false, []⟩
def TIME_SET_TIME : Fld := ⟨0x24, 0x60, 16, 0, 96, .rw, 0, 0, false, []⟩
def TIME_STEP_OFFSET : Fld := ⟨0x24, 0x70, 8, 0, 64, .rw, 0, 0, false, []⟩
def TIME_CMD_STEP : Fld := ⟨0x24, 0x78, 4, 1, 1, .wo, 0, 0, false, []⟩
def TIME_CMD_SET : Fld := ⟨0x24, 0x78, 4, 0, 1, .wo, 0, 0, false, []⟩
def TIME_PHASE_NS : Fld := ⟨0x24, 0x7c, 4, 0, 32, .ro, 0, 0, false, []⟩
def TIME_PPS_IN_TIME : Fld := ⟨0x24, 0x80, 16, 0, 96, .ro, 0, 0, false, []⟩
def TIME_ERR_STEP_REFUSED : Fld := ⟨0x24, 0x10, 4, 18, 1, .w1c, 0, 0, false, []⟩
def TIME_ERR_HOLDOVER : Fld := ⟨0x24, 0x10, 4, 17, 1, .w1c, 0, 0, false, []⟩
def TIME_ERR_STEPPED : Fld := ⟨0x24, 0x10, 4, 16, 1, .w1c, 0, 0, false, []⟩
/-! ### Table 06-12 -/
def KSCH_CTL_CTRL_MAX : Fld := ⟨0x31, 0x40, 4, 16, 4, .rwc, 4, 0, false, [(1, 15)]⟩
def KSCH_CTL_LIST_SHEAF : Fld := ⟨0x31, 0x40, 4, 10, 6, .rwc, 0, 0, true, []⟩
def KSCH_CTL_KEEP_C0 : Fld := ⟨0x31, 0x40, 4, 9, 1, .rwc, 1, 0, false, []⟩
def KSCH_CTL_REV_MODE : Fld := ⟨0x31, 0x40, 4, 8, 1, .rwc, 0, 0, false, []⟩
def KSCH_CTL_SNAP_PREF : Fld := ⟨0x31, 0x40, 4, 5, 3, .rwc, 0, 0, false, []⟩
def KSCH_CTL_PREF : Fld := ⟨0x31, 0x40, 4, 2, 3, .rwc, 0, 0, false, []⟩
def KSCH_CTL_CLOCK : Fld := ⟨0x31, 0x40, 4, 1, 1, .rwc, 0, 0, false, []⟩
def KSCH_CTL_ENABLE : Fld := ⟨0x31, 0x40, 4, 0, 1, .rwc, 0, 0, false, []⟩
def KSCH_FLEN_MAX : Fld := ⟨0x31, 0x44, 4, 16, 16, .rwc, 12500, 0, false, [(200, 12500)]⟩
def KSCH_FLEN_MIN : Fld := ⟨0x31, 0x44, 4, 0, 16, .rwc, 200, 0, false, [(200, 12500)]⟩
def KSCH_PITCH_PITCH : Fld := ⟨0x31, 0x48, 4, 0, 32, .rwc, 65536, 0, false, [(1, 4294967295)]⟩
def KSCH_GUARD_PKT_MAX : Fld := ⟨0x31, 0x4c, 4, 16, 7, .rwc, 64, 0, false, [(1, 64)]⟩
def KSCH_GUARD_GUARD_NS : Fld := ⟨0x31, 0x4c, 4, 0, 16, .rwc, 300, 0, false, []⟩
def KSCH_ADM_TRG_RSV : Fld := ⟨0x31, 0x50, 4, 16, 6, .rwc, 4, 0, false, []⟩
def KSCH_ADM_RT_NS : Fld := ⟨0x31, 0x50, 4, 0, 16, .rwc, 400, 0, false, []⟩
def KSCH_CMD_DROP_CAND : Fld := ⟨0x31, 0x54, 4, 1, 1, .wo, 0, 0, false, []⟩
def KSCH_CMD_ADMIT : Fld := ⟨0x31, 0x54, 4, 0, 1, .wo, 0, 0, false, []⟩
def KSCH_TBL_BASE_ADDR : Fld := ⟨0x31, 0x58, 8, 0, 64, .rwc, 0, 0, false, []⟩
def KSCH_TBL_LEN_LEN : Fld := ⟨0x31, 0x60, 4, 0, 13, .rwc, 0, 0, false, [(0, 4096)]⟩
def KSCH_ADM_STAT_TABLE_FAIL : Fld := ⟨0x31, 0x64, 4, 22, 1, .ro, 0, 0, false, []⟩
def KSCH_ADM_STAT_CAND_VALID : Fld := ⟨0x31, 0x64, 4, 21, 1, .ro, 0, 0, false, []⟩
def KSCH_ADM_STAT_RUNNING : Fld := ⟨0x31, 0x64, 4, 20, 1, .ro, 0, 0, false, []⟩
def KSCH_ADM_STAT_FAIL_ENTRY : Fld := ⟨0x31, 0x64, 4, 8, 12, .ro, 0, 0, false, []⟩
def KSCH_ADM_STAT_RESULT : Fld := ⟨0x31, 0x64, 4, 0, 8, .ro, 0, 0, false, []⟩
def KSCH_CAND_BASE_ADDR : Fld := ⟨0x31, 0x68, 8, 0, 64, .rw, 0, 0, false, []⟩
def KSCH_CAND_LEN_LEN : Fld := ⟨0x31, 0x70, 4, 0, 13, .rw, 0, 0, false, [(1, 4096)]⟩
def KSCH_ADM_LOAD_CAP : Fld := ⟨0x31, 0x74, 4, 16, 16, .ro, 0, 0, false, []⟩
def KSCH_ADM_LOAD_LOAD : Fld := ⟨0x31, 0x74, 4, 0, 16, .ro, 0, 0, false, []⟩
def KSCH_STAT_PREF_LOOP : Fld := ⟨0x31, 0x78, 4, 5, 1, .ro, 0, 0, false, []⟩
def KSCH_STAT_OVERLOAD : Fld := ⟨0x31, 0x78, 4, 4, 1, .ro, 0, 0, false, []⟩
def KSCH_STAT_HWM_WAIT : Fld := ⟨0x31, 0x78, 4, 3, 1, .ro, 0, 0, false, []⟩
def KSCH_STAT_HELD : Fld := ⟨0x31, 0x78, 4, 2, 1, .ro, 0, 0, false, []⟩
def KSCH_STAT_FILLER : Fld := ⟨0x31, 0x78, 4, 1, 1, .ro, 0, 0, false, []⟩
def KSCH_STAT_RUNNING : Fld := ⟨0x31, 0x78, 4, 0, 1, .ro, 0, 0, false, []⟩
def KSCH_FRAME_NO_FRAME : Fld := ⟨0x31, 0x7c, 4, 0, 32, .ro, 0, 0, false, []⟩
def KSCH_MFRAME_MFRAME : Fld := ⟨0x31, 0x80, 4, 0, 32, .ro, 0, 0, false, []⟩
def KSCH_MAX_SHIFT_NS : Fld := ⟨0x31, 0x84, 4, 0, 32, .ro, 0, 0, false, []⟩
def KSCH_FRM_POS_POS : Fld := ⟨0x31, 0x88, 8, 0, 64, .ro, 0, 0, false, []⟩
def KSCH_FRM_TIME_TIME : Fld := ⟨0x31, 0x90, 16, 0, 96, .ro, 0, 0, false, []⟩
def KSCH_CNT_LATE_COUNT : Fld := ⟨0x31, 0xa0, 4, 0, 32, .ro, 0, 4, false, []⟩
def KSCH_CNT_TRIM_COUNT : Fld := ⟨0x31, 0xb0, 4, 0, 32, .ro, 0, 0, false, []⟩
def KSCH_CNT_COLLAPSE_COUNT : Fld := ⟨0x31, 0xb4, 4, 0, 32, .ro, 0, 0, false, []⟩
def KSCH_CNT_FILLER_COUNT : Fld := ⟨0x31, 0xb8, 4, 0, 32, .ro, 0, 0, false, []⟩
def KSCH_CNT_SHIFT_COUNT : Fld := ⟨0x31, 0xbc, 4, 0, 32, .ro, 0, 0, false, []⟩
def KSCH_CNT_UNREL_COUNT : Fld := ⟨0x31, 0xc0, 4, 0, 32, .ro, 0, 0, false, []⟩
def KSCH_CNT_STRAY_COUNT : Fld := ⟨0x31, 0xc4, 4, 0, 32, .ro, 0, 0, false, []⟩
def KSCH_ERR_LIST_LATE : Fld := ⟨0x31, 0x10, 4, 21, 1, .w1c, 0, 0, false, []⟩
def KSCH_ERR_PREF_LOOP : Fld := ⟨0x31, 0x10, 4, 20, 1, .w1c, 0, 0, false, []⟩
def KSCH_ERR_LATE : Fld := ⟨0x31, 0x10, 4, 19, 1, .w1c, 0, 0, false, []⟩
def KSCH_ERR_OVERLOAD : Fld := ⟨0x31, 0x10, 4, 18, 1, .w1c, 0, 0, false, []⟩
def KSCH_ERR_CLAMPED : Fld := ⟨0x31, 0x10, 4, 17, 1, .w1c, 0, 0, false, []⟩
def KSCH_ERR_NOT_ADMITTED : Fld := ⟨0x31, 0x10, 4, 16, 1, .w1c, 0, 0, false, []⟩
/-! ### Table 07-10 -/
def WQ_RSY_DSEQ : Fld := ⟨0x58, 0x40, 8, 32, 32, .ro, 0, 0, false, []⟩
def WQ_RSY_HSEQ : Fld := ⟨0x58, 0x40, 8, 0, 32, .ro, 0, 0, false, []⟩
def WQ_RSY_CTL_SQUASH : Fld := ⟨0x58, 0x48, 4, 2, 1, .wo, 0, 0, false, []⟩
def WQ_RSY_CTL_RESUME : Fld := ⟨0x58, 0x48, 4, 1, 1, .wo, 0, 0, false, []⟩
def WQ_RSY_CTL_QUIESCE : Fld := ⟨0x58, 0x48, 4, 0, 1, .wo, 0, 0, false, []⟩
def WQ_RSY_STAT_INFLIGHT : Fld := ⟨0x58, 0x4c, 4, 8, 24, .ro, 0, 0, false, []⟩
def WQ_RSY_STAT_DRAINED : Fld := ⟨0x58, 0x4c, 4, 1, 1, .ro, 0, 0, false, []⟩
def WQ_RSY_STAT_QUIESCED : Fld := ⟨0x58, 0x4c, 4, 0, 1, .ro, 0, 0, false, []⟩
def WQ_BASE_ADDR : Fld := ⟨0x58, 0x100, 8, 0, 64, .rw, 0, 48, false, []⟩
def WQ_CFG_ENABLE : Fld := ⟨0x58, 0x108, 4, 31, 1, .rw, 0, 48, false, []⟩
def WQ_CFG_TYPE : Fld := ⟨0x58, 0x108, 4, 16, 4, .rw, 0, 48, true, [(0, 6)]⟩
def WQ_CFG_CQ : Fld := ⟨0x58, 0x108, 4, 4, 10, .rw, 0, 48, false, []⟩
def WQ_CFG_SIZE_LOG2 : Fld := ⟨0x58, 0x108, 4, 0, 4, .rw, 4, 48, false, [(4, 15)]⟩
def WQ_BIND_TARGET : Fld := ⟨0x58, 0x10c, 4, 0, 32, .rw, 0, 48, true, []⟩
def WQ_SCHED_BURST : Fld := ⟨0x58, 0x110, 4, 8, 7, .rw, 1, 48, true, [(1, 64)]⟩
def WQ_SCHED_WEIGHT : Fld := ⟨0x58, 0x110, 4, 0, 8, .rw, 1, 48, true, [(1, 255)]⟩
def WQ_IDX_TAIL : Fld := ⟨0x58, 0x114, 4, 16, 16, .ro, 0, 48, false, []⟩
def WQ_IDX_HEAD : Fld := ⟨0x58, 0x114, 4, 0, 16, .ro, 0, 48, false, []⟩
def WQ_HSEQ_HSEQ : Fld := ⟨0x58, 0x118, 4, 0, 32, .ro, 0, 48, false, []⟩
def WQ_STAT_INFLIGHT : Fld := ⟨0x58, 0x11c, 4, 16, 16, .ro, 0, 48, false, []⟩
def WQ_STAT_HALT_STATUS : Fld := ⟨0x58, 0x11c, 4, 8, 8, .ro, 0, 48, false, []⟩
def WQ_STAT_SEQ_ERR : Fld := ⟨0x58, 0x11c, 4, 5, 1, .w1c, 0, 48, false, []⟩
def WQ_STAT_DB_ERR : Fld := ⟨0x58, 0x11c, 4, 4, 1, .w1c, 0, 48, false, []⟩
def WQ_STAT_IDLE : Fld := ⟨0x58, 0x11c, 4, 3, 1, .ro, 1, 48, false, []⟩
def WQ_STAT_QUIESCED : Fld := ⟨0x58, 0x11c, 4, 2, 1, .ro, 0, 48, false, []⟩
def WQ_STAT_PARKED : Fld := ⟨0x58, 0x11c, 4, 1, 1, .ro, 0, 48, false, []⟩
def WQ_STAT_HALTED : Fld := ⟨0x58, 0x11c, 4, 0, 1, .ro, 0, 48, false, []⟩
def WQ_CMD_ABORT : Fld := ⟨0x58, 0x120, 4, 1, 1, .wo, 0, 48, false, []⟩
def WQ_CMD_RESUME : Fld := ⟨0x58, 0x120, 4, 0, 1, .wo, 0, 48, false, []⟩
def WQ_CNT_DB_ERRS : Fld := ⟨0x58, 0x124, 4, 16, 16, .ro, 0, 48, false, []⟩
def WQ_CNT_CACHED : Fld := ⟨0x58, 0x124, 4, 0, 5, .ro, 0, 48, false, []⟩
/-! ### Table 07-12 -/
def CQ_BASE_ADDR : Fld := ⟨0x59, 0x100, 8, 0, 64, .rw, 0, 32, false, []⟩
def CQ_CFG_ENABLE : Fld := ⟨0x59, 0x108, 4, 31, 1, .rw, 0, 32, false, []⟩
def CQ_CFG_EV_EN : Fld := ⟨0x59, 0x108, 4, 30, 1, .rw, 0, 32, false, []⟩
def CQ_CFG_COAL_US : Fld := ⟨0x59, 0x108, 4, 16, 8, .rw, 0, 32, false, []⟩
def CQ_CFG_COAL_CNT : Fld := ⟨0x59, 0x108, 4, 8, 8, .rw, 1, 32, false, [(1, 255)]⟩
def CQ_CFG_SIZE_LOG2 : Fld := ⟨0x59, 0x108, 4, 0, 4, .rw, 4, 32, false, [(4, 15)]⟩
def CQ_HEAD_COUNT : Fld := ⟨0x59, 0x10c, 4, 0, 32, .rw, 0, 32, false, []⟩
def CQ_TAIL_COUNT : Fld := ⟨0x59, 0x110, 4, 0, 32, .ro, 0, 32, false, []⟩
def CQ_STAT_RESERVED_SLOTS : Fld := ⟨0x59, 0x114, 4, 16, 16, .ro, 0, 32, false, []⟩
def CQ_STAT_HELD : Fld := ⟨0x59, 0x114, 4, 8, 8, .ro, 0, 32, false, []⟩
def CQ_STAT_HEAD_ERR : Fld := ⟨0x59, 0x114, 4, 4, 1, .w1c, 0, 32, false, []⟩
def CQ_STAT_OVERFLOW : Fld := ⟨0x59, 0x114, 4, 3, 1, .w1c, 0, 32, false, []⟩
def CQ_STAT_PARKED : Fld := ⟨0x59, 0x114, 4, 2, 1, .ro, 0, 32, false, []⟩
def CQ_STAT_FULL : Fld := ⟨0x59, 0x114, 4, 1, 1, .ro, 0, 32, false, []⟩
def CQ_STAT_ARMED : Fld := ⟨0x59, 0x114, 4, 0, 1, .ro, 0, 32, false, []⟩
def CQ_LOST_COUNT : Fld := ⟨0x59, 0x118, 4, 0, 32, .ro, 0, 32, false, []⟩
def CQ_ARM_ARM : Fld := ⟨0x59, 0x11c, 4, 0, 1, .wo, 0, 32, false, []⟩
/-! ### Table 08-12 -/
def DMA_CTL_ENABLE : Fld := ⟨0x50, 0x40, 4, 31, 1, .rw, 0, 0, false, []⟩
def DMA_CTL_SRC : Fld := ⟨0x50, 0x40, 4, 29, 2, .rw, 0, 0, false, [(0, 2)]⟩
def DMA_CTL_EV_EN : Fld := ⟨0x50, 0x40, 4, 28, 1, .rw, 0, 0, false, []⟩
def DMA_CTL_SHEAF : Fld := ⟨0x50, 0x40, 4, 22, 6, .rw, 0, 0, true, []⟩
def DMA_CTL_POLL_US : Fld := ⟨0x50, 0x40, 4, 8, 8, .rw, 0, 0, false, []⟩
def DMA_CTL_SIZE_LOG2 : Fld := ⟨0x50, 0x40, 4, 0, 4, .rw, 4, 0, false, [(4, 15)]⟩
def DMA_CMD_DISCARD_PARKED : Fld := ⟨0x50, 0x44, 4, 3, 1, .wo, 0, 0, false, []⟩
def DMA_CMD_GO : Fld := ⟨0x50, 0x44, 4, 2, 1, .wo, 0, 0, false, []⟩
def DMA_CMD_STOP : Fld := ⟨0x50, 0x44, 4, 1, 1, .wo, 0, 0, false, []⟩
def DMA_CMD_KICK : Fld := ⟨0x50, 0x44, 4, 0, 1, .wo, 0, 0, false, []⟩
def DMA_RING_BASE_ADDR : Fld := ⟨0x50, 0x48, 8, 0, 64, .rw, 0, 0, false, []⟩
def DMA_RING_IDX_NEXT : Fld := ⟨0x50, 0x50, 4, 0, 16, .ro, 0, 0, false, []⟩
def DMA_STAT_LAST_STATUS : Fld := ⟨0x50, 0x54, 4, 24, 8, .ro, 0, 0, false, []⟩
def DMA_STAT_PARK_AT : Fld := ⟨0x50, 0x54, 4, 10, 2, .ro, 0, 0, false, []⟩
def DMA_STAT_PACE_GO : Fld := ⟨0x50, 0x54, 4, 9, 1, .ro, 0, 0, false, []⟩
def DMA_STAT_STOP_PENDING : Fld := ⟨0x50, 0x54, 4, 8, 1, .ro, 0, 0, false, []⟩
def DMA_STAT_STATE : Fld := ⟨0x50, 0x54, 4, 0, 3, .ro, 0, 0, false, []⟩
def DMA_CURSOR_INDEX : Fld := ⟨0x50, 0x58, 8, 32, 16, .ro, 0, 0, false, []⟩
def DMA_CURSOR_UNITS : Fld := ⟨0x50, 0x58, 8, 0, 32, .ro, 0, 0, false, []⟩
def DMA_PACE_CTL_OBJ : Fld := ⟨0x50, 0x60, 4, 16, 10, .rw, 0, 0, false, []⟩
def DMA_PACE_CTL_RING_OUT : Fld := ⟨0x50, 0x60, 4, 4, 1, .rw, 0, 0, false, []⟩
def DMA_PACE_CTL_SIDE : Fld := ⟨0x50, 0x60, 4, 3, 1, .rw, 0, 0, false, []⟩
def DMA_PACE_CTL_KIND : Fld := ⟨0x50, 0x60, 4, 0, 3, .rw, 0, 0, false, [(0, 3)]⟩
def DMA_PACE_LEVEL_LEVEL : Fld := ⟨0x50, 0x64, 4, 0, 32, .ro, 0, 0, false, []⟩
def DMA_PACE_ADDR_ADDR : Fld := ⟨0x50, 0x68, 8, 0, 64, .rw, 0, 0, false, []⟩
def DMA_PACE_MARK_HIGH : Fld := ⟨0x50, 0x70, 8, 32, 32, .rw, 0, 0, false, []⟩
def DMA_PACE_MARK_LOW : Fld := ⟨0x50, 0x70, 8, 0, 32, .rw, 0, 0, false, []⟩
def DMA_CNT_DESC_COUNT : Fld := ⟨0x50, 0x78, 4, 0, 32, .ro, 0, 0, false, []⟩
def DMA_CNT_PARK_COUNT : Fld := ⟨0x50, 0x7c, 4, 0, 32, .ro, 0, 0, false, []⟩
def DMA_CNT_BYTES_COUNT : Fld := ⟨0x50, 0x80, 8, 0, 64, .ro, 0, 0, false, []⟩
def DMA_ERR_PACE_FAULT : Fld := ⟨0x50, 0x10, 4, 17, 1, .w1c, 0, 0, false, []⟩
def DMA_ERR_DESC_ERR : Fld := ⟨0x50, 0x10, 4, 16, 1, .w1c, 0, 0, false, []⟩
/-! ### Table 09-12 -/
def EMAC_CFG_FEC : Fld := ⟨0x40, 0x40, 4, 18, 2, .rwc, 2, 0, true, [(0, 2)]⟩
def EMAC_CFG_MEDIUM : Fld := ⟨0x40, 0x40, 4, 16, 2, .rwc, 1, 0, true, [(0, 2)]⟩
def EMAC_CFG_AN_EN : Fld := ⟨0x40, 0x40, 4, 8, 1, .rwc, 1, 0, true, []⟩
def EMAC_CFG_TYPE : Fld := ⟨0x40, 0x40, 4, 0, 4, .rwc, 3, 0, true, [(1, 6)]⟩
def EMAC_CTL_SNAP_PREF : Fld := ⟨0x40, 0x44, 4, 8, 3, .rwc, 0, 0, false, []⟩
def EMAC_CTL_VLAN_STRIP : Fld := ⟨0x40, 0x44, 4, 2, 1, .rwc, 0, 0, false, []⟩
def EMAC_CTL_DOWN_DROP : Fld := ⟨0x40, 0x44, 4, 1, 1, .rwc, 0, 0, false, []⟩
def EMAC_CTL_ENABLE : Fld := ⟨0x40, 0x44, 4, 0, 1, .rwc, 0, 0, true, []⟩
def EMAC_MTU_MTU : Fld := ⟨0x40, 0x48, 4, 0, 15, .rwc, 1522, 0, false, [(64, 16384)]⟩
def EMAC_TUN_GENEVE_PORT : Fld := ⟨0x40, 0x4c, 4, 16, 16, .rwc, 6081, 0, false, []⟩
def EMAC_TUN_VXLAN_PORT : Fld := ⟨0x40, 0x4c, 4, 0, 16, .rwc, 4789, 0, false, []⟩
def EMAC_ADDR_ADDR : Fld := ⟨0x40, 0x50, 8, 0, 48, .rwc, 0, 0, true, []⟩
def EMAC_LSX_DWELL : Fld := ⟨0x40, 0x58, 4, 24, 8, .rwc, 100, 0, true, [(1, 255)]⟩
def EMAC_LSX_UP_PCT : Fld := ⟨0x40, 0x58, 4, 16, 8, .rwc, 70, 0, true, [(1, 100)]⟩
def EMAC_LSX_SHED_PCT : Fld := ⟨0x40, 0x58, 4, 8, 8, .rwc, 30, 0, true, [(1, 100)]⟩
def EMAC_LSX_MIN_LANES : Fld := ⟨0x40, 0x58, 4, 1, 2, .rwc, 0, 0, true, []⟩
def EMAC_LSX_LPM_EN : Fld := ⟨0x40, 0x58, 4, 0, 1, .rwc, 0, 0, true, []⟩
def EMAC_CMD_RETRAIN : Fld := ⟨0x40, 0x5c, 4, 1, 1, .wo, 0, 0, false, []⟩
def EMAC_CMD_WIDEN : Fld := ⟨0x40, 0x5c, 4, 0, 1, .wo, 0, 0, false, []⟩
def EMAC_STAT_LANES : Fld := ⟨0x40, 0x60, 4, 12, 2, .ro, 0, 0, false, []⟩
def EMAC_STAT_LSX_STATE : Fld := ⟨0x40, 0x60, 4, 10, 2, .ro, 0, 0, false, []⟩
def EMAC_STAT_LEADER : Fld := ⟨0x40, 0x60, 4, 9, 1, .ro, 0, 0, false, []⟩
def EMAC_STAT_PARTNER_ZHOEM : Fld := ⟨0x40, 0x60, 4, 8, 1, .ro, 0, 0, false, []⟩
def EMAC_STAT_REMOTE_FAULT : Fld := ⟨0x40, 0x60, 4, 4, 1, .ro, 0, 0, false, []⟩
def EMAC_STAT_LOCAL_FAULT : Fld := ⟨0x40, 0x60, 4, 3, 1, .ro, 0, 0, false, []⟩
def EMAC_STAT_AN_DONE : Fld := ⟨0x40, 0x60, 4, 2, 1, .ro, 0, 0, false, []⟩
def EMAC_STAT_FEC_LOCK : Fld := ⟨0x40, 0x60, 4, 1, 1, .ro, 0, 0, false, []⟩
def EMAC_STAT_LINK_UP : Fld := ⟨0x40, 0x60, 4, 0, 1, .ro, 0, 0, false, []⟩
def EMAC_UTIL_UTIL : Fld := ⟨0x40, 0x64, 4, 0, 10, .ro, 0, 0, false, []⟩
def EMAC_TPID_TPID : Fld := ⟨0x40, 0x68, 4, 0, 16, .rwc, 37120, 0, false, []⟩
def EMAC_TC_RATE_BURST : Fld := ⟨0x40, 0x80, 8, 32, 16, .rwc, 256, 8, true, [(1, 65535)]⟩
def EMAC_TC_RATE_RATE : Fld := ⟨0x40, 0x80, 8, 0, 17, .rwc, 0, 8, true, []⟩
def EMAC_CNT_RX_FRAMES_COUNT : Fld := ⟨0x40, 0xc0, 8, 0, 64, .ro, 0, 0, false, []⟩
def EMAC_CNT_RX_BYTES_COUNT : Fld := ⟨0x40, 0xc8, 8, 0, 64, .ro, 0, 0, false, []⟩
def EMAC_CNT_RX_FCS_COUNT : Fld := ⟨0x40, 0xd0, 8, 0, 64, .ro, 0, 0, false, []⟩
def EMAC_CNT_RX_RUNT_COUNT : Fld := ⟨0x40, 0xd8, 8, 0, 64, .ro, 0, 0, false, []⟩
def EMAC_CNT_RX_OVERSIZE_COUNT : Fld := ⟨0x40, 0xe0, 8, 0, 64, .ro, 0, 0, false, []⟩
def EMAC_CNT_RX_NO_BUF_COUNT : Fld := ⟨0x40, 0xe8, 8, 0, 64, .ro, 0, 0, false, []⟩
def EMAC_CNT_TX_FRAMES_COUNT : Fld := ⟨0x40, 0xf0, 8, 0, 64, .ro, 0, 0, false, []⟩
def EMAC_CNT_TX_BYTES_COUNT : Fld := ⟨0x40, 0xf8, 8, 0, 64, .ro, 0, 0, false, []⟩
def EMAC_CNT_TX_DOWN_DROP_COUNT : Fld := ⟨0x40, 0x100, 8, 0, 64, .ro, 0, 0, false, []⟩
def EMAC_CNT_FEC_CORR_COUNT : Fld := ⟨0x40, 0x108, 8, 0, 64, .ro, 0, 0, false, []⟩
def EMAC_CNT_FEC_UNC_COUNT : Fld := ⟨0x40, 0x110, 8, 0, 64, .ro, 0, 0, false, []⟩
def EMAC_CNT_LINK_COUNT : Fld := ⟨0x40, 0x118, 4, 0, 32, .ro, 0, 0, false, []⟩
def EMAC_CNT_LSX_COUNT : Fld := ⟨0x40, 0x11c, 4, 0, 32, .ro, 0, 0, false, []⟩
def EMAC_CNT_TC_COUNT : Fld := ⟨0x40, 0x120, 8, 0, 64, .ro, 0, 8, false, []⟩
def EMAC_CNT_RXQ_COUNT : Fld := ⟨0x40, 0x160, 8, 0, 64, .ro, 0, 8, false, []⟩
def EMAC_ERR_LSX_FAIL : Fld := ⟨0x40, 0x10, 4, 20, 1, .w1c, 0, 0, false, []⟩
def EMAC_ERR_LINK_DOWN : Fld := ⟨0x40, 0x10, 4, 19, 1, .w1c, 0, 0, false, []⟩
def EMAC_ERR_CFG_CONFLICT : Fld := ⟨0x40, 0x10, 4, 18, 1, .w1c, 0, 0, false, []⟩
def EMAC_ERR_FEC_UNC : Fld := ⟨0x40, 0x10, 4, 17, 1, .w1c, 0, 0, false, []⟩
def EMAC_ERR_TX_DESC_ERR : Fld := ⟨0x40, 0x10, 4, 16, 1, .w1c, 0, 0, false, []⟩
/-! ### Table 10-6 -/
def EFLT_CTL_RX_TS : Fld := ⟨0x41, 0x40, 4, 10, 2, .rwc, 1, 0, false, [(0, 2)]⟩
def EFLT_CTL_MAGIC_EN : Fld := ⟨0x41, 0x40, 4, 9, 1, .rwc, 0, 0, false, []⟩
def EFLT_CTL_WAKE_EN : Fld := ⟨0x41, 0x40, 4, 8, 1, .rwc, 0, 0, true, []⟩
def EFLT_CTL_VLAN_EN : Fld := ⟨0x41, 0x40, 4, 7, 1, .rwc, 0, 0, false, []⟩
def EFLT_CTL_UNTAGGED_EN : Fld := ⟨0x41, 0x40, 4, 6, 1, .rwc, 1, 0, false, []⟩
def EFLT_CTL_PROMISC : Fld := ⟨0x41, 0x40, 4, 5, 1, .rwc, 0, 0, false, []⟩
def EFLT_CTL_MHASH_EN : Fld := ⟨0x41, 0x40, 4, 4, 1, .rwc, 0, 0, false, []⟩
def EFLT_CTL_LL_EN : Fld := ⟨0x41, 0x40, 4, 3, 1, .rwc, 1, 0, false, []⟩
def EFLT_CTL_BCAST_EN : Fld := ⟨0x41, 0x40, 4, 2, 1, .rwc, 1, 0, false, []⟩
def EFLT_FC_CTL_QUANTA : Fld := ⟨0x41, 0x44, 4, 16, 16, .rwc, 65535, 0, false, []⟩
def EFLT_FC_CTL_PFC_EN : Fld := ⟨0x41, 0x44, 4, 8, 8, .rwc, 0, 0, false, []⟩
def EFLT_FC_CTL_UNTAG_PRIO : Fld := ⟨0x41, 0x44, 4, 5, 3, .rwc, 0, 0, false, []⟩
def EFLT_FC_CTL_TX_EN : Fld := ⟨0x41, 0x44, 4, 3, 1, .rwc, 0, 0, false, []⟩
def EFLT_FC_CTL_RX_EN : Fld := ⟨0x41, 0x44, 4, 2, 1, .rwc, 0, 0, false, []⟩
def EFLT_FC_CTL_MODE : Fld := ⟨0x41, 0x44, 4, 0, 2, .rwc, 0, 0, false, [(0, 2)]⟩
def EFLT_QMASK_PROMISC_MASK : Fld := ⟨0x41, 0x48, 8, 32, 8, .rwc, 1, 0, false, []⟩
def EFLT_QMASK_MCAST_MASK : Fld := ⟨0x41, 0x48, 8, 24, 8, .rwc, 1, 0, false, []⟩
def EFLT_QMASK_LL_MASK : Fld := ⟨0x41, 0x48, 8, 16, 8, .rwc, 1, 0, false, []⟩
def EFLT_QMASK_BCAST_MASK : Fld := ⟨0x41, 0x48, 8, 8, 8, .rwc, 1, 0, false, []⟩
def EFLT_QMASK_OWN_MASK : Fld := ⟨0x41, 0x48, 8, 0, 8, .rwc, 1, 0, false, []⟩
def EFLT_RXSHARE_UNITS : Fld := ⟨0x41, 0x50, 4, 0, 16, .rwc, 64, 0, true, []⟩
def EFLT_FC_MARK_XOFF : Fld := ⟨0x41, 0x54, 4, 16, 16, .rwc, 896, 0, true, []⟩
def EFLT_FC_MARK_XON : Fld := ⟨0x41, 0x54, 4, 0, 16, .rwc, 768, 0, true, []⟩
def EFLT_FC_STAT_TX_PAUSED : Fld := ⟨0x41, 0x58, 4, 16, 8, .ro, 0, 0, false, []⟩
def EFLT_FC_STAT_ASSERTED : Fld := ⟨0x41, 0x58, 4, 8, 8, .ro, 0, 0, false, []⟩
def EFLT_FC_STAT_BP : Fld := ⟨0x41, 0x58, 4, 0, 8, .ro, 0, 0, false, []⟩
def EFLT_WAKE_CMD_LOAD : Fld := ⟨0x41, 0x5c, 4, 0, 1, .wo, 0, 0, false, []⟩
def EFLT_WAKE_BASE_ADDR : Fld := ⟨0x41, 0x60, 8, 0, 64, .rw, 0, 0, false, []⟩
def EFLT_WAKE_STAT_LOAD_RESULT : Fld := ⟨0x41, 0x68, 4, 24, 8, .ro, 0, 0, false, []⟩
def EFLT_WAKE_STAT_LAST_PAT : Fld := ⟨0x41, 0x68, 4, 8, 6, .ro, 0, 0, false, []⟩
def EFLT_WAKE_STAT_LOADED : Fld := ⟨0x41, 0x68, 4, 1, 1, .ro, 0, 0, false, []⟩
def EFLT_WAKE_STAT_MATCHED : Fld := ⟨0x41, 0x68, 4, 0, 1, .w1c, 0, 0, false, []⟩
def EFLT_CNT_ADDR_DROP_COUNT : Fld := ⟨0x41, 0x70, 8, 0, 64, .ro, 0, 0, false, []⟩
def EFLT_CNT_VLAN_DROP_COUNT : Fld := ⟨0x41, 0x78, 8, 0, 64, .ro, 0, 0, false, []⟩
def EFLT_CNT_CTRL_COUNT : Fld := ⟨0x41, 0x80, 8, 0, 64, .ro, 0, 0, false, []⟩
def EFLT_CNT_CTRL_DROP_COUNT : Fld := ⟨0x41, 0x88, 8, 0, 64, .ro, 0, 0, false, []⟩
def EFLT_CNT_PAUSE_TX_COUNT : Fld := ⟨0x41, 0x90, 8, 0, 64, .ro, 0, 0, false, []⟩
def EFLT_CNT_SLEEP_DROP_COUNT : Fld := ⟨0x41, 0x98, 8, 0, 64, .ro, 0, 0, false, []⟩
def EFLT_MHASH_BITS : Fld := ⟨0x41, 0xc0, 8, 0, 64, .rwc, 0, 8, false, []⟩
def EFLT_VLAN_BITS : Fld := ⟨0x41, 0x200, 8, 0, 64, .rwc, 0, 8, false, []⟩
def EFLT_EM_SEL_INDEX : Fld := ⟨0x41, 0x40, 4, 0, 13, .rwc, 0, 0, false, []⟩
def EFLT_EM_RD_SEL_INDEX : Fld := ⟨0x41, 0x44, 4, 0, 13, .rw, 0, 0, false, []⟩
def EFLT_EM_DATA_RXQ_MASK : Fld := ⟨0x41, 0x50, 16, 64, 8, .rwc, 0, 0, false, []⟩
def EFLT_EM_DATA_ACTION : Fld := ⟨0x41, 0x50, 16, 57, 1, .rwc, 0, 0, false, []⟩
def EFLT_EM_DATA_VALID : Fld := ⟨0x41, 0x50, 16, 56, 1, .rwc, 0, 0, false, []⟩
def EFLT_EM_DATA_ANY_PORT : Fld := ⟨0x41, 0x50, 16, 55, 1, .rwc, 0, 0, false, []⟩
def EFLT_EM_DATA_PORT : Fld := ⟨0x41, 0x50, 16, 48, 7, .rwc, 0, 0, false, []⟩
def EFLT_EM_DATA_ADDR : Fld := ⟨0x41, 0x50, 16, 0, 48, .rwc, 0, 0, false, []⟩
def EFLT_EM_RD_ENTRY : Fld := ⟨0x41, 0x60, 16, 0, 128, .ro, 0, 0, false, []⟩
def EFLT_ERR_WAKE_REFUSED : Fld := ⟨0x41, 0x10, 4, 20, 1, .w1c, 0, 0, false, []⟩
def EFLT_ERR_SHARE_OVER : Fld := ⟨0x41, 0x10, 4, 19, 1, .w1c, 0, 0, false, []⟩
def EFLT_ERR_MARK_BAD : Fld := ⟨0x41, 0x10, 4, 18, 1, .w1c, 0, 0, false, []⟩
def EFLT_ERR_WAKE_LOAD_FAIL : Fld := ⟨0x41, 0x10, 4, 16, 1, .w1c, 0, 0, false, []⟩
/-! ### Table 10-8 -/
def ESTR_CTL_INNER : Fld := ⟨0x42, 0x40, 4, 3, 1, .rwc, 0, 0, false, []⟩
def ESTR_CTL_DEF_RXQ : Fld := ⟨0x42, 0x40, 4, 0, 3, .rwc, 0, 0, false, []⟩
def ESTR_CMD_REKEY : Fld := ⟨0x42, 0x44, 4, 0, 1, .wo, 0, 0, true, []⟩
def ESTR_IMB_THRESH : Fld := ⟨0x42, 0x48, 4, 24, 8, .rwc, 32, 0, true, [(17, 255)]⟩
def ESTR_IMB_HOLD : Fld := ⟨0x42, 0x48, 4, 16, 8, .rwc, 10, 0, true, [(1, 255)]⟩
def ESTR_IMB_MIN : Fld := ⟨0x42, 0x48, 4, 0, 16, .rwc, 10, 0, true, []⟩
def ESTR_STAT_KEY_GEN : Fld := ⟨0x42, 0x4c, 4, 16, 16, .ro, 0, 0, false, []⟩
def ESTR_STAT_BACKOFF : Fld := ⟨0x42, 0x4c, 4, 8, 3, .ro, 0, 0, false, []⟩
def ESTR_STAT_IMB_ABOVE : Fld := ⟨0x42, 0x4c, 4, 2, 1, .ro, 0, 0, false, []⟩
def ESTR_STAT_DRAINING : Fld := ⟨0x42, 0x4c, 4, 1, 1, .ro, 0, 0, false, []⟩
def ESTR_STAT_PROVISIONAL : Fld := ⟨0x42, 0x4c, 4, 0, 1, .ro, 1, 0, false, []⟩
def ESTR_RXQ_TASK_EN : Fld := ⟨0x42, 0x50, 4, 31, 1, .rwc, 0, 4, true, []⟩
def ESTR_RXQ_FAULT_POL : Fld := ⟨0x42, 0x50, 4, 30, 1, .rwc, 0, 4, true, []⟩
def ESTR_RXQ_SHEAF : Fld := ⟨0x42, 0x50, 4, 24, 6, .rwc, 0, 4, true, []⟩
def ESTR_RXQ_BP_MASK : Fld := ⟨0x42, 0x50, 4, 16, 8, .rwc, 0, 4, true, []⟩
def ESTR_RXQ_INST : Fld := ⟨0x42, 0x50, 4, 0, 7, .rwc, 0, 4, true, []⟩
def ESTR_IND_ENTRIES : Fld := ⟨0x42, 0x70, 8, 0, 64, .rwc, 0, 8, false, []⟩
def ESTR_CNT_HIT_COUNT : Fld := ⟨0x42, 0xb0, 8, 0, 64, .ro, 0, 0, false, []⟩
def ESTR_CNT_MISS_COUNT : Fld := ⟨0x42, 0xb8, 8, 0, 64, .ro, 0, 0, false, []⟩
def ESTR_CNT_DENIED_COUNT : Fld := ⟨0x42, 0xc0, 8, 0, 64, .ro, 0, 0, false, []⟩
def ESTR_CNT_DROP_COUNT : Fld := ⟨0x42, 0xc8, 8, 0, 64, .ro, 0, 0, false, []⟩
def ESTR_CNT_REKEY_COUNT : Fld := ⟨0x42, 0xd0, 4, 0, 32, .ro, 0, 0, false, []⟩
def ESTR_CNT_ORDER_BREAK_COUNT : Fld := ⟨0x42, 0xd4, 4, 0, 32, .ro, 0, 0, false, []⟩
def ESTR_CNT_SPREAD_BYTES : Fld := ⟨0x42, 0x100, 8, 0, 64, .ro, 0, 8, false, []⟩
def ESTR_BANK_SEL_ACTIVE : Fld := ⟨0x42, 0x40, 4, 0, 1, .rwc, 0, 0, false, []⟩
def ESTR_LOAD_CMD_LOAD : Fld := ⟨0x42, 0x44, 4, 2, 1, .wo, 0, 0, false, []⟩
def ESTR_LOAD_CMD_COPY : Fld := ⟨0x42, 0x44, 4, 1, 1, .wo, 0, 0, false, []⟩
def ESTR_LOAD_CMD_CLEAR : Fld := ⟨0x42, 0x44, 4, 0, 1, .wo, 0, 0, false, []⟩
def ESTR_LOAD_ADDR_ADDR : Fld := ⟨0x42, 0x48, 8, 0, 64, .rw, 0, 0, false, []⟩
def ESTR_LOAD_LEN_LEN : Fld := ⟨0x42, 0x50, 4, 0, 19, .rw, 0, 0, false, [(1, 262144)]⟩
def ESTR_LOAD_STAT_RUNNING : Fld := ⟨0x42, 0x58, 8, 63, 1, .ro, 0, 0, false, []⟩
def ESTR_LOAD_STAT_RESULT : Fld := ⟨0x42, 0x58, 8, 48, 8, .ro, 0, 0, false, []⟩
def ESTR_LOAD_STAT_FIRST_BAD : Fld := ⟨0x42, 0x58, 8, 24, 18, .ro, 0, 0, false, []⟩
def ESTR_LOAD_STAT_UNPLACED : Fld := ⟨0x42, 0x58, 8, 0, 19, .ro, 0, 0, false, []⟩
def ESTR_BANK_CNT_B1 : Fld := ⟨0x42, 0x60, 8, 32, 19, .ro, 0, 0, false, []⟩
def ESTR_BANK_CNT_B0 : Fld := ⟨0x42, 0x60, 8, 0, 19, .ro, 0, 0, false, []⟩
def ESTR_ERR_RXQ_MIXED : Fld := ⟨0x42, 0x10, 4, 19, 1, .w1c, 0, 0, false, []⟩
def ESTR_ERR_SWAP_BUSY : Fld := ⟨0x42, 0x10, 4, 18, 1, .w1c, 0, 0, false, []⟩
def ESTR_ERR_SWAP_NOW : Fld := ⟨0x42, 0x10, 4, 17, 1, .w1c, 0, 0, false, []⟩
/-! ### Table 10-10 -/
def MSEC_CTL_TX_REQUIRE : Fld := ⟨0x44, 0x40, 4, 3, 1, .rwc, 0, 0, false, []⟩
def MSEC_CTL_VALIDATE : Fld := ⟨0x44, 0x40, 4, 1, 2, .rwc, 0, 0, false, [(0, 2)]⟩
def MSEC_CTL_ENABLE : Fld := ⟨0x44, 0x40, 4, 0, 1, .rwc, 0, 0, false, []⟩
def MSEC_KEY_CMD_AN : Fld := ⟨0x44, 0x44, 4, 4, 2, .wo, 0, 0, false, []⟩
def MSEC_KEY_CMD_SC : Fld := ⟨0x44, 0x44, 4, 2, 2, .wo, 0, 0, false, []⟩
def MSEC_KEY_CMD_DIR : Fld := ⟨0x44, 0x44, 4, 1, 1, .wo, 0, 0, false, []⟩
def MSEC_KEY_CMD_LOAD : Fld := ⟨0x44, 0x44, 4, 0, 1, .wo, 0, 0, false, []⟩
def MSEC_SA_USE_IN_USE : Fld := ⟨0x44, 0x48, 4, 0, 32, .rwc, 0, 0, false, []⟩
def MSEC_SA_KEYED_KEYED : Fld := ⟨0x44, 0x4c, 4, 0, 32, .ro, 0, 0, false, []⟩
def MSEC_KEY_SAK_KEY : Fld := ⟨0x44, 0x50, 8, 0, 64, .wo, 0, 8, false, []⟩
def MSEC_KEY_SALT_SALT : Fld := ⟨0x44, 0x70, 16, 0, 96, .wo, 0, 0, false, []⟩
def MSEC_KEY_PN_PN : Fld := ⟨0x44, 0x80, 8, 0, 64, .wo, 0, 0, false, []⟩
def MSEC_KEY_SSCI_SSCI : Fld := ⟨0x44, 0x88, 4, 0, 32, .wo, 0, 0, false, []⟩
def MSEC_TX_EXH_EXHAUSTED : Fld := ⟨0x44, 0x8c, 4, 0, 16, .ro, 0, 0, false, []⟩
def MSEC_TXSC_SCI_SCI : Fld := ⟨0x44, 0xa0, 8, 0, 64, .rwc, 0, 32, false, []⟩
def MSEC_TXSC_CTL_CONF : Fld := ⟨0x44, 0xa8, 4, 7, 1, .rwc, 1, 32, false, []⟩
def MSEC_TXSC_CTL_INCLUDE_SCI : Fld := ⟨0x44, 0xa8, 4, 6, 1, .rwc, 1, 32, false, []⟩
def MSEC_TXSC_CTL_ENC_AN : Fld := ⟨0x44, 0xa8, 4, 4, 2, .rwc, 0, 32, false, []⟩
def MSEC_TXSC_CTL_CIPHER : Fld := ⟨0x44, 0xa8, 4, 0, 2, .rwc, 0, 32, false, []⟩
def MSEC_TXSC_THRESH_PN : Fld := ⟨0x44, 0xb0, 8, 0, 64, .rwc, 3221225472, 32, false, []⟩
def MSEC_RXSC_SCI_SCI : Fld := ⟨0x44, 0x120, 8, 0, 64, .rwc, 0, 32, false, []⟩
def MSEC_RXSC_CTL_VALID : Fld := ⟨0x44, 0x128, 4, 7, 1, .rwc, 0, 32, false, []⟩
def MSEC_RXSC_CTL_REPLAY_EN : Fld := ⟨0x44, 0x128, 4, 6, 1, .rwc, 1, 32, false, []⟩
def MSEC_RXSC_CTL_CIPHER : Fld := ⟨0x44, 0x128, 4, 0, 2, .rwc, 0, 32, false, []⟩
def MSEC_RXSC_WIN_WINDOW : Fld := ⟨0x44, 0x12c, 4, 0, 32, .rwc, 0, 32, false, []⟩
def MSEC_SA_PN_PN : Fld := ⟨0x44, 0x200, 8, 0, 64, .ro, 0, 8, false, []⟩
def MSEC_CNT_TX_PROTECTED_COUNT : Fld := ⟨0x44, 0x300, 8, 0, 64, .ro, 0, 0, false, []⟩
def MSEC_CNT_TX_ENCRYPTED_COUNT : Fld := ⟨0x44, 0x308, 8, 0, 64, .ro, 0, 0, false, []⟩
def MSEC_CNT_TX_EXHAUSTED_COUNT : Fld := ⟨0x44, 0x310, 8, 0, 64, .ro, 0, 0, false, []⟩
def MSEC_CNT_RX_OK_COUNT : Fld := ⟨0x44, 0x318, 8, 0, 64, .ro, 0, 0, false, []⟩
def MSEC_CNT_RX_INVALID_COUNT : Fld := ⟨0x44, 0x320, 8, 0, 64, .ro, 0, 0, false, []⟩
def MSEC_CNT_RX_LATE_COUNT : Fld := ⟨0x44, 0x328, 8, 0, 64, .ro, 0, 0, false, []⟩
def MSEC_CNT_RX_NOSCI_COUNT : Fld := ⟨0x44, 0x330, 8, 0, 64, .ro, 0, 0, false, []⟩
def MSEC_CNT_RX_UNTAGGED_COUNT : Fld := ⟨0x44, 0x338, 8, 0, 64, .ro, 0, 0, false, []⟩
def MSEC_ERR_KEY_BUSY : Fld := ⟨0x44, 0x10, 4, 19, 1, .w1c, 0, 0, false, []⟩
def MSEC_ERR_AN_REFUSED : Fld := ⟨0x44, 0x10, 4, 18, 1, .w1c, 0, 0, false, []⟩
def MSEC_ERR_PN_EXHAUSTED : Fld := ⟨0x44, 0x10, 4, 17, 1, .w1c, 0, 0, false, []⟩
def MSEC_ERR_PN_THRESH : Fld := ⟨0x44, 0x10, 4, 16, 1, .w1c, 0, 0, false, []⟩
/-! ### Table 11-9 -/
def STK_STAT_RESERVE_LEFT : Fld := ⟨0x10, 0x40, 4, 16, 5, .ro, 16, 0, false, []⟩
def STK_TC_RSV_ENTRIES : Fld := ⟨0x10, 0x100, 4, 0, 9, .rwc, 0, 4, false, [(0, 256)]⟩
def STK_ERR_RSV_OVER : Fld := ⟨0x10, 0x10, 4, 16, 1, .w1c, 0, 0, false, []⟩
/-! ### Table 11-11 -/
def SHF_CFG_PER_SLOTS : Fld := ⟨0x11, 0x40, 4, 8, 13, .rwc, 512, 0, false, []⟩
def SHF_CFG_STREAM_ORDER : Fld := ⟨0x11, 0x40, 4, 3, 1, .rwc, 1, 0, false, []⟩
def SHF_CFG_PREEMPT_EN : Fld := ⟨0x11, 0x40, 4, 2, 1, .rwc, 1, 0, false, []⟩
def SHF_CFG_POLICY : Fld := ⟨0x11, 0x40, 4, 0, 1, .rwc, 0, 0, false, []⟩
def SHF_DL_PER_DL_FRAMES : Fld := ⟨0x11, 0x44, 4, 24, 4, .rwc, 2, 0, false, [(1, 15)]⟩
def SHF_DL_EV_DL_US : Fld := ⟨0x11, 0x44, 4, 0, 16, .rwc, 20, 0, false, [(1, 65535)]⟩
def SHF_PRIO_TX_PRIO : Fld := ⟨0x11, 0x48, 4, 16, 4, .rwc, 8, 0, false, []⟩
def SHF_PRIO_BULK_PRIO : Fld := ⟨0x11, 0x48, 4, 12, 4, .rwc, 6, 0, false, []⟩
def SHF_PRIO_EV_PRIO : Fld := ⟨0x11, 0x48, 4, 8, 4, .rwc, 14, 0, false, []⟩
def SHF_PRIO_RX_PRIO : Fld := ⟨0x11, 0x48, 4, 4, 4, .rwc, 8, 0, false, []⟩
def SHF_PRIO_PER_PRIO : Fld := ⟨0x11, 0x48, 4, 0, 4, .rwc, 12, 0, false, []⟩
def SHF_STAT_RESERVE_LEFT : Fld := ⟨0x11, 0x4c, 4, 30, 2, .ro, 2, 0, false, []⟩
def SHF_STAT_CTX_FREE : Fld := ⟨0x11, 0x4c, 4, 23, 7, .ro, 64, 0, false, []⟩
def SHF_STAT_CB_FREE : Fld := ⟨0x11, 0x4c, 4, 17, 6, .ro, 32, 0, false, []⟩
def SHF_STAT_PER_NEED : Fld := ⟨0x11, 0x4c, 4, 0, 13, .ro, 0, 0, false, []⟩
def SHF_LOAD_ADDR_ADDR : Fld := ⟨0x11, 0x50, 8, 0, 64, .rw, 0, 0, false, []⟩
def SHF_LOAD_CMD_LOAD : Fld := ⟨0x11, 0x58, 4, 31, 1, .wo, 0, 0, false, []⟩
def SHF_LOAD_CMD_INST : Fld := ⟨0x11, 0x58, 4, 24, 7, .wo, 0, 0, false, []⟩
def SHF_LOAD_CMD_SLOT : Fld := ⟨0x11, 0x58, 4, 16, 5, .wo, 0, 0, false, []⟩
def SHF_LOAD_CMD_LEN : Fld := ⟨0x11, 0x58, 4, 0, 11, .wo, 0, 0, false, []⟩
def SHF_LOAD_STAT_RUNNING : Fld := ⟨0x11, 0x5c, 4, 31, 1, .ro, 0, 0, false, []⟩
def SHF_LOAD_STAT_RESULT : Fld := ⟨0x11, 0x5c, 4, 16, 8, .ro, 0, 0, false, []⟩
def SHF_LOAD_STAT_SLOT_VALID : Fld := ⟨0x11, 0x5c, 4, 0, 16, .ro, 0, 0, false, []⟩
def SHF_HOOK_VALID : Fld := ⟨0x11, 0x60, 4, 31, 1, .rwc, 0, 4, false, []⟩
def SHF_HOOK_FAIL_ACT : Fld := ⟨0x11, 0x60, 4, 30, 1, .rwc, 0, 4, false, []⟩
def SHF_HOOK_SLOT : Fld := ⟨0x11, 0x60, 4, 20, 5, .rwc, 0, 4, false, []⟩
def SHF_HOOK_INST : Fld := ⟨0x11, 0x60, 4, 13, 7, .rwc, 0, 4, false, []⟩
def SHF_HOOK_BUDGET : Fld := ⟨0x11, 0x60, 4, 0, 13, .rwc, 0, 4, false, [(1, 8191)]⟩
def SHF_TXHOOK_VALID : Fld := ⟨0x11, 0x70, 4, 31, 1, .rwc, 0, 4, false, []⟩
def SHF_TXHOOK_QUEUE : Fld := ⟨0x11, 0x70, 4, 0, 14, .rwc, 0, 4, false, []⟩
def SHF_BULK_VALID : Fld := ⟨0x11, 0x90, 4, 31, 1, .rwc, 0, 4, false, []⟩
def SHF_BULK_QUEUE : Fld := ⟨0x11, 0x90, 4, 0, 14, .rwc, 0, 4, false, []⟩
def SHF_SHARE_PRIO_MAX : Fld := ⟨0x11, 0x100, 8, 60, 4, .rwc, 15, 8, false, []⟩
def SHF_SHARE_WEIGHT : Fld := ⟨0x11, 0x100, 8, 40, 8, .rwc, 1, 8, false, [(1, 255)]⟩
def SHF_SHARE_BURST : Fld := ⟨0x11, 0x100, 8, 32, 8, .rwc, 4, 8, false, [(1, 64)]⟩
def SHF_SHARE_MIN_TILLERS : Fld := ⟨0x11, 0x100, 8, 24, 5, .rwc, 0, 8, false, [(0, 16)]⟩
def SHF_SHARE_SLOTS : Fld := ⟨0x11, 0x100, 8, 0, 13, .rwc, 0, 8, false, []⟩
def SHF_ERR_HOOK_BAD : Fld := ⟨0x11, 0x10, 4, 18, 1, .w1c, 0, 0, false, []⟩
def SHF_ERR_SHARE_OVER : Fld := ⟨0x11, 0x10, 4, 17, 1, .w1c, 0, 0, false, []⟩
def SHF_ERR_PER_SHORT : Fld := ⟨0x11, 0x10, 4, 16, 1, .w1c, 0, 0, false, []⟩
/-! ### Table 11-12 -/
def TSK_STAT_READY : Fld := ⟨0x12, 0x40, 4, 16, 13, .ro, 0, 0, false, []⟩
def TSK_STAT_RUNNING : Fld := ⟨0x12, 0x40, 4, 8, 5, .ro, 0, 0, false, []⟩
def TSK_STAT_SUSPENDED : Fld := ⟨0x12, 0x40, 4, 0, 7, .ro, 0, 0, false, []⟩
def TSK_CB_HWM : Fld := ⟨0x12, 0x44, 4, 16, 6, .ro, 0, 0, false, []⟩
def TSK_CB_IN_USE : Fld := ⟨0x12, 0x44, 4, 0, 6, .ro, 0, 0, false, []⟩
def TSK_CNT_CREATED_COUNT : Fld := ⟨0x12, 0x48, 8, 0, 64, .ro, 0, 0, false, []⟩
def TSK_CNT_COMMIT_COUNT : Fld := ⟨0x12, 0x50, 8, 0, 64, .ro, 0, 0, false, []⟩
def TSK_CNT_PREEMPT_COUNT : Fld := ⟨0x12, 0x58, 4, 0, 32, .ro, 0, 0, false, []⟩
def TSK_CNT_REPLAY_COUNT : Fld := ⟨0x12, 0x5c, 4, 0, 32, .ro, 0, 0, false, []⟩
def TSK_CNT_ABORT_COUNT : Fld := ⟨0x12, 0x60, 4, 0, 32, .ro, 0, 0, false, []⟩
def TSK_CNT_LOST_COUNT : Fld := ⟨0x12, 0x64, 4, 0, 32, .ro, 0, 0, false, []⟩
def TSK_CNT_DL_MISS_COUNT : Fld := ⟨0x12, 0x68, 4, 0, 32, .ro, 0, 0, false, []⟩
def TSK_CNT_HOOK_OVER_COUNT : Fld := ⟨0x12, 0x6c, 4, 0, 32, .ro, 0, 0, false, []⟩
def TSK_CNT_NOTASK_COUNT : Fld := ⟨0x12, 0x70, 4, 0, 32, .ro, 0, 0, false, []⟩
def TSK_ERR_TASK_LOST : Fld := ⟨0x12, 0x10, 4, 18, 1, .w1c, 0, 0, false, []⟩
def TSK_ERR_PER_OVER : Fld := ⟨0x12, 0x10, 4, 17, 1, .w1c, 0, 0, false, []⟩
def TSK_ERR_HOOK_OVER : Fld := ⟨0x12, 0x10, 4, 16, 1, .w1c, 0, 0, false, []⟩
/-! ### Table 13-9 -/
def DTU_CTL_WALK_MAX : Fld := ⟨0x18, 0x40, 4, 8, 8, .rwc, 32, 0, false, [(1, 255)]⟩
def DTU_CTL_PRI_TMO : Fld := ⟨0x18, 0x40, 4, 0, 8, .rwc, 10, 0, false, [(1, 255)]⟩
def DTU_STAT_RSV_BANKS : Fld := ⟨0x18, 0x44, 4, 16, 8, .ro, 0, 0, false, []⟩
def DTU_STAT_WALKS : Fld := ⟨0x18, 0x44, 4, 0, 9, .ro, 0, 0, false, []⟩
def DTU_CNT_L1_MISS_COUNT : Fld := ⟨0x18, 0x48, 8, 0, 64, .ro, 0, 0, false, []⟩
def DTU_CNT_L2_MISS_COUNT : Fld := ⟨0x18, 0x50, 8, 0, 64, .ro, 0, 0, false, []⟩
def DTU_CNT_WALK_READ_COUNT : Fld := ⟨0x18, 0x58, 8, 0, 64, .ro, 0, 0, false, []⟩
def DTU_CNT_FAULT_COUNT : Fld := ⟨0x18, 0x60, 8, 0, 64, .ro, 0, 0, false, []⟩
def DTU_CNT_INV_COUNT : Fld := ⟨0x18, 0x68, 4, 0, 32, .ro, 0, 0, false, []⟩
def DTU_CNT_ATS_REQ_COUNT : Fld := ⟨0x18, 0x6c, 4, 0, 32, .ro, 0, 0, false, []⟩
def DTU_CNT_ATS_INV_COUNT : Fld := ⟨0x18, 0x70, 4, 0, 32, .ro, 0, 0, false, []⟩
def DTU_CNT_PRI_COUNT : Fld := ⟨0x18, 0x74, 4, 0, 32, .ro, 0, 0, false, []⟩
def DTU_L2_MAX_UNITS : Fld := ⟨0x18, 0x100, 4, 0, 8, .rwc, 64, 4, false, [(1, 255)]⟩
/-! ### Table 13-11 -/
def DLOG_ROOT_ADDR : Fld := ⟨0x19, 0x40, 8, 12, 40, .rwc, 0, 0, false, []⟩
def DLOG_ROOT_HOST : Fld := ⟨0x19, 0x40, 8, 1, 1, .rwc, 0, 0, false, []⟩
def DLOG_ROOT_VALID : Fld := ⟨0x19, 0x40, 8, 0, 1, .rwc, 0, 0, false, []⟩
def DLOG_ICTL_PRI_EN : Fld := ⟨0x19, 0x48, 4, 22, 1, .rwc, 0, 0, true, []⟩
def DLOG_ICTL_ATS_EN : Fld := ⟨0x19, 0x48, 4, 21, 1, .rwc, 0, 0, true, []⟩
def DLOG_ICTL_PASID_EN : Fld := ⟨0x19, 0x48, 4, 20, 1, .rwc, 0, 0, true, []⟩
def DLOG_ICTL_PASID : Fld := ⟨0x19, 0x48, 4, 0, 20, .rwc, 0, 0, true, []⟩
def DLOG_IST_INV_DONE : Fld := ⟨0x19, 0x4c, 4, 16, 16, .ro, 0, 0, false, []⟩
def DLOG_IST_INV_REQ : Fld := ⟨0x19, 0x4c, 4, 0, 16, .ro, 0, 0, false, []⟩
def DLOG_FQ_BASE_ADDR : Fld := ⟨0x19, 0x50, 8, 13, 51, .rwc, 0, 0, false, []⟩
def DLOG_FQ_BASE_HOST : Fld := ⟨0x19, 0x50, 8, 1, 1, .rwc, 0, 0, false, []⟩
def DLOG_FQ_BASE_VALID : Fld := ⟨0x19, 0x50, 8, 0, 1, .rwc, 0, 0, false, []⟩
def DLOG_FQ_HEAD_COUNT : Fld := ⟨0x19, 0x58, 4, 0, 32, .rw, 0, 0, false, []⟩
def DLOG_FQ_TAIL_COUNT : Fld := ⟨0x19, 0x5c, 4, 0, 32, .ro, 0, 0, false, []⟩
def DLOG_RESUME_ACTION : Fld := ⟨0x19, 0x60, 4, 30, 2, .wo, 0, 0, false, [(0, 2)]⟩
def DLOG_RESUME_FID : Fld := ⟨0x19, 0x60, 4, 0, 16, .wo, 0, 0, false, []⟩
def DLOG_FQ_STAT_LOST : Fld := ⟨0x19, 0x64, 4, 16, 16, .ro, 0, 0, false, []⟩
def DLOG_FQ_STAT_WAITING : Fld := ⟨0x19, 0x64, 4, 0, 16, .ro, 0, 0, false, []⟩
def DLOG_INV_COUNT : Fld := ⟨0x19, 0x68, 8, 52, 12, .wo, 0, 0, false, []⟩
def DLOG_INV_VA : Fld := ⟨0x19, 0x68, 8, 12, 36, .wo, 0, 0, false, []⟩
def DLOG_SPILL_VA_VA : Fld := ⟨0x19, 0x70, 8, 30, 18, .rwc, 0, 0, false, []⟩
def DLOG_SPILL_VA_VALID : Fld := ⟨0x19, 0x70, 8, 0, 1, .rwc, 0, 0, false, []⟩
def DLOG_SPILL_HEAD_UNITS : Fld := ⟨0x19, 0x78, 4, 0, 32, .ro, 0, 0, false, []⟩
def DLOG_SPILL_TAIL_UNITS : Fld := ⟨0x19, 0x7c, 4, 0, 32, .rw, 0, 0, false, []⟩
def DLOG_SPILL_SIZE_UNITS : Fld := ⟨0x19, 0x80, 4, 0, 32, .ro, 65536, 0, false, []⟩
def DLOG_LOG_CTL_ACTIVE : Fld := ⟨0x19, 0x84, 4, 1, 1, .rwc, 0, 0, true, []⟩
def DLOG_LOG_CTL_EN : Fld := ⟨0x19, 0x84, 4, 0, 1, .rwc, 0, 0, true, []⟩
def DLOG_LOG_BMP0_ADDR : Fld := ⟨0x19, 0x88, 8, 0, 64, .rwc, 0, 0, true, []⟩
def DLOG_LOG_BMP1_ADDR : Fld := ⟨0x19, 0x90, 8, 0, 64, .rwc, 0, 0, true, []⟩
def DLOG_LOG_BASE_ADDR : Fld := ⟨0x19, 0x98, 8, 0, 64, .rwc, 0, 0, true, []⟩
def DLOG_LOG_LEN_PAGES : Fld := ⟨0x19, 0xa0, 4, 0, 32, .rwc, 0, 0, true, []⟩
def DLOG_LOG_STAT_OUT_RANGE : Fld := ⟨0x19, 0xa4, 4, 3, 1, .w1c, 0, 0, false, []⟩
def DLOG_LOG_STAT_LOST1 : Fld := ⟨0x19, 0xa4, 4, 2, 1, .w1c, 0, 0, false, []⟩
def DLOG_LOG_STAT_LOST0 : Fld := ⟨0x19, 0xa4, 4, 1, 1, .w1c, 0, 0, false, []⟩
def DLOG_LOG_STAT_FLUSHING : Fld := ⟨0x19, 0xa4, 4, 0, 1, .ro, 0, 0, false, []⟩
def DLOG_LOG_FLUSH_EPOCH : Fld := ⟨0x19, 0xa8, 8, 0, 48, .ro, 0, 0, false, []⟩
def DLOG_CNT_FAULT_COUNT : Fld := ⟨0x19, 0xb0, 4, 0, 32, .ro, 0, 0, false, []⟩
def DLOG_SPILL_POS_UNITS : Fld := ⟨0x19, 0xb4, 4, 0, 32, .ro, 0, 0, false, []⟩
def DLOG_ERR_SWAP_NOW : Fld := ⟨0x19, 0x10, 4, 19, 1, .w1c, 0, 0, false, []⟩
def DLOG_ERR_FQ_ERR : Fld := ⟨0x19, 0x10, 4, 18, 1, .w1c, 0, 0, false, []⟩
def DLOG_ERR_SPILL_FULL : Fld := ⟨0x19, 0x10, 4, 17, 1, .w1c, 0, 0, false, []⟩
def DLOG_ERR_SPILL_ERR : Fld := ⟨0x19, 0x10, 4, 16, 1, .w1c, 0, 0, false, []⟩
/-! ### Table 14-9 -/
def INST_CTL_PORT : Fld := ⟨0x60, 0x40, 4, 16, 2, .rwc, 0, 0, true, []⟩
def INST_CTL_VF : Fld := ⟨0x60, 0x40, 4, 0, 6, .rwc, 0, 0, true, []⟩
def INST_CMD_CMD : Fld := ⟨0x60, 0x44, 4, 0, 3, .wo, 0, 0, true, [(1, 7)]⟩
def INST_STAT_RESETS : Fld := ⟨0x60, 0x48, 4, 16, 16, .ro, 0, 0, false, []⟩
def INST_STAT_VF_ENABLED : Fld := ⟨0x60, 0x48, 4, 3, 1, .ro, 0, 0, false, []⟩
def INST_STAT_STATE : Fld := ⟨0x60, 0x48, 4, 0, 3, .ro, 0, 0, false, []⟩
def INST_REFUSED_COUNT : Fld := ⟨0x60, 0x4c, 4, 0, 32, .ro, 0, 0, false, []⟩
def INST_MEM_SPILL : Fld := ⟨0x60, 0x50, 4, 16, 8, .rwc, 4, 0, true, [(4, 64)]⟩
def INST_MEM_DEV : Fld := ⟨0x60, 0x50, 4, 0, 16, .rwc, 0, 0, true, [(0, 40960)]⟩
def INST_IRQ_SOURCES : Fld := ⟨0x60, 0x54, 4, 0, 14, .rwc, 0, 0, true, [(0, 8192)]⟩
def INST_IMG_ADDR_ADDR : Fld := ⟨0x60, 0x58, 8, 0, 64, .rw, 0, 0, true, []⟩
def INST_CMD_STAT_RUNNING : Fld := ⟨0x60, 0x60, 4, 31, 1, .ro, 0, 0, true, []⟩
def INST_CMD_STAT_RESULT : Fld := ⟨0x60, 0x60, 4, 0, 8, .ro, 0, 0, true, []⟩
def INST_WQ_RANGE_COUNT : Fld := ⟨0x60, 0x80, 4, 16, 11, .rwc, 0, 4, true, []⟩
def INST_WQ_RANGE_FIRST : Fld := ⟨0x60, 0x80, 4, 0, 14, .rwc, 0, 4, true, []⟩
def INST_SBUF_UNITS : Fld := ⟨0x60, 0xa0, 4, 0, 11, .rwc, 0, 4, true, [(0, 1536)]⟩
def INST_DMA_MAP_BITS : Fld := ⟨0x60, 0xc0, 8, 0, 64, .rwc, 0, 8, true, []⟩
def INST_KRP_MAP_BITS : Fld := ⟨0x60, 0x100, 16, 0, 96, .rwc, 0, 0, true, []⟩
def INST_EMAC_MAP_BITS : Fld := ⟨0x60, 0x110, 16, 0, 96, .rwc, 0, 0, true, []⟩
def INST_GLN_MAP_BITS : Fld := ⟨0x60, 0x120, 8, 0, 64, .rwc, 0, 8, true, []⟩
def INST_KSTREAM_VALID : Fld := ⟨0x60, 0x140, 8, 48, 1, .rwc, 0, 8, true, []⟩
def INST_KSTREAM_EP_OUT : Fld := ⟨0x60, 0x140, 8, 32, 16, .rwc, 0, 8, true, []⟩
def INST_KSTREAM_EP_IN : Fld := ⟨0x60, 0x140, 8, 16, 16, .rwc, 0, 8, true, []⟩
def INST_KSTREAM_ADDR : Fld := ⟨0x60, 0x140, 8, 8, 8, .rwc, 0, 8, true, []⟩
def INST_KSTREAM_CTRL : Fld := ⟨0x60, 0x140, 8, 7, 1, .rwc, 0, 8, true, []⟩
def INST_KSTREAM_ROOT : Fld := ⟨0x60, 0x140, 8, 0, 7, .rwc, 0, 8, true, []⟩
def INST_MSEC_VALID : Fld := ⟨0x60, 0x240, 4, 31, 1, .rwc, 0, 4, true, []⟩
def INST_MSEC_SC_MASK : Fld := ⟨0x60, 0x240, 4, 8, 4, .rwc, 0, 4, true, []⟩
def INST_MSEC_EMAC : Fld := ⟨0x60, 0x240, 4, 0, 7, .rwc, 0, 4, true, []⟩
def INST_ALIAS : Fld := ⟨0x60, 0x400, 4, 0, 32, .rwc, 0, 4, true, []⟩
def INST_ERR_GRANT_CONFLICT : Fld := ⟨0x60, 0x10, 4, 19, 1, .w1c, 0, 0, true, []⟩
def INST_ERR_GRANT_SHORT : Fld := ⟨0x60, 0x10, 4, 18, 1, .w1c, 0, 0, true, []⟩
def INST_ERR_GRANT_BUSY : Fld := ⟨0x60, 0x10, 4, 17, 1, .w1c, 0, 0, true, []⟩
def INST_ERR_ALIAS_BAD : Fld := ⟨0x60, 0x10, 4, 16, 1, .w1c, 0, 0, true, []⟩
/-! ### Table 14-11 -/
def MBX_CTL_FB_VALID : Fld := ⟨0x61, 0x40, 4, 16, 1, .rw, 0, 0, true, []⟩
def MBX_CTL_TMO_MS : Fld := ⟨0x61, 0x40, 4, 0, 16, .rw, 100, 0, true, [(1, 65535)]⟩
def MBX_STAT_FULL : Fld := ⟨0x61, 0x44, 4, 18, 1, .w1c, 0, 0, false, []⟩
def MBX_STAT_PEER_RESET : Fld := ⟨0x61, 0x44, 4, 17, 1, .w1c, 0, 0, false, []⟩
def MBX_STAT_TIMEOUT : Fld := ⟨0x61, 0x44, 4, 16, 1, .w1c, 0, 0, false, []⟩
def MBX_STAT_RX_PENDING : Fld := ⟨0x61, 0x44, 4, 8, 5, .ro, 0, 0, false, []⟩
def MBX_STAT_TX_USED : Fld := ⟨0x61, 0x44, 4, 0, 5, .ro, 0, 0, false, []⟩
def MBX_TX_SEQ_SEQ : Fld := ⟨0x61, 0x48, 4, 0, 32, .ro, 0, 0, false, []⟩
def MBX_RX_SEQ_SEQ : Fld := ⟨0x61, 0x4c, 4, 0, 32, .ro, 0, 0, false, []⟩
def MBX_CMD_TAKE : Fld := ⟨0x61, 0x50, 4, 1, 1, .wo, 0, 0, false, []⟩
def MBX_CMD_SEND : Fld := ⟨0x61, 0x50, 4, 0, 1, .wo, 0, 0, false, []⟩
def MBX_FB_ADDR_ADDR : Fld := ⟨0x61, 0x58, 8, 0, 64, .rw, 0, 0, true, []⟩
def MBX_FB_SIZE_SLOTS : Fld := ⟨0x61, 0x60, 4, 0, 5, .rw, 16, 0, true, [(1, 16)]⟩
def MBX_TX_DATA : Fld := ⟨0x61, 0x100, 256, 0, 2048, .rw, 0, 0, false, []⟩
def MBX_RX_DATA : Fld := ⟨0x61, 0x200, 256, 0, 2048, .ro, 0, 0, false, []⟩
/-! ### Table 15-5 -/
def IRQ_EN_BITS : Fld := ⟨0x5, 0x40, 4, 0, 32, .rw, 0, 4, false, []⟩
def IRQ_PEND_BITS : Fld := ⟨0x5, 0x50, 4, 0, 32, .rw, 0, 4, false, []⟩
def IRQ_INSVC_BITS : Fld := ⟨0x5, 0x60, 4, 0, 32, .ro, 0, 4, false, []⟩
def IRQ_HOLDOFF_HOLD : Fld := ⟨0x5, 0x70, 4, 0, 16, .rw, 0, 4, true, []⟩
def IRQ_STORM_WIN : Fld := ⟨0x5, 0x80, 4, 16, 16, .rw, 1000, 0, true, [(1, 65535)]⟩
def IRQ_STORM_MAX : Fld := ⟨0x5, 0x80, 4, 0, 16, .rw, 0, 0, true, []⟩
def IRQ_SRC_CFG_PRIO : Fld := ⟨0x5, 0x200, 8, 32, 4, .rw, 0, 8, false, []⟩
def IRQ_SRC_CFG_SENSE : Fld := ⟨0x5, 0x200, 8, 30, 2, .rw, 1, 8, false, []⟩
def IRQ_SRC_CFG_TGT : Fld := ⟨0x5, 0x200, 8, 28, 2, .rw, 0, 8, true, []⟩
def IRQ_SRC_CFG_INST : Fld := ⟨0x5, 0x200, 8, 20, 7, .rw, 0, 8, true, []⟩
def IRQ_SRC_CFG_KIND : Fld := ⟨0x5, 0x200, 8, 16, 4, .rw, 0, 8, true, []⟩
def IRQ_SRC_CFG_UNIT : Fld := ⟨0x5, 0x200, 8, 0, 16, .rw, 0, 8, true, []⟩
def IRQ_SRC_STAT_STORM : Fld := ⟨0x5, 0x600, 4, 31, 1, .w1c, 0, 4, false, []⟩
def IRQ_SRC_STAT_COALESCED : Fld := ⟨0x5, 0x600, 4, 0, 16, .ro, 0, 4, false, []⟩
def IRQ_ERR_STORM : Fld := ⟨0x5, 0x10, 4, 17, 1, .w1c, 0, 0, false, []⟩
def IRQ_ERR_BIND_BAD : Fld := ⟨0x5, 0x10, 4, 16, 1, .w1c, 0, 0, false, []⟩
/-! ### Table 15-7 -/
def IRQ_THRESH_THRESH : Fld := ⟨0x5, 0x40, 4, 0, 4, .rw, 0, 0, false, []⟩
def IRQ_CLAIM_VALID : Fld := ⟨0x5, 0x44, 4, 31, 1, .ro, 0, 0, false, []⟩
def IRQ_CLAIM_SOURCE : Fld := ⟨0x5, 0x44, 4, 0, 13, .ro, 0, 0, false, []⟩
def IRQ_COMPLETE_SOURCE : Fld := ⟨0x5, 0x48, 4, 0, 13, .wo, 0, 0, false, []⟩
def IRQ_TSTAT_COMPLETE_ERR : Fld := ⟨0x5, 0x4c, 4, 20, 1, .w1c, 0, 0, false, []⟩
def IRQ_TSTAT_CEIL : Fld := ⟨0x5, 0x4c, 4, 16, 4, .ro, 0, 0, false, []⟩
def IRQ_TSTAT_REQ : Fld := ⟨0x5, 0x4c, 4, 15, 1, .ro, 0, 0, false, []⟩
def IRQ_TSTAT_INSVC : Fld := ⟨0x5, 0x4c, 4, 0, 14, .ro, 0, 0, false, []⟩
def IRQ_GCFG_FAST_MIN : Fld := ⟨0x5, 0x50, 4, 0, 4, .rw, 12, 0, false, [(1, 15)]⟩
def IRQ_GSTAT_MODE : Fld := ⟨0x5, 0x54, 4, 0, 1, .ro, 0, 0, false, []⟩
/-! ### Table 17-11 -/
def PWR_CTL_DRAIN_MS : Fld := ⟨0x3, 0x40, 4, 16, 8, .rwc, 5, 0, false, [(1, 255)]⟩
def PWR_CTL_THERM_FLOOR : Fld := ⟨0x3, 0x40, 4, 8, 5, .rwc, 4, 0, false, [(4, 16)]⟩
def PWR_CMD_STATE : Fld := ⟨0x3, 0x44, 4, 0, 3, .wo, 0, 0, false, [(0, 4)]⟩
def PWR_STAT_RESULT : Fld := ⟨0x3, 0x48, 4, 24, 8, .ro, 0, 0, false, []⟩
def PWR_STAT_ENTERING : Fld := ⟨0x3, 0x48, 4, 23, 1, .ro, 0, 0, false, []⟩
def PWR_STAT_THROTTLING : Fld := ⟨0x3, 0x48, 4, 22, 1, .ro, 0, 0, false, []⟩
def PWR_STAT_SUPPLY_LOW : Fld := ⟨0x3, 0x48, 4, 21, 1, .ro, 0, 0, false, []⟩
def PWR_STAT_TJ_MAX : Fld := ⟨0x3, 0x48, 4, 8, 8, .ro, 0, 0, false, []⟩
def PWR_STAT_STATE : Fld := ⟨0x3, 0x48, 4, 0, 3, .ro, 0, 0, false, []⟩
def PWR_WAKE_EN_EN : Fld := ⟨0x3, 0x4c, 4, 1, 7, .rwc, 127, 0, false, []⟩
def PWR_LISTEN_KRP : Fld := ⟨0x3, 0x50, 16, 0, 96, .rwc, 0, 0, false, []⟩
def PWR_LAST_WAKE_DURING_ENTRY : Fld := ⟨0x3, 0x60, 4, 31, 1, .ro, 0, 0, false, []⟩
def PWR_LAST_WAKE_FROM_STATE : Fld := ⟨0x3, 0x60, 4, 28, 3, .ro, 0, 0, false, []⟩
def PWR_LAST_WAKE_SOURCE : Fld := ⟨0x3, 0x60, 4, 24, 4, .ro, 0, 0, false, []⟩
def PWR_LAST_WAKE_DETAIL : Fld := ⟨0x3, 0x60, 4, 16, 8, .ro, 0, 0, false, []⟩
def PWR_LAST_WAKE_UNIT : Fld := ⟨0x3, 0x60, 4, 0, 16, .ro, 0, 0, false, []⟩
def PWR_WAKE_TIME_TIME : Fld := ⟨0x3, 0x70, 16, 0, 96, .ro, 0, 0, false, []⟩
def PWR_TARIFF_SET : Fld := ⟨0x3, 0x80, 4, 16, 1, .wo, 0, 0, false, []⟩
def PWR_TARIFF_NEW_BAND : Fld := ⟨0x3, 0x80, 4, 8, 2, .wo, 0, 0, false, []⟩
def PWR_TARIFF_BAND : Fld := ⟨0x3, 0x80, 4, 0, 2, .ro, 0, 0, false, []⟩
def PWR_TOD_OFFSET_SEC : Fld := ⟨0x3, 0x84, 4, 0, 32, .rwc, 0, 0, false, [(0, 86399), (4294880897, 4294967295)]⟩
def PWR_DMD_BOOT_BAND : Fld := ⟨0x3, 0x88, 4, 8, 2, .rwc, 0, 0, false, []⟩
def PWR_DMD_MINUTES : Fld := ⟨0x3, 0x88, 4, 0, 6, .rwc, 15, 0, false, [(1, 60)]⟩
def PWR_CNT_DIP_COUNT : Fld := ⟨0x3, 0x8c, 4, 0, 32, .ro, 0, 0, false, []⟩
def PWR_LOSS_TIME_TIME : Fld := ⟨0x3, 0x90, 16, 0, 96, .ro, 0, 0, false, []⟩
def PWR_TOD_VALID : Fld := ⟨0x3, 0xa0, 4, 31, 1, .rwc, 0, 4, false, []⟩
def PWR_TOD_BAND : Fld := ⟨0x3, 0xa0, 4, 17, 2, .rwc, 0, 4, false, []⟩
def PWR_TOD_SECOND : Fld := ⟨0x3, 0xa0, 4, 0, 17, .rwc, 0, 4, false, [(0, 86399)]⟩
def PWR_ERR_THERM_TRIP : Fld := ⟨0x3, 0x10, 4, 17, 1, .w1c, 0, 0, false, []⟩
def PWR_ERR_TOD_BAD : Fld := ⟨0x3, 0x10, 4, 16, 1, .w1c, 0, 0, false, []⟩
/-! ### Table 17-12 -/
def PWR_DOM_STAT_PHASES_OK : Fld := ⟨0x3, 0x40, 4, 20, 4, .ro, 12, 0, false, []⟩
def PWR_DOM_STAT_PHASE_RSV : Fld := ⟨0x3, 0x40, 4, 18, 2, .ro, 2, 0, false, []⟩
def PWR_DOM_STAT_CLOCK : Fld := ⟨0x3, 0x40, 4, 8, 5, .ro, 16, 0, false, []⟩
def PWR_DOM_STAT_DSTATE : Fld := ⟨0x3, 0x40, 4, 0, 2, .ro, 0, 0, false, []⟩
def PWR_DOM_GEN_GEN : Fld := ⟨0x3, 0x44, 4, 0, 32, .ro, 0, 0, false, []⟩
def PWR_DOM_TEMP_TJ : Fld := ⟨0x3, 0x48, 4, 0, 8, .ro, 0, 0, false, []⟩
def PWR_DOM_CNT_PHASE_THR_COUNT : Fld := ⟨0x3, 0x4c, 4, 0, 32, .ro, 0, 0, false, []⟩
def PWR_DOM_CNT_THERM_COUNT : Fld := ⟨0x3, 0x50, 4, 0, 32, .ro, 0, 0, false, []⟩
def PWRD_ERR_COLD_RESTART : Fld := ⟨0x3, 0x10, 4, 17, 1, .w1c, 0, 0, false, []⟩
def PWRD_ERR_PHASE_EXHAUSTED : Fld := ⟨0x3, 0x10, 4, 16, 1, .w1c, 0, 0, false, []⟩
/-! ### Table 17-14 -/
def NRG_CTL_EN : Fld := ⟨0x4, 0x40, 4, 0, 1, .rwc, 0, 0, false, []⟩
def NRG_CMD_CLEAR_ACC : Fld := ⟨0x4, 0x44, 4, 1, 1, .wo, 0, 0, false, []⟩
def NRG_CMD_CLEAR_MAX : Fld := ⟨0x4, 0x44, 4, 0, 1, .wo, 0, 0, false, []⟩
def NRG_STAT_ESTIMATING : Fld := ⟨0x4, 0x48, 4, 2, 1, .ro, 0, 0, false, []⟩
def NRG_STAT_UNTIMED : Fld := ⟨0x4, 0x48, 4, 1, 1, .ro, 1, 0, false, []⟩
def NRG_STAT_ACCOUNTING : Fld := ⟨0x4, 0x48, 4, 0, 1, .ro, 0, 0, false, []⟩
def NRG_ACC_UJ : Fld := ⟨0x4, 0x50, 8, 0, 64, .ro, 0, 8, false, []⟩
def NRG_INT_E_UJ : Fld := ⟨0x4, 0x70, 8, 0, 64, .ro, 0, 0, false, []⟩
def NRG_INT_START_SEC : Fld := ⟨0x4, 0x78, 8, 0, 48, .ro, 0, 0, false, []⟩
def NRG_LAST_E_UJ : Fld := ⟨0x4, 0x80, 8, 0, 64, .ro, 0, 0, false, []⟩
def NRG_LAST_START_SEC : Fld := ⟨0x4, 0x88, 8, 0, 48, .ro, 0, 0, false, []⟩
def NRG_LAST_INFO_PEAK : Fld := ⟨0x4, 0x90, 4, 16, 16, .ro, 0, 0, false, []⟩
def NRG_LAST_INFO_GAP : Fld := ⟨0x4, 0x90, 4, 4, 1, .ro, 0, 0, false, []⟩
def NRG_LAST_INFO_ESTIMATED : Fld := ⟨0x4, 0x90, 4, 3, 1, .ro, 0, 0, false, []⟩
def NRG_LAST_INFO_UNTIMED : Fld := ⟨0x4, 0x90, 4, 2, 1, .ro, 0, 0, false, []⟩
def NRG_LAST_INFO_PARTIAL : Fld := ⟨0x4, 0x90, 4, 1, 1, .ro, 0, 0, false, []⟩
def NRG_LAST_INFO_INTERRUPTED : Fld := ⟨0x4, 0x90, 4, 0, 1, .ro, 0, 0, false, []⟩
def NRG_LAST_AVG_MW : Fld := ⟨0x4, 0x94, 4, 0, 32, .ro, 0, 0, false, []⟩
def NRG_MAX_AVG_MW : Fld := ⟨0x4, 0x98, 4, 0, 32, .ro, 0, 0, false, []⟩
def NRG_MAX_START_SEC : Fld := ⟨0x4, 0xa0, 8, 0, 48, .ro, 0, 0, false, []⟩
def NRG_LOSS_E_UJ : Fld := ⟨0x4, 0xa8, 8, 0, 64, .ro, 0, 0, false, []⟩
def NRG_LOSS_START_FLAGS : Fld := ⟨0x4, 0xb0, 8, 48, 5, .ro, 0, 0, false, []⟩
def NRG_LOSS_START_SEC : Fld := ⟨0x4, 0xb0, 8, 0, 48, .ro, 0, 0, false, []⟩
def NRG_ERR_TELEMETRY : Fld := ⟨0x4, 0x10, 4, 16, 1, .w1c, 0, 0, false, []⟩
/-! ### Table 18-8 -/
def PMC_G_CTL_EN : Fld := ⟨0x7, 0x40, 4, 31, 1, .rw, 0, 0, false, []⟩
def PMC_G_CTL_PERIOD_US : Fld := ⟨0x7, 0x40, 4, 0, 20, .rw, 1000, 0, false, [(1, 1000000)]⟩
def PMC_G_STAT_FAULT : Fld := ⟨0x7, 0x44, 4, 16, 1, .w1c, 0, 0, false, []⟩
def PMC_G_STAT_SKIPPED : Fld := ⟨0x7, 0x44, 4, 0, 16, .ro, 0, 0, false, []⟩
def PMC_G_BASE_ADDR : Fld := ⟨0x7, 0x48, 8, 0, 64, .rw, 0, 0, false, []⟩
def PMC_G_RING_SLOTS : Fld := ⟨0x7, 0x50, 4, 0, 16, .rw, 1, 0, false, [(1, 65535)]⟩
def PMC_G_TAG_TAG : Fld := ⟨0x7, 0x58, 8, 0, 64, .ro, 0, 0, false, []⟩
def PMC_G_SET_BITS : Fld := ⟨0x7, 0x60, 8, 0, 64, .rw, 0, 8, false, []⟩
def PMC_S_CTL_EN : Fld := ⟨0x7, 0x80, 4, 31, 1, .rw, 0, 0, false, []⟩
def PMC_S_CTL_PERIOD_LOG2 : Fld := ⟨0x7, 0x80, 4, 8, 5, .rw, 16, 0, false, [(8, 24)]⟩
def PMC_S_CTL_SIZE_LOG2 : Fld := ⟨0x7, 0x80, 4, 0, 5, .rw, 8, 0, false, [(8, 20)]⟩
def PMC_S_STAT_LOST : Fld := ⟨0x7, 0x84, 4, 16, 16, .ro, 0, 0, false, []⟩
def PMC_S_STAT_PROVISIONAL : Fld := ⟨0x7, 0x84, 4, 0, 1, .ro, 1, 0, false, []⟩
def PMC_S_BASE_ADDR : Fld := ⟨0x7, 0x88, 8, 0, 64, .rw, 0, 0, false, []⟩
def PMC_S_HEAD_COUNT : Fld := ⟨0x7, 0x90, 4, 0, 32, .rw, 0, 0, false, []⟩
def PMC_S_TAIL_COUNT : Fld := ⟨0x7, 0x94, 4, 0, 32, .ro, 0, 0, false, []⟩
def PMC_S_SHEAVES_BITS : Fld := ⟨0x7, 0x98, 8, 0, 64, .rw, 0, 0, false, []⟩
def PMC_S_INST_EN : Fld := ⟨0x7, 0xa0, 4, 7, 1, .rw, 0, 0, false, []⟩
def PMC_S_INST_INST : Fld := ⟨0x7, 0xa0, 4, 0, 7, .rw, 0, 0, false, []⟩
def PMC_OVF_BITS : Fld := ⟨0x7, 0x40, 4, 0, 16, .w1c, 0, 0, false, []⟩
def PMC_INFO_NCNT : Fld := ⟨0x7, 0x44, 4, 0, 5, .ro, 0, 0, false, []⟩
def PMC_RELOAD_VALUE : Fld := ⟨0x7, 0x48, 8, 0, 48, .rw, 0, 0, false, []⟩
def PMC_EVSEL_EN : Fld := ⟨0x7, 0x80, 4, 31, 1, .rw, 0, 4, false, []⟩
def PMC_EVSEL_OVF_EN : Fld := ⟨0x7, 0x80, 4, 30, 1, .rw, 0, 4, false, []⟩
def PMC_EVSEL_RELOAD_EN : Fld := ⟨0x7, 0x80, 4, 29, 1, .rw, 0, 4, false, []⟩
def PMC_EVSEL_INST_EN : Fld := ⟨0x7, 0x80, 4, 27, 1, .rw, 0, 4, false, []⟩
def PMC_EVSEL_INST : Fld := ⟨0x7, 0x80, 4, 20, 7, .rw, 0, 4, false, []⟩
def PMC_EVSEL_SUB : Fld := ⟨0x7, 0x80, 4, 16, 4, .rw, 15, 4, false, []⟩
def PMC_EVSEL_EVENT : Fld := ⟨0x7, 0x80, 4, 0, 10, .rw, 0, 4, false, []⟩
def PMC_CNT_COUNT : Fld := ⟨0x7, 0x100, 8, 0, 48, .rw, 0, 8, false, []⟩
/-! ### Table 18-10 -/
def GLN_CTL_EV_CNT : Fld := ⟨0x6, 0x40, 4, 0, 16, .rwc, 0, 0, true, []⟩
def GLN_STAT_DEFAULT : Fld := ⟨0x6, 0x44, 4, 0, 1, .ro, 1, 0, true, []⟩
def GLN_RING_BASE : Fld := ⟨0x6, 0x48, 8, 21, 27, .rwc, 0, 0, true, []⟩
def GLN_RING_SIZE_LOG2 : Fld := ⟨0x6, 0x48, 8, 4, 5, .rwc, 19, 0, true, [(9, 19)]⟩
def GLN_RING_VALID : Fld := ⟨0x6, 0x48, 8, 0, 1, .rwc, 0, 0, true, []⟩
def GLN_DEF_VA_VA : Fld := ⟨0x6, 0x50, 8, 30, 18, .rwc, 0, 0, true, []⟩
def GLN_DEF_VA_VALID : Fld := ⟨0x6, 0x50, 8, 0, 1, .rwc, 0, 0, true, []⟩
def GLN_SEQ_SEQ : Fld := ⟨0x6, 0x58, 8, 0, 63, .ro, 0, 0, true, []⟩
def GLN_RD_SEQ : Fld := ⟨0x6, 0x60, 8, 0, 63, .rw, 0, 0, true, []⟩
def GLN_TRIG_ARG : Fld := ⟨0x6, 0x68, 8, 8, 56, .wo, 0, 0, false, []⟩
def GLN_TRIG_CODE : Fld := ⟨0x6, 0x68, 8, 0, 8, .wo, 0, 0, false, []⟩
def GLN_CODE_SEL_CODE : Fld := ⟨0x6, 0x70, 4, 0, 8, .rwc, 0, 0, true, []⟩
def GLN_CODE_CFG_VALID : Fld := ⟨0x6, 0x74, 4, 31, 1, .rwc, 0, 0, true, []⟩
def GLN_CODE_CFG_EV_EN : Fld := ⟨0x6, 0x74, 4, 30, 1, .rwc, 0, 0, true, []⟩
def GLN_CODE_CFG_KIND : Fld := ⟨0x6, 0x74, 4, 28, 2, .rwc, 0, 0, true, [(0, 2)]⟩
def GLN_CODE_CFG_PREF : Fld := ⟨0x6, 0x74, 4, 24, 3, .rwc, 0, 0, true, []⟩
def GLN_CODE_CFG_SRC : Fld := ⟨0x6, 0x74, 4, 0, 13, .rwc, 0, 0, true, []⟩
def GLN_CODE_RATE_PERIOD_US : Fld := ⟨0x6, 0x78, 4, 16, 16, .rwc, 0, 0, true, []⟩
def GLN_CODE_RATE_BURST : Fld := ⟨0x6, 0x78, 4, 0, 8, .rwc, 1, 0, true, [(1, 255)]⟩
def GLN_CODE_STAT_PENDING : Fld := ⟨0x6, 0x7c, 4, 0, 32, .ro, 0, 0, true, []⟩
def GLN_CODE_CNT_COUNT : Fld := ⟨0x6, 0x80, 4, 0, 32, .ro, 0, 0, true, []⟩
def GLN_CODE_WSEL_VALID : Fld := ⟨0x6, 0xc0, 4, 31, 1, .rwc, 0, 4, true, []⟩
def GLN_CODE_WSEL_OFFSET : Fld := ⟨0x6, 0xc0, 4, 0, 28, .rwc, 0, 4, true, []⟩
def GLN_ERR_CODE_BAD : Fld := ⟨0x6, 0x10, 4, 16, 1, .w1c, 0, 0, false, []⟩
/-! ### Table 19-5 -/
def DCH_CTL_LVL_CAP : Fld := ⟨0x9, 0x40, 4, 0, 4, .rwc, 15, 0, false, [(1, 15)]⟩
def DCH_STAT_ADDR : Fld := ⟨0x9, 0x44, 4, 24, 8, .ro, 0, 0, false, []⟩
def DCH_STAT_LVL : Fld := ⟨0x9, 0x44, 4, 20, 4, .ro, 0, 0, false, []⟩
def DCH_STAT_LVL_OWN : Fld := ⟨0x9, 0x44, 4, 16, 4, .ro, 0, 0, false, []⟩
def DCH_STAT_COUNT : Fld := ⟨0x9, 0x44, 4, 8, 6, .ro, 0, 0, false, []⟩
def DCH_STAT_OVERFLOW : Fld := ⟨0x9, 0x44, 4, 7, 1, .ro, 0, 0, false, []⟩
def DCH_STAT_WALKING : Fld := ⟨0x9, 0x44, 4, 6, 1, .ro, 0, 0, false, []⟩
def DCH_STAT_HEAD : Fld := ⟨0x9, 0x44, 4, 5, 1, .ro, 0, 0, false, []⟩
def DCH_STAT_DOWN_LINK : Fld := ⟨0x9, 0x44, 4, 4, 1, .ro, 0, 0, false, []⟩
def DCH_STAT_UP_LINK : Fld := ⟨0x9, 0x44, 4, 3, 1, .ro, 0, 0, false, []⟩
def DCH_CMD_DST : Fld := ⟨0x9, 0x48, 4, 8, 8, .wo, 0, 0, false, []⟩
def DCH_CMD_RELOAD : Fld := ⟨0x9, 0x48, 4, 4, 1, .wo, 0, 0, false, []⟩
def DCH_CMD_WAKE : Fld := ⟨0x9, 0x48, 4, 3, 1, .wo, 0, 0, false, []⟩
def DCH_CMD_TAKE : Fld := ⟨0x9, 0x48, 4, 2, 1, .wo, 0, 0, false, []⟩
def DCH_CMD_SEND : Fld := ⟨0x9, 0x48, 4, 1, 1, .wo, 0, 0, false, []⟩
def DCH_CMD_WALK : Fld := ⟨0x9, 0x48, 4, 0, 1, .wo, 0, 0, false, []⟩
def DCH_RX_STAT_PENDING : Fld := ⟨0x9, 0x4c, 4, 0, 4, .ro, 0, 0, false, []⟩
def DCH_CNT_CRC_COUNT : Fld := ⟨0x9, 0x50, 4, 0, 32, .ro, 0, 0, false, []⟩
def DCH_CNT_LVL_COUNT : Fld := ⟨0x9, 0x54, 4, 0, 32, .ro, 0, 0, false, []⟩
def DCH_CNT_RX_DROP_COUNT : Fld := ⟨0x9, 0x58, 4, 0, 32, .ro, 0, 0, false, []⟩
def DCH_CNT_WAKE_IGNORED_COUNT : Fld := ⟨0x9, 0x5c, 4, 0, 32, .ro, 0, 0, false, []⟩
def DCH_TX_HDR_LEN : Fld := ⟨0x9, 0x80, 4, 16, 7, .rw, 0, 0, false, [(0, 64)]⟩
def DCH_TX_HDR_TYPE : Fld := ⟨0x9, 0x80, 4, 8, 8, .rw, 16, 0, false, []⟩
def DCH_TX_HDR_DST : Fld := ⟨0x9, 0x80, 4, 0, 8, .rw, 0, 0, false, []⟩
def DCH_TX_DATA : Fld := ⟨0x9, 0xc0, 64, 0, 512, .rw, 0, 0, false, []⟩
def DCH_RX_DATA : Fld := ⟨0x9, 0x100, 72, 0, 576, .ro, 0, 0, false, []⟩
def DCH_ERR_CHAIN_BREAK : Fld := ⟨0x9, 0x10, 4, 19, 1, .w1c, 0, 0, false, []⟩
def DCH_ERR_LVL_DROP : Fld := ⟨0x9, 0x10, 4, 18, 1, .w1c, 0, 0, false, []⟩
def DCH_ERR_TWO_HEADS : Fld := ⟨0x9, 0x10, 4, 17, 1, .w1c, 0, 0, false, []⟩
def DCH_ERR_RX_MSG : Fld := ⟨0x9, 0x10, 4, 16, 1, .w1c, 0, 0, false, []⟩
/-! ### Table 20-12 -/
def SAGE_STAT_KEY_REVOKED : Fld := ⟨0x2, 0x40, 4, 8, 4, .ro, 0, 0, false, []⟩
def SAGE_STAT_FALLBACK : Fld := ⟨0x2, 0x40, 4, 7, 1, .ro, 0, 0, false, []⟩
def SAGE_STAT_SLOT : Fld := ⟨0x2, 0x40, 4, 6, 1, .ro, 0, 0, false, []⟩
def SAGE_STAT_PAIR : Fld := ⟨0x2, 0x40, 4, 5, 1, .ro, 0, 0, false, []⟩
def SAGE_STAT_BOOT : Fld := ⟨0x2, 0x40, 4, 0, 2, .ro, 0, 0, false, []⟩
def SAGE_IMG_VER_VERSION : Fld := ⟨0x2, 0x44, 4, 0, 32, .ro, 0, 0, false, []⟩
def SAGE_SEC_SVN_MIN : Fld := ⟨0x2, 0x48, 4, 16, 16, .ro, 0, 0, false, []⟩
def SAGE_SEC_SVN : Fld := ⟨0x2, 0x48, 4, 0, 16, .ro, 0, 0, false, []⟩
def SAGE_WINNOW_WINNOW_H : Fld := ⟨0x2, 0x4c, 4, 0, 8, .rw, 24, 0, false, [(1, 255)]⟩
def SAGE_RSV_LINKS : Fld := ⟨0x2, 0x50, 8, 38, 2, .ro, 3, 0, false, []⟩
def SAGE_RSV_SAGE_PAIR : Fld := ⟨0x2, 0x50, 8, 37, 1, .ro, 1, 0, false, []⟩
def SAGE_RSV_TRNG : Fld := ⟨0x2, 0x50, 8, 36, 1, .ro, 1, 0, false, []⟩
def SAGE_RSV_CRYPTO : Fld := ⟨0x2, 0x50, 8, 32, 4, .ro, 10, 0, false, []⟩
def SAGE_RSV_SLICES : Fld := ⟨0x2, 0x50, 8, 16, 12, .ro, 2340, 0, false, []⟩
def SAGE_RSV_SRAM_ROWS : Fld := ⟨0x2, 0x50, 8, 0, 16, .ro, 0, 0, false, []⟩
def SAGE_FL_ADDR_ADDR : Fld := ⟨0x2, 0x58, 8, 0, 64, .rw, 0, 0, false, []⟩
def SAGE_FL_LEN_BYTES : Fld := ⟨0x2, 0x60, 4, 0, 23, .rw, 0, 0, false, [(512, 2097152)]⟩
def SAGE_FL_CMD_COMMIT_SVN : Fld := ⟨0x2, 0x64, 4, 2, 1, .wo, 0, 0, false, []⟩
def SAGE_FL_CMD_RESTART : Fld := ⟨0x2, 0x64, 4, 1, 1, .wo, 0, 0, false, []⟩
def SAGE_FL_CMD_WRITE : Fld := ⟨0x2, 0x64, 4, 0, 1, .wo, 0, 0, false, []⟩
def SAGE_FL_STAT_RUNNING : Fld := ⟨0x2, 0x68, 4, 31, 1, .ro, 0, 0, false, []⟩
def SAGE_FL_STAT_RESULT : Fld := ⟨0x2, 0x68, 4, 0, 8, .ro, 0, 0, false, []⟩
def SAGE_ERR_BOOT_FALLBACK : Fld := ⟨0x2, 0x10, 4, 17, 1, .w1c, 0, 0, false, []⟩
def SAGE_ERR_FL_FAIL : Fld := ⟨0x2, 0x10, 4, 16, 1, .w1c, 0, 0, false, []⟩
/-! ### Table 20-13 -/
def RNG_OUT_STATUS : Fld := ⟨0x8, 0x40, 16, 64, 8, .ro, 34, 0, false, []⟩
def RNG_OUT_DATA : Fld := ⟨0x8, 0x40, 16, 0, 64, .ro, 0, 0, false, []⟩
def RNG_STAT_HEALTH_FAILS : Fld := ⟨0x8, 0x50, 4, 16, 16, .ro, 0, 0, false, []⟩
def RNG_STAT_SRC_OK : Fld := ⟨0x8, 0x50, 4, 8, 4, .ro, 0, 0, false, []⟩
def RNG_STAT_STARVED : Fld := ⟨0x8, 0x50, 4, 1, 1, .ro, 0, 0, false, []⟩
def RNG_STAT_READY : Fld := ⟨0x8, 0x50, 4, 0, 1, .ro, 0, 0, false, []⟩
def RNG_CMD_RESEED : Fld := ⟨0x8, 0x54, 4, 0, 1, .wo, 0, 0, false, []⟩
def RNG_CNT_RESEED_COUNT : Fld := ⟨0x8, 0x58, 4, 0, 32, .ro, 0, 0, false, []⟩
def RNG_ERR_STARVED : Fld := ⟨0x8, 0x10, 4, 17, 1, .w1c, 0, 0, false, []⟩
def RNG_ERR_HEALTH : Fld := ⟨0x8, 0x10, 4, 16, 1, .w1c, 0, 0, false, []⟩
/-! ### Table 20-14 -/
def HOST_CTL_CLK_MODE : Fld := ⟨0x71, 0x40, 4, 3, 1, .rwc, 0, 0, false, []⟩
def HOST_CTL_ACTIVE : Fld := ⟨0x71, 0x40, 4, 2, 1, .rwc, 0, 0, false, []⟩
def HOST_CTL_SPLIT : Fld := ⟨0x71, 0x40, 4, 1, 1, .rwc, 0, 0, false, []⟩
def HOST_STAT_LINK_B_UP : Fld := ⟨0x71, 0x44, 4, 12, 1, .ro, 0, 0, false, []⟩
def HOST_STAT_LINK_A_UP : Fld := ⟨0x71, 0x44, 4, 11, 1, .ro, 0, 0, false, []⟩
def HOST_STAT_FLIT : Fld := ⟨0x71, 0x44, 4, 10, 1, .ro, 0, 0, false, []⟩
def HOST_STAT_SPEED : Fld := ⟨0x71, 0x44, 4, 7, 3, .ro, 0, 0, false, []⟩
def HOST_STAT_WIDTH : Fld := ⟨0x71, 0x44, 4, 2, 5, .ro, 0, 0, false, []⟩
def HOST_CNT_REPLAY_COUNT : Fld := ⟨0x71, 0x48, 4, 0, 32, .ro, 0, 0, false, []⟩
def HOST_CNT_CORR_COUNT : Fld := ⟨0x71, 0x4c, 4, 0, 32, .ro, 0, 0, false, []⟩
def HOST_CNT_DOWN_COUNT : Fld := ⟨0x71, 0x50, 4, 0, 32, .ro, 0, 0, false, []⟩
def HOST_ERR_ACTIVE_BUSY : Fld := ⟨0x71, 0x10, 4, 17, 1, .w1c, 0, 0, false, []⟩
def HOST_ERR_LINK_DOWN : Fld := ⟨0x71, 0x10, 4, 16, 1, .w1c, 0, 0, false, []⟩
/-! ### Table 14-9 -/
def INST_CQ_RANGE_COUNT : Fld := ⟨0x60, 0x90, 4, 16, 11, .rwc, 0, 4, true, []⟩
def INST_CQ_RANGE_FIRST : Fld := ⟨0x60, 0x90, 4, 0, 14, .rwc, 0, 4, true, []⟩

/-- The registers of the DEV page above the common header. -/
def layoutDEV : List RegEnt := [
  ⟨0x40, 4, 0, 0, 1, false, [DEV_PART_PART, DEV_PART_REV_LETTER, DEV_PART_REV_NUM]⟩,
  ⟨0x44, 4, 0, 0, 1, false, [DEV_STRAPS_DCH_HEAD, DEV_STRAPS_LEAD_HOST]⟩,
  ⟨0x48, 4, 0, 0, 1, false, [DEV_SERVICE_SHEAVES, DEV_SERVICE_ENTROPY_READY, DEV_SERVICE_SAGE_READY, DEV_SERVICE_SERVICE]⟩,
  ⟨0x50, 8, 0, 0, 1, false, [DEV_EPOCH_EPOCH]⟩,
  ⟨0x58, 4, 0, 0, 1, false, [DEV_EPOCH_PERIOD_PERIOD]⟩,
  ⟨0x5c, 4, 0, 0, 1, false, [DEV_EPOCH_ADV_ADVANCE]⟩,
  ⟨0x60, 8, 0, 0, 1, false, [DEV_MEM_RSV01_M1, DEV_MEM_RSV01_M0]⟩,
  ⟨0x68, 8, 0, 0, 1, false, [DEV_MEM_RSV23_M3, DEV_MEM_RSV23_M2]⟩,
  ⟨0x70, 8, 0, 0, 1, false, [DEV_SERIAL_SERIAL]⟩]
/-- The registers of the SRDS page above the common header. -/
def layoutSRDS : List RegEnt := [
  ⟨0x40, 4, 0, 0, 1, false, [SRDS_CTL_LANE_OFF, SRDS_CTL_HUB_ROLE, SRDS_CTL_MODE]⟩,
  ⟨0x44, 4, 0, 0, 1, false, [SRDS_STAT_RESERVE_SLICE, SRDS_STAT_FEC_LOCK, SRDS_STAT_ADAPT_DONE, SRDS_STAT_CDR_LOCK, SRDS_STAT_SIG_DET]⟩,
  ⟨0x48, 4, 0, 0, 1, false, [SRDS_MARGIN_L3, SRDS_MARGIN_L2, SRDS_MARGIN_L1, SRDS_MARGIN_L0]⟩]
/-- The registers of the KRP page above the common header. -/
def layoutKRP : List RegEnt := [
  ⟨0x40, 4, 0, 0, 1, false, [KRP_CTL_UP_READY, KRP_CTL_LVL_MAX, KRP_CTL_LPM_EN, KRP_CTL_MIN_RATE, KRP_CTL_MIN_WIDTH, KRP_CTL_RATE_MAX, KRP_CTL_WIDTH_MAX, KRP_CTL_ENABLE]⟩,
  ⟨0x44, 4, 0, 0, 1, false, [KRP_LPM_DWELL, KRP_LPM_UP_PCT, KRP_LPM_SHED_PCT]⟩,
  ⟨0x48, 4, 0, 0, 1, false, [KRP_TMO_RETRY_MAX, KRP_TMO_RSP_TMO]⟩,
  ⟨0x4c, 4, 0, 0, 1, false, [KRP_CMD_RETRAIN, KRP_CMD_WIDEN]⟩,
  ⟨0x50, 4, 0, 0, 1, false, [KRP_STAT_LVL, KRP_STAT_BELOW_MIN, KRP_STAT_DEGRADED, KRP_STAT_LANE_REV, KRP_STAT_PARTNER_HUB, KRP_STAT_RATE, KRP_STAT_WIDTH, KRP_STAT_LSTATE]⟩,
  ⟨0x54, 4, 0, 0, 1, false, [KRP_UTIL_UTIL]⟩,
  ⟨0x58, 8, 0, 0, 1, false, [KRP_CNT_FEC_CORR_COUNT]⟩,
  ⟨0x60, 8, 0, 0, 1, false, [KRP_CNT_FEC_UNC_COUNT]⟩,
  ⟨0x68, 4, 0, 0, 1, false, [KRP_CNT_HCRC_COUNT]⟩,
  ⟨0x6c, 4, 0, 0, 1, false, [KRP_CNT_DCRC_COUNT]⟩,
  ⟨0x70, 4, 0, 0, 1, false, [KRP_CNT_SEQ_COUNT]⟩,
  ⟨0x74, 4, 0, 0, 1, false, [KRP_CNT_RETRY_COUNT]⟩,
  ⟨0x78, 4, 0, 0, 1, false, [KRP_CNT_LSTATE_COUNT]⟩,
  ⟨0x7c, 4, 0, 0, 1, false, [KRP_CNT_DISCARD_COUNT]⟩]
/-- The registers of the KHUB page above the common header. -/
def layoutKHUB : List RegEnt := [
  ⟨0x40, 4, 0, 0, 1, false, [KHUB_CTL_STAT_POLL, KHUB_CTL_DEBOUNCE, KHUB_CTL_ENUM_ATTEMPTS]⟩,
  ⟨0x44, 4, 0, 0, 1, false, [KHUB_PMB_PG_TMO, KHUB_PMB_STAGGER, KHUB_PMB_POLL_MS, KHUB_PMB_SEG1_SPEED, KHUB_PMB_SEG0_SPEED]⟩,
  ⟨0x48, 4, 0, 0, 1, false, [KHUB_PMB_STAT_EFF_POLL, KHUB_PMB_STAT_SEG1_FAULT, KHUB_PMB_STAT_SEG0_FAULT, KHUB_PMB_STAT_ALERT]⟩,
  ⟨0x4c, 4, 0, 0, 1, false, [KHUB_HR_STAT_ACTIVE, KHUB_HR_STAT_QUAD]⟩,
  ⟨0x50, 8, 0, 0, 1, false, [KHUB_HR_DESC_ADDR]⟩,
  ⟨0x7c, 4, 4, 1, 16, false, [KHUB_HR_EPMAP_VALID, KHUB_HR_EPMAP_QUEUE]⟩,
  ⟨0x100, 8, 32, 0, 96, false, [KHUB_TREE_BASE_ADDR]⟩,
  ⟨0x108, 4, 32, 0, 96, false, [KHUB_TREE_CTL_RESCAN, KHUB_TREE_CTL_PWR_ON, KHUB_TREE_CTL_AUTO_CFG, KHUB_TREE_CTL_ENUM_EN]⟩,
  ⟨0x10c, 4, 32, 0, 96, false, [KHUB_TREE_CNT_FAILED, KHUB_TREE_CNT_ATTACHED]⟩,
  ⟨0x110, 4, 32, 0, 96, false, [KHUB_TREE_SEQ_SEQ]⟩,
  ⟨0x114, 4, 32, 0, 96, false, [KHUB_TREE_ACK_SEQ]⟩,
  ⟨0x118, 4, 32, 0, 96, false, [KHUB_TREE_STAT_TOO_DEEP, KHUB_TREE_STAT_ADDR_EXHAUSTED, KHUB_TREE_STAT_TABLE_FAULT, KHUB_TREE_STAT_ENUM_STEP, KHUB_TREE_STAT_DEVICES]⟩,
  ⟨0x11c, 4, 32, 0, 96, false, [KHUB_PWR_STAT_PIN, KHUB_PWR_STAT_TELEMETRY_STALE, KHUB_PWR_STAT_PG, KHUB_PWR_STAT_OVERCURRENT, KHUB_PWR_STAT_PSTATE]⟩,
  ⟨0xd00, 4, 4, 0, 96, false, [KHUB_PWR_MAP_PAGE, KHUB_PWR_MAP_ADDR, KHUB_PWR_MAP_SEG, KHUB_PWR_MAP_FITTED]⟩]
/-- The registers of the PREF page above the common header. -/
def layoutPREF : List RegEnt := [
  ⟨0x40, 4, 0, 0, 1, false, [PREF_CTL_INDEX_QUAL, PREF_CTL_INDEX_POL, PREF_CTL_INDEX_MODE, PREF_CTL_INVERT_DIR, PREF_CTL_QIN, PREF_CTL_SRC]⟩,
  ⟨0x44, 4, 0, 0, 1, false, [PREF_FILT_HYST, PREF_FILT_INTERP_EDGES, PREF_FILT_FILT_NS]⟩,
  ⟨0x48, 4, 0, 0, 1, false, [PREF_STILL_STUCK_EDGES, PREF_STILL_STILL_TMO]⟩,
  ⟨0x4c, 4, 0, 0, 1, false, [PREF_KPB_LOST_FRAMES, PREF_KPB_EP, PREF_KPB_ADDR, PREF_KPB_ROOT]⟩,
  ⟨0x50, 8, 0, 0, 1, false, [PREF_INDEX_POS_COUNT]⟩,
  ⟨0x58, 4, 0, 0, 1, false, [PREF_INDEX_PERIOD_COUNTS]⟩,
  ⟨0x5c, 4, 0, 0, 1, false, [PREF_TIME_DIV_NS]⟩,
  ⟨0x60, 8, 0, 0, 1, false, [PREF_POS_POS]⟩,
  ⟨0x68, 8, 0, 0, 1, false, [PREF_VEL_VEL]⟩,
  ⟨0x70, 4, 0, 0, 1, false, [PREF_STAT_HOMED, PREF_STAT_SRC_LOST, PREF_STAT_INDEX_MISSING, PREF_STAT_STUCK_B, PREF_STAT_STUCK_A, PREF_STAT_OVERSPEED, PREF_STAT_DIR, PREF_STAT_STANDSTILL, PREF_STAT_UNRELIABLE]⟩,
  ⟨0x74, 4, 0, 0, 1, false, [PREF_IDX_ERR_ERR]⟩,
  ⟨0x78, 4, 0, 0, 1, false, [PREF_CNT_GLITCH_COUNT]⟩,
  ⟨0x7c, 4, 0, 0, 1, false, [PREF_CNT_INDEX_COUNT]⟩,
  ⟨0x80, 8, 0, 0, 1, false, [PREF_SET_POS]⟩,
  ⟨0x88, 8, 0, 0, 1, false, [PREF_HOST_MOVE_POS]⟩,
  ⟨0x90, 8, 0, 0, 1, false, [PREF_HOST_VEL_VEL]⟩]
/-- The registers of the PCU page above the common header. -/
def layoutPCU : List RegEnt := [
  ⟨0x40, 4, 0, 0, 1, false, [PCU_CTL_PIN_ACT, PCU_CTL_EV_EN, PCU_CTL_TASK_EN, PCU_CTL_KPB_EN, PCU_CTL_PIN, PCU_CTL_PIN_EN, PCU_CTL_DIR, PCU_CTL_PREF, PCU_CTL_MODE]⟩,
  ⟨0x44, 4, 0, 0, 1, false, [PCU_TASK_TAG, PCU_TASK_SHEAF]⟩,
  ⟨0x48, 8, 0, 0, 1, false, [PCU_KPB_GROUP, PCU_KPB_GROUPED, PCU_KPB_ACTION, PCU_KPB_ADDR, PCU_KPB_ROOT]⟩,
  ⟨0x50, 8, 0, 0, 1, false, [PCU_TGT_TGT]⟩,
  ⟨0x58, 8, 0, 0, 1, false, [PCU_TGT_SEC_SEC]⟩,
  ⟨0x60, 8, 0, 0, 1, false, [PCU_INTERVAL_STEP]⟩,
  ⟨0x68, 4, 0, 0, 1, false, [PCU_COUNT_COUNT]⟩,
  ⟨0x6c, 4, 0, 0, 1, false, [PCU_PULSE_PULSE_NS]⟩,
  ⟨0x70, 4, 0, 0, 1, false, [PCU_DELAY_NS]⟩,
  ⟨0x74, 4, 0, 0, 1, false, [PCU_ARM_DISARM, PCU_ARM_ARM]⟩,
  ⟨0x78, 4, 0, 0, 1, false, [PCU_STAT_PREDICT, PCU_STAT_MISSED, PCU_STAT_LATE, PCU_STAT_ARMED]⟩,
  ⟨0x7c, 4, 0, 0, 1, false, [PCU_FIRED_COUNT]⟩,
  ⟨0x80, 8, 0, 0, 1, false, [PCU_NEXT_TGT]⟩,
  ⟨0x88, 8, 0, 0, 1, false, [PCU_NEXT_SEC_SEC]⟩,
  ⟨0x90, 4, 0, 0, 1, false, [PCU_LEFT_COUNT]⟩]
/-- The registers of the TRG page above the common header. -/
def layoutTRG : List RegEnt := [
  ⟨0x40, 4, 0, 0, 1, false, [TRG_CTL_ACTIVE_LOW, TRG_CTL_OE]⟩,
  ⟨0x44, 4, 0, 0, 1, false, [TRG_STAT_ACTIVE]⟩,
  ⟨0x48, 4, 0, 0, 1, false, [TRG_CNT_PULSE_COUNT]⟩,
  ⟨0x4c, 4, 0, 0, 1, false, [TRG_CNT_MERGED_COUNT]⟩]
/-- The registers of the TIME page above the common header. -/
def layoutTIME : List RegEnt := [
  ⟨0x40, 4, 0, 0, 1, false, [TIME_CTL_PPS_IN_POL, TIME_CTL_PPS_OUT_EN, TIME_CTL_MODE]⟩,
  ⟨0x44, 4, 0, 0, 1, false, [TIME_PPS_PPS_OUT_WIDTH]⟩,
  ⟨0x48, 4, 0, 0, 1, false, [TIME_RATE_ADJ]⟩,
  ⟨0x4c, 4, 0, 0, 1, false, [TIME_STAT_STEPS, TIME_STAT_SET_ONCE, TIME_STAT_HOLDOVER, TIME_STAT_LOCKED, TIME_STAT_PPS_PRESENT, TIME_STAT_REF10_PRESENT]⟩,
  ⟨0x50, 16, 0, 0, 1, false, [TIME_NOW_TIME]⟩,
  ⟨0x60, 16, 0, 0, 1, false, [TIME_SET_TIME]⟩,
  ⟨0x70, 8, 0, 0, 1, false, [TIME_STEP_OFFSET]⟩,
  ⟨0x78, 4, 0, 0, 1, false, [TIME_CMD_STEP, TIME_CMD_SET]⟩,
  ⟨0x7c, 4, 0, 0, 1, false, [TIME_PHASE_NS]⟩,
  ⟨0x80, 16, 0, 0, 1, false, [TIME_PPS_IN_TIME]⟩]
/-- The registers of the KSCH page above the common header. -/
def layoutKSCH : List RegEnt := [
  ⟨0x40, 4, 0, 0, 1, false, [KSCH_CTL_CTRL_MAX, KSCH_CTL_LIST_SHEAF, KSCH_CTL_KEEP_C0, KSCH_CTL_REV_MODE, KSCH_CTL_SNAP_PREF, KSCH_CTL_PREF, KSCH_CTL_CLOCK, KSCH_CTL_ENABLE]⟩,
  ⟨0x44, 4, 0, 0, 1, false, [KSCH_FLEN_MAX, KSCH_FLEN_MIN]⟩,
  ⟨0x48, 4, 0, 0, 1, false, [KSCH_PITCH_PITCH]⟩,
  ⟨0x4c, 4, 0, 0, 1, false, [KSCH_GUARD_PKT_MAX, KSCH_GUARD_GUARD_NS]⟩,
  ⟨0x50, 4, 0, 0, 1, false, [KSCH_ADM_TRG_RSV, KSCH_ADM_RT_NS]⟩,
  ⟨0x54, 4, 0, 0, 1, false, [KSCH_CMD_DROP_CAND, KSCH_CMD_ADMIT]⟩,
  ⟨0x58, 8, 0, 0, 1, false, [KSCH_TBL_BASE_ADDR]⟩,
  ⟨0x60, 4, 0, 0, 1, false, [KSCH_TBL_LEN_LEN]⟩,
  ⟨0x64, 4, 0, 0, 1, false, [KSCH_ADM_STAT_TABLE_FAIL, KSCH_ADM_STAT_CAND_VALID, KSCH_ADM_STAT_RUNNING, KSCH_ADM_STAT_FAIL_ENTRY, KSCH_ADM_STAT_RESULT]⟩,
  ⟨0x68, 8, 0, 0, 1, false, [KSCH_CAND_BASE_ADDR]⟩,
  ⟨0x70, 4, 0, 0, 1, false, [KSCH_CAND_LEN_LEN]⟩,
  ⟨0x74, 4, 0, 0, 1, false, [KSCH_ADM_LOAD_CAP, KSCH_ADM_LOAD_LOAD]⟩,
  ⟨0x78, 4, 0, 0, 1, false, [KSCH_STAT_PREF_LOOP, KSCH_STAT_OVERLOAD, KSCH_STAT_HWM_WAIT, KSCH_STAT_HELD, KSCH_STAT_FILLER, KSCH_STAT_RUNNING]⟩,
  ⟨0x7c, 4, 0, 0, 1, false, [KSCH_FRAME_NO_FRAME]⟩,
  ⟨0x80, 4, 0, 0, 1, false, [KSCH_MFRAME_MFRAME]⟩,
  ⟨0x84, 4, 0, 0, 1, false, [KSCH_MAX_SHIFT_NS]⟩,
  ⟨0x88, 8, 0, 0, 1, false, [KSCH_FRM_POS_POS]⟩,
  ⟨0x90, 16, 0, 0, 1, false, [KSCH_FRM_TIME_TIME]⟩,
  ⟨0xa0, 4, 4, 0, 4, false, [KSCH_CNT_LATE_COUNT]⟩,
  ⟨0xb0, 4, 0, 0, 1, false, [KSCH_CNT_TRIM_COUNT]⟩,
  ⟨0xb4, 4, 0, 0, 1, false, [KSCH_CNT_COLLAPSE_COUNT]⟩,
  ⟨0xb8, 4, 0, 0, 1, false, [KSCH_CNT_FILLER_COUNT]⟩,
  ⟨0xbc, 4, 0, 0, 1, false, [KSCH_CNT_SHIFT_COUNT]⟩,
  ⟨0xc0, 4, 0, 0, 1, false, [KSCH_CNT_UNREL_COUNT]⟩,
  ⟨0xc4, 4, 0, 0, 1, false, [KSCH_CNT_STRAY_COUNT]⟩]
/-- The registers of the WQ page above the common header. -/
def layoutWQ : List RegEnt := [
  ⟨0x40, 8, 0, 0, 1, false, [WQ_RSY_DSEQ, WQ_RSY_HSEQ]⟩,
  ⟨0x48, 4, 0, 0, 1, false, [WQ_RSY_CTL_SQUASH, WQ_RSY_CTL_RESUME, WQ_RSY_CTL_QUIESCE]⟩,
  ⟨0x4c, 4, 0, 0, 1, false, [WQ_RSY_STAT_INFLIGHT, WQ_RSY_STAT_DRAINED, WQ_RSY_STAT_QUIESCED]⟩,
  ⟨0x100, 8, 48, 0, 64, false, [WQ_BASE_ADDR]⟩,
  ⟨0x108, 4, 48, 0, 64, false, [WQ_CFG_ENABLE, WQ_CFG_TYPE, WQ_CFG_CQ, WQ_CFG_SIZE_LOG2]⟩,
  ⟨0x10c, 4, 48, 0, 64, false, [WQ_BIND_TARGET]⟩,
  ⟨0x110, 4, 48, 0, 64, false, [WQ_SCHED_BURST, WQ_SCHED_WEIGHT]⟩,
  ⟨0x114, 4, 48, 0, 64, false, [WQ_IDX_TAIL, WQ_IDX_HEAD]⟩,
  ⟨0x118, 4, 48, 0, 64, false, [WQ_HSEQ_HSEQ]⟩,
  ⟨0x11c, 4, 48, 0, 64, false, [WQ_STAT_INFLIGHT, WQ_STAT_HALT_STATUS, WQ_STAT_SEQ_ERR, WQ_STAT_DB_ERR, WQ_STAT_IDLE, WQ_STAT_QUIESCED, WQ_STAT_PARKED, WQ_STAT_HALTED]⟩,
  ⟨0x120, 4, 48, 0, 64, false, [WQ_CMD_ABORT, WQ_CMD_RESUME]⟩,
  ⟨0x124, 4, 48, 0, 64, false, [WQ_CNT_DB_ERRS, WQ_CNT_CACHED]⟩]
/-- The registers of the CQ page above the common header. -/
def layoutCQ : List RegEnt := [
  ⟨0x100, 8, 32, 0, 64, false, [CQ_BASE_ADDR]⟩,
  ⟨0x108, 4, 32, 0, 64, false, [CQ_CFG_ENABLE, CQ_CFG_EV_EN, CQ_CFG_COAL_US, CQ_CFG_COAL_CNT, CQ_CFG_SIZE_LOG2]⟩,
  ⟨0x10c, 4, 32, 0, 64, false, [CQ_HEAD_COUNT]⟩,
  ⟨0x110, 4, 32, 0, 64, false, [CQ_TAIL_COUNT]⟩,
  ⟨0x114, 4, 32, 0, 64, false, [CQ_STAT_RESERVED_SLOTS, CQ_STAT_HELD, CQ_STAT_HEAD_ERR, CQ_STAT_OVERFLOW, CQ_STAT_PARKED, CQ_STAT_FULL, CQ_STAT_ARMED]⟩,
  ⟨0x118, 4, 32, 0, 64, false, [CQ_LOST_COUNT]⟩,
  ⟨0x11c, 4, 32, 0, 64, false, [CQ_ARM_ARM]⟩]
/-- The registers of the DMA page above the common header. -/
def layoutDMA : List RegEnt := [
  ⟨0x40, 4, 0, 0, 1, false, [DMA_CTL_ENABLE, DMA_CTL_SRC, DMA_CTL_EV_EN, DMA_CTL_SHEAF, DMA_CTL_POLL_US, DMA_CTL_SIZE_LOG2]⟩,
  ⟨0x44, 4, 0, 0, 1, false, [DMA_CMD_DISCARD_PARKED, DMA_CMD_GO, DMA_CMD_STOP, DMA_CMD_KICK]⟩,
  ⟨0x48, 8, 0, 0, 1, false, [DMA_RING_BASE_ADDR]⟩,
  ⟨0x50, 4, 0, 0, 1, false, [DMA_RING_IDX_NEXT]⟩,
  ⟨0x54, 4, 0, 0, 1, false, [DMA_STAT_LAST_STATUS, DMA_STAT_PARK_AT, DMA_STAT_PACE_GO, DMA_STAT_STOP_PENDING, DMA_STAT_STATE]⟩,
  ⟨0x58, 8, 0, 0, 1, false, [DMA_CURSOR_INDEX, DMA_CURSOR_UNITS]⟩,
  ⟨0x60, 4, 0, 0, 1, false, [DMA_PACE_CTL_OBJ, DMA_PACE_CTL_RING_OUT, DMA_PACE_CTL_SIDE, DMA_PACE_CTL_KIND]⟩,
  ⟨0x64, 4, 0, 0, 1, false, [DMA_PACE_LEVEL_LEVEL]⟩,
  ⟨0x68, 8, 0, 0, 1, false, [DMA_PACE_ADDR_ADDR]⟩,
  ⟨0x70, 8, 0, 0, 1, false, [DMA_PACE_MARK_HIGH, DMA_PACE_MARK_LOW]⟩,
  ⟨0x78, 4, 0, 0, 1, false, [DMA_CNT_DESC_COUNT]⟩,
  ⟨0x7c, 4, 0, 0, 1, false, [DMA_CNT_PARK_COUNT]⟩,
  ⟨0x80, 8, 0, 0, 1, false, [DMA_CNT_BYTES_COUNT]⟩]
/-- The registers of the EMAC page above the common header. -/
def layoutEMAC : List RegEnt := [
  ⟨0x40, 4, 0, 0, 1, false, [EMAC_CFG_FEC, EMAC_CFG_MEDIUM, EMAC_CFG_AN_EN, EMAC_CFG_TYPE]⟩,
  ⟨0x44, 4, 0, 0, 1, false, [EMAC_CTL_SNAP_PREF, EMAC_CTL_VLAN_STRIP, EMAC_CTL_DOWN_DROP, EMAC_CTL_ENABLE]⟩,
  ⟨0x48, 4, 0, 0, 1, false, [EMAC_MTU_MTU]⟩,
  ⟨0x4c, 4, 0, 0, 1, false, [EMAC_TUN_GENEVE_PORT, EMAC_TUN_VXLAN_PORT]⟩,
  ⟨0x50, 8, 0, 0, 1, false, [EMAC_ADDR_ADDR]⟩,
  ⟨0x58, 4, 0, 0, 1, false, [EMAC_LSX_DWELL, EMAC_LSX_UP_PCT, EMAC_LSX_SHED_PCT, EMAC_LSX_MIN_LANES, EMAC_LSX_LPM_EN]⟩,
  ⟨0x5c, 4, 0, 0, 1, false, [EMAC_CMD_RETRAIN, EMAC_CMD_WIDEN]⟩,
  ⟨0x60, 4, 0, 0, 1, false, [EMAC_STAT_LANES, EMAC_STAT_LSX_STATE, EMAC_STAT_LEADER, EMAC_STAT_PARTNER_ZHOEM, EMAC_STAT_REMOTE_FAULT, EMAC_STAT_LOCAL_FAULT, EMAC_STAT_AN_DONE, EMAC_STAT_FEC_LOCK, EMAC_STAT_LINK_UP]⟩,
  ⟨0x64, 4, 0, 0, 1, false, [EMAC_UTIL_UTIL]⟩,
  ⟨0x68, 4, 0, 0, 1, false, [EMAC_TPID_TPID]⟩,
  ⟨0x80, 8, 8, 0, 8, false, [EMAC_TC_RATE_BURST, EMAC_TC_RATE_RATE]⟩,
  ⟨0xc0, 8, 0, 0, 1, false, [EMAC_CNT_RX_FRAMES_COUNT]⟩,
  ⟨0xc8, 8, 0, 0, 1, false, [EMAC_CNT_RX_BYTES_COUNT]⟩,
  ⟨0xd0, 8, 0, 0, 1, false, [EMAC_CNT_RX_FCS_COUNT]⟩,
  ⟨0xd8, 8, 0, 0, 1, false, [EMAC_CNT_RX_RUNT_COUNT]⟩,
  ⟨0xe0, 8, 0, 0, 1, false, [EMAC_CNT_RX_OVERSIZE_COUNT]⟩,
  ⟨0xe8, 8, 0, 0, 1, false, [EMAC_CNT_RX_NO_BUF_COUNT]⟩,
  ⟨0xf0, 8, 0, 0, 1, false, [EMAC_CNT_TX_FRAMES_COUNT]⟩,
  ⟨0xf8, 8, 0, 0, 1, false, [EMAC_CNT_TX_BYTES_COUNT]⟩,
  ⟨0x100, 8, 0, 0, 1, false, [EMAC_CNT_TX_DOWN_DROP_COUNT]⟩,
  ⟨0x108, 8, 0, 0, 1, false, [EMAC_CNT_FEC_CORR_COUNT]⟩,
  ⟨0x110, 8, 0, 0, 1, false, [EMAC_CNT_FEC_UNC_COUNT]⟩,
  ⟨0x118, 4, 0, 0, 1, false, [EMAC_CNT_LINK_COUNT]⟩,
  ⟨0x11c, 4, 0, 0, 1, false, [EMAC_CNT_LSX_COUNT]⟩,
  ⟨0x120, 8, 8, 0, 8, false, [EMAC_CNT_TC_COUNT]⟩,
  ⟨0x160, 8, 8, 0, 8, false, [EMAC_CNT_RXQ_COUNT]⟩]
/-- The registers of the EFLT page above the common header. -/
def layoutEFLT : List RegEnt := [
  ⟨0x40, 4, 0, 0, 1, false, [EFLT_CTL_RX_TS, EFLT_CTL_MAGIC_EN, EFLT_CTL_WAKE_EN, EFLT_CTL_VLAN_EN, EFLT_CTL_UNTAGGED_EN, EFLT_CTL_PROMISC, EFLT_CTL_MHASH_EN, EFLT_CTL_LL_EN, EFLT_CTL_BCAST_EN]⟩,
  ⟨0x44, 4, 0, 0, 1, false, [EFLT_FC_CTL_QUANTA, EFLT_FC_CTL_PFC_EN, EFLT_FC_CTL_UNTAG_PRIO, EFLT_FC_CTL_TX_EN, EFLT_FC_CTL_RX_EN, EFLT_FC_CTL_MODE]⟩,
  ⟨0x48, 8, 0, 0, 1, false, [EFLT_QMASK_PROMISC_MASK, EFLT_QMASK_MCAST_MASK, EFLT_QMASK_LL_MASK, EFLT_QMASK_BCAST_MASK, EFLT_QMASK_OWN_MASK]⟩,
  ⟨0x50, 4, 0, 0, 1, false, [EFLT_RXSHARE_UNITS]⟩,
  ⟨0x54, 4, 0, 0, 1, false, [EFLT_FC_MARK_XOFF, EFLT_FC_MARK_XON]⟩,
  ⟨0x58, 4, 0, 0, 1, false, [EFLT_FC_STAT_TX_PAUSED, EFLT_FC_STAT_ASSERTED, EFLT_FC_STAT_BP]⟩,
  ⟨0x5c, 4, 0, 0, 1, false, [EFLT_WAKE_CMD_LOAD]⟩,
  ⟨0x60, 8, 0, 0, 1, false, [EFLT_WAKE_BASE_ADDR]⟩,
  ⟨0x68, 4, 0, 0, 1, false, [EFLT_WAKE_STAT_LOAD_RESULT, EFLT_WAKE_STAT_LAST_PAT, EFLT_WAKE_STAT_LOADED, EFLT_WAKE_STAT_MATCHED]⟩,
  ⟨0x70, 8, 0, 0, 1, false, [EFLT_CNT_ADDR_DROP_COUNT]⟩,
  ⟨0x78, 8, 0, 0, 1, false, [EFLT_CNT_VLAN_DROP_COUNT]⟩,
  ⟨0x80, 8, 0, 0, 1, false, [EFLT_CNT_CTRL_COUNT]⟩,
  ⟨0x88, 8, 0, 0, 1, false, [EFLT_CNT_CTRL_DROP_COUNT]⟩,
  ⟨0x90, 8, 0, 0, 1, false, [EFLT_CNT_PAUSE_TX_COUNT]⟩,
  ⟨0x98, 8, 0, 0, 1, false, [EFLT_CNT_SLEEP_DROP_COUNT]⟩,
  ⟨0xc0, 8, 8, 0, 8, false, [EFLT_MHASH_BITS]⟩,
  ⟨0x200, 8, 8, 0, 64, false, [EFLT_VLAN_BITS]⟩]
/-- The registers of the EFLTS page above the common header. -/
def layoutEFLTS : List RegEnt := [
  ⟨0x40, 4, 0, 0, 1, false, [EFLT_EM_SEL_INDEX]⟩,
  ⟨0x44, 4, 0, 0, 1, false, [EFLT_EM_RD_SEL_INDEX]⟩,
  ⟨0x50, 16, 0, 0, 1, false, [EFLT_EM_DATA_RXQ_MASK, EFLT_EM_DATA_ACTION, EFLT_EM_DATA_VALID, EFLT_EM_DATA_ANY_PORT, EFLT_EM_DATA_PORT, EFLT_EM_DATA_ADDR]⟩,
  ⟨0x60, 16, 0, 0, 1, false, [EFLT_EM_RD_ENTRY]⟩]
/-- The registers of the ESTR page above the common header. -/
def layoutESTR : List RegEnt := [
  ⟨0x40, 4, 0, 0, 1, false, [ESTR_CTL_INNER, ESTR_CTL_DEF_RXQ]⟩,
  ⟨0x44, 4, 0, 0, 1, false, [ESTR_CMD_REKEY]⟩,
  ⟨0x48, 4, 0, 0, 1, false, [ESTR_IMB_THRESH, ESTR_IMB_HOLD, ESTR_IMB_MIN]⟩,
  ⟨0x4c, 4, 0, 0, 1, false, [ESTR_STAT_KEY_GEN, ESTR_STAT_BACKOFF, ESTR_STAT_IMB_ABOVE, ESTR_STAT_DRAINING, ESTR_STAT_PROVISIONAL]⟩,
  ⟨0x50, 4, 4, 0, 8, false, [ESTR_RXQ_TASK_EN, ESTR_RXQ_FAULT_POL, ESTR_RXQ_SHEAF, ESTR_RXQ_BP_MASK, ESTR_RXQ_INST]⟩,
  ⟨0x70, 8, 8, 0, 8, false, [ESTR_IND_ENTRIES]⟩,
  ⟨0xb0, 8, 0, 0, 1, false, [ESTR_CNT_HIT_COUNT]⟩,
  ⟨0xb8, 8, 0, 0, 1, false, [ESTR_CNT_MISS_COUNT]⟩,
  ⟨0xc0, 8, 0, 0, 1, false, [ESTR_CNT_DENIED_COUNT]⟩,
  ⟨0xc8, 8, 0, 0, 1, false, [ESTR_CNT_DROP_COUNT]⟩,
  ⟨0xd0, 4, 0, 0, 1, false, [ESTR_CNT_REKEY_COUNT]⟩,
  ⟨0xd4, 4, 0, 0, 1, false, [ESTR_CNT_ORDER_BREAK_COUNT]⟩,
  ⟨0x100, 8, 8, 0, 8, false, [ESTR_CNT_SPREAD_BYTES]⟩]
/-- The registers of the ESTRS page above the common header. -/
def layoutESTRS : List RegEnt := [
  ⟨0x40, 4, 0, 0, 1, false, [ESTR_BANK_SEL_ACTIVE]⟩,
  ⟨0x44, 4, 0, 0, 1, false, [ESTR_LOAD_CMD_LOAD, ESTR_LOAD_CMD_COPY, ESTR_LOAD_CMD_CLEAR]⟩,
  ⟨0x48, 8, 0, 0, 1, false, [ESTR_LOAD_ADDR_ADDR]⟩,
  ⟨0x50, 4, 0, 0, 1, false, [ESTR_LOAD_LEN_LEN]⟩,
  ⟨0x58, 8, 0, 0, 1, false, [ESTR_LOAD_STAT_RUNNING, ESTR_LOAD_STAT_RESULT, ESTR_LOAD_STAT_FIRST_BAD, ESTR_LOAD_STAT_UNPLACED]⟩,
  ⟨0x60, 8, 0, 0, 1, false, [ESTR_BANK_CNT_B1, ESTR_BANK_CNT_B0]⟩]
/-- The registers of the MSEC page above the common header. -/
def layoutMSEC : List RegEnt := [
  ⟨0x40, 4, 0, 0, 1, false, [MSEC_CTL_TX_REQUIRE, MSEC_CTL_VALIDATE, MSEC_CTL_ENABLE]⟩,
  ⟨0x44, 4, 0, 0, 1, false, [MSEC_KEY_CMD_AN, MSEC_KEY_CMD_SC, MSEC_KEY_CMD_DIR, MSEC_KEY_CMD_LOAD]⟩,
  ⟨0x48, 4, 0, 0, 1, false, [MSEC_SA_USE_IN_USE]⟩,
  ⟨0x4c, 4, 0, 0, 1, false, [MSEC_SA_KEYED_KEYED]⟩,
  ⟨0x50, 8, 8, 0, 4, false, [MSEC_KEY_SAK_KEY]⟩,
  ⟨0x70, 16, 0, 0, 1, false, [MSEC_KEY_SALT_SALT]⟩,
  ⟨0x80, 8, 0, 0, 1, false, [MSEC_KEY_PN_PN]⟩,
  ⟨0x88, 4, 0, 0, 1, false, [MSEC_KEY_SSCI_SSCI]⟩,
  ⟨0x8c, 4, 0, 0, 1, false, [MSEC_TX_EXH_EXHAUSTED]⟩,
  ⟨0xa0, 8, 32, 0, 4, false, [MSEC_TXSC_SCI_SCI]⟩,
  ⟨0xa8, 4, 32, 0, 4, false, [MSEC_TXSC_CTL_CONF, MSEC_TXSC_CTL_INCLUDE_SCI, MSEC_TXSC_CTL_ENC_AN, MSEC_TXSC_CTL_CIPHER]⟩,
  ⟨0xb0, 8, 32, 0, 4, false, [MSEC_TXSC_THRESH_PN]⟩,
  ⟨0x120, 8, 32, 0, 4, false, [MSEC_RXSC_SCI_SCI]⟩,
  ⟨0x128, 4, 32, 0, 4, false, [MSEC_RXSC_CTL_VALID, MSEC_RXSC_CTL_REPLAY_EN, MSEC_RXSC_CTL_CIPHER]⟩,
  ⟨0x12c, 4, 32, 0, 4, false, [MSEC_RXSC_WIN_WINDOW]⟩,
  ⟨0x200, 8, 8, 0, 32, false, [MSEC_SA_PN_PN]⟩,
  ⟨0x300, 8, 0, 0, 1, false, [MSEC_CNT_TX_PROTECTED_COUNT]⟩,
  ⟨0x308, 8, 0, 0, 1, false, [MSEC_CNT_TX_ENCRYPTED_COUNT]⟩,
  ⟨0x310, 8, 0, 0, 1, false, [MSEC_CNT_TX_EXHAUSTED_COUNT]⟩,
  ⟨0x318, 8, 0, 0, 1, false, [MSEC_CNT_RX_OK_COUNT]⟩,
  ⟨0x320, 8, 0, 0, 1, false, [MSEC_CNT_RX_INVALID_COUNT]⟩,
  ⟨0x328, 8, 0, 0, 1, false, [MSEC_CNT_RX_LATE_COUNT]⟩,
  ⟨0x330, 8, 0, 0, 1, false, [MSEC_CNT_RX_NOSCI_COUNT]⟩,
  ⟨0x338, 8, 0, 0, 1, false, [MSEC_CNT_RX_UNTAGGED_COUNT]⟩]
/-- The registers of the STK page above the common header. -/
def layoutSTK : List RegEnt := [
  ⟨0x40, 4, 0, 0, 1, false, [STK_STAT_RESERVE_LEFT]⟩,
  ⟨0x100, 4, 4, 0, 65, false, [STK_TC_RSV_ENTRIES]⟩]
/-- The registers of the SHF page above the common header. -/
def layoutSHF : List RegEnt := [
  ⟨0x40, 4, 0, 0, 1, false, [SHF_CFG_PER_SLOTS, SHF_CFG_STREAM_ORDER, SHF_CFG_PREEMPT_EN, SHF_CFG_POLICY]⟩,
  ⟨0x44, 4, 0, 0, 1, false, [SHF_DL_PER_DL_FRAMES, SHF_DL_EV_DL_US]⟩,
  ⟨0x48, 4, 0, 0, 1, false, [SHF_PRIO_TX_PRIO, SHF_PRIO_BULK_PRIO, SHF_PRIO_EV_PRIO, SHF_PRIO_RX_PRIO, SHF_PRIO_PER_PRIO]⟩,
  ⟨0x4c, 4, 0, 0, 1, false, [SHF_STAT_RESERVE_LEFT, SHF_STAT_CTX_FREE, SHF_STAT_CB_FREE, SHF_STAT_PER_NEED]⟩,
  ⟨0x50, 8, 0, 0, 1, false, [SHF_LOAD_ADDR_ADDR]⟩,
  ⟨0x58, 4, 0, 0, 1, false, [SHF_LOAD_CMD_LOAD, SHF_LOAD_CMD_INST, SHF_LOAD_CMD_SLOT, SHF_LOAD_CMD_LEN]⟩,
  ⟨0x5c, 4, 0, 0, 1, false, [SHF_LOAD_STAT_RUNNING, SHF_LOAD_STAT_RESULT, SHF_LOAD_STAT_SLOT_VALID]⟩,
  ⟨0x60, 4, 4, 0, 4, false, [SHF_HOOK_VALID, SHF_HOOK_FAIL_ACT, SHF_HOOK_SLOT, SHF_HOOK_INST, SHF_HOOK_BUDGET]⟩,
  ⟨0x70, 4, 4, 0, 8, false, [SHF_TXHOOK_VALID, SHF_TXHOOK_QUEUE]⟩,
  ⟨0x90, 4, 4, 0, 8, false, [SHF_BULK_VALID, SHF_BULK_QUEUE]⟩,
  ⟨0x100, 8, 8, 0, 65, false, [SHF_SHARE_PRIO_MAX, SHF_SHARE_WEIGHT, SHF_SHARE_BURST, SHF_SHARE_MIN_TILLERS, SHF_SHARE_SLOTS]⟩]
/-- The registers of the TSK page above the common header. -/
def layoutTSK : List RegEnt := [
  ⟨0x40, 4, 0, 0, 1, false, [TSK_STAT_READY, TSK_STAT_RUNNING, TSK_STAT_SUSPENDED]⟩,
  ⟨0x44, 4, 0, 0, 1, false, [TSK_CB_HWM, TSK_CB_IN_USE]⟩,
  ⟨0x48, 8, 0, 0, 1, false, [TSK_CNT_CREATED_COUNT]⟩,
  ⟨0x50, 8, 0, 0, 1, false, [TSK_CNT_COMMIT_COUNT]⟩,
  ⟨0x58, 4, 0, 0, 1, false, [TSK_CNT_PREEMPT_COUNT]⟩,
  ⟨0x5c, 4, 0, 0, 1, false, [TSK_CNT_REPLAY_COUNT]⟩,
  ⟨0x60, 4, 0, 0, 1, false, [TSK_CNT_ABORT_COUNT]⟩,
  ⟨0x64, 4, 0, 0, 1, false, [TSK_CNT_LOST_COUNT]⟩,
  ⟨0x68, 4, 0, 0, 1, false, [TSK_CNT_DL_MISS_COUNT]⟩,
  ⟨0x6c, 4, 0, 0, 1, false, [TSK_CNT_HOOK_OVER_COUNT]⟩,
  ⟨0x70, 4, 0, 0, 1, false, [TSK_CNT_NOTASK_COUNT]⟩]
/-- The registers of the DTU page above the common header. -/
def layoutDTU : List RegEnt := [
  ⟨0x40, 4, 0, 0, 1, false, [DTU_CTL_WALK_MAX, DTU_CTL_PRI_TMO]⟩,
  ⟨0x44, 4, 0, 0, 1, false, [DTU_STAT_RSV_BANKS, DTU_STAT_WALKS]⟩,
  ⟨0x48, 8, 0, 0, 1, false, [DTU_CNT_L1_MISS_COUNT]⟩,
  ⟨0x50, 8, 0, 0, 1, false, [DTU_CNT_L2_MISS_COUNT]⟩,
  ⟨0x58, 8, 0, 0, 1, false, [DTU_CNT_WALK_READ_COUNT]⟩,
  ⟨0x60, 8, 0, 0, 1, false, [DTU_CNT_FAULT_COUNT]⟩,
  ⟨0x68, 4, 0, 0, 1, false, [DTU_CNT_INV_COUNT]⟩,
  ⟨0x6c, 4, 0, 0, 1, false, [DTU_CNT_ATS_REQ_COUNT]⟩,
  ⟨0x70, 4, 0, 0, 1, false, [DTU_CNT_ATS_INV_COUNT]⟩,
  ⟨0x74, 4, 0, 0, 1, false, [DTU_CNT_PRI_COUNT]⟩,
  ⟨0x100, 4, 4, 0, 65, false, [DTU_L2_MAX_UNITS]⟩]
/-- The registers of the DLOG page above the common header. -/
def layoutDLOG : List RegEnt := [
  ⟨0x40, 8, 0, 0, 1, false, [DLOG_ROOT_ADDR, DLOG_ROOT_HOST, DLOG_ROOT_VALID]⟩,
  ⟨0x48, 4, 0, 0, 1, false, [DLOG_ICTL_PRI_EN, DLOG_ICTL_ATS_EN, DLOG_ICTL_PASID_EN, DLOG_ICTL_PASID]⟩,
  ⟨0x4c, 4, 0, 0, 1, false, [DLOG_IST_INV_DONE, DLOG_IST_INV_REQ]⟩,
  ⟨0x50, 8, 0, 0, 1, false, [DLOG_FQ_BASE_ADDR, DLOG_FQ_BASE_HOST, DLOG_FQ_BASE_VALID]⟩,
  ⟨0x58, 4, 0, 0, 1, false, [DLOG_FQ_HEAD_COUNT]⟩,
  ⟨0x5c, 4, 0, 0, 1, false, [DLOG_FQ_TAIL_COUNT]⟩,
  ⟨0x60, 4, 0, 0, 1, false, [DLOG_RESUME_ACTION, DLOG_RESUME_FID]⟩,
  ⟨0x64, 4, 0, 0, 1, false, [DLOG_FQ_STAT_LOST, DLOG_FQ_STAT_WAITING]⟩,
  ⟨0x68, 8, 0, 0, 1, false, [DLOG_INV_COUNT, DLOG_INV_VA]⟩,
  ⟨0x70, 8, 0, 0, 1, false, [DLOG_SPILL_VA_VA, DLOG_SPILL_VA_VALID]⟩,
  ⟨0x78, 4, 0, 0, 1, false, [DLOG_SPILL_HEAD_UNITS]⟩,
  ⟨0x7c, 4, 0, 0, 1, false, [DLOG_SPILL_TAIL_UNITS]⟩,
  ⟨0x80, 4, 0, 0, 1, false, [DLOG_SPILL_SIZE_UNITS]⟩,
  ⟨0x84, 4, 0, 0, 1, false, [DLOG_LOG_CTL_ACTIVE, DLOG_LOG_CTL_EN]⟩,
  ⟨0x88, 8, 0, 0, 1, false, [DLOG_LOG_BMP0_ADDR]⟩,
  ⟨0x90, 8, 0, 0, 1, false, [DLOG_LOG_BMP1_ADDR]⟩,
  ⟨0x98, 8, 0, 0, 1, false, [DLOG_LOG_BASE_ADDR]⟩,
  ⟨0xa0, 4, 0, 0, 1, false, [DLOG_LOG_LEN_PAGES]⟩,
  ⟨0xa4, 4, 0, 0, 1, false, [DLOG_LOG_STAT_OUT_RANGE, DLOG_LOG_STAT_LOST1, DLOG_LOG_STAT_LOST0, DLOG_LOG_STAT_FLUSHING]⟩,
  ⟨0xa8, 8, 0, 0, 1, false, [DLOG_LOG_FLUSH_EPOCH]⟩,
  ⟨0xb0, 4, 0, 0, 1, false, [DLOG_CNT_FAULT_COUNT]⟩,
  ⟨0xb4, 4, 0, 0, 1, false, [DLOG_SPILL_POS_UNITS]⟩]
/-- The registers of the INST page above the common header. -/
def layoutINST : List RegEnt := [
  ⟨0x40, 4, 0, 0, 1, false, [INST_CTL_PORT, INST_CTL_VF]⟩,
  ⟨0x44, 4, 0, 0, 1, false, [INST_CMD_CMD]⟩,
  ⟨0x48, 4, 0, 0, 1, false, [INST_STAT_RESETS, INST_STAT_VF_ENABLED, INST_STAT_STATE]⟩,
  ⟨0x4c, 4, 0, 0, 1, false, [INST_REFUSED_COUNT]⟩,
  ⟨0x50, 4, 0, 0, 1, false, [INST_MEM_SPILL, INST_MEM_DEV]⟩,
  ⟨0x54, 4, 0, 0, 1, false, [INST_IRQ_SOURCES]⟩,
  ⟨0x58, 8, 0, 0, 1, false, [INST_IMG_ADDR_ADDR]⟩,
  ⟨0x60, 4, 0, 0, 1, false, [INST_CMD_STAT_RUNNING, INST_CMD_STAT_RESULT]⟩,
  ⟨0x80, 4, 4, 0, 4, false, [INST_WQ_RANGE_COUNT, INST_WQ_RANGE_FIRST]⟩,
  ⟨0x90, 4, 4, 0, 4, false, [INST_CQ_RANGE_COUNT, INST_CQ_RANGE_FIRST]⟩,
  ⟨0xa0, 4, 4, 0, 8, false, [INST_SBUF_UNITS]⟩,
  ⟨0xc0, 8, 8, 0, 8, false, [INST_DMA_MAP_BITS]⟩,
  ⟨0x100, 16, 0, 0, 1, false, [INST_KRP_MAP_BITS]⟩,
  ⟨0x110, 16, 0, 0, 1, false, [INST_EMAC_MAP_BITS]⟩,
  ⟨0x120, 8, 8, 0, 4, false, [INST_GLN_MAP_BITS]⟩,
  ⟨0x140, 8, 8, 0, 32, false, [INST_KSTREAM_VALID, INST_KSTREAM_EP_OUT, INST_KSTREAM_EP_IN, INST_KSTREAM_ADDR, INST_KSTREAM_CTRL, INST_KSTREAM_ROOT]⟩,
  ⟨0x240, 4, 4, 0, 4, false, [INST_MSEC_VALID, INST_MSEC_SC_MASK, INST_MSEC_EMAC]⟩,
  ⟨0x400, 4, 4, 0, 208, false, [INST_ALIAS]⟩]
/-- The registers of the MBX page above the common header. -/
def layoutMBX : List RegEnt := [
  ⟨0x40, 4, 0, 0, 1, false, [MBX_CTL_FB_VALID, MBX_CTL_TMO_MS]⟩,
  ⟨0x44, 4, 0, 0, 1, false, [MBX_STAT_FULL, MBX_STAT_PEER_RESET, MBX_STAT_TIMEOUT, MBX_STAT_RX_PENDING, MBX_STAT_TX_USED]⟩,
  ⟨0x48, 4, 0, 0, 1, false, [MBX_TX_SEQ_SEQ]⟩,
  ⟨0x4c, 4, 0, 0, 1, false, [MBX_RX_SEQ_SEQ]⟩,
  ⟨0x50, 4, 0, 0, 1, false, [MBX_CMD_TAKE, MBX_CMD_SEND]⟩,
  ⟨0x58, 8, 0, 0, 1, false, [MBX_FB_ADDR_ADDR]⟩,
  ⟨0x60, 4, 0, 0, 1, false, [MBX_FB_SIZE_SLOTS]⟩,
  ⟨0x100, 256, 0, 0, 1, true, [MBX_TX_DATA]⟩,
  ⟨0x200, 256, 0, 0, 1, true, [MBX_RX_DATA]⟩]
/-- The registers of the IRQ page above the common header. -/
def layoutIRQ : List RegEnt := [
  ⟨0x40, 4, 4, 0, 4, false, [IRQ_EN_BITS]⟩,
  ⟨0x50, 4, 4, 0, 4, false, [IRQ_PEND_BITS]⟩,
  ⟨0x60, 4, 4, 0, 4, false, [IRQ_INSVC_BITS]⟩,
  ⟨0x70, 4, 4, 0, 4, false, [IRQ_HOLDOFF_HOLD]⟩,
  ⟨0x80, 4, 0, 0, 1, false, [IRQ_STORM_WIN, IRQ_STORM_MAX]⟩,
  ⟨0x200, 8, 8, 0, 128, false, [IRQ_SRC_CFG_PRIO, IRQ_SRC_CFG_SENSE, IRQ_SRC_CFG_TGT, IRQ_SRC_CFG_INST, IRQ_SRC_CFG_KIND, IRQ_SRC_CFG_UNIT]⟩,
  ⟨0x600, 4, 4, 0, 128, false, [IRQ_SRC_STAT_STORM, IRQ_SRC_STAT_COALESCED]⟩]
/-- The registers of the IRQT page above the common header. -/
def layoutIRQT : List RegEnt := [
  ⟨0x40, 4, 0, 0, 1, false, [IRQ_THRESH_THRESH]⟩,
  ⟨0x44, 4, 0, 0, 1, false, [IRQ_CLAIM_VALID, IRQ_CLAIM_SOURCE]⟩,
  ⟨0x48, 4, 0, 0, 1, false, [IRQ_COMPLETE_SOURCE]⟩,
  ⟨0x4c, 4, 0, 0, 1, false, [IRQ_TSTAT_COMPLETE_ERR, IRQ_TSTAT_CEIL, IRQ_TSTAT_REQ, IRQ_TSTAT_INSVC]⟩,
  ⟨0x50, 4, 0, 0, 1, false, [IRQ_GCFG_FAST_MIN]⟩,
  ⟨0x54, 4, 0, 0, 1, false, [IRQ_GSTAT_MODE]⟩]
/-- The registers of the PWR page above the common header. -/
def layoutPWR : List RegEnt := [
  ⟨0x40, 4, 0, 0, 1, false, [PWR_CTL_DRAIN_MS, PWR_CTL_THERM_FLOOR]⟩,
  ⟨0x44, 4, 0, 0, 1, false, [PWR_CMD_STATE]⟩,
  ⟨0x48, 4, 0, 0, 1, false, [PWR_STAT_RESULT, PWR_STAT_ENTERING, PWR_STAT_THROTTLING, PWR_STAT_SUPPLY_LOW, PWR_STAT_TJ_MAX, PWR_STAT_STATE]⟩,
  ⟨0x4c, 4, 0, 0, 1, false, [PWR_WAKE_EN_EN]⟩,
  ⟨0x50, 16, 0, 0, 1, false, [PWR_LISTEN_KRP]⟩,
  ⟨0x60, 4, 0, 0, 1, false, [PWR_LAST_WAKE_DURING_ENTRY, PWR_LAST_WAKE_FROM_STATE, PWR_LAST_WAKE_SOURCE, PWR_LAST_WAKE_DETAIL, PWR_LAST_WAKE_UNIT]⟩,
  ⟨0x70, 16, 0, 0, 1, false, [PWR_WAKE_TIME_TIME]⟩,
  ⟨0x80, 4, 0, 0, 1, false, [PWR_TARIFF_SET, PWR_TARIFF_NEW_BAND, PWR_TARIFF_BAND]⟩,
  ⟨0x84, 4, 0, 0, 1, false, [PWR_TOD_OFFSET_SEC]⟩,
  ⟨0x88, 4, 0, 0, 1, false, [PWR_DMD_BOOT_BAND, PWR_DMD_MINUTES]⟩,
  ⟨0x8c, 4, 0, 0, 1, false, [PWR_CNT_DIP_COUNT]⟩,
  ⟨0x90, 16, 0, 0, 1, false, [PWR_LOSS_TIME_TIME]⟩,
  ⟨0xa0, 4, 4, 0, 8, false, [PWR_TOD_VALID, PWR_TOD_BAND, PWR_TOD_SECOND]⟩]
/-- The registers of the PWRD page above the common header. -/
def layoutPWRD : List RegEnt := [
  ⟨0x40, 4, 0, 0, 1, false, [PWR_DOM_STAT_PHASES_OK, PWR_DOM_STAT_PHASE_RSV, PWR_DOM_STAT_CLOCK, PWR_DOM_STAT_DSTATE]⟩,
  ⟨0x44, 4, 0, 0, 1, false, [PWR_DOM_GEN_GEN]⟩,
  ⟨0x48, 4, 0, 0, 1, false, [PWR_DOM_TEMP_TJ]⟩,
  ⟨0x4c, 4, 0, 0, 1, false, [PWR_DOM_CNT_PHASE_THR_COUNT]⟩,
  ⟨0x50, 4, 0, 0, 1, false, [PWR_DOM_CNT_THERM_COUNT]⟩]
/-- The registers of the NRG page above the common header. -/
def layoutNRG : List RegEnt := [
  ⟨0x40, 4, 0, 0, 1, false, [NRG_CTL_EN]⟩,
  ⟨0x44, 4, 0, 0, 1, false, [NRG_CMD_CLEAR_ACC, NRG_CMD_CLEAR_MAX]⟩,
  ⟨0x48, 4, 0, 0, 1, false, [NRG_STAT_ESTIMATING, NRG_STAT_UNTIMED, NRG_STAT_ACCOUNTING]⟩,
  ⟨0x50, 8, 8, 0, 4, false, [NRG_ACC_UJ]⟩,
  ⟨0x70, 8, 0, 0, 1, false, [NRG_INT_E_UJ]⟩,
  ⟨0x78, 8, 0, 0, 1, false, [NRG_INT_START_SEC]⟩,
  ⟨0x80, 8, 0, 0, 1, false, [NRG_LAST_E_UJ]⟩,
  ⟨0x88, 8, 0, 0, 1, false, [NRG_LAST_START_SEC]⟩,
  ⟨0x90, 4, 0, 0, 1, false, [NRG_LAST_INFO_PEAK, NRG_LAST_INFO_GAP, NRG_LAST_INFO_ESTIMATED, NRG_LAST_INFO_UNTIMED, NRG_LAST_INFO_PARTIAL, NRG_LAST_INFO_INTERRUPTED]⟩,
  ⟨0x94, 4, 0, 0, 1, false, [NRG_LAST_AVG_MW]⟩,
  ⟨0x98, 4, 0, 0, 1, false, [NRG_MAX_AVG_MW]⟩,
  ⟨0xa0, 8, 0, 0, 1, false, [NRG_MAX_START_SEC]⟩,
  ⟨0xa8, 8, 0, 0, 1, false, [NRG_LOSS_E_UJ]⟩,
  ⟨0xb0, 8, 0, 0, 1, false, [NRG_LOSS_START_FLAGS, NRG_LOSS_START_SEC]⟩]
/-- The registers of the PMC page above the common header. -/
def layoutPMC : List RegEnt := [
  ⟨0x40, 4, 0, 0, 1, false, [PMC_G_CTL_EN, PMC_G_CTL_PERIOD_US]⟩,
  ⟨0x44, 4, 0, 0, 1, false, [PMC_G_STAT_FAULT, PMC_G_STAT_SKIPPED]⟩,
  ⟨0x48, 8, 0, 0, 1, false, [PMC_G_BASE_ADDR]⟩,
  ⟨0x50, 4, 0, 0, 1, false, [PMC_G_RING_SLOTS]⟩,
  ⟨0x58, 8, 0, 0, 1, false, [PMC_G_TAG_TAG]⟩,
  ⟨0x60, 8, 8, 0, 4, false, [PMC_G_SET_BITS]⟩,
  ⟨0x80, 4, 0, 0, 1, false, [PMC_S_CTL_EN, PMC_S_CTL_PERIOD_LOG2, PMC_S_CTL_SIZE_LOG2]⟩,
  ⟨0x84, 4, 0, 0, 1, false, [PMC_S_STAT_LOST, PMC_S_STAT_PROVISIONAL]⟩,
  ⟨0x88, 8, 0, 0, 1, false, [PMC_S_BASE_ADDR]⟩,
  ⟨0x90, 4, 0, 0, 1, false, [PMC_S_HEAD_COUNT]⟩,
  ⟨0x94, 4, 0, 0, 1, false, [PMC_S_TAIL_COUNT]⟩,
  ⟨0x98, 8, 0, 0, 1, false, [PMC_S_SHEAVES_BITS]⟩,
  ⟨0xa0, 4, 0, 0, 1, false, [PMC_S_INST_EN, PMC_S_INST_INST]⟩]
/-- The registers of the PMCB page above the common header. -/
def layoutPMCB : List RegEnt := [
  ⟨0x40, 4, 0, 0, 1, false, [PMC_OVF_BITS]⟩,
  ⟨0x44, 4, 0, 0, 1, false, [PMC_INFO_NCNT]⟩,
  ⟨0x48, 8, 0, 0, 1, false, [PMC_RELOAD_VALUE]⟩,
  ⟨0x80, 4, 4, 0, 16, false, [PMC_EVSEL_EN, PMC_EVSEL_OVF_EN, PMC_EVSEL_RELOAD_EN, PMC_EVSEL_INST_EN, PMC_EVSEL_INST, PMC_EVSEL_SUB, PMC_EVSEL_EVENT]⟩,
  ⟨0x100, 8, 8, 0, 16, false, [PMC_CNT_COUNT]⟩]
/-- The registers of the GLN page above the common header. -/
def layoutGLN : List RegEnt := [
  ⟨0x40, 4, 0, 0, 1, false, [GLN_CTL_EV_CNT]⟩,
  ⟨0x44, 4, 0, 0, 1, false, [GLN_STAT_DEFAULT]⟩,
  ⟨0x48, 8, 0, 0, 1, false, [GLN_RING_BASE, GLN_RING_SIZE_LOG2, GLN_RING_VALID]⟩,
  ⟨0x50, 8, 0, 0, 1, false, [GLN_DEF_VA_VA, GLN_DEF_VA_VALID]⟩,
  ⟨0x58, 8, 0, 0, 1, false, [GLN_SEQ_SEQ]⟩,
  ⟨0x60, 8, 0, 0, 1, false, [GLN_RD_SEQ]⟩,
  ⟨0x68, 8, 0, 0, 1, false, [GLN_TRIG_ARG, GLN_TRIG_CODE]⟩,
  ⟨0x70, 4, 0, 0, 1, false, [GLN_CODE_SEL_CODE]⟩,
  ⟨0x74, 4, 0, 0, 1, false, [GLN_CODE_CFG_VALID, GLN_CODE_CFG_EV_EN, GLN_CODE_CFG_KIND, GLN_CODE_CFG_PREF, GLN_CODE_CFG_SRC]⟩,
  ⟨0x78, 4, 0, 0, 1, false, [GLN_CODE_RATE_PERIOD_US, GLN_CODE_RATE_BURST]⟩,
  ⟨0x7c, 4, 0, 0, 1, false, [GLN_CODE_STAT_PENDING]⟩,
  ⟨0x80, 4, 0, 0, 1, false, [GLN_CODE_CNT_COUNT]⟩,
  ⟨0xc0, 4, 4, 0, 12, false, [GLN_CODE_WSEL_VALID, GLN_CODE_WSEL_OFFSET]⟩]
/-- The registers of the DCH page above the common header. -/
def layoutDCH : List RegEnt := [
  ⟨0x40, 4, 0, 0, 1, false, [DCH_CTL_LVL_CAP]⟩,
  ⟨0x44, 4, 0, 0, 1, false, [DCH_STAT_ADDR, DCH_STAT_LVL, DCH_STAT_LVL_OWN, DCH_STAT_COUNT, DCH_STAT_OVERFLOW, DCH_STAT_WALKING, DCH_STAT_HEAD, DCH_STAT_DOWN_LINK, DCH_STAT_UP_LINK]⟩,
  ⟨0x48, 4, 0, 0, 1, false, [DCH_CMD_DST, DCH_CMD_RELOAD, DCH_CMD_WAKE, DCH_CMD_TAKE, DCH_CMD_SEND, DCH_CMD_WALK]⟩,
  ⟨0x4c, 4, 0, 0, 1, false, [DCH_RX_STAT_PENDING]⟩,
  ⟨0x50, 4, 0, 0, 1, false, [DCH_CNT_CRC_COUNT]⟩,
  ⟨0x54, 4, 0, 0, 1, false, [DCH_CNT_LVL_COUNT]⟩,
  ⟨0x58, 4, 0, 0, 1, false, [DCH_CNT_RX_DROP_COUNT]⟩,
  ⟨0x5c, 4, 0, 0, 1, false, [DCH_CNT_WAKE_IGNORED_COUNT]⟩,
  ⟨0x80, 4, 0, 0, 1, false, [DCH_TX_HDR_LEN, DCH_TX_HDR_TYPE, DCH_TX_HDR_DST]⟩,
  ⟨0xc0, 64, 0, 0, 1, true, [DCH_TX_DATA]⟩,
  ⟨0x100, 72, 0, 0, 1, true, [DCH_RX_DATA]⟩]
/-- The registers of the SAGE page above the common header. -/
def layoutSAGE : List RegEnt := [
  ⟨0x40, 4, 0, 0, 1, false, [SAGE_STAT_KEY_REVOKED, SAGE_STAT_FALLBACK, SAGE_STAT_SLOT, SAGE_STAT_PAIR, SAGE_STAT_BOOT]⟩,
  ⟨0x44, 4, 0, 0, 1, false, [SAGE_IMG_VER_VERSION]⟩,
  ⟨0x48, 4, 0, 0, 1, false, [SAGE_SEC_SVN_MIN, SAGE_SEC_SVN]⟩,
  ⟨0x4c, 4, 0, 0, 1, false, [SAGE_WINNOW_WINNOW_H]⟩,
  ⟨0x50, 8, 0, 0, 1, false, [SAGE_RSV_LINKS, SAGE_RSV_SAGE_PAIR, SAGE_RSV_TRNG, SAGE_RSV_CRYPTO, SAGE_RSV_SLICES, SAGE_RSV_SRAM_ROWS]⟩,
  ⟨0x58, 8, 0, 0, 1, false, [SAGE_FL_ADDR_ADDR]⟩,
  ⟨0x60, 4, 0, 0, 1, false, [SAGE_FL_LEN_BYTES]⟩,
  ⟨0x64, 4, 0, 0, 1, false, [SAGE_FL_CMD_COMMIT_SVN, SAGE_FL_CMD_RESTART, SAGE_FL_CMD_WRITE]⟩,
  ⟨0x68, 4, 0, 0, 1, false, [SAGE_FL_STAT_RUNNING, SAGE_FL_STAT_RESULT]⟩]
/-- The registers of the RNG page above the common header. -/
def layoutRNG : List RegEnt := [
  ⟨0x40, 16, 0, 0, 1, false, [RNG_OUT_STATUS, RNG_OUT_DATA]⟩,
  ⟨0x50, 4, 0, 0, 1, false, [RNG_STAT_HEALTH_FAILS, RNG_STAT_SRC_OK, RNG_STAT_STARVED, RNG_STAT_READY]⟩,
  ⟨0x54, 4, 0, 0, 1, false, [RNG_CMD_RESEED]⟩,
  ⟨0x58, 4, 0, 0, 1, false, [RNG_CNT_RESEED_COUNT]⟩]
/-- The registers of the HOST page above the common header. -/
def layoutHOST : List RegEnt := [
  ⟨0x40, 4, 0, 0, 1, false, [HOST_CTL_CLK_MODE, HOST_CTL_ACTIVE, HOST_CTL_SPLIT]⟩,
  ⟨0x44, 4, 0, 0, 1, false, [HOST_STAT_LINK_B_UP, HOST_STAT_LINK_A_UP, HOST_STAT_FLIT, HOST_STAT_SPEED, HOST_STAT_WIDTH]⟩,
  ⟨0x48, 4, 0, 0, 1, false, [HOST_CNT_REPLAY_COUNT]⟩,
  ⟨0x4c, 4, 0, 0, 1, false, [HOST_CNT_CORR_COUNT]⟩,
  ⟨0x50, 4, 0, 0, 1, false, [HOST_CNT_DOWN_COUNT]⟩]

end Sys2Proof.Machine
end

