-- ==== Sys2Proof/Machine/State.lean ====
section
/-! DEFINITION. The state of the block as plain data: the waiting commands, every register field, every memory, queue, buffer,
counter and engine the spec gives it, and the state after reset. -/
namespace Sys2Proof.Machine

/-- Why a command stops. An access inside a BAR to a place that does not exist is answered as the spec says (R35, R68), so only the
sender's own error is named here. -/
inductive Fault where
  /-- An access beyond BAR0, where the spec places nothing (R33, R63); raised by REGISTER_WRITE,
  PAGE_CROSSING_READ and INSTANCE_REFUSED_ACCESS, for a function that does not exist as well. Safe. -/
  | outsideBar
deriving DecidableEq, Repr

/-- Why a command is refused. -/
inductive Refusal where
  /-- The command has no meaning in the model yet; raised by the dispatcher alone. Safe. -/
  | notModelled (mnemonic : String)
deriving DecidableEq, Repr

/-! ### Register pages (chapter 2) -/

/-- A commit armed on a page and waiting for its point (R46): the point code of Table 02-4, its argument, the elapsed time
at which it was armed. -/
structure Armed where
  point : Nat := 0
  arg : Nat := 0
  armedAt : Nat := 0
deriving DecidableEq, Repr

/-- A function's snapshot latch (R60): the page, the field values copied (by field address), the elapsed time of the SNAP. -/
structure Latch where
  page : Nat := 0
  vals : List (Nat × Nat) := []
  openedAt : Nat := 0
deriving DecidableEq, Repr

/-- A pulse that an origin of Table 15-1 has raised and SOURCE_SIGNAL has not yet delivered: KIND and UNIT. -/
structure Ev where
  kind : Nat := 0
  unit : Nat := 0
deriving DecidableEq, Repr

/-- A read, completion or stream operation refused under R460 and ending 2.000 µs after it arrived. -/
structure Refused where
  fn : Nat := 0
  kind : Nat := 0
  ref : Nat := 0
  arrivedAt : Nat := 0
deriving DecidableEq, Repr

/-! ### Interrupts (chapter 15) -/

/-- One interrupt source (R477 to R487, Tables 15-4 and 15-5): its bits in IRQ_EN, IRQ_PEND and IRQ_INSVC, its
IRQ_SRC_CFG and IRQ_SRC_STAT entries, the level its input last had, its assertions in storm window `win`, and the target at
which it is in service. -/
structure IrqSrc where
  en : Bool := false
  pend : Bool := false
  insvc : Bool := false
  prio : Nat := 0
  sense : Nat := 1
  tgt : Nat := 0
  inst : Nat := 0
  kind : Nat := 0
  unit : Nat := 0
  storm : Bool := false
  coal : Nat := 0
  sig : Bool := false
  win : Nat := 0
  asserts : Nat := 0
  svc : Nat := 0
deriving DecidableEq, Repr

/-- The configuration-space state of a host function that the block acts on: Bus Master Enable (R453), VF Enable (R463),
ATS enable (R427), MSI-X enable, the mask bits and pending bits of its two vectors (R483), Outstanding Page Request Allocation
(R428). -/
structure FnCfg where
  bme : Bool := false
  vfEnable : Bool := false
  atsEnable : Bool := false
  msixEnable : Bool := false
  maskAll : Bool := false
  mask0 : Bool := true
  mask1 : Bool := true
  pba0 : Bool := false
  pba1 : Bool := false
  priAlloc : Nat := 0
deriving DecidableEq, Repr

/-! ### Translation (chapter 13) -/

/-- A leaf result of a table walk (Table 13-1): TARGET, output address or offset, permissions; the level of its table and whether that
lies in host memory, as a fault record gives them (R613). -/
structure Leaf where
  target : Nat := 0
  out : Nat := 0
  rd : Bool := false
  wr : Bool := false
  level : Nat := 0
  inHost : Bool := false
deriving DecidableEq, Repr

/-- A cached translation, tagged by its instance: first virtual address, size in bytes, leaf result (R429, R430). -/
structure TlbEnt where
  die : Nat := 0
  inst : Nat := 0
  va : Nat := 0
  size : Nat := 4096
  leaf : Leaf := {}
deriving DecidableEq, Repr

/-- An ATS result (R427): instance, untranslated host page, translated page, permissions granted, and the access types that a
completion has denied to work that has not faulted yet. -/
structure AtsEnt where
  inst : Nat := 0
  page : Nat := 0
  out : Nat := 0
  rd : Bool := false
  wr : Bool := false
  noRd : Bool := false
  noWr : Bool := false
deriving DecidableEq, Repr

/-- Work waiting on a fault or on a page request (R434 to R441). `recSt`: 0 waiting on a page request, 1 record held by the
device, 2 record written. `ref` names the work: the device queue, ring, channel, task or port that waits. `die` is the DTU
concerned. -/
structure Waiter where
  inst : Nat := 0
  fid : Nat := 0
  kind : Nat := 0
  reason : Nat := 0
  vaddr : Nat := 0
  write : Bool := false
  hostTable : Bool := false
  level : Nat := 0
  unit : Nat := 0
  detail : Nat := 0
  ref : Nat := 0
  recSt : Nat := 1
  blocked : Bool := false
  since : Nat := 0
  time : Nat := 0
  die : Nat := 0
deriving DecidableEq, Repr

/-- An invalidation in progress (R432): the INV_REQ number it completes, its page range, when it was written. -/
structure InvReq where
  num : Nat := 0
  va : Nat := 0
  count : Nat := 0
  at_ : Nat := 0
deriving DecidableEq, Repr

/-- The part of an instance's translation state that no register shows (R434, R435, R432, R449). -/
structure Xl where
  nextFid : Nat := 1
  fqCount : Nat := 0
  invs : List InvReq := []
  atsInvs : List Nat := []
  dirtyPend : List Nat := []
  flushOf : Option Nat := none
deriving DecidableEq, Repr

/-! ### Instances (chapter 14) -/

/-- The part of an instance's life cycle that no register shows (R451 to R473): elapsed time of the trigger of the reset under way, whether
it has cut what still ran, whether DESTROY follows it, whether it ends in READY; the command in progress (INST_CMD.CMD, 0 none); elapsed
time of a FREEZE that drains, and the channels that a freeze has stopped. -/
structure InstSt where
  resetAt : Option Nat := none
  cut : Bool := false
  destroyAfter : Bool := false
  endReady : Bool := false
  cmd : Nat := 0
  freezeAt : Option Nat := none
  frozenChans : List Nat := []
deriving DecidableEq, Repr

/-- The two message queues of an instance's mailbox (R467 to R470): messages of 256 bytes, oldest first, with the elapsed
time each became the head, the last SEQ of each direction, and the notices waiting for a slot. -/
structure Mbx where
  toInst : List (List (BitVec 8)) := []
  toMgr : List (List (BitVec 8)) := []
  seqInst : Nat := 0
  seqMgr : Nat := 0
  headInst : Nat := 0
  headMgr : Nat := 0
  waitInst : List (List (BitVec 8)) := []
  waitMgr : List (List (BitVec 8)) := []
deriving DecidableEq, Repr

/-! ### Observability (chapter 18) -/

/-- A Gleaner code's configuration and bucket (R552 to R557). -/
structure GlnCode where
  valid : Bool := false
  evEn : Bool := false
  kind : Nat := 0
  pref : Nat := 0
  src : Nat := 0
  period : Nat := 0
  burst : Nat := 1
  wsel : List (Nat × Nat) := []
  tokens : Nat := 1
  tokenAt : Nat := 0
  pending : Nat := 0
  off : Nat := 0
  count : Nat := 0
deriving DecidableEq, Repr

/-- A Gleaner record taken at its trigger and not yet written (R554). -/
structure GlnRec where
  seq : Nat := 0
  code : Nat := 0
  bytes : List (BitVec 8) := []
  at_ : Nat := 0
deriving DecidableEq, Repr

/-- A tagged instruction being followed (R551): what its sample record will hold; `issuedAt` is its number among the
instructions its task has issued. -/
structure Tag where
  sheaf : Nat := 0
  inst : Nat := 0
  slot : Nat := 0
  pc : Nat := 0
  insn : Nat := 0
  seq : Nat := 0
  strm : Bool := false
  hook : Bool := false
  issuedAt : Nat := 0
  time : Nat := 0
deriving DecidableEq, Repr

/-! ### Position references, compare units, pins and device time (chapter 5) -/

/-- What the last accepted edge found, which an illegal transition restores (R159): the count, the turning point, the direction (true:
reverse), the estimate, the count's range since the last index edge. -/
structure EdgeUndo where
  cnt : Int := 0
  turn : Option Int := none
  back : Bool := false
  lastEdge : Nat := 0
  intervals : List Nat := []
  estOn : Bool := false
  lo : Int := 0
  hi : Int := 0
deriving DecidableEq, Repr

/-- A position reference beside its registers. Positions are P48.16 values as integers (R9). `base` is the position at
elapsed time `at_` and `rate` the rate, in 1/65,536 count per second, at which it advances from there; `cnt` is the whole
count of SRC 1, `lo` and `hi` its range since the last index edge, `stillAt` the elapsed time from which STILL_TMO runs. `t0` is the
T0 of SRC 4 and the offset from a device's counts of SRC 2. -/
structure Pref where
  cnt : Int := 0
  base : Int := 0
  rate : Int := 0
  at_ : Nat := 0
  lvA : Bool := false
  lvB : Bool := false
  lvZ : Bool := false
  lastEdge : Nat := 0
  intervals : List Nat := []
  estOn : Bool := false
  turn : Option Int := none
  runB : Bool := false
  run : Nat := 0
  glitches : List Nat := []
  lo : Int := 0
  hi : Int := 0
  stillAt : Nat := 0
  homing : Bool := false
  hostRate : Int := 0
  t0 : Int := 0
  sample : Option (Nat × Int) := none
  missed : Nat := 0
  fullSeen : Bool := false
  undo : Option EdgeUndo := none
deriving DecidableEq, Repr

/-- A compare unit beside its registers (R178 to R191): the position or time it last stood at, whether motion has crossed its
target and the firing is due, with the crossing instant, the elapsed time at which it showed, the snapshot of that instant (R190) and how
far that motion has come; the targets beyond it that a jump has passed since (R177); whether a TRG was sent for the next target, and how
many are owed for past ones. -/
structure Pcu where
  next : Int := 0
  prev : Int := 0
  due : Bool := false
  dueAt : Nat := 0
  seenAt : Nat := 0
  snap : List (BitVec 8) := []
  far : Int := 0
  skip : Nat := 0
  trgSent : Bool := false
  trgOwed : Nat := 0
deriving DecidableEq, Repr

/-- A pin action that a firing has placed and that has not taken effect yet (R181, R182). -/
structure PinAct where
  at_ : Nat := 0
  pin : Nat := 0
  unit : Nat := 0
  act : Nat := 0
  pulse : Nat := 0
deriving DecidableEq, Repr

/-- A trigger pin: static level, end of the pulse in progress, end of the last pulse (R182). -/
structure Pin where
  level : Bool := false
  pulse : Option Nat := none
  lastEnd : Option Nat := none
deriving DecidableEq, Repr

/-- Device time discipline beside the TIME registers (R185 to R189): fraction carried by a rate correction, offset still to
be slewed, rate that the servo has found and holds in holdover, in the unit of TIME_RATE, with the fraction it carries, consecutive good
PPS edges, elapsed time of the last PPS edge, presence of the 10 MHz
reference at the ball, last second of running time served, end of the PPS_OUT pulse. -/
structure TimeSt where
  acc : Int := 0
  slew : Int := 0
  rate : Int := 0
  rateAcc : Int := 0
  good : Nat := 0
  lastPps : Option Nat := none
  ref10 : Bool := false
  ppsSec : Nat := 0
  ppsEnd : Option Nat := none
deriving DecidableEq, Repr

/-! ### Work queues and completion rings (chapter 7) -/

/-- An accepted descriptor that has not finished (R241): its index, 65,536 more for each later ENABLE of its queue, its 64 bytes, the device ring
whose slot it has reserved, and its progress: 0 accepted and not started, 1 started, 2 ending at a fixed time (R460), 3 waiting on a fault, 5
refused with status `fail` and waiting for those before it (R306, R312); the stage of a control transfer; the bytes moved; the elapsed time of acceptance; next SEQ of a control
transfer; whether poisoned data has arrived; the places of a control buffer, translated before the setup stage (R440); the attempts that the step
a NAK has put off had made, and whether one drew a bad response (R90, R91). -/
structure Desc where
  idx : Nat := 0
  bytes : List (BitVec 8) := []
  cq : Nat := 0
  phase : Nat := 0
  stage : Nat := 0
  moved : Nat := 0
  fid : Nat := 0
  at_ : Nat := 0
  next : Nat := 0
  poison : Bool := false
  places : List (Nat × Option Nat × Nat) := []
  tries : Nat := 1
  bad : Bool := false
  fail : Option Nat := none
deriving DecidableEq, Repr

/-- A submission queue beside its registers: copies of descriptors that are announced and not accepted, by index, those fetched (R252) and
those pushed (R250); the words of the push window, by word number 0 to 55 (R250); the index from which fetching is stopped (R252); whether no
descriptor has been accepted since ENABLE, and the HSEQ of the last one accepted (R243); how often it has been enabled; the accepted
descriptors that have not finished, in order of acceptance. -/
structure WqSt where
  cached : List (Nat × List (BitVec 8)) := []
  taken : List (Nat × List (BitVec 8)) := []
  push : List (Nat × Nat) := []
  stop : Option Nat := none
  fresh : Bool := true
  prev : Nat := 0
  gen : Nat := 0
  acc : List Desc := []
  fid : Nat := 0
deriving DecidableEq, Repr

/-- A completion that is held for its ring (R260, R263): its entry but for QSEQ and DSEQ, whether it has a reserved slot, and
whether it waits for a slot for as long as it takes (R241, R265). -/
structure Cpl where
  status : Nat := 0
  ty : Nat := 1
  body : List (BitVec 8) := []
  resv : Bool := false
  keep : Bool := false
deriving DecidableEq, Repr

/-- A completion ring beside its registers: how many completions it has taken since its ENABLE (R257); completions held, oldest first;
elapsed times at which the entries between CQ_HEAD and CQ_TAIL were written, oldest first; the fault on which it is parked. -/
structure CqSt where
  count : Nat := 0
  held : List Cpl := []
  times : List Nat := []
  fid : Nat := 0
deriving DecidableEq, Repr

/-- Weighted round robin at one target (R254): the queue last served, the visit in progress and what is left of it, and the
credits of the round. -/
structure Wrr where
  last : Nat := 0
  cur : Option Nat := none
  left : Nat := 0
  credit : List (Nat × Nat) := []
deriving DecidableEq, Repr

/-! ### DMA channels (chapter 8) -/

/-- The descriptor a channel runs or is parked on: its source (0 ring, 1 queue, 2 stream), its 64 bytes, its ring or queue index,
its queue, its stream operation; parked at a writeback it also keeps the outcome. -/
structure DmaCur where
  wb : Bool := false
  src : Nat := 0
  bytes : List (BitVec 8) := []
  idx : Nat := 0
  q : Nat := 0
  op : Nat := 0
  status : Nat := 0
  len : Nat := 0
deriving DecidableEq, Repr

/-- A DMA channel beside its registers: descriptor in progress, stream operations waiting (R276), whether a write of ENABLE = 0
waits for the boundary (R293), elapsed time of the last poll, its outstanding fault, a pacing read that waits on a fault
(R288), and whether only a KICK repeats it. -/
structure DmaSt where
  cur : Option DmaCur := none
  sq : List Nat := []
  off : Bool := false
  polled : Nat := 0
  fid : Nat := 0
  paceFid : Nat := 0
  paceKick : Bool := false
deriving DecidableEq, Repr

/-! ### KPB links, trees and frame sequencers (chapters 3, 4 and 6) -/

/-- A packet on the wire: header, payload, what follows it, elapsed times of its first block and of its end. -/
structure Wired where
  hdr : List (BitVec 8) := []
  data : List (BitVec 8) := []
  tail : List (BitVec 8) := []
  from_ : Nat := 0
  till : Nat := 0
deriving DecidableEq, Repr

/-- A KPB link beside its registers (R100 to R114): runs of consecutive valid TS of one kind by lane (kind and length); elapsed
times of the last TS and of the entry to the state or the start of the attempt; whether it has carried packets since it last left
DETECT; failed attempts of the configuration being tried; that configuration, the trained one and what R102 chose; RATE_CAP,
WIDTH_CAP and LVL_MAX of the partner; the state that RETRAIN leads to, its rate and its bound; elapsed time at which a recovery
failed; the LNK request outstanding, its argument, whether it was acknowledged; since when utilisation is low; times before which
no new shed and step request is made; end of a port reset's idle; elapsed time of EIE on lane 0; rate of a step that waits for its frame,
since when, whether for the passage to full service and whether it takes the next boundary; width of what is received; payload blocks
of the utilisation window and its start; the PING outstanding (NONCE and time), elapsed time of the last one, the round trip.
Transmitting: RATE_MAX, WIDTH_MAX and LVL_MAX in effect while the link is beyond DETECT (R117); LINK_ID; the PHASE that is sent, valid TS
received since it last rose, TS sent with PHASE 3 in a row by lane (R100, R101); the lane of the next block (R79) and the end of the last
block placed on the wire; payload blocks of the last 5 µs with their times, sent and received (R110). Requests: whether a widening or a
step up is still wanted, whether the passage to full service is under way (R113), whether this frame's bulk is withheld for a step, and
whether the retrain in progress is a step's (R111, R112). The packets placed on the wire that have not ended, header, payload and what follows, with
the times of the first block and of the end (R503). -/
structure Link where
  runs : List (Nat × (Nat × Nat)) := []
  lastTs : Nat := 0
  since : Nat := 0
  up : Bool := false
  attempts : Nat := 0
  rate : Nat := 0
  width : Nat := 0
  tRate : Nat := 0
  tWidth : Nat := 0
  best : Nat × Nat := (0, 0)
  caps : Nat × Nat × Nat := (1, 1, 1)
  goal : Nat := 4
  goalRate : Nat := 0
  bound : Nat := 0
  recAt : Option Nat := none
  req : Nat := 0
  reqArg : Nat := 0
  acked : Bool := false
  low : Option Nat := none
  noShed : Nat := 0
  noStep : Nat := 0
  idleEnd : Option Nat := none
  eieAt : Option Nat := none
  stepWait : Option Nat := none
  stepAt : Nat := 0
  stepSeed : Bool := false
  stepForce : Bool := false
  rxWidth : Nat := 0
  txBlk : Nat := 0
  rxBlk : Nat := 0
  winAt : Nat := 0
  ping : Option (Nat × Nat) := none
  pingAt : Nat := 0
  rtt : Nat := 0
  off : Nat × Nat × Nat := (2, 0, 1)
  linkId : Nat := 0
  phase : Nat := 0
  heard : Nat := 0
  sent : List (Nat × Nat) := []
  txLane : Nat := 0
  txEnd : Nat := 0
  onWire : List Wired := []
  recent : List (Nat × Nat × Nat) := []
  want : Bool := false
  seed : Bool := false
  stepNow : Bool := false
  stepping : Bool := false
deriving DecidableEq, Repr

/-- A step of a transfer that waits for its response (R90): kind 1 bulk IN, 2 bulk OUT, 3 a stage of a control descriptor, 4 a
stage of an enumeration request, 5 a hub status poll, 6 a stage of the clearing of a route; the descriptor's queue and index; address,
endpoint, direction; the token's SEQ, CREDIT and MAXLEN; the stage (0 setup, 1 data, 2 status), its setup record and the bytes of the
data stage moved so far; attempts made and whether one drew a bad response; elapsed time of its token; whether a boundary has cut it
(R224); whether it waits to be sent again; whether its burst found a gap (R93); the packets of an OUT burst that are not on the wire yet,
header and payload, and whether a boundary has withheld some (R96). -/
structure Step where
  kind : Nat := 0
  q : Nat := 0
  idx : Nat := 0
  addr : Nat := 0
  ep : Nat := 0
  dirIn : Bool := false
  seq : Nat := 0
  credit : Nat := 1
  maxlen : Nat := 0
  stage : Nat := 0
  setup : List (BitVec 8) := []
  sent : Nat := 0
  tries : Nat := 1
  bad : Bool := false
  since : Nat := 0
  cut : Bool := false
  idle : Bool := false
  gap : Bool := false
  rest : List (List (BitVec 8) × List (BitVec 8)) := []
  withheld : Bool := false
deriving DecidableEq, Repr

/-- A frame: number, whether filler, whether reverse, whether its services carry SHIFTED, POSITION and SNAP_STAT of Table 06-10,
elapsed time and device time of its boundary, the entries due in it in the order of service, whether it collapsed, whether its
list came late, whether its boundary fell in the retrain of a rate step (R112). -/
structure Frame where
  no : Nat := 0
  filler : Bool := false
  time : Bool := false
  rev : Bool := false
  shifted : Bool := false
  pos : Int := 0
  snap : Nat := 0
  at_ : Nat := 0
  devAt : Nat := 0
  due : List Nat := []
  late : Bool := false
  retrain : Bool := false
deriving DecidableEq, Repr

/-- A periodic table as Zhoem holds it (R205, R209): its entries and their ring headers as 256-bit numbers, the GEN recorded for each
entry, which entries are GONE, which are suspended (R464),
Zhoem's copies of ZIDX and HIDX. -/
structure PerTable where
  ents : List Nat := []
  rings : List Nat := []
  gens : List Nat := []
  gone : List Nat := []
  susp : List Nat := []
  zidx : List (Nat × Nat) := []
  hidx : List (Nat × Nat) := []
deriving DecidableEq, Repr

/-- A periodic service in progress (R218): its entry, frame and path; next packet index; bytes that arrived; the conditions of
Table 06-7; whether a response has begun; whether its end has been reached; status given by a handshake (NAK, STL); elapsed time
of its token; the data received; the periodic table it runs under once a boundary has put another in its place, and the reference,
pitch and longest frame of its own frame (R215). -/
structure Svc where
  entry : Nat := 0
  ent : Nat := 0
  frame : Frame := {}
  idx : Nat := 0
  crc : Bool := false
  poison : Bool := false
  missing : Bool := false
  last : Bool := false
  begun : Bool := false
  done : Bool := false
  hand : Option Nat := none
  since : Nat := 0
  data : List (BitVec 8) := []
  table : Option PerTable := none
  pref : Nat := 0
  pitch : Nat := 65536
  longest : Nat := 0
deriving DecidableEq, Repr

/-- A frame sequencer beside its registers (R194 to R235): the boundary held; the frame in progress; elapsed times at which it
started, at which the last FRM left and at which the last boundary occurred; the position up to which crossings have been looked
for, how far and in which direction (true: reverse) a motion with crossings still to be served has come, and the high-water mark (R197); the frame fields it acts on (R215); the turn (0 none, 1 periodic, 2 control, 3 bulk), control
stages started in it and its start; the services not started; the one in progress; steps that wait for responses; the table in
effect, one that waits for the next boundary, and the candidate; elapsed time and writer of the admission; the last frame whose
list is prepared; whether the whole port was detached since the table's commit (R209); what a NAK has put off to a later turn, by
queue and stream (R91). -/
structure SeqSt where
  held : Option Frame := none
  cur : Option Frame := none
  startAt : Nat := 0
  lastFrm : Option Nat := none
  lastBnd : Option Nat := none
  prev : Int := 0
  far : Option (Int × Bool) := none
  hwm : Option Int := none
  clock : Nat := 0
  pref : Nat := 0
  pitch : Nat := 65536
  fmin : Nat := 200
  fmax : Nat := 12500
  rev : Nat := 0
  turn : Nat := 0
  ctrl : Nat := 0
  ctrlAt : Nat := 0
  due : List Nat := []
  svc : Option Svc := none
  steps : List Step := []
  table : PerTable := {}
  next : Option PerTable := none
  cand : Option PerTable := none
  candAt : Nat := 0
  admFn : Nat := 0
  listTo : Nat := 0
  portGone : Bool := false
  naked : List (Nat × Nat) := []
deriving DecidableEq, Repr

/-- A device-table entry (Table 04-5): state, tier, flags, parent, route, assignments, DEVICE descriptor, configuration, link,
failed step and its status, event number of its last change. -/
structure TreeEnt where
  state : Nat := 0
  tier : Nat := 0
  flags : Nat := 0
  parent : Nat := 0
  route : Nat := 0
  gen : Nat := 0
  device : List (BitVec 8) := []
  cfg : Nat := 0
  link : Nat := 0
  failStep : Nat := 0
  failStatus : Nat := 0
  seq : Nat := 0
  hubPorts : Nat := 0
  eps : List (Nat × Nat × Nat) := []
deriving DecidableEq, Repr

/-- A port of a tree: the hub's address (0 for the root port) and the hub port. -/
structure TPort where
  hub : Nat := 0
  port : Nat := 0
deriving DecidableEq, Repr

/-- A control transfer that Zhoem itself runs: address, setup record, stage, data received, next SEQ, elapsed time before which it
does not start, and what a NAK has put off, as in `Desc` (R90, R91). -/
structure Ctl where
  addr : Nat := 0
  setup : List (BitVec 8) := []
  stage : Nat := 0
  data : List (BitVec 8) := []
  seq : Nat := 0
  after : Nat := 0
  active : Bool := false
  tries : Nat := 1
  bad : Bool := false
deriving DecidableEq, Repr

/-- An enumeration in progress (Table 04-4): its port, step, sub-step, attempt, elapsed time of step 3, the address chosen, the
hubs whose routes are set, the descriptors read, what GET_PORT gave of a hub's ports, the request that runs, the last failure. -/
structure Enum where
  at_ : TPort := {}
  step : Nat := 3
  sub : Nat := 0
  attempt : Nat := 1
  since : Nat := 0
  addr : Nat := 0
  routes : List Nat := []
  device : List (BitVec 8) := []
  config : List (BitVec 8) := []
  hub : List (BitVec 8) := []
  ports : List (Nat × Nat) := []
  ctl : Option Ctl := none
  wait : Option Nat := none
  fail : Nat × Nat := (0, 0)
  stop : Bool := false
deriving DecidableEq, Repr

/-- A configured hub (R133, R134): last PORT_STAT of each port, PORT_CHG bits that GET_PORT has shown and no HUB packet has yet cleared,
elapsed time of the next poll, whether a poll is due, the control turn of the last one. -/
structure HubSt where
  stat : List (Nat × Nat) := []
  chg : List (Nat × Nat) := []
  pollAt : Nat := 0
  due : Bool := false
  turnAt : Option Nat := none
deriving DecidableEq, Repr

/-- The tree of a root port beside its registers (R119 to R147). `queue`: ports ready to be enumerated, with the elapsed time at
which each became ready and whether its debounce has ended. `clear`: routes to be cleared, hub and
address, and `clr` the request that clears one. `dirty`: entries whose records wait for a table (R142, R143). `starved`: ports that
wait for a free address, `deep`: ports that hold a hub at tier 6 (R139). -/
structure Tree where
  ents : List (Nat × TreeEnt) := []
  hubs : List (Nat × HubSt) := []
  queue : List (TPort × Nat × Bool) := []
  enum : Option Enum := none
  last : Nat := 0
  dirty : List Nat := []
  fid : Nat := 0
  seqs : List (Nat × Nat) := []
  credits : List (Nat × Nat) := []
  clear : List (Nat × Nat) := []
  clr : Option Ctl := none
  starved : List TPort := []
  deep : List TPort := []
deriving DecidableEq, Repr

/-- Port power and telemetry of a root port beside its registers (R148 to R152): elapsed times of the switching on (`onAt`), of
the OPERATION write, of the last reading; failed reads in a row. -/
structure PortPwr where
  onAt : Nat := 0
  opAt : Option Nat := none
  polled : Nat := 0
  fails : Nat := 0
deriving DecidableEq, Repr

/-! ### Tasks and tillers (chapters 11 and 12) -/

/-- A program slot that holds a program: owning instance and image (R386, R388). -/
structure Prog where
  inst : Nat := 0
  image : List (BitVec 8) := []
deriving DecidableEq, Repr

/-- The shadow of a MODE (R405): instructions left, place of the MODE, the mode that follows, and the registers and window to
return to when it is undone (R416). -/
structure Shadow where
  left : Nat := 2
  at_ : Nat := 0
  new : Bool := false
  regs : List Nat := []
  win : List (BitVec 8) := []
deriving DecidableEq, Repr

/-- A register context (R390, R391): general registers g0 to g31, pc, the branch whose delay slot is next with where it goes,
mode STRM, loop levels, exception registers, mode shadow. -/
structure Ctx where
  regs : List Nat := List.replicate 32 0
  pc : Nat := 0
  slot : Option (Nat × Nat) := none
  taken : Bool := false
  strm : Bool := false
  depth : Nat := 0
  lc0 : Nat := 0
  ls0 : Nat := 0
  le0 : Nat := 0
  lc1 : Nat := 0
  ls1 : Nat := 0
  le1 : Nat := 0
  epc : Nat := 0
  ecause : Nat := 0
  eflags : Nat := 0
  shadow : Option Shadow := none
deriving DecidableEq, Repr

/-- A held effect (Table 11-5). A store keeps the translation made when its instruction executed, as the places of its pieces
with their host addresses (R433). -/
inductive Held where
  | store (addr : Nat) (bytes : List (BitVec 8)) (places : List (Nat × Option Nat × Nat)) (marked : Bool)
  | doorbell (value : Nat)
  | page (off size value : Nat)
deriving DecidableEq, Repr

/-- A deadline (Table 11-1): none, a device time, a position of a reference. -/
inductive Deadline where
  | none
  | time (t : Nat)
  | pos (pref : Nat) (x : Int)
deriving DecidableEq, Repr

/-- A task. `phase`: 0 ready and never dispatched, 1 on a tiller place, 2 ready with a context (preempted, or its fault
answered), 3 suspended on a fault. `own` is the source's record, held for the commit; `commit` says that it waits at a CMT
(false) or its END (true) for the commit instant; `base` holds the caller's context while a hook runs; `prog` is the slot whose
program runs; `kept` holds for each operation that did not end OK its tag, its status and its place in issue order. -/
structure Task where
  sheaf : Nat := 0
  seq : Nat := 0
  inst : Nat := 0
  src : Nat := 0
  hook : Nat := 0xFF
  prio : Nat := 0
  dl : Deadline := .none
  prog : Nat := 0
  stream : Nat := 0
  data : List (BitVec 8) := []
  own : List (Nat × Cpl) := []
  q : Nat := 0
  idx : Nat := 0
  phase : Nat := 0
  started : Bool := false
  resv : Bool := false
  ctx : Ctx := {}
  win : List (BitVec 8) := []
  base : Option Ctx := none
  budget : Nat := 0
  hookHeld : Nat := 0
  hookCost : Nat := 0
  verdict : Nat := 0
  check : Option (Ctx × List (BitVec 8)) := none
  held : List Held := []
  cost : Nat := 0
  kept : List (Nat × Nat × Nat) := []
  commit : Option Bool := none
  fid : Nat := 0
  unresolved : Bool := false
  missed : Bool := false
  issued : Nat := 0
deriving DecidableEq, Repr

/-- A stream operation outstanding (R408): kind 0 SDMA, 1 SGET, 2 SPUT; the task by sheaf and SEQ; TAG; address, window
offset and length; the descriptor or window bytes taken at issue; 64-byte units done; phase 0 waiting or running, 2 parked, 4
ending at a fixed time with `status`. -/
structure StreamOp where
  id : Nat := 0
  kind : Nat := 0
  sheaf : Nat := 0
  seq : Nat := 0
  inst : Nat := 0
  tag : Nat := 0
  addr : Nat := 0
  off : Nat := 0
  len : Nat := 0
  chan : Nat := 0
  bytes : List (BitVec 8) := []
  units : Nat := 0
  phase : Nat := 0
  status : Nat := 0
  fid : Nat := 0
  at_ : Nat := 0
deriving DecidableEq, Repr

/-- A port of the hub-role quad (R130 to R133, Table 03-6): PORT_STAT, PORT_CHG, run of consecutive valid TS, end of the idle of a
port reset, elapsed time of the last TS, LINK_ID that it sends. -/
structure HPort where
  stat : Nat := 8
  chg : Nat := 0
  run : Nat := 0
  idle : Option Nat := none
  lastTs : Nat := 0
  linkId : Nat := 0
deriving DecidableEq, Repr

/-- A control transfer that the hub (0) or the device function (1) of the hub-role quad serves: setup record, stage, next SEQ, bytes of
the data stage sent and bytes of its last packet, its data, whether the request is refused, and whether its setup packet is due. -/
structure HCtl where
  setup : List (BitVec 8) := []
  stage : Nat := 0
  seq : Nat := 0
  sent : Nat := 0
  chunk : Nat := 0
  data : List (BitVec 8) := []
  stall : Bool := false
  wait : Bool := true
deriving DecidableEq, Repr

/-- An endpoint of the device function (R154): NEXT of its direction; sizes of the packets sent from NEXT on; of a burst that arrives,
packets that are to come, whether it found a gap, whether it is periodic, the REASON of the NAK that follows its last packet (0 none),
the next index of a periodic one, whether an index was missing and whether a data CRC failed (R97); packets of a burst that are not on the wire yet (R96). -/
structure HEp where
  next : Nat := 0
  sent : List Nat := []
  left : Nat := 0
  gap : Bool := false
  periodic : Bool := false
  nak : Nat := 0
  idx : Nat := 0
  missing : Bool := false
  crc : Bool := false
  rest : List (List (BitVec 8) × List (BitVec 8)) := []
deriving DecidableEq, Repr

/-- The quad in hub role (R130 to R133, R153 to R155): the hub's address and configuration, the device function's, halted endpoints
(device * 256 + SEL), TRG group, route table, the port that most recently completed a reset, control transfers by device, endpoints by
SEL, ports 1 to 4, the port and changes that the last HUB packet reported; the hub's own TRG group; FRAME [15:0] of the last FRM since the upstream link entered
FULL, with the elapsed time of its arrival, and the ACTIONs that TRG packets have made due, with their times (R99); since when a PING on
a downstream port has waited for a poll of the status endpoint (R523). -/
structure HubRole where
  addr : Nat := 0
  cfg : Nat := 0
  fnAddr : Nat := 0
  fnCfg : Nat := 0
  halts : List Nat := []
  group : Nat := 0
  routes : List (Nat × Nat) := []
  last : Nat := 0
  ctls : List (Nat × HCtl) := []
  eps : List (Nat × HEp) := []
  ports : List (Nat × HPort) := []
  told : Option (Nat × Nat) := none
  hubGroup : Nat := 0
  frm : Option (Nat × Nat) := none
  fires : List (Nat × Nat) := []
  pinged : Option Nat := none
deriving DecidableEq, Repr

/-! ### Ethernet (chapters 9 and 10) -/

/-- A transmit frame fetched into the stook buffer (R303): queue and descriptor index, its bytes without FCS, the status of a descriptor
that sends nothing (R305, R352), whether the frame has been sent and waits for its record, the BODY of its completion, its length, its
record. -/
structure TxFrame where
  q : Nat := 0
  idx : Nat := 0
  bytes : List (BitVec 8) := []
  fail : Option Nat := none
  sent : Bool := false
  body : List (BitVec 8) := []
  len : Nat := 0
  record : List (BitVec 8) := []
deriving DecidableEq, Repr

/-- A received frame held in the receive share (R346): its bytes without FCS as they are to be delivered, receive queue, priority, bytes
charged, what its completion says (bytes 18 to 23 of Table 09-5), receive time, status, whether it was received before the boundary of
the drain, and the old queue of a moved frame (R343). -/
structure RxFrame where
  bytes : List (BitVec 8) := []
  rxq : Nat := 0
  prio : Nat := 0
  cost : Nat := 0
  info : List (BitVec 8) := []
  time : Option Nat := none
  dev : Nat := 0
  status : Nat := 0
  pre : Bool := false
  moved : Option Nat := none
deriving DecidableEq, Repr

/-- A steering drain (R343): old bank, old spreading key, elapsed time of the boundary, tasks of frames received before it by sheaf, SEQ and
receive queue. -/
structure Drain where
  bank : Nat := 0
  key : Nat := 0
  at_ : Nat := 0
  tasks : List (Nat × Nat × Nat) := []
deriving DecidableEq, Repr

/-- A MACsec association beside MSEC_SA_PN (R355 to R362): key, XPN salt, short SCI, lowest acceptable PN, whether it was used at its last
PN. -/
structure SecAssoc where
  key : Nat := 0
  salt : Nat := 0
  ssci : Nat := 0
  low : Nat := 0
  told : Bool := false
deriving DecidableEq, Repr

/-- An Ethernet port beside its registers. LSX (R320 to R326): request outstanding (its OP), its code, NONCE and time; time before which no
new SHED_REQ is made; time of the last HELLO received and sent; address, LPM_EN and MIN_LANES of the partner; WIDEN_ACK sent and received;
width to switch to and the time of the switch condition; whether it widens on to full width; whether a failed realignment has turned LPM
off. Utilisation windows: number of the current one, bits sent and received in it, U of the one before in thousandths, and the end of the
last one at or above the shed threshold; bits sent and received in the last 5 µs by time. Transmit: control and LSX frames to send, fetched frames, the frame in transmission, buckets by
class as tokens and time, receive pauses by class. Receive: frames held, the asserted priorities' next repeat. Spreading (R341 to R343):
number of the key, bytes by queue in the window, its start, since when above and at or below, re-key due, drain. Wake patterns and whether a load runs (R354).
MACsec associations by number. -/
structure Emac where
  closing : Bool := false
  req : Nat := 0
  reqArg : Nat := 0
  reqNonce : Nat := 0
  reqAt : Nat := 0
  noShed : Nat := 0
  helloIn : Nat := 0
  helloOut : Nat := 0
  partner : Nat := 0
  partnerLpm : Bool := false
  partnerMin : Nat := 0
  ackOut : Bool := false
  ackIn : Bool := false
  target : Nat := 0
  swAt : Nat := 0
  widening : Bool := false
  lpmDead : Bool := false
  win : Nat := 0
  txBits : Nat := 0
  rxBits : Nat := 0
  lastU : Nat := 0
  busyAt : Nat := 0
  recent : List (Nat × Nat × Nat) := []
  ctl : List (List (BitVec 8)) := []
  frames : List TxFrame := []
  flight : Option TxFrame := none
  buckets : List (Nat × (Int × Nat)) := []
  pauses : List (Nat × Nat) := []
  held : List RxFrame := []
  resendAt : Nat := 0
  keyNo : Nat := 0
  spread : List (Nat × Nat) := []
  impAt : Nat := 0
  above : Option Nat := none
  below : Option Nat := none
  rekey : Bool := false
  imbRekey : Bool := false
  drain : Option Drain := none
  wake : List (List (BitVec 8)) := []
  wakeLoad : Bool := false
  secs : List (Nat × SecAssoc) := []
deriving DecidableEq, Repr

/-- The shared steering banks (R338 to R340): entries by key with RXQ and DROP, the command that runs. -/
structure Steer where
  bank0 : List (Nat × Nat) := []
  bank1 : List (Nat × Nat) := []
  cmd : Nat := 0
deriving DecidableEq, Repr


/-! ### Saved instances (R473) -/

/-- What an image of an instance holds: its queues, rings and channels in local order, each as register fields by bit address from the
start of its entry and the part that no register shows; DLOG fields; translation state; mailbox; WQ_RSY; device memory and stook-buffer
shares by offset; the shape of its grant; and which of
its channels the freeze has stopped. -/
structure Saved where
  queues : List (List (Nat × Nat) × WqSt) := []
  rings : List (List (Nat × Nat) × CqSt) := []
  chans : List (List (Nat × Nat) × DmaSt) := []
  dlog : List (Nat × Nat) := []
  xl : Xl := {}
  mbx : Mbx := {}
  hseq : Nat := 0
  dseq : Nat := 0
  mem : List (Nat × BitVec 8) := []
  sbuf : List (Nat × Nat × BitVec 8) := []
  dev : Nat := 0
  sbufs : List Nat := []
  frozen : List Nat := []
deriving DecidableEq, Repr

/-! ### Reserve, power, energy, chain and start-up (chapters 16, 17, 19 and 20) -/

/-- A unit that a fault or a wear monitor concerns: kind of Table 16-1 (11 for a block under R495), power domain, logical unit of Table
16-7, place in the unit's scope, cause of Table 16-7, elapsed time. -/
structure Worn where
  kind : Nat := 0
  dom : Nat := 0
  unit : Nat := 0
  place : Nat := 0
  cause : Nat := 1
  at_ : Nat := 0
deriving DecidableEq, Repr

/-- A unit in the repair map (R501): kind, unit, place, consecutive start-ups at which it has passed winnowing, and the number of the
start-up at which it last passed. -/
structure Failed where
  kind : Nat := 0
  unit : Nat := 0
  place : Nat := 0
  passes : Nat := 0
  boot : Nat := 0
deriving DecidableEq, Repr

/-- Reserve and wear (R493 to R511): spare SRAM rows left by array, spare translation-cache banks left by stook of the first level,
transients and corrections seen, units nominated, units fenced whose takeover runs or waits, units for which RESERVE_EXHAUSTED has been
written, mismatches of two copies by block with their times, blocks that run on one copy, the repair map, elapsed times of the last
sample of each monitor and of the last winnowing, phases whose current is out of balance with the time since which it is, units being
winnowed. -/
structure Rsv where
  rows : List (Nat × Nat) := []
  banks : List (Nat × Nat) := []
  trans : List Worn := []
  noms : List Worn := []
  takes : List Worn := []
  told : List (Nat × Nat × Nat) := []
  mism : List (Nat × Nat) := []
  degraded : List Nat := []
  failed : List Failed := []
  ageAt : Nat := 0
  phaseAt : Nat := 0
  winnowAt : Nat := 0
  phaseOut : List (Nat × Nat × Nat) := []
  winnowing : Bool := false
deriving DecidableEq, Repr

/-- Power sequencing beside the PWR registers (R515 to R532): the state that a drain leads to, whether it is a reload, since when;
the first wake source that acted after the command: SOURCE, UNIT, DETAIL, device time; elapsed times of the supply warning, of the point
of no return, of the entry to OFF; why OFF was entered (0 command, 1 supply, 2 thermal trip, 3 REFCLK); the state left; elapsed times of
each stook's last clock step and since when its clock has been below full rate and not counted; stooks whose issue a lost phase
limits; the last switches of the tariff band, newest first: device time and the band before (R534);
whether a band that software has set holds (R535). -/
structure PowerSt where
  target : Option Nat := none
  reload : Bool := false
  drainAt : Nat := 0
  wake : Option (Nat × Nat × Nat × Nat) := none
  lowAt : Option Nat := none
  pnrAt : Option Nat := none
  offAt : Nat := 0
  why : Nat := 0
  left : Nat := 0
  stepAt : List (Nat × Nat) := []
  slowAt : List (Nat × Nat) := []
  limited : List Nat := []
  bands : List (Nat × Nat) := []
  held : Bool := false
deriving DecidableEq, Repr

/-- Energy accounting of a root port beside its NRG registers (R533 to R538): what is below 1 µJ (in 10 mW · 1/65,536 ns), device time
and power of the last sample if accounting has one, whether an interval is open, the device time of its start, its largest sample and its
flags (layout of NRG_LAST_INFO [4:0]). -/
structure NrgSt where
  rem : Nat := 0
  last : Option (Nat × Nat) := none
  isOpen : Bool := false
  start : Nat := 0
  peak : Nat := 0
  flags : Nat := 0
deriving DecidableEq, Repr

/-- The chain port beside the DCH registers (R561 to R574): next SEQ; receive queue; frames that wait to be sent and the elapsed time at
which the frame being sent ends, upstream and downstream; elapsed time of the walk in progress and whether a further walk follows it;
elapsed time at which the level was last applied and the level before; whether the unit has held an address; elapsed times of the last
transition on each transmit pair and on each receive pair. -/
structure Chain where
  seq : Nat := 0
  rx : List (List (BitVec 8)) := []
  upQ : List (List (BitVec 8)) := []
  downQ : List (List (BitVec 8)) := []
  upEnd : Nat := 0
  downEnd : Nat := 0
  walkAt : Option Nat := none
  again : Bool := false
  lvlAt : Option Nat := none
  lvlOld : Nat := 0
  hadAddr : Bool := false
  upTx : Nat := 0
  downTx : Nat := 0
  upRx : Nat := 0
  downRx : Nat := 0
deriving DecidableEq, Repr

/-- Start-up, flash, pins and entropy beside the DEV, SAGE, RNG and HOST registers (R581 to R602): phase (0 POR_N low or OFF, 1 the ROM
reads and checks the image, 2 the image runs, 3 seedling, 4 full, 5 RECOVERY); elapsed time at which it began; SOURCE of the start (0
POR_N); number of start-ups; host ports whose PERST_N is low, and the elapsed time at which each rose; the flash as Zhoem has written it: the
directory (ACTIVE, GEN) and the images of the two slots; ACTIVE and GEN of the directory in use; the image of a WRITE in progress; state of the four TRNG sources (bit set: healthy);
generate requests and elapsed time since the last reseed; since when REFCLK is gone; SVN_MIN that COMMIT_SVN has fused. -/
structure Boot where
  phase : Nat := 0
  at_ : Nat := 0
  source : Nat := 0
  number : Nat := 0
  perst : List Nat := []
  perstUp : List (Nat × Nat) := []
  dirs : Option (Nat × Nat) := none
  dir : Nat × Nat := (0, 0)
  slots : List (Nat × Image) := []
  writing : Option Image := none
  trng : Nat := 0xF
  asked : Nat := 0
  seedAt : Nat := 0
  refGone : Bool := false
  svnMin : Option Nat := none
deriving DecidableEq, Repr

/-- What the block drives, sends or answers, kept newest first in `out`. -/
inductive Out where
  /-- An MSI-X message of function `fn`, vector `vec` (R483). -/
  | msix (fn vec : Nat)
  /-- The level of INT_N pin `n` (true: asserted). -/
  | intN (n : Nat) (level : Bool)
  /-- TRIG_OUT pin `pin` is driven at `level` (true: high). -/
  | trgOut (pin : Nat) (level : Bool)
  /-- A KPB packet sent on root port `port`: the lane of its first block (R79), 16-byte header, payload, and for DAT what follows the
  payload, its data CRC and the zero bytes up to a whole block (R83). -/
  | packet (port lane : Nat) (hdr data tail : List (BitVec 8))
  /-- The device function of the quad in hub role fires the ACTION of a TRG (R99). -/
  | action (act : Nat)
  /-- A PMBus read of the switch of root port `port`: command (R148, R152). -/
  | pmbusRead (port cmd : Nat)
  /-- A read of the Alert Response Address of a PMBus segment (R151). -/
  | alertRead (seg : Nat)
  /-- The packet or frame that root port or Ethernet port `port` has on the wire is ended as errored: by an errored marker block, by an error
  control code (R503). -/
  | errored (eth : Bool) (port : Nat)
  /-- A marker block other than a packet header sent on lane `lane` of root port `port`: first byte and second byte. -/
  | marker (port lane code arg : Nat)
  /-- A training block sent on lane `lane` of root port `port`. -/
  | training (port lane : Nat) (ts : List (BitVec 8))
  /-- A PMBus write to the switch of root port `port`: command and value (R148). -/
  | pmbus (port cmd value : Nat)
  /-- PPS_OUT goes active or inactive (R189). -/
  | ppsOut (level : Bool)
  /-- A frame sent on Ethernet port `port`, without its FCS. -/
  | frame (port : Nat) (bytes : List (BitVec 8))
  /-- The Invalidate Completion of function `fn`'s ATS Invalidate Request `tag` (R427). -/
  | atsDone (fn tag : Nat)
  /-- A Page Request of function `fn`: untranslated page, group index, access type, PASID; Last is set (R428). -/
  | pageRequest (fn page group : Nat) (write : Bool) (pasid : Option Nat)
  /-- A chain frame sent upstream or downstream, with its CRC (R564). -/
  | chain (up : Bool) (bytes : List (BitVec 8))
  /-- A link beat sent upstream or downstream (R563). -/
  | beat (up : Bool)
  /-- A read of the boot flash (R592): instruction, data lines of address and data, dummy cycles, clock in MHz, address, bytes. -/
  | spiRead (op addrLines dataLines dummies mhz addr len : Nat)
  /-- Erases of the boot flash: instruction, first address, size of each, how many. -/
  | spiErase (op addr size count : Nat)
  /-- Page programs of the boot flash from `addr` on, a page of `page` bytes at a time. -/
  | spiProgram (addr page : Nat) (data : List (BitVec 8))
  /-- Read Status (0x05) of the boot flash, until it is not busy. -/
  | spiStatus
  /-- The level of PWR_REQ (R583). -/
  | pwrReq (level : Bool)
  /-- A configuration request of function `fn` is answered: 0 completes normally, 1 Request Retry Status, 2 Unsupported Request;
  the data of a read. -/
  | config (fn status value : Nat)
deriving DecidableEq, Repr


/-- The state of the block. Maps list a unit once it differs from its default; registers list a field once it has been
written or differs from its reset value. -/
structure State where
  /-- The commands that are waiting, first in, first out. -/
  pending : List Instr := []
  /-- Elapsed time since power was applied, in 1/65,536 ns. -/
  now : Nat := 0
  /-- Device time in 1/65,536 ns (R10, R185). -/
  devTime : Nat := 0
  /-- The model's own count of free values drawn: no part of the hardware. -/
  draws : Nat := 0
  /-- Register fields that differ from their reset value or have been written, by bit address in the manager's BAR0. -/
  regs : List (Nat × Nat) := []
  /-- Shadowed field values (R45), by the same addresses. -/
  shadow : List (Nat × Nat) := []
  /-- Snapshot latches by function (R60). -/
  latch : List (Nat × Latch) := []
  /-- Pending commits by page (R46). -/
  cmts : List (Nat × Armed) := []
  /-- Every memory the block reaches, in canonical form. -/
  mem : List Host.Cell := []
  /-- Interrupt pulses that SOURCE_SIGNAL has not delivered yet, oldest first. -/
  events : List Ev := []
  /-- What the block has sent, driven or answered, newest first. -/
  out : List Out := []
  /-- Pages whose unit is fenced by a fault (R494, R496). -/
  fenced : List Nat := []
  /-- Configuration-space state by function (chapters 13 to 15). -/
  fns : List (Nat × FnCfg) := []
  /-- Cached translations (R429). -/
  tlb : List TlbEnt := []
  /-- ATS results (R427). -/
  ats : List AtsEnt := []
  /-- Work waiting on faults and page requests (R434). -/
  waiters : List Waiter := []
  /-- Translation state by instance. -/
  xl : List (Nat × Xl) := []
  /-- Interrupt sources by number (R477). -/
  irq : List (Nat × IrqSrc) := []
  /-- Targets whose request is asserted (R483): 64 + i NORMAL, 129 + i FAST, 194 Sage, 195 and 196 INT_N[0] and INT_N[1]. -/
  irqReq : List Nat := []
  /-- Running hold-offs by group (source number / 32): elapsed time at which each ends (R486). -/
  hold : List (Nat × Nat) := []
  /-- Value that the last register-read command returned. -/
  rdata : Nat := 0
  /-- Gleaner codes by number (R552). -/
  gln : List (Nat × GlnCode) := []
  /-- Gleaner records triggered and not yet written, in SEQ order (R554). -/
  glnRecs : List GlnRec := []
  /-- Elapsed times of the last records triggered (R553: at most 16 in one µs). -/
  glnTimes : List Nat := []
  /-- How often domain 48 has been switched off (FLAGS.GAP of Table 18-5). -/
  glnOff : Nat := 0
  /-- Countdowns of the sampler, by sheaf (R550). -/
  sampleCnt : List (Nat × Nat) := []
  /-- Sheaves whose next issued instruction is to be tagged (R550). -/
  tagNext : List Nat := []
  /-- Tagged instructions being followed (R550). -/
  tags : List Tag := []
  /-- Elapsed time at which the next gatherer snapshot is due (R548). -/
  gatherNext : Nat := 0
  /-- Elapsed time until which the last snapshot is being written (R549). -/
  gatherBusy : Nat := 0
  /-- Positions of the references by number (chapter 5). -/
  prefs : List (Nat × Pref) := []
  /-- Compare units by number (chapter 5). -/
  pcus : List (Nat × Pcu) := []
  /-- Pin actions placed and not yet in effect, in order of firing (R181). -/
  pinQ : List PinAct := []
  /-- Trigger pins by number (R182). -/
  pins : List (Nat × Pin) := []
  /-- Discipline of device time (R185 to R189). -/
  tm : TimeSt := {}
  /-- Submission queues by device number (R238). -/
  wqs : List (Nat × WqSt) := []
  /-- Completion rings by device number (R238). -/
  cqs : List (Nat × CqSt) := []
  /-- Round robin by target: kind of target and number (R254). -/
  wrrs : List (Nat × Wrr) := []
  /-- Reads, completions and stream operations refused under R460 that end at their fixed time. -/
  refusals : List Refused := []
  /-- DMA channels by number (chapter 8). -/
  dmas : List (Nat × DmaSt) := []
  /-- Programs by sheaf and slot: sheaf * 32 + slot (R386). -/
  progs : List (Nat × Prog) := []
  /-- A program load in progress, by sheaf: slot, instance, length in units of 64 bytes (R386). -/
  loads : List (Nat × (Nat × Nat × Nat)) := []
  /-- Next task SEQ, by sheaf (Table 11-2). -/
  taskSeq : List (Nat × Nat) := []
  /-- Tasks, in order of creation. -/
  tasks : List Task := []
  /-- Stream operations outstanding, in order of issue. -/
  ops : List StreamOp := []
  /-- Number of the next stream operation: the model's own. -/
  nextOp : Nat := 0
  /-- Instructions issued that have not yet been set against the issue slots that have passed, by sheaf (R547). -/
  slotUse : List (Nat × Nat) := []
  /-- Host ports through which MSI-X messages have left since the last tick: they are counted with it (R544). -/
  msixSent : List Nat := []
  /-- Tiller places out of service, by sheaf (R506). -/
  placesOut : List (Nat × Nat) := []
  /-- KPB links by root port (chapter 3). -/
  links : List (Nat × Link) := []
  /-- Frame sequencers by root port (chapter 6). -/
  seqs : List (Nat × SeqSt) := []
  /-- Trees by root port (chapter 4). -/
  trees : List (Nat × Tree) := []
  /-- Port power by root port (chapter 4). -/
  ppwr : List (Nat × PortPwr) := []
  /-- Elapsed times at which root ports were switched on, newest first (R149). -/
  staggered : List Nat := []
  /-- The quad in hub role (chapter 4). -/
  hub : HubRole := {}
  /-- Ethernet ports by number (chapters 9 and 10). -/
  emacs : List (Nat × Emac) := []
  /-- Steering banks (R338). -/
  steer : Steer := {}
  /-- Exact-match entries by index, in the layout of EFLT_EM_DATA (R331, R361). -/
  em : List (Nat × Nat) := []
  /-- Elapsed time of the last epoch boundary, and whether a boundary has been requested (R57). -/
  epochAt : Nat := 0
  epochReq : Bool := false
  /-- Table reads that the host has answered with an error, for an access that has not faulted yet: instance, virtual page and
  level (R613). -/
  tabErrs : List (Nat × Nat × Nat) := []
  /-- Life cycle of instances (chapter 14). -/
  insts : List (Nat × InstSt) := []
  /-- Mailboxes of instances 1 to 64 (R467). -/
  mbxs : List (Nat × Mbx) := []
  /-- Reserve and wear (chapter 16). -/
  rsv : Rsv := {}
  /-- Power sequencing (chapter 17). -/
  power : PowerSt := {}
  /-- Energy accounting by root port (R533). -/
  nrgs : List (Nat × NrgSt) := []
  /-- The chain port (chapter 19). -/
  chain : Chain := {}
  /-- Start-up, flash and entropy (chapter 20). -/
  boot : Boot := {}
  /-- The period, in units of 10 µs, that the epoch timer now measures; 0 while it is stopped (R70). -/
  epochPer : Nat := 100
  /-- Elapsed time from which the epoch timer measures its period (R70). -/
  timerAt : Nat := 0
deriving DecidableEq, Repr

/-- The block right after reset: power just applied, POR_N asserted, every register at its reset value (R587). -/
def State.reset : State := {}

end Sys2Proof.Machine
end

