-- ==== Sys2Proof/Config.lean ====
section
/-! DEFINITION. What the spec leaves to the part, and the values it leaves open: constants with no body, so that nothing can
be proved of them. The free values are applied to a counter of the state (`State.draws`) so that each use may differ. -/
namespace Sys2Proof.Config

/-- Values fused into one part (reset value "Fused"), by the bit address of the field in the manager's BAR0. -/
opaque fused : Nat → Nat
/-- Output of the DRBG (R601): number of the draw and place in it give one byte. -/
opaque drbg : Nat → Nat → BitVec 8
/-- A choice the spec leaves open, by number of the draw. -/
opaque choice : Nat → Bool
/-- A number the spec leaves open, by number of the draw. -/
opaque freeNat : Nat → Nat
/-- A byte the spec leaves open, by number of the draw and place. -/
opaque freeByte : Nat → Nat → BitVec 8
/-- Whether an access uses a cached translation rather than the table as it now stands (R431), by number of the draw,
instance and virtual page. -/
opaque staleUse : Nat → Nat → Nat → Bool
/-- The stook whose queue engine serves a submission queue or a completion ring: the spec does not place them. -/
opaque queueStook : Nat → Nat
/-- GCM-AES protection of a MACsec frame (IEEE 802.1AE, which the spec names and does not give): from cipher suite, key and nonce, the
additional data and the plain data, the data as sent with the ICV. -/
opaque gcmSeal : Nat → Nat → Nat → List (BitVec 8) → List (BitVec 8) → List (BitVec 8)
/-- The reverse: the plain data, or none where the ICV check fails. -/
opaque gcmOpen : Nat → Nat → Nat → List (BitVec 8) → List (BitVec 8) → Option (List (BitVec 8))
/-- The opaque content of an instance image (R473), and what an image content holds, if it is one. -/
opaque imageSeal : Machine.Saved → List (BitVec 8)
opaque imageOpen : List (BitVec 8) → Option Machine.Saved
/-- Whether the retained state of a power domain was damaged while it was held (R508), by number of the draw and domain. -/
opaque retentionLost : Nat → Nat → Bool
/-- The checks of R594 that need SHA-384, ECDSA P-384 and the fused key hashes: of PUBKEY against key slot, of SIG over bytes 0 to 175, of
DIGEST over the body, each a function of the image's bytes. -/
opaque keyHashOk : Nat → List (BitVec 8) → Bool
opaque sigOk : List (BitVec 8) → Bool
opaque digestOk : List (BitVec 8) → Bool
/-- The memory stack on which a place of device memory lies (R19): the spec does not map one to the other. -/
opaque stackOf : Nat → Nat
/-- Events of internal traffic that the spec places at no event of its own (R544), by elapsed time, bank and counter. -/
opaque traffic : Nat → Nat → Nat → Nat
/-- Rate of the always-on oscillator against the nominal one, by elapsed time (R524); the model takes it into ±50 ppm. -/
opaque aonRate : Nat → Nat
/-- The bytes of the SFDP space of the board's boot flash (R592). -/
opaque sfdp : Nat → BitVec 8
/-- Whether the image of a version defines a level-gated chain frame type with a minimum level at or below a chain level (R571). -/
opaque typeAllowed : Nat → Nat → Nat → Bool

end Sys2Proof.Config
end

