-- ==== Sys2Proof/Machine/Ops.lean ====
section
/-! DEFINITION. The shared operations over the state: register fields, pages, memory, error bits, events, time, and the
resolution of an access to the page it reaches. -/
namespace Sys2Proof.Machine

/-- The outcome type of every command. -/
abbrev Res := Host.Outcome State Fault Refusal

/-! ### Time -/

/-- Nanoseconds in the model's unit of time, 1/65,536 ns (R10). -/
def ns (n : Nat) : Nat := n * 65536
/-- Microseconds in the model's unit of time. -/
def us (n : Nat) : Nat := n * 65536000
/-- Milliseconds in the model's unit of time. -/
def ms (n : Nat) : Nat := n * 65536000000
/-- Seconds in the model's unit of time. -/
def sec (n : Nat) : Nat := n * 65536000000000

/-- Device time, held as one count of 1/65,536 ns, in the 96-bit layout of R10. -/
def time96 (t : Nat) : Nat := t / sec 1 * 2 ^ 48 + t % sec 1

/-- The count of 1/65,536 ns that a 96-bit device time of R10 stands for. -/
def ofTime96 (x : Nat) : Nat := x / 2 ^ 48 * sec 1 + x % 2 ^ 48

/-! ### Register fields -/

/-- The bit address in the manager's BAR0 of a field, of entry `i` where its register is one of an array (R33). -/
def Fld.addr (F : Fld) (u i : Nat) : Nat := (F.blk * 2 ^ 20 + u * 2 ^ 12 + F.off + i * F.stride) * 8 + F.lo

/-- Counters of bank `b` (Table 18-1). -/
def pmcCounters (b : Nat) : Nat :=
  if b == 0 then 0 else if b ≤ 8 then 8 else if b ≤ 96 then 16 else if b ≤ 106 then 8 else if b ≤ 108 then 4
  else if b ≤ 117 then 8 else 0

/-- Fields whose reset value is fused into the part: block type, register offset, low bit. -/
def fusedFlds : List (Nat × Nat × Nat) :=
  [(0x01, 0x060, 32), (0x01, 0x060, 0), (0x01, 0x068, 32), (0x01, 0x068, 0), (0x01, 0x070, 0), (0x40, 0x050, 0),
   (0x18, 0x044, 16), (0x02, 0x040, 16), (0x02, 0x048, 0), (0x02, 0x050, 0)]

/-- The reset value of a field of unit `u`, entry `i`: the value its table gives, a fused value, or the value that its
table words for the unit or the entry. -/
def fldReset (F : Fld) (u i : Nat) : Nat :=
  if F.blk == 0x31 && F.off == 0x40 && F.lo == 10 then 8 * (u / 12)
  else if F.blk == 0x11 && F.off == 0x100 && F.lo == 0 then (if i == 0 then 256 else 0)
  else if F.blk == 0x42 && F.off == 0x70 then 0x0706050403020100
  else if F.blk == 0x07 && F.off == 0x44 && F.lo == 0 && u != 0 then pmcCounters u
  else if F.blk == 0x60 && F.off == 0x48 && F.lo == 0 then (if u == 0 then 2 else 0)
  else if F.blk == 0x03 && u != 0 && F.off == 0x40 && F.lo ≥ 8 then (if 1 ≤ u && u ≤ 8 then F.rst else 0)
  else if fusedFlds.contains (F.blk, F.off, F.lo) then Config.fused (F.addr u i) % 2 ^ F.w
  else F.rst

/-- The value in effect of field `F` of unit `u`, entry `i`. -/
def State.f (s : State) (F : Fld) (u : Nat := 0) (i : Nat := 0) : Nat :=
  (PMap.find s.regs (F.addr u i)).getD (fldReset F u i)

/-- A one-bit field as a truth value. -/
def State.b (s : State) (F : Fld) (u : Nat := 0) (i : Nat := 0) : Bool := s.f F u i == 1

/-- Set field `F` of unit `u`, entry `i`, to the low bits of `v` that it holds. -/
def State.setF (s : State) (F : Fld) (u i v : Nat) : State :=
  { s with regs := PMap.put s.regs (F.addr u i) (v % 2 ^ F.w) }

/-- Add `n` to a wrapping counter field. -/
def State.addF (s : State) (F : Fld) (u i n : Nat) : State := s.setF F u i (s.f F u i + n)

/-- Add `n` to a counter field that stops at all ones. -/
def State.satF (s : State) (F : Fld) (u i n : Nat) : State := s.setF F u i (min (s.f F u i + n) (2 ^ F.w - 1))

/-- A common-header field (Table 02-3) of the page of block `blk`. -/
def hd (F : Fld) (blk : Nat) : Fld := { F with blk := blk }

/-- The whole PAGE_ERR word. -/
def PAGE_ERR_WORD : Fld := ⟨0, 0x10, 4, 0, 32, .w1c, 0, 0, false, []⟩

/-- The number of a page: block type and unit (PCU and DMA units run to 511). -/
def pageOf (blk u : Nat) : Nat := blk * 4096 + u

/-- Set the PAGE_ERR bit that `F` names, on the page of its block and unit `u` (R43). -/
def State.err (s : State) (F : Fld) (u : Nat) : State :=
  let W := hd PAGE_ERR_WORD F.blk
  s.setF W u 0 (setBit (s.f W u) F.lo)

/-- Set a common PAGE_ERR bit on a page (Table 02-3). -/
def State.errOn (s : State) (F : Fld) (blk u : Nat) : State := s.err (hd F blk) u

/-- PAGE_ERR AND NOT PAGE_ERR_MASK is non-zero: the page error source's level (R43). -/
def State.errLevel (s : State) (blk u : Nat) : Bool :=
  (List.range 32).any fun i => bit (s.f (hd PAGE_ERR_WORD blk) u) i && !(bit (s.f (hd PAGE_ERR_MASK blk) u) i)

/-- The origin of KIND and UNIT pulses: SOURCE_SIGNAL delivers the pulse (Table 15-1). -/
def State.post (s : State) (kind unit : Nat) : State := { s with events := s.events ++ [⟨kind, unit⟩] }

/-- What the block drives, sends or answers, newest first. -/
def State.emit (s : State) (o : Out) : State := { s with out := o :: s.out }

/-- Take the next free value: the number that indexes it, and the state in which it is used up. -/
def State.bump (s : State) : State := { s with draws := s.draws + 1 }

/-- Count a refusal of an instance (R460, R66, R67); INST_REFUSED stops at its largest value. -/
def State.refuse (s : State) (fn : Nat) : State := s.satF INST_REFUSED_COUNT fn 0 1

/-! ### Memory

One list of bytes holds every memory the block reaches. Its places are disjoint by construction: host memory at its own
addresses, device memory by grant offset, stook-buffer shares, spill areas and the default Gleaner ring (R20, R425). -/

/-- Host memory. -/
def hostAt (a : Nat) : Nat := a % 2 ^ 64
/-- Offset `off` of instance `i`'s device-memory grant (R425). -/
def devAt (i off : Nat) : Nat := 2 ^ 70 + i * 2 ^ 52 + off
/-- Offset `off` of instance `i`'s share of stook `k`'s buffer. -/
def sbufAt (i k off : Nat) : Nat := 2 * 2 ^ 70 + i * 2 ^ 56 + k * 2 ^ 48 + off
/-- Offset `off` of instance `i`'s spill area (R442). -/
def spillAt (i off : Nat) : Nat := 3 * 2 ^ 70 + i * 2 ^ 48 + off
/-- Offset `off` of the default Gleaner ring (R556). -/
def glnAt (off : Nat) : Nat := 4 * 2 ^ 70 + off

/-- What a byte that nothing has written reads as. -/
def memDefault : BitVec 8 := 0

/-- The byte at a place. -/
def State.byte (s : State) (a : Nat) : BitVec 8 := PMap.get s.mem a memDefault

/-- Store one byte. -/
def State.setByte (s : State) (a : Nat) (v : BitVec 8) : State := { s with mem := PMap.putD memDefault s.mem a v }

/-- The `n` bytes from place `a`. -/
def State.load (s : State) (a n : Nat) : List (BitVec 8) := (List.range n).map fun i => s.byte (a + i)

/-- Store bytes from place `a` on. -/
def State.store (s : State) : Nat → List (BitVec 8) → State
  | _, [] => s
  | a, v :: vs => State.store (s.setByte a v) (a + 1) vs

/-- The canonical form of memory: addresses rise strictly and no entry equals what an unlisted address reads as. -/
def Memory.wf (m : List Host.Cell) : Bool := PMap.rising m && m.all fun c => c.2 != memDefault

/-! ### Units and domains -/

/-- Block types with their first and last unit (Table 02-1). PCU and DMA take two type codes each; MBX units 129 to 192 are the
instances' own views of units 1 to 64. -/
def blockUnits : List (Nat × Nat × Nat) :=
  [(0x01, 0, 0), (0x02, 0, 0), (0x03, 0, 50), (0x04, 0, 95), (0x05, 0, 194), (0x06, 0, 0), (0x07, 0, 255), (0x08, 0, 0),
   (0x09, 0, 0), (0x10, 0, 7), (0x11, 0, 63), (0x12, 0, 63), (0x18, 0, 1), (0x19, 0, 64), (0x20, 0, 7), (0x21, 0, 511),
   (0x22, 0, 255), (0x23, 0, 31), (0x24, 0, 0), (0x30, 0, 95), (0x31, 0, 95), (0x32, 0, 0), (0x40, 0, 95), (0x41, 0, 96),
   (0x42, 0, 96), (0x44, 0, 95), (0x50, 0, 511), (0x51, 0, 255), (0x58, 0, 255), (0x59, 0, 255), (0x60, 0, 64),
   (0x61, 1, 64), (0x61, 129, 192), (0x70, 0, 23), (0x71, 0, 3)]

/-- Table 02-1 lists unit `u` of block type `blk` (R35). PCU units 256 to 511 and DMA channels 256 to 511 may be named
under the first of their two type codes. -/
def unitListed (blk u : Nat) : Bool := blockUnits.any fun x => x.1 == blk && decide (x.2.1 ≤ u) && decide (u ≤ x.2.2)

/-- Mode of quad `q`: 0 unused, 1 KPB, 2 Ethernet (R22). -/
def State.quadMode (s : State) (q : Nat) : Nat := s.f SRDS_CTL_MODE q

/-- Lanes of an Ethernet port type (Table 09-1). -/
def emacLanes (ty : Nat) : Nat := if ty == 4 then 2 else if ty == 5 then 4 else if ty == 6 then 8 else 1

/-- Lanes of a KPB width code: x1, x2, x4. -/
def krpLanes (w : Nat) : Nat := if w == 1 then 2 else if w == 2 then 4 else 1

/-- Lane `n` is a non-lowest lane of a wide KPB port that exists (R23). -/
def State.krpCovered (s : State) (n : Nat) : Bool :=
  let q4 := n / 4 * 4
  let wide4 := s.f KRP_CTL_WIDTH_MAX q4 == 2
  if n % 4 == 0 then false
  else if wide4 then true
  else n % 2 == 1 && s.f KRP_CTL_WIDTH_MAX (n - 1) == 1

/-- Lane `n` is a non-lowest lane of a wide Ethernet port that exists (R23, R24). -/
def State.emacCovered (s : State) (n : Nat) : Bool :=
  let t (m : Nat) : Nat := s.f EMAC_CFG_TYPE m
  let e8 := n / 8 * 8
  let q4 := n / 4 * 4
  if n % 8 != 0 && t e8 == 6 && s.quadMode (e8 / 4) == 2 then true
  else if n % 4 != 0 && t q4 == 5 then true
  else n % 2 == 1 && t (n - 1) == 4

/-- Lane `n` is one of the downstream ports 1 to 3 of a quad in hub role (R153). -/
def State.hubPort (s : State) (n : Nat) : Bool := n % 4 != 0 && s.f SRDS_CTL_HUB_ROLE (n / 4) == 1 && s.quadMode (n / 4) == 1

/-- The unit does not exist in the current configuration (R36, R153). -/
def State.absent (s : State) (blk u : Nat) : Bool :=
  if blk == 0x30 || blk == 0x31 then s.quadMode (u / 4) != 1 || s.krpCovered u || s.hubPort u
  else if (blk == 0x40 || blk == 0x41 || blk == 0x42 || blk == 0x44) && u < 96 then
    s.quadMode (u / 4) != 2 || s.emacCovered u
  else if blk == 0x07 then decide (117 < u)
  else false

/-- The power domain a page lies in (Tables 17-1 and 18-1); 0 where the spec places it in none that is switched. -/
def domainOf (blk u : Nat) : Nat :=
  if blk == 0x10 then 1 + u
  else if blk == 0x11 || blk == 0x12 then 1 + u / 8
  else if blk == 0x18 then 43 + u
  else if blk == 0x20 || blk == 0x21 || blk == 0x22 || blk == 0x23 || blk == 0x24 then 47
  else if blk == 0x30 || blk == 0x31 then 9 + u / 4
  else if (blk == 0x40 || blk == 0x41 || blk == 0x42) && u < 96 then 9 + u / 4
  else if blk == 0x44 then (if u / 4 < 12 then 41 else 42)
  else if blk == 0x70 then 9 + u
  else if blk == 0x71 then 33 + u
  else if blk == 0x06 then 48
  else if blk == 0x02 then 45
  else if blk == 0x07 then
    if u == 0 then 48 else if u ≤ 8 then u else if u ≤ 72 then 1 + (u - 9) / 8 else if u ≤ 96 then 9 + (u - 73)
    else if u ≤ 98 then 43 + (u - 97) else if u ≤ 102 then 33 + (u - 99) else if u ≤ 106 then 37 + (u - 103)
    else if u ≤ 108 then 41 + (u - 107) else if u == 109 then 47 else if u ≤ 117 then 1 + (u - 110) else 0
  else 0

/-- Domain `d` is on: ready or ramping. Domain 46, the always-on domain, is always on; 0 stands for no switched domain. -/
def State.domOn (s : State) (d : Nat) : Bool := d == 0 || d == 46 || decide (2 ≤ s.f PWR_DOM_STAT_DSTATE d)

/-- Domain `d` has finished its bring-up (R526). -/
def State.domReady (s : State) (d : Nat) : Bool := d == 0 || d == 46 || s.f PWR_DOM_STAT_DSTATE d == 3

/-- The device presents pages of block `blk`: from SAGE_READY on, and in RECOVERY the DEV and SAGE pages alone (R595, R597). -/
def State.serves (s : State) (blk : Nat) : Bool :=
  decide (2 ≤ s.boot.phase) && (s.boot.phase != 5 || blk == 0x01 || blk == 0x02)

/-- The page of a FAST target while the mode is PRIO: it reads zero and its writes are dropped (R482). -/
def State.fastOff (s : State) (blk u : Nat) : Bool :=
  blk == 0x05 && decide (129 ≤ u) && decide (u < 194) && s.f IRQ_GSTAT_MODE 194 == 0

/-- The page can be written: its unit is listed, exists and its domain is on (R35, R36, R37, R595). -/
def State.live (s : State) (blk u : Nat) : Bool :=
  s.serves blk && unitListed blk u && !(s.absent blk u) && s.domOn (domainOf blk u) && !(s.fastOff blk u)

/-- UNIT_READY of a page (Table 02-3): its domain is ready, its unit exists and is not fenced, and the device serves it
(R598 limits sheaves in seedling service; RNG waits for entropy). -/
def State.ready (s : State) (blk u : Nat) : Bool :=
  s.live blk u && s.domReady (domainOf blk u) && !(s.fenced.contains (pageOf blk u)) &&
  (if blk == 0x08 then s.b DEV_SERVICE_ENTROPY_READY
   else if blk == 0x11 || blk == 0x12 then
     s.f DEV_SERVICE_SERVICE == 2 || (s.f DEV_SERVICE_SERVICE == 1 && decide (u % 8 < 4))
   else true)

/-- Live pages (R62): no shadow, no commit point, no snapshot. -/
def isLivePage (blk : Nat) : Bool :=
  blk == 0x02 || blk == 0x05 || blk == 0x07 || blk == 0x08 || blk == 0x12 || blk == 0x50 || blk == 0x51 || blk == 0x58 ||
  blk == 0x59 || blk == 0x61

/-- The commit points a page allows besides NOW: FRAME, EPOCH, POSITION (Table 02-1). -/
def allowsPoint (blk point : Nat) : Bool :=
  if point == 2 then blk == 0x30 || blk == 0x31
  else if point == 3 then
    [0x01, 0x04, 0x06, 0x10, 0x11, 0x18, 0x19, 0x20, 0x21, 0x22, 0x23, 0x24, 0x40, 0x41, 0x42, 0x44].contains blk
  else if point == 4 then [0x20, 0x21, 0x22, 0x23].contains blk
  else decide (point ≤ 1)

/-- PAGE_CAP.ALIASABLE of a page (R607 and the owning chapters). -/
def aliasable (blk u : Nat) : Bool :=
  (blk == 0x05 && decide (u < 64)) || blk == 0x04 || blk == 0x06 || blk == 0x19 || blk == 0x30 || blk == 0x31 ||
  blk == 0x32 || blk == 0x40 || ((blk == 0x41 || blk == 0x42) && decide (u < 96)) || blk == 0x44 || blk == 0x50 || blk == 0x51

/-! ### Grants (chapter 14) -/

/-- Instance `i` holds root port `n` (INST_KRP_MAP). -/
def State.holdsKrp (s : State) (i n : Nat) : Bool := bit (s.f INST_KRP_MAP_BITS i) n
/-- Instance `i` holds Ethernet port `n` (INST_EMAC_MAP). -/
def State.holdsEmac (s : State) (i n : Nat) : Bool := bit (s.f INST_EMAC_MAP_BITS i) n
/-- Instance `i` holds DMA channel `c` (INST_DMA_MAP). -/
def State.holdsDma (s : State) (i c : Nat) : Bool := bit (s.f INST_DMA_MAP_BITS i (c / 64)) (c % 64)
/-- Instance `i` holds Gleaner code `c` (INST_GLN_MAP). -/
def State.holdsGln (s : State) (i c : Nat) : Bool := bit (s.f INST_GLN_MAP_BITS i (c / 64)) (c % 64)

/-- The instance from 1 to 64 of which `p` holds, or the manager where there is none (R454). -/
def holder (p : Nat → Bool) : Nat := ((List.range 65).find? fun i => i != 0 && p i).getD 0

/-- The owner of root port `n`, Ethernet port `n`, DMA channel `n` or Gleaner code `n`. -/
def State.krpOwner (s : State) (n : Nat) : Nat := holder fun i => s.holdsKrp i n
def State.emacOwner (s : State) (n : Nat) : Nat := holder fun i => s.holdsEmac i n
def State.dmaOwner (s : State) (n : Nat) : Nat := holder fun i => s.holdsDma i n
def State.glnOwner (s : State) (n : Nat) : Nat := holder fun i => s.holdsGln i n

/-- Device number of local index `k` through four ranges of (FIRST, COUNT) (R456). -/
def rangeDevice : List (Nat × Nat) → Nat → Option Nat
  | [], _ => none
  | (first, count) :: rs, k => if k < count then some (first + k) else rangeDevice rs (k - count)

/-- Local index of device number `d` through four ranges (R456). -/
def rangeLocal : List (Nat × Nat) → Nat → Nat → Option Nat
  | [], _, _ => none
  | (first, count) :: rs, base, d =>
    if first ≤ d && d < first + count then some (base + (d - first)) else rangeLocal rs (base + count) d

/-- The submission-queue ranges of instance `i`. -/
def State.wqRanges (s : State) (i : Nat) : List (Nat × Nat) :=
  (List.range 4).map fun r => (s.f INST_WQ_RANGE_FIRST i r, s.f INST_WQ_RANGE_COUNT i r)
/-- The completion-ring ranges of instance `i`. -/
def State.cqRanges (s : State) (i : Nat) : List (Nat × Nat) :=
  (List.range 4).map fun r => (s.f INST_CQ_RANGE_FIRST i r, s.f INST_CQ_RANGE_COUNT i r)

/-- Device queue of instance `i`'s local queue `k` (R456). -/
def State.wqDev (s : State) (i k : Nat) : Option Nat := rangeDevice (s.wqRanges i) k
/-- Device ring of instance `i`'s local ring `k` (R456). -/
def State.cqDev (s : State) (i k : Nat) : Option Nat := rangeDevice (s.cqRanges i) k
/-- The owner of device queue `q` (R454). -/
def State.wqOwner (s : State) (q : Nat) : Nat := holder fun i => (rangeLocal (s.wqRanges i) 0 q).isSome
/-- The owner of device ring `c` (R454). -/
def State.cqOwner (s : State) (c : Nat) : Nat := holder fun i => (rangeLocal (s.cqRanges i) 0 c).isSome
/-- Local index of device queue `q` in its owner's view (0 where the owner's ranges do not list it). -/
def State.wqLocal (s : State) (q : Nat) : Nat := (rangeLocal (s.wqRanges (s.wqOwner q)) 0 q).getD 0
/-- Local index of device ring `c` in its owner's view. -/
def State.cqLocal (s : State) (c : Nat) : Nat := (rangeLocal (s.cqRanges (s.cqOwner c)) 0 c).getD 0

/-- State of instance `i` (Table 14-1): 0 FREE, 1 READY, 2 RUNNING, 3 RESETTING, 4 FROZEN. -/
def State.instState (s : State) (i : Nat) : Nat := s.f INST_STAT_STATE i

/-! ### Accesses (R63 to R68) -/

/-- Where an access to a register reaches: a page (block, unit, offset in it, whether writes are dropped as through a
read-only view), a place that reads zero and drops writes, or a refusal of the instance. -/
inductive Reach where
  | page (blk unit off : Nat) (ro : Bool)
  | nothing
  | refused
deriving DecidableEq, Repr

/-- The manager's access to a BAR0 offset (R33, R35). PCU and DMA pages under their second type code are the units from
256 on of the first. -/
def reachManager (off : Nat) : Reach :=
  let blk := off / 2 ^ 20 % 256
  let u := off / 2 ^ 12 % 256
  if blk == 0x22 then .page 0x21 (256 + u) (off % 4096) false
  else if blk == 0x51 then .page 0x50 (256 + u) (off % 4096) false
  else if blk == 0x61 && 64 < u then .nothing
  else if unitListed blk u then .page blk u (off % 4096) false else .nothing

/-- A queue of instance `i` is bound to Ethernet port `n` (R328). -/
def State.holdsEmacQueue (s : State) (i n : Nat) : Bool :=
  (s.wqRanges i).any fun r => (List.range r.2).any fun k =>
    let ty := s.f WQ_CFG_TYPE ((r.1 + k) / 64) ((r.1 + k) % 64)
    (ty == 3 || ty == 4) && s.f WQ_BIND_TARGET ((r.1 + k) / 64) ((r.1 + k) % 64) % 128 == n

/-- An alias entry of instance `i` is sound (R64, R541, R607): the page may be aliased, and its unit or part of it is granted. -/
def State.aliasOk (w : State) (i e : Nat) : Bool :=
  let blk := e % 256
  let u := bits e 8 8
  if !(bit e 16) then true
  else if blk == 0x51 then w.holdsDma i (256 + u)
  else unitListed blk u && aliasable blk u &&
    (if blk == 0x30 || blk == 0x31 then w.holdsKrp i u
     else if blk == 0x04 then w.holdsKrp i u && bit e 17
     else if blk == 0x32 then w.f INST_KRP_MAP_BITS i != 0
     else if blk == 0x40 then w.holdsEmac i u || (bit e 17 && w.holdsEmacQueue i u)
     else if blk == 0x41 || blk == 0x42 || blk == 0x44 then w.holdsEmac i u
     else if blk == 0x50 then w.holdsDma i u
     else if blk == 0x19 then u == i
     else if blk == 0x06 then (List.range 4).any fun k => w.f INST_GLN_MAP_BITS i k != 0
     else if blk == 0x05 then w.irq.any fun v => v.1 / 128 == u && v.2.inst == i
     else false)

/-- Entry `k` of instance `i`'s alias directory, where it is VALID and names what the instance is granted (R64). -/
def State.aliasAt (s : State) (i k : Nat) : Option Nat :=
  let e := s.f INST_ALIAS i k
  if bit e 16 && s.aliasOk i e then some e else none

/-- An instance's access to its BAR0 (Table 02-5, R65, R68). The instance's side of its MBX page is held apart, at unit
128 + i. The header that a slot of the WQ or CQ view shows is that of the page whose unit number is the instance's (DESIGN CHOICE, log
entry 80: the spec names none). -/
def State.reachInst (s : State) (fn off : Nat) : Reach :=
  let slot := off / 4096
  let o := off % 4096
  if 256 ≤ slot then .refused
  else if slot == 0 then .page 0x01 0 o true
  else if slot == 1 then .page 0x60 fn o false
  else if slot == 2 then .page 0x61 (128 + fn) o false
  else if slot == 3 then .page 0x05 (64 + fn) o false
  else if slot == 4 then (if s.f IRQ_GSTAT_MODE 194 == 0 then .nothing else .page 0x05 (129 + fn) o false)
  else if slot == 5 then .page 0x24 0 o true
  else if slot < 16 then .refused
  else if slot < 32 then
    if o < 0x100 then .page 0x58 fn o false
    else if 0xD00 ≤ o then .refused
    else match s.wqDev fn (64 * (slot - 16) + (o - 0x100) / 48) with
      | some q => .page 0x58 (q / 64) (0x100 + 48 * (q % 64) + (o - 0x100) % 48) false
      | none => .nothing
  else if slot < 48 then
    if o < 0x100 then .page 0x59 fn o false
    else if 0x900 ≤ o then .refused
    else match s.cqDev fn (64 * (slot - 32) + (o - 0x100) / 32) with
      | some c => .page 0x59 (c / 64) (0x100 + 32 * (c % 64) + (o - 0x100) % 32) false
      | none => .nothing
  else
    match s.aliasAt fn (slot - 48) with
    | none => .refused
    | some e => .page (if e % 256 == 0x51 then 0x50 else e % 256) (if e % 256 == 0x51 then 256 + bits e 8 8 else bits e 8 8) o (bit e 17)

/-- An access by function `fn` to offset `off` of its BAR0. -/
def State.reach (s : State) (fn off : Nat) : Reach := if fn == 0 then reachManager off else s.reachInst fn off

/-- Instance `fn` reaches page (`blk`, `u`) for writing through its alias directory. -/
def State.aliased (s : State) (fn blk u : Nat) : Bool :=
  (List.range 208).any fun k => (s.aliasAt fn k).any fun e =>
    !(bit e 17) && ((e % 256 == blk && bits e 8 8 == u) || (e % 256 == 0x51 && blk == 0x50 && bits e 8 8 + 256 == u))

/-- The life cycle of instance `i`. -/
def State.inst (s : State) (i : Nat) : InstSt := PMap.get s.insts i {}
def State.setInst (s : State) (i : Nat) (x : InstSt) : State := { s with insts := PMap.put s.insts i x }

/-- A reset of instance `i` is under way (R463). -/
def State.resetting (s : State) (i : Nat) : Bool := (s.inst i).resetAt.isSome

/-- Instance `i` accepts no work: it resets, freezes or is frozen (R463, R471). -/
def State.closed (s : State) (i : Nat) : Bool := s.resetting i || (s.inst i).freezeAt.isSome || s.instState i == 4

/-- A register write of function `fn` that reaches page (`blk`, `u`): the manager always does, an instance only through an
alias that is not read-only and only to a field that is not manager-only; otherwise it is refused (R66, R67), as is
every access of a function that resets (R463). A write to a page that is absent or powered off is dropped (R36, R37). -/
def State.act (s : State) (fn blk u : Nat) (mgrOnly : Bool) (k : State → State) : State :=
  if !(s.serves blk) then s
  else if s.resetting fn then s.refuse fn
  else if fn == 0 then (if s.live blk u then k s else s)
  else if !mgrOnly && s.aliased fn blk u then (if s.live blk u then k s else s)
  else s.refuse fn

/-- Registers of instance `i` that its fixed slots present (INST, MBX, IRQ targets, WQ and CQ views): the manager's access
and the instance's own reach them, another function's access is refused. -/
def State.actOwn (s : State) (fn i : Nat) (k : State → State) : State :=
  if !(s.serves 0) then s
  else if (fn == 0 || fn == i) && !(s.resetting fn) then k s else s.refuse fn

/-- Release function `fn`'s snapshot latch when it lies on `page` (R61). -/
def State.unlatch (s : State) (fn page : Nat) : State :=
  match PMap.find s.latch fn with
  | some l => if l.page == page then { s with latch := PMap.del s.latch fn } else s
  | none => s

/-- A fold over the numbers below `n`, in rising order. -/
def State.each (s : State) (n : Nat) (k : State → Nat → State) : State := (List.range n).foldl k s

end Sys2Proof.Machine
end

