-- ==== Sys2Proof/Machine/Xlate.lean ====
section
/-! DEFINITION. Translation of the addresses an instance supplies, the accesses made through it, the dirty log, and the
fault records (chapter 13). -/
namespace Sys2Proof.Machine

/-- Why an access has no place: REASON of Table 13-4, or 0 where it must wait (for Bus Master Enable, R453, or for an ATS
result, R427); the faulting address; LEVEL and HOST_TABLE of the record; the untranslated host address of a denied ATS result. -/
structure XErr where
  reason : Nat := 0
  va : Nat := 0
  level : Nat := 0
  hostTable : Bool := false
  wr : Bool := false
  host : Nat := 0
deriving DecidableEq, Repr

/-- Bytes of instance `i`'s device-memory grant (R425). -/
def State.devBytes (s : State) (i : Nat) : Nat := s.f INST_MEM_DEV i * 2 ^ 21
/-- Bytes of instance `i`'s share of stook `k`'s buffer (R425). -/
def State.sbufBytes (s : State) (i k : Nat) : Nat := s.f INST_SBUF_UNITS i k * 4096

/-- The configuration-space state of instance `i`'s function. -/
def State.fn (s : State) (i : Nat) : FnCfg := PMap.get s.fns i {}

/-- A table entry breaks Table 13-1 or R424 at `level`. -/
def entryBad (e level : Nat) : Bool :=
  let leaf := bit e 1
  if bits e 7 5 != 0 || bits e 52 12 != 0 then true
  else if leaf then
    level == 4 || bit e 6 || bits e 4 2 == 3 ||
    (level == 2 && bits e 12 9 != 0) || (level == 3 && bits e 12 18 != 0) ||
    (bits e 4 2 == 2 && (level == 3 || bits e 24 25 != 0))
  else level == 1 || bits e 2 4 != 0

/-- The walk from the table of `level` at `tab` (in host memory when `host`), R423 to R425 and R613; `herr` is the level at
which the host answered a table read with an error, 0 where it answered all. The result is the leaf, its page size and its
level. -/
def State.walk (s : State) (i va herr : Nat) : Nat → Bool → Nat → Except XErr (Leaf × Nat × Nat)
  | 0, _, _ => .error { reason := 5, va := va, level := 0 }
  | level + 1, host, tab =>
    let bad (r : Nat) : XErr := { reason := r, va := va, level := level + 1, hostTable := host }
    if !host && decide (s.devBytes i < tab + 4096) then .error (bad 4)
    else if host && !(s.fn i).bme then .error { va := va, level := level + 1 }
    else if herr == level + 1 then .error (bad 6)
    else
      let at_ := tab + bits va (12 + 9 * level) 9 * 8
      let e := leNat (s.load (if host then hostAt at_ else devAt i at_) 8)
      if !(bit e 0) then .error (bad 1)
      else if entryBad e (level + 1) then .error (bad 5)
      else if bit e 1 then
        .ok ({ target := bits e 4 2, out := bits e 12 40 * 4096, rd := bit e 2, wr := bit e 3, level := level + 1, inHost := host },
             4096 * 512 ^ level, level + 1)
      else s.walk i va herr level (bit e 6) (bits e 12 40 * 4096)

/-- The cached translation that covers an address of instance `i` (R429, R430). -/
def State.cached (s : State) (i va : Nat) : Option TlbEnt :=
  s.tlb.find? fun t => t.inst == i && decide (t.va ≤ va) && decide (va < t.va + t.size)

/-- The place of a leaf's output for the byte at offset `off` of its page, checked against the grant (R425), with the host
address where it lies in host memory. -/
def State.placeOf (s : State) (i va : Nat) (wr : Bool) (l : Leaf) (size : Nat) : Except XErr (Nat × Option Nat) :=
  let off := va % size
  let bad (r : Nat) : XErr := { reason := r, va := va, level := l.level, hostTable := l.inHost }
  if wr && !l.wr then .error (bad 3)
  else if !wr && !l.rd then .error (bad 2)
  else if l.target == 1 then
    if s.devBytes i < l.out + size then .error (bad 4)
    else .ok (devAt i (l.out + off), none)
  else if l.target == 2 then
    let k := l.out / 2 ^ 49
    let o := bits l.out 12 12 * 4096
    if s.sbufBytes i k < o + size then .error (bad 4)
    else .ok (sbufAt i k (o + off), none)
  else if !(s.fn i).bme then .error { va := va }
  else
    let h := l.out + off
    if s.b DLOG_ICTL_ATS_EN i && (s.fn i).atsEnable then
      match s.ats.find? fun a => a.inst == i && a.page == h / 4096 with
      | some a =>
        if (if wr then a.wr else a.rd) then .ok (hostAt (a.out * 4096 + h % 4096), some h)
        else if (if wr then a.noWr else a.noRd) then .error { reason := 7, va := va, host := h }
        else .error { va := va }
      | none => .error { va := va }
    else .ok (hostAt h, some h)

/-- The walk from instance `i`'s root. -/
def State.walkRoot (s : State) (i va herr : Nat) : Except XErr (Leaf × Nat × Nat) :=
  s.walk i va herr 4 (s.b DLOG_ROOT_HOST i) (s.f DLOG_ROOT_ADDR i * 4096)

/-- The level at which the host has answered the table read of this page with an error, 0 where it has not (R613). -/
def State.tabErr (s : State) (i va : Nat) : Nat :=
  ((s.tabErrs.find? fun x => x.1 == i && x.2.1 == va / 4096).map fun x => x.2.2).getD 0

/-- Translate one byte address of instance `i` (R421 to R431, R613): its place, and its host address where it lies in host
memory. The spill window (R445) and the Gleaner default-ring window (R556) bypass the tables. Where a cached entry covers the
address the access uses it or walks afresh (R431). -/
def State.xlate (s : State) (i va : Nat) (wr : Bool) : Except XErr (Nat × Option Nat) :=
  let spillBase := s.f DLOG_SPILL_VA_VA i * 2 ^ 30
  let glnBase := s.f GLN_DEF_VA_VA * 2 ^ 30
  if 2 ^ 48 ≤ va then .error { reason := 10, va := va }
  else if s.b DLOG_SPILL_VA_VALID i && decide (spillBase ≤ va) && decide (va < spillBase + 64 * s.f DLOG_SPILL_SIZE_UNITS i) then
    if wr then .error { reason := 3, va := va } else .ok (spillAt i (va - spillBase), none)
  else if i == 0 && s.b GLN_DEF_VA_VALID && decide (glnBase ≤ va) && decide (va < glnBase + 2 ^ 26) then
    if wr then .error { reason := 3, va := va } else .ok (glnAt (va - glnBase), none)
  else if !(s.b DLOG_ROOT_VALID i) then .error { reason := 9, va := va }
  else
    let fresh := match s.walkRoot i va (s.tabErr i va) with
      | .error e => .error e
      | .ok (l, size, _) => s.placeOf i va wr l size
    match s.cached i va with
    | some t => if Config.staleUse s.draws i (va / 4096) then s.placeOf i va wr t.leaf t.size else fresh
    | none => fresh

/-- The pieces of an access of `n` bytes at `va` that lie in one 4 KiB page each: address and length (R422). -/
def pieces : Nat → Nat → Nat → List (Nat × Nat)
  | 0, _, _ => []
  | _ + 1, _, 0 => []
  | fuel + 1, va, n =>
    let k := min n (4096 - va % 4096)
    (va, k) :: pieces fuel (va + k) (n - k)

/-- The pieces of an access. -/
def piecesOf (va n : Nat) : List (Nat × Nat) := pieces (n / 4096 + 2) va n

/-- The first error among the pieces of an access, if any (R422). -/
def State.xcheck (s : State) (i va n : Nat) (wr : Bool) : Option XErr :=
  (piecesOf va n).findSome? fun p => match s.xlate i p.1 wr with
    | .error e => some { e with wr := wr }
    | .ok _ => none

/-- Read `n` bytes at `va` of instance `i`'s address space. -/
def State.readV (s : State) (i va n : Nat) : Except XErr (List (BitVec 8)) :=
  match s.xcheck i va n false with
  | some e => .error e
  | none => .ok ((piecesOf va n).flatMap fun p => match s.xlate i p.1 false with
    | .error _ => []
    | .ok (a, _) => s.load a p.2)

/-- Set the dirty-log bit of a write to host address `h` by instance `i` (R447, R449). -/
def State.dirty (s : State) (i h : Nat) : State :=
  if !(s.b DLOG_LOG_CTL_EN i) then s
  else
    let base := s.f DLOG_LOG_BASE_ADDR i
    let k := (h - base) / 4096
    if h < base || s.f DLOG_LOG_LEN_PAGES i ≤ k then s.setF DLOG_LOG_STAT_OUT_RANGE i 0 1
    else
      let act := s.f DLOG_LOG_CTL_ACTIVE i
      let va := (if act == 0 then s.f DLOG_LOG_BMP0_ADDR i else s.f DLOG_LOG_BMP1_ADDR i) + k / 8
      match s.xlate 0 va true with
      | .ok (a, _) => s.setByte a (BitVec.ofNat 8 (setBit (s.byte a).toNat (k % 8)))
      | .error _ => if act == 0 then s.setF DLOG_LOG_STAT_LOST0 i 0 1 else s.setF DLOG_LOG_STAT_LOST1 i 0 1

/-- Store the pieces of a translated write, logging each host page (R447). -/
def State.storeV (s : State) (i : Nat) : List (Nat × Nat) → List (BitVec 8) → State
  | [], _ => s
  | (va, k) :: ps, bs => match s.xlate i va true with
    | .error _ => s
    | .ok (a, h) =>
      let s' := s.store a (bs.take k)
      let s'' := match h with
        | some x => s'.dirty i x
        | none => s'
      s''.storeV i ps (bs.drop k)

/-- Write bytes at `va` of instance `i`'s address space: the new state, or the first error, in which case nothing is
written. Each access takes a fresh choice under R431. -/
def State.writeV (s : State) (i va : Nat) (bs : List (BitVec 8)) : Except XErr State :=
  match s.xcheck i va bs.length true with
  | some e => .error e
  | none => .ok ((s.storeV i (piecesOf va bs.length) bs).bump)

/-- The instance's part of the translation state. -/
def State.xst (s : State) (i : Nat) : Xl := PMap.get s.xl i {}
def State.setXst (s : State) (i : Nat) (x : Xl) : State := { s with xl := PMap.put s.xl i x }

/-! ### Fault records (R434 to R441) -/

/-- The 32 bytes of a fault record (Table 13-3). -/
def recordBytes (w : Waiter) (nowait spillFull : Bool) (fseq : Nat) : List (BitVec 8) :=
  leBytes 8 w.vaddr ++ leBytes 1 w.kind ++ leBytes 1 w.reason ++
  leBytes 1 (b2n w.write + 2 * b2n nowait + 4 * b2n w.hostTable + 8 * b2n spillFull) ++ leBytes 1 w.level ++
  leBytes 2 w.fid ++ leBytes 2 w.unit ++ leBytes 4 w.detail ++ leBytes 4 fseq ++ leBytes 8 (w.time % 2 ^ 64)

/-- The fault queue of instance `i` can take a record: VALID, a slot free, and its place reachable (R435, R436). -/
def State.fqRoom (s : State) (i : Nat) : Bool :=
  s.b DLOG_FQ_BASE_VALID i && (s.f DLOG_FQ_TAIL_COUNT i + 2 ^ 32 - s.f DLOG_FQ_HEAD_COUNT i) % 2 ^ 32 != 256 &&
  (!(s.b DLOG_FQ_BASE_HOST i) || (s.fn i).bme)

/-- Write one record to its slot, advance DLOG_FQ_TAIL and raise the fault-queue event (R435). -/
def State.fqWrite (s : State) (w : Waiter) (nowait spillFull : Bool) : State :=
  let i := w.inst
  let n := (s.xst i).fqCount
  let off := s.f DLOG_FQ_BASE_ADDR i * 8192 + n % 256 * 32
  let bs := recordBytes w nowait spillFull (n % (2 ^ 32 - 1) + 1)
  let host := s.b DLOG_FQ_BASE_HOST i
  let s := s.store (if host then hostAt off else devAt i off) bs
  let s := if host then s.dirty i off else s
  let s := s.setXst i { s.xst i with fqCount := n + 1 }
  (s.addF DLOG_FQ_TAIL_COUNT i 0 1).post 0x8 i

/-- Write the held records of instance `i` in fault order while slots are free (R436); a record held for a task that still
has its tiller place stays held (R441). -/
def State.fqFlush (s : State) (i : Nat) : State :=
  let step := fun (acc : State × List Waiter) (w : Waiter) =>
    if w.inst == i && w.recSt == 1 && !w.blocked && acc.1.fqRoom i then
      (acc.1.fqWrite w false false, acc.2 ++ [{ w with recSt := 2 }])
    else (acc.1, acc.2 ++ [w])
  let r := s.waiters.foldl step (s, [])
  { r.1 with waiters := r.2 }

/-- Take the next FID of instance `i`: 16 bits, skipping 0 (R434). -/
def State.takeFid (s : State) (i : Nat) : Nat × State :=
  let x := s.xst i
  let n := if x.nextFid + 1 ≥ 65536 then 1 else x.nextFid + 1
  (x.nextFid, s.setXst i { x with nextFid := n })

/-- Count a fault (Tables 13-9 and 13-11). -/
def State.countFault (s : State) (i die : Nat) : State :=
  (s.addF DLOG_CNT_FAULT_COUNT i 0 1).addF DTU_CNT_FAULT_COUNT die 0 1

/-- A fault has used up the denied ATS result or the failed table read that it comes from: the next access asks again (R431). -/
def State.useUp (s : State) (inst : Nat) (e : XErr) : State :=
  if e.reason == 7 || e.reason == 8 then
    { s with ats := s.ats.map fun a => if a.inst == inst then { a with noRd := false, noWr := false } else a }
  else if e.reason == 6 then { s with tabErrs := s.tabErrs.filter fun x => !(x.1 == inst && x.2.1 == e.va / 4096) }
  else s

/-- Page requests outstanding for instance `i` (R428). -/
def State.priOut (s : State) (i : Nat) : Nat := (s.waiters.filter fun w => w.inst == i && w.recSt == 0).length

/-- A fault of work that waits (R434, R438): a FID, a record held or written, WAITING. `blocked` holds the record back while
the task concerned has its tiller place (R441). A denied ATS result with PRI_EN 1 sends a page request in place of a record, unless
that would exceed the host's allocation (R428). The answer is the FID. -/
def State.faultWait0 (s : State) (die inst kind : Nat) (e : XErr) (write : Bool) (unit detail ref : Nat)
    (blocked : Bool) : Nat × State :=
  let (fid, s) := s.takeFid inst
  let s := s.useUp inst e
  let wr := write || e.wr
  let asks := e.reason == 7 && s.b DLOG_ICTL_PRI_EN inst
  let page := asks && decide (s.priOut inst < (s.fn inst).priAlloc)
  let reason := if asks && !page then 8 else e.reason
  let w : Waiter := { inst := inst, fid := fid, kind := kind, reason := reason, vaddr := e.va, write := wr,
                      hostTable := e.hostTable, level := e.level, unit := unit, detail := detail, ref := ref,
                      recSt := (if page then 0 else 1), blocked := blocked, since := s.now, time := time96 s.devTime, die := die }
  let s := ({ s with waiters := s.waiters ++ [w] }).addF DLOG_FQ_STAT_WAITING inst 0 1
  if page then (fid, (s.addF DTU_CNT_PRI_COUNT die 0 1).emit (.pageRequest inst (e.host / 4096) (fid % 512) wr
    (if s.b DLOG_ICTL_PASID_EN inst then some (s.f DLOG_ICTL_PASID inst) else none)))
  else (fid, (s.countFault inst die).fqFlush inst)

/-- A fault of work that does not wait: a NOWAIT record, or LOST where no slot is free (R434, R436). -/
def State.faultNoWait0 (s : State) (die inst kind : Nat) (e : XErr) (write : Bool) (unit detail : Nat)
    (spillFull : Bool) (fid : Nat) : State :=
  let s := (s.countFault inst die).useUp inst e
  let w : Waiter := { inst := inst, fid := fid, kind := kind, reason := e.reason, vaddr := e.va, write := write || e.wr,
                      hostTable := e.hostTable, level := e.level, unit := unit, detail := detail,
                      since := s.now, time := time96 s.devTime, die := die }
  if s.fqRoom inst then s.fqWrite w true spillFull else s.satF DLOG_FQ_STAT_LOST inst 0 1

/-- Remove a waiting fault of an instance and count it out of WAITING. -/
def State.unwait (s : State) (inst fid : Nat) : State :=
  let left := s.waiters.filter fun w => !(w.inst == inst && w.fid == fid)
  if left.length == s.waiters.length then s
  else ({ s with waiters := left }).setF DLOG_FQ_STAT_WAITING inst 0 (s.f DLOG_FQ_STAT_WAITING inst - 1)

/-! ### Spill areas (R442 to R444) -/

/-- The header of a spill extent (Table 13-6). -/
def spillHeader (kind units len fid unit va frame : Nat) : List (BitVec 8) :=
  leBytes 1 kind ++ leBytes 3 0 ++ leBytes 4 units ++ leBytes 4 len ++ leBytes 2 fid ++ leBytes 2 unit ++
  leBytes 8 va ++ leBytes 4 frame ++ leBytes 36 0

/-- Write an extent at POS and advance POS and HEAD (R442). -/
def State.spillExtent (s : State) (i units : Nat) (bs : List (BitVec 8)) : State :=
  let pos := s.f DLOG_SPILL_POS_UNITS i
  let s := s.store (spillAt i (pos * 64)) bs
  (s.setF DLOG_SPILL_POS_UNITS i 0 ((pos + units) % s.f DLOG_SPILL_SIZE_UNITS i)).addF DLOG_SPILL_HEAD_UNITS i 0 units

/-- Spill `data` of instance `i` (R442 to R444): the byte offset of the header, or nothing where the extent, with any PAD it
needs, does not fit. -/
def State.spill (s : State) (i kind fid unit va frame : Nat) (data : List (BitVec 8)) : Option (Nat × State) :=
  let size := s.f DLOG_SPILL_SIZE_UNITS i
  let used := (s.f DLOG_SPILL_HEAD_UNITS i + 2 ^ 32 - s.f DLOG_SPILL_TAIL_UNITS i) % 2 ^ 32
  let u := 1 + cdiv data.length 64
  let pos := s.f DLOG_SPILL_POS_UNITS i
  let pad := if size - pos < u then size - pos else 0
  if size < used + u + pad then none
  else
    let s := if pad == 0 then s else s.spillExtent i pad (spillHeader 0xFF pad 0 0 0 0 0)
    let at_ := s.f DLOG_SPILL_POS_UNITS i * 64
    some (at_, s.spillExtent i u (spillHeader kind u data.length fid unit va frame ++ data))

end Sys2Proof.Machine
end

