-- ==== Sys2Proof/Machine/Irq.lean ====
section
/-! DEFINITION. Interrupt sources, targets, requests and their delivery (chapter 15). -/
namespace Sys2Proof.Machine

/-- Interrupt source `k` (R477). -/
def State.src (s : State) (k : Nat) : IrqSrc := PMap.get s.irq k {}
/-- Put source `k`; a source in its reset state is not listed. -/
def State.setSrc (s : State) (k : Nat) (v : IrqSrc) : State := { s with irq := PMap.putD {} s.irq k v }

/-- Mode CLASS (R482). -/
def State.classMode (s : State) : Bool := s.b IRQ_GSTAT_MODE 194

/-- The target a source offers itself to (R481). -/
def State.srcTarget (s : State) (v : IrqSrc) : Nat :=
  if v.tgt == 0 then
    (if s.classMode && decide (s.f IRQ_GCFG_FAST_MIN 194 ≤ v.prio) then 129 + v.inst else 64 + v.inst)
  else 193 + v.tgt

/-- A target register at its place: a page of its own, or one of the three blocks of unit 194 (Table 15-6). -/
def tgtFld (F : Fld) : Fld := { F with stride := 0x40 }
/-- Unit of a target's registers. -/
def tgtUnit (t : Nat) : Nat := min t 194
/-- Entry of a target's registers in its page. -/
def tgtIdx (t : Nat) : Nat := if t < 194 then 0 else t - 190

/-- IRQ_THRESH of target `t`. -/
def State.thresh (s : State) (t : Nat) : Nat := s.f (tgtFld IRQ_THRESH_THRESH) (tgtUnit t) (tgtIdx t)

/-- The highest PRIO in service at target `t`, 0 where none is. -/
def State.topInSvc (s : State) (t : Nat) : Nat :=
  s.irq.foldl (fun m e => if e.2.insvc && e.2.svc == t then max m e.2.prio else m) 0

/-- Sources in service at target `t` (IRQ_TSTAT.INSVC). -/
def State.inSvcCount (s : State) (t : Nat) : Nat := (s.irq.filter fun e => e.2.insvc && e.2.svc == t).length

/-- The ceiling of target `t` (R483). -/
def State.ceil (s : State) (t : Nat) : Nat :=
  if s.classMode then s.thresh t else max (s.thresh t) (s.topInSvc t)

/-- Source `k` is eligible (R481). -/
def State.eligible (s : State) (k : Nat) (v : IrqSrc) : Bool :=
  v.en && v.pend && !v.insvc && v.prio != 0 && (PMap.find s.hold (k / 32)).isNone

/-- Source `k` is eligible, offers itself to target `t` and lies above its ceiling. -/
def State.offers (s : State) (t k : Nat) (v : IrqSrc) : Bool :=
  s.eligible k v && s.srcTarget v == t && decide (s.ceil t < v.prio)

/-- Target `t` has an eligible source above its ceiling (R483). -/
def State.wants (s : State) (t : Nat) : Bool := s.irq.any fun e => s.offers t e.1 e.2

/-- A message leaves through the host port of its function, which is told for the port's counters (Table 18-2). -/
def State.msixSend (s : State) (fn vec : Nat) : State :=
  { s with msixSent := s.msixSent ++ [if fn == 0 then s.f DEV_STRAPS_LEAD_HOST else s.f INST_CTL_PORT fn] }.emit (.msix fn vec)

/-- Send an MSI-X message of function `fn`, or hold it in the Pending Bit Array: while the vector or the function is masked,
and while Bus Master Enable is 0 (R483, R453). -/
def State.msix (s : State) (fn vec : Nat) : State :=
  let c := s.fn fn
  if !c.msixEnable then s
  else if c.maskAll || (if vec == 0 then c.mask0 else c.mask1) || (fn != 0 && !c.bme) then
    { s with fns := PMap.put s.fns fn (if vec == 0 then { c with pba0 := true } else { c with pba1 := true }) }
  else s.msixSend fn vec

/-- Send what the Pending Bit Array of function `fn` holds and nothing withholds any more (R483, R453). -/
def State.msixFlush (s : State) (fn : Nat) : State :=
  let c := s.fn fn
  if !c.msixEnable || c.maskAll || (fn != 0 && !c.bme) then s
  else
    let s := if c.pba0 && !c.mask0 then
        ({ s with fns := PMap.put s.fns fn { s.fn fn with pba0 := false } }).msixSend fn 0 else s
    if c.pba1 && !c.mask1 then
      ({ s with fns := PMap.put s.fns fn { s.fn fn with pba1 := false } }).msixSend fn 1 else s

/-- The request of target `t` rises: a message for an instance target, the pin for INT_N, nothing outside for Sage.
INT_N is released in SLEEP, DSLEEP and OFF (R525). -/
def State.reqRise (s : State) (t : Nat) : State :=
  if t < 129 then s.msix (t - 64) 0
  else if t < 194 then s.msix (t - 129) 1
  else if t == 194 || 2 ≤ s.f PWR_STAT_STATE then s
  else s.emit (.intN (t - 195) true)

/-- The request of target `t` falls. -/
def State.reqFall (s : State) (t : Nat) : State := if t < 195 || 2 ≤ s.f PWR_STAT_STATE then s else s.emit (.intN (t - 195) false)

/-- Re-evaluate every target's request after a change (R483). -/
def State.irqEval (s : State) : State :=
  let cand := (s.irq.filter fun e => s.eligible e.1 e.2).map fun e => s.srcTarget e.2
  let want := cand.dedup.filter s.wants
  let s1 := (s.irqReq.filter fun t => !(want.contains t)).foldl State.reqFall s
  let s2 := (want.filter fun t => !(s.irqReq.contains t)).foldl State.reqRise s1
  { s2 with irqReq := want }

/-- IRQ_GSTAT.MODE after an instance has left FREE or entered it: CLASS while more than 16 instances are outside FREE (R482). -/
def State.irqMode (s : State) : State :=
  (s.setF IRQ_GSTAT_MODE 194 0 (b2n (decide (16 < ((List.range 64).filter fun j => s.instState (j + 1) != 0).length)))).irqEval

/-- The storm window in which page `p` now stands (R487: windows are aligned to device time). -/
def State.stormWin (s : State) (p : Nat) : Nat := s.devTime / us (s.f IRQ_STORM_WIN p)

/-- PEND of source `k` goes from 0 to 1 through its input: an assertion, with storm accounting (R487). -/
def State.assertSrc (s : State) (k : Nat) : State :=
  let v := s.src k
  let p := k / 128
  let w := s.stormWin p
  let n := if v.win == w then v.asserts + 1 else 1
  let mx := s.f IRQ_STORM_MAX p
  let storm := mx != 0 && decide (mx < n)
  let s := s.setSrc k { v with pend := true, win := w, asserts := n, en := v.en && !storm, storm := v.storm || storm }
  if storm then s.err IRQ_ERR_STORM p else s

/-- An edge or pulse that SENSE selects: PEND is set, or the edge is absorbed into COALESCED (R479, R480). The answer also
says whether the source was asserted. -/
def State.edgeSrc (s : State) (k : Nat) : State × Bool :=
  let v := s.src k
  if v.pend then (s.setSrc k { v with coal := min (v.coal + 1) 0xFFFF }, false) else (s.assertSrc k, true)

/-- A LEVEL source whose signal is 1 sets PEND unless it is in service (R479, R480). -/
def State.levelSrc (s : State) (k : Nat) : State × Bool :=
  let v := s.src k
  if v.pend || v.insvc then (s, false) else (s.assertSrc k, true)

/-- A pulse at source `k`: a single rising edge (R479); one that finds PEND 1 is absorbed and counted, and a LEVEL source in service takes
none (R480). -/
def State.pulseSrc (s : State) (k : Nat) : State × Bool :=
  let v := s.src k
  if v.sense == 2 || (v.sense == 0 && v.insvc && !v.pend) then (s, false) else s.edgeSrc k

/-- The signal of source `k` as it stands: the page error level for KIND 0x1 (R43), 0 otherwise. -/
def State.signal (s : State) (v : IrqSrc) : Bool := v.kind == 1 && s.errLevel (v.unit / 256) (v.unit % 256)

/-- The level of source `k` changes to, or stands at, what its origin now shows (R479). -/
def State.levelInput (s : State) (k : Nat) : State × Bool :=
  let v := s.src k
  let new := s.signal v
  let s := s.setSrc k { v with sig := new }
  if v.sense == 0 then (if new then s.levelSrc k else (s, false))
  else if new == v.sig then (s, false)
  else if (new && (v.sense == 1 || v.sense == 3)) || (!new && (v.sense == 2 || v.sense == 3)) then s.edgeSrc k
  else (s, false)

/-- The source bound to an origin, if any (R478 binds each origin to at most one). -/
def State.srcOf (s : State) (kind unit : Nat) : Option Nat :=
  (s.irq.find? fun e => kind != 0 && e.2.kind == kind && e.2.unit == unit).map (·.1)

/-- Remove the oldest undelivered pulse of an origin. -/
def dropEv (kind unit : Nat) : List Ev → List Ev
  | [] => []
  | e :: es => if e.kind == kind && e.unit == unit then es else e :: dropEv kind unit es

/-- A LEVEL source is set again where its signal is still 1 and it is not in service: after COMPLETE and after a 0 written to
its PEND (R480, Table 15-2). -/
def State.relevel (s : State) (k : Nat) : State × Bool :=
  let v := s.src k
  if v.sense == 0 && s.signal v then s.levelSrc k else (s, false)

/-- The origin of Table 15-1 is granted to instance `i` (R478). -/
def State.originGranted (s : State) (i kind unit : Nat) : Bool :=
  if i == 0 then true
  else if kind == 1 || kind == 2 then
    let blk := unit / 256 % 256
    let u := unit % 256
    if blk == 0x60 || blk == 0x61 || blk == 0x19 then u == i
    else if blk == 0x30 || blk == 0x31 || blk == 0x04 then s.holdsKrp i u
    else if blk == 0x40 || blk == 0x41 || blk == 0x42 || blk == 0x44 then s.holdsEmac i u
    else if blk == 0x50 then s.holdsDma i u
    else if blk == 0x51 then s.holdsDma i (256 + u)
    else s.aliased i blk u
  else if kind == 3 then (rangeLocal (s.cqRanges i) 0 unit).isSome
  else if kind == 4 then s.holdsDma i unit
  else if kind == 5 then s.aliased i (if unit < 256 then 0x21 else 0x22) (unit % 256)
  else if kind == 6 then s.holdsKrp i unit
  else if kind == 7 then s.holdsEmac i unit
  else if kind == 8 then unit == i
  else if kind == 9 then unit % 128 == i && decide (unit < 128)
  else false

/-- Unbind every source of an instance whose origin the instance no longer holds (R478). -/
def State.unbindLost (s : State) : State :=
  let irq := s.irq.map fun e => if e.2.kind != 0 && !(s.originGranted e.2.inst e.2.kind e.2.unit)
    then (e.1, { e.2 with kind := 0 }) else e
  { s with irq := irq }

/-- Step 5 of Table 14-3 for the sources of instance `i` (R492): bindings are kept. -/
def State.irqReset (s : State) (i : Nat) : State :=
  let s := (s.irq.filter fun e => e.2.inst == i).foldl (fun (st : State) e =>
    st.setSrc e.1 { e.2 with en := false, pend := false, insvc := false, coal := 0, prio := 0, sense := 1 }) s
  let c := s.fn i
  ({ s with fns := PMap.put s.fns i { c with pba0 := false, pba1 := false } }).irqEval

/-- Sources of instance `i` that are enabled. -/
def State.enCount (s : State) (i : Nat) : Nat := (s.irq.filter fun e => e.2.en && e.2.inst == i).length

end Sys2Proof.Machine
end

