-- ==== Sys2Proof/Machine/Pos.lean ====
section
/-! DEFINITION. Positions, velocities and jumps of the references, targets and firings of compare units, trigger pins
(chapter 5). Positions are P48.16 values held as integers, times are in 1/65,536 ns. -/
namespace Sys2Proof.Machine

/-- Reference `p` beside its registers. -/
def State.pref (s : State) (p : Nat) : Pref := PMap.get s.prefs p {}
def State.setPref (s : State) (p : Nat) (r : Pref) : State := { s with prefs := PMap.put s.prefs p r }
/-- Compare unit `u` beside its registers. -/
def State.pcu (s : State) (u : Nat) : Pcu := PMap.get s.pcus u {}
def State.setPcu (s : State) (u : Nat) (c : Pcu) : State := { s with pcus := PMap.put s.pcus u c }
/-- Trigger pin `t`. -/
def State.pin (s : State) (t : Nat) : Pin := PMap.get s.pins t {}
def State.setPin (s : State) (t : Nat) (c : Pin) : State := { s with pins := PMap.put s.pins t c }

/-- Advance of a position at `rate` (1/65,536 count per second) over `dt`. -/
def advance (rate : Int) (dt : Nat) : Int := Int.tdiv (rate * dt) (65536 * 1000000000)

/-- The fraction and the estimate apply (R174): in full service, for SRC 1 and 2 from the first edge or sample in it. -/
def State.interpolates (s : State) (p : Nat) : Bool :=
  s.f DEV_SERVICE_SERVICE == 2 && (!([1, 2].contains (s.f PREF_CTL_SRC p)) || (s.pref p).fullSeen)

/-- Position of reference `p` at elapsed time `t`, since its last edge, sample or write (R157, R167, R168, R170, R171, R174). -/
def State.positionAt (s : State) (p t : Nat) : Int :=
  let r := s.pref p
  let src := s.f PREF_CTL_SRC p
  let whole (x : Int) : Int := if s.f DEV_SERVICE_SERVICE == 2 then x else x / 65536 * 65536
  if src == 0 then whole r.base
  else if src == 4 then whole (Int.fdiv ((s.devTime : Int) - (s.now - t : Nat) - r.t0) (s.f PREF_TIME_DIV_NS p))
  else
    let adv := advance r.rate (t - r.at_)
    if src == 3 then whole (r.base + adv)
    else if !(s.interpolates p) then whole r.base
    else if src == 2 then r.base + adv
    else if 0 ≤ adv then max r.base (min (r.base + adv) (r.cnt * 65536 + 65280))
    else min r.base (max (r.base + adv) (r.cnt * 65536 - 65280))

/-- Position of reference `p` at this instant. -/
def State.position (s : State) (p : Nat) : Int := s.positionAt p s.now

/-- Velocity estimate of reference `p` (PREF_VEL): the mean rate of R170, the rate in effect with SRC 3 (R612), one count per
TIME_DIV ns with SRC 4, 0 when off. -/
def State.velocity (s : State) (p : Nat) : Int :=
  let src := s.f PREF_CTL_SRC p
  if src == 0 then 0
  else if src == 4 then 65536 * 1000000000 / (s.f PREF_TIME_DIV_NS p : Int)
  else (s.pref p).rate

/-- The 9 bytes of a position snapshot at elapsed time `t` (R190, Table 05-3). -/
def State.snapshotAt (s : State) (p t : Nat) : List (BitVec 8) :=
  leBytes 8 (unsgn (s.positionAt p t) 64) ++
  leBytes 1 (p % 8 + 8 * b2n (s.f PREF_CTL_SRC p != 0) + 16 * s.f PREF_STAT_UNRELIABLE p +
    32 * s.f PREF_STAT_STANDSTILL p + 64 * s.f PREF_STAT_DIR p)

/-- At this instant. -/
def State.snapshot (s : State) (p : Nat) : List (BitVec 8) := s.snapshotAt p s.now

/-- Time from now until reference `p` is predicted to reach `x`, where there is a prediction (R176). -/
def State.predict (s : State) (p : Nat) (x : Int) : Option Nat :=
  let v := s.velocity p
  let d := x - s.position p
  if v == 0 || (0 < v && d < 0) || (v < 0 && 0 < d) then none
  else some ((d * (65536 * 1000000000) / v).toNat)

/-- Set UNRELIABLE and the error bit that reports its becoming 1. -/
def State.unreliable (s : State) (p : Nat) : State :=
  if s.b PREF_STAT_UNRELIABLE p then s else (s.setF PREF_STAT_UNRELIABLE p 0 1).err PREF_ERR_UNRELIABLE p

/-- UNRELIABLE clears, and OVERSPEED with it (Table 05-6). -/
def State.reliable (s : State) (p : Nat) : State :=
  (s.setF PREF_STAT_UNRELIABLE p 0 0).setF PREF_STAT_OVERSPEED p 0 0

/-- Place reference `p` at `x` from this instant on. A fraction given to SRC 1 during seedling service is dropped (R174). -/
def State.place (s : State) (p : Nat) (x : Int) : State :=
  let r := s.pref p
  let y := if s.f PREF_CTL_SRC p == 1 && s.f DEV_SERVICE_SERVICE != 2 then x / 65536 * 65536 else x
  s.setPref p { r with cnt := x / 65536, base := y, at_ := s.now, t0 := (s.devTime : Int) - x * s.f PREF_TIME_DIV_NS p }

/-- Mean rate over the newest `n` of the measured intervals, in 1/65,536 count per second (R170). -/
def meanRate (n : Nat) (ivs : List Nat) : Int :=
  let k := ivs.take n
  let t := k.sum
  if t == 0 then 0 else (k.length * 65536 * (65536 * 1000000000) / t : Nat)

/-! ### Compare units -/

/-- Device time of a time-mode target. -/
def timeTarget (sec_ tgt : Nat) : Int := sec_ * sec 1 + tgt % 2 ^ 48

/-- The next target that TGT and TGT_SEC give unit `u` (R178, R179). -/
def State.firstTarget (s : State) (u : Nat) : Int :=
  if s.f PCU_CTL_MODE u == 2 then timeTarget (s.f PCU_TGT_SEC_SEC u) (s.f PCU_TGT_TGT u) else sgn (s.f PCU_TGT_TGT u) 64

/-- Where unit `u` now stands: device time in time mode, its reference's position otherwise. -/
def State.pcuNow (s : State) (u : Nat) : Int :=
  if s.f PCU_CTL_MODE u == 2 then s.devTime else s.position (s.f PCU_CTL_PREF u)

/-- Abandon the pending POSITION commits that name unit `u`, on the pages they are pending on (R53). -/
def State.abandonPos (s : State) (u : Nat) : State :=
  let hit := s.cmts.filter fun e => e.2.point == 4 && e.2.arg == u
  let s := { s with cmts := s.cmts.filter fun e => !(e.2.point == 4 && e.2.arg == u) }
  hit.foldl (fun s e => s.errOn PAGE_ERR_COMMIT_ABANDONED (e.1 / 4096) (e.1 % 4096)) s

/-- Unit `u` disarms (R191); a POSITION commit pending on it is abandoned (R53). -/
def State.disarm (s : State) (u : Nat) : State :=
  if s.b PCU_STAT_ARMED u then
    ((s.setF PCU_STAT_ARMED u 0 0).setPcu u { s.pcu u with due := false, trgSent := false }).abandonPos u
  else s

/-- Load the next target and the count of firings left, at an arming or a re-arming (R178 to R180). A time target already
passed sets LATE and is due at once, and so are the targets that follow it up to now (R178, R179). -/
def State.loadTarget (s : State) (u : Nat) : State :=
  let t := s.firstTarget u
  let past := s.f PCU_CTL_MODE u == 2 && decide (t ≤ (s.devTime : Int))
  let s := (s.setF PCU_LEFT_COUNT u 0 (s.f PCU_COUNT_COUNT u)).setF PCU_STAT_PREDICT u 0 0
  let x := s.pcuNow u
  let s := s.setPcu u { s.pcu u with next := t, prev := (if past then t - 1 else x), far := x, due := past, dueAt := s.now, skip := 0,
                                     snap := s.snapshot (s.f PCU_CTL_PREF u), trgSent := false }
  if past then s.setF PCU_STAT_LATE u 0 1 else s

/-- ARM: the unit arms with next target TGT, unless MODE is 0 (R191). LATE and MISSED clear. -/
def State.arm (s : State) (u : Nat) : State :=
  if s.f PCU_CTL_MODE u == 0 then s
  else (((s.setF PCU_STAT_ARMED u 0 1).setF PCU_STAT_MISSED u 0 0).setF PCU_STAT_LATE u 0 0).loadTarget u

/-- Forward, respectively backward crossings are allowed by the unit's DIR (R178); time mode only runs forward. -/
def State.fwdOk (s : State) (u : Nat) : Bool := s.f PCU_CTL_MODE u == 2 || bit (s.f PCU_CTL_DIR u) 0
def State.revOk (s : State) (u : Nat) : Bool := s.f PCU_CTL_MODE u != 2 && bit (s.f PCU_CTL_DIR u) 1

/-- A move from `a` to `b` passes `t` in a direction the unit allows: from strictly before it to at or past it. -/
def State.passes (s : State) (u : Nat) (a b t : Int) : Bool :=
  (s.fwdOk u && decide (a < t) && decide (t ≤ b)) || (s.revOk u && decide (b ≤ t) && decide (t < a))

/-- Sign of the unit's steps from target to target (R179). -/
def State.stepSign (s : State) (u : Nat) : Int := if s.f PCU_CTL_MODE u != 2 && s.f PCU_CTL_DIR u == 2 then -1 else 1

/-- The unit's reckoning after one target is done with, fired or passed over by a jump: the count of firings left and the
next target, or a disarm (R179, R177). The disarm itself is left to the caller: the answer says whether it is due. -/
def State.nextTarget (s : State) (u : Nat) : State × Bool :=
  let c := s.pcu u
  let step := s.f PCU_INTERVAL_STEP u
  let left := s.f PCU_LEFT_COUNT u
  let s := if left == 0 then s else s.setF PCU_LEFT_COUNT u 0 (left - 1)
  let s := s.setF PCU_STAT_PREDICT u 0 0
  if step == 0 then (s, true)
  else
    let s := s.setPcu u { c with next := c.next + s.stepSign u * step, trgSent := false }
    (s, left == 1)

/-- Motion has reached target `t` of unit `u` since the unit was last looked at: now, or by the motion whose crossing is due. -/
def State.reaches (s : State) (u : Nat) (t : Int) : Bool :=
  s.passes u (s.pcu u).prev (s.pcuNow u) t || s.passes u (s.pcu u).prev (s.pcu u).far t

/-- Pass over every target that a jump to `new` passes, at most `fuel` of them (R177). -/
def State.passOver (s : State) (u : Nat) (old new : Int) : Nat → State
  | 0 => s
  | fuel + 1 =>
    if s.b PCU_STAT_ARMED u && s.passes u old new (s.pcu u).next then
      let r := s.nextTarget u
      if r.2 then r.1.disarm u else r.1.passOver u old new fuel
    else s

/-- How many targets of unit `u` lie within `d` of its next one, at most. -/
def State.targetsIn (s : State) (u : Nat) (d : Nat) : Nat :=
  let step := s.f PCU_INTERVAL_STEP u
  if step == 0 then 1 else d / step + 2

/-- How many targets of unit `u` after its next one a jump from `old` to `new` passes that motion has not reached (R177). -/
def State.jumpedOver (s : State) (u : Nat) (old new : Int) : Nat :=
  let step : Int := s.f PCU_INTERVAL_STEP u
  let ahead (x : Int) : Int := s.stepSign u * (x - (s.pcu u).next)
  if step == 0 then 0 else (Int.fdiv (ahead new) step - Int.fdiv (max (ahead old) (ahead (s.pcu u).far)) step).toNat

/-- The targets that a jump has passed while a firing was due are passed over after it (R177). -/
def State.skipOver (s : State) (u : Nat) : Nat → State × Bool
  | 0 => (s, false)
  | k + 1 =>
    let r := s.nextTarget u
    if r.2 then r else r.1.skipOver u k

/-- A jump from `old` to `new` for one armed unit (R177). A crossing that motion had already made stays due, but for one that showed
in the sample of a jump across the same target. A one-shot unit disarms with its count of firings as it stands. -/
def State.jumpUnit (s : State) (u : Nat) (old new : Int) : State :=
  let c := s.pcu u
  let across := (decide (old < c.next) && decide (c.next ≤ new)) || (decide (new ≤ c.next) && decide (c.next < old))
  let same := s.f PCU_CTL_MODE u == 1 && c.due && c.seenAt == s.now && across
  let miss (s : State) : State :=
    let s := s.setF PCU_STAT_MISSED u 0 1
    if s.b PCU_CTL_EV_EN u then s.post 0x5 u else s
  let s := if same then s.setPcu u { c with due := false } else s
  if !same && (c.due || s.passes u c.prev old c.next) then
    let c := if c.due then c else { c with due := true, dueAt := s.now, far := old }
    let s := s.setPcu u c
    let k := s.jumpedOver u old new
    if k == 0 then s else (miss s).setPcu u { c with skip := c.skip + k }
  else
    let s :=
      if !(s.passes u old new c.next) then s
      else if s.f PCU_INTERVAL_STEP u == 0 then (miss s).disarm u
      else (miss s).passOver u old new (s.targetsIn u (new - old).natAbs)
    s.setPcu u { s.pcu u with prev := new, far := new }

/-- The armed units in mode `m`, on reference `p` where the mode is position. -/
def State.unitsOn (s : State) (m p : Nat) : List Nat :=
  (s.pcus.filter fun e => s.b PCU_STAT_ARMED e.1 && s.f PCU_CTL_MODE e.1 == m &&
    (m == 2 || s.f PCU_CTL_PREF e.1 == p)).map (·.1)

/-- A jump of reference `p` for its compare units (R177). -/
def State.jumpUnits (s : State) (p : Nat) (old new : Int) : State :=
  (s.unitsOn 1 p).foldl (fun s u => s.jumpUnit u old new) s

/-- A step of device time for the compare units in time mode: only a forward step passes targets (R177). -/
def State.jumpTimeUnits (s : State) (old new : Nat) : State :=
  (s.unitsOn 2 0).foldl (fun s u => s.jumpUnit u old new) s

/-- The value just after a handover serves every unit of the reference as its previous value (R157). -/
def State.settleUnits (s : State) (p : Nat) : State :=
  (s.unitsOn 1 p).foldl (fun s u => s.setPcu u { s.pcu u with prev := s.position p, far := s.position p }) s

/-! ### Firing -/

/-- Elapsed time at which unit `u`'s next target was reached (R181): the target's own instant in time mode; otherwise the
arrival of the edge that reached it, or the instant at which interpolation did. -/
def State.crossingAt (s : State) (u : Nat) : Int :=
  let t := (s.pcu u).next
  if s.f PCU_CTL_MODE u == 2 then (s.now : Int) + (t - (s.devTime : Int))
  else
    let p := s.f PCU_CTL_PREF u
    let r := s.pref p
    let v := s.velocity p
    if s.f PREF_CTL_SRC p == 4 then (s.now : Int) - (s.position p - t) * s.f PREF_TIME_DIV_NS p
    else
      let d := t - r.base
      if v == 0 || (0 < v && d ≤ 0) || (v < 0 && 0 ≤ d) then r.at_
      else min (s.now : Int) ((r.at_ : Int) + d * (65536 * 1000000000) / v)

/-- A crossing that unit `u` has made is due from now on, whatever follows (R178): its crossing instant, the snapshot of that instant
(R190), and the elapsed time at which it showed, which is that instant unless `seen` says otherwise. Where no crossing has been made, the
unit's next one is looked for from here on. -/
def State.noticeUnit (s : State) (u : Nat) (seen : Option Nat) : State :=
  let c := s.pcu u
  let y := s.pcuNow u
  if c.due then s.setPcu u { c with far := if s.revOk u && !(s.fwdOk u) then min c.far y else max c.far y }
  else if s.passes u c.prev y c.next then
    let x := (s.crossingAt u).toNat
    s.setPcu u { c with due := true, dueAt := x, seenAt := seen.getD x, far := y, snap := s.snapshotAt (s.f PCU_CTL_PREF u) x }
  else s.setPcu u { c with prev := y, far := y }

/-- The crossings that reference `p` has made since its last edge, sample or write, before the next one changes its position. -/
def State.noticeUnits (s : State) (p : Nat) : State := (s.unitsOn 1 p).foldl (fun s u => s.noticeUnit u none) s

/-- Elapsed time at which a pin action placed at exact elapsed time `x` takes effect: at the nearest nanosecond of device
time, the later one where two are equally near (R181). -/
def State.placePin (s : State) (x : Int) : Nat :=
  let d := (s.devTime : Int) + (x - s.now)
  let r := (2 * d + 65536) / (2 * 65536) * 65536
  (x + (r - d)).toNat

/-- Queue the pin action of unit `u`, fired at crossing instant `c` (R181, R182). -/
def State.queuePin (s : State) (u : Nat) (c : Int) : State :=
  if s.b PCU_CTL_PIN_EN u then
    let base := if s.f PCU_CTL_MODE u == 2 then c else c + ns 64
    let at_ := s.placePin (base + ns (s.f PCU_DELAY_NS u))
    { s with pinQ := s.pinQ ++ [{ at_ := at_, pin := s.f PCU_CTL_PIN u, unit := u, act := s.f PCU_CTL_PIN_ACT u,
                                   pulse := ns (s.f PCU_PULSE_PULSE_NS u) }] }
  else s

/-- One firing of unit `u` at crossing instant `c`, but for the task it creates and the commits it applies (R178 to R184).
The answer says whether the unit is to disarm. -/
def State.fireOnce (s : State) (u : Nat) (c : Int) : State × Bool :=
  let s := s.queuePin u c
  let s := s.addF PCU_FIRED_COUNT u 0 1
  let s := if s.b PCU_CTL_EV_EN u then s.post 0x5 u else s
  let s := if s.b PCU_CTL_KPB_EN u && !(s.pcu u).trgSent then s.setPcu u { s.pcu u with trgOwed := (s.pcu u).trgOwed + 1 } else s
  s.nextTarget u

/-! ### Pins -/

/-- Pin `t` is at its active level: its static level is active or a pulse is in progress (R182). -/
def Pin.active (p : Pin) : Bool := p.level || p.pulse.isSome

/-- Drive what pin `t` now shows: TRG_STAT, and the ball where it is driven (R182, R192). -/
def State.drivePin (s : State) (t : Nat) : State :=
  let a := (s.pin t).active
  let s := s.setF TRG_STAT_ACTIVE t 0 (b2n a)
  if s.b TRG_CTL_OE t && s.domOn 47 then s.emit (.trgOut t (a != s.b TRG_CTL_ACTIVE_LOW t)) else s

/-- A pulse starts on pin `t` at `at_` for `w` (R182): it merges with one in progress and with one that ended less than 4 ns
before. -/
def State.startPulse (s : State) (t at_ w : Nat) : State :=
  let p := s.pin t
  match p.pulse with
  | some e => (s.setPin t { p with pulse := some (max e (at_ + w)) }).addF TRG_CNT_MERGED_COUNT t 0 1
  | none =>
    let s' := s.setPin t { p with pulse := some (at_ + w) }
    match p.lastEnd with
    | some e => if at_ < e + ns 4 then s'.addF TRG_CNT_MERGED_COUNT t 0 1 else s'
    | none => s'

/-- A pulse is placed on pin `t` to start before `x`, by a firing or by an armed unit in time mode that has its target ahead: the pulse
in progress merges with it (R182). -/
def State.pulseBefore (s : State) (t x : Nat) : Bool :=
  (s.pinQ.any fun a => a.pin == t && a.act == 0 && decide (a.at_ < x)) ||
  (s.unitsOn 2 0).any fun u => s.b PCU_CTL_PIN_EN u && s.f PCU_CTL_PIN u == t && s.f PCU_CTL_PIN_ACT u == 0 &&
    decide (s.placePin (s.crossingAt u + ns (s.f PCU_DELAY_NS u)) < x)

/-- The pulse of pin `t` ends at `e`, unless one that starts less than 4 ns later keeps the pin active (R182). -/
def State.pulseOver (s : State) (t e : Nat) : State :=
  if s.pulseBefore t (e + ns 4) then s else s.setPin t { s.pin t with pulse := none, lastEnd := some e }

/-- One pin action (R182). -/
def State.pinAct (s : State) (a : PinAct) : State :=
  let p := s.pin a.pin
  let s := s.addF TRG_CNT_PULSE_COUNT a.pin 0 1
  if a.act == 0 then s.startPulse a.pin a.at_ a.pulse
  else if a.act == 1 then s.setPin a.pin { p with level := !p.level }
  else s.setPin a.pin { p with level := a.act == 2 }

/-- Insert an action by unit number. -/
def insAct (a : PinAct) : List PinAct → List PinAct
  | [] => [a]
  | b :: bs => if a.unit < b.unit then a :: b :: bs else b :: insAct a bs

end Sys2Proof.Machine
end

