-- ==== Sys2Proof/Machine/Page.lean ====
section
/-! DEFINITION. Register pages: where a register lies, what it reads as, and what a register write does (chapter 2). -/
namespace Sys2Proof.Machine

/-- The common header (Table 02-2) of a page of block `blk`, but for the registers whose writes are commands of their own. -/
def layoutHeader (blk : Nat) : List RegEnt := [
  ⟨0x00, 4, 0, 0, 1, false, [hd PAGE_ID_TYPE blk, hd PAGE_ID_UNIT blk, hd PAGE_ID_FMT_MAJOR blk, hd PAGE_ID_FMT_MINOR blk]⟩,
  ⟨0x04, 4, 0, 0, 1, false, [hd PAGE_CAP_BLK_CAP blk, hd PAGE_CAP_ALIASABLE blk, hd PAGE_CAP_POS blk, hd PAGE_CAP_EPO blk,
    hd PAGE_CAP_FRM blk, hd PAGE_CAP_NOW blk, hd PAGE_CAP_TRANSACTIONAL blk]⟩,
  ⟨0x08, 4, 0, 0, 1, false, [hd PAGE_CTL_COMMIT_EV_EN blk, hd PAGE_CTL_DISCARD blk, hd PAGE_CTL_RELEASE blk, hd PAGE_CTL_SNAP blk]⟩,
  ⟨0x0C, 4, 0, 0, 1, false, [hd PAGE_STAT_BLK_STAT blk, hd PAGE_STAT_POWERED_OFF blk, hd PAGE_STAT_ABSENT blk,
    hd PAGE_STAT_UNIT_READY blk, hd PAGE_STAT_SNAPPED blk, hd PAGE_STAT_COMMIT_PENDING blk, hd PAGE_STAT_SHADOW_DIRTY blk]⟩,
  ⟨0x10, 4, 0, 0, 1, false, [hd PAGE_ERR_WORD blk]⟩,
  ⟨0x14, 4, 0, 0, 1, false, [hd PAGE_ERR_MASK blk]⟩,
  ⟨0x18, 8, 0, 0, 1, false, [hd PAGE_COMMIT_ARG blk, hd PAGE_COMMIT_POINT blk]⟩,
  ⟨0x20, 8, 0, 0, 1, false, [hd PAGE_EPOCH_COMMIT_SEQ blk, hd PAGE_EPOCH_EPOCH blk]⟩]

/-- The registers of IRQ unit 194: the global ones and the target blocks of Sage, INT_N[0] and INT_N[1] (Table 15-6). -/
def layoutIrqGlobal : List RegEnt := [
  ⟨0x50, 4, 0, 0, 1, false, [IRQ_GCFG_FAST_MIN]⟩,
  ⟨0x54, 4, 0, 0, 1, false, [IRQ_GSTAT_MODE]⟩,
  ⟨0x40, 4, 0x40, 4, 7, false, [tgtFld IRQ_THRESH_THRESH]⟩,
  ⟨0x44, 4, 0x40, 4, 7, false, [tgtFld IRQ_CLAIM_VALID, tgtFld IRQ_CLAIM_SOURCE]⟩,
  ⟨0x48, 4, 0x40, 4, 7, false, [tgtFld IRQ_COMPLETE_SOURCE]⟩,
  ⟨0x4C, 4, 0x40, 4, 7, false, [tgtFld IRQ_TSTAT_COMPLETE_ERR, tgtFld IRQ_TSTAT_CEIL, tgtFld IRQ_TSTAT_REQ,
    tgtFld IRQ_TSTAT_INSVC]⟩]

/-- The registers of a page above its header. -/
def layoutOf (blk u : Nat) : List RegEnt :=
  if blk == 0x01 then layoutDEV else if blk == 0x02 then layoutSAGE
  else if blk == 0x03 then (if u == 0 then layoutPWR else layoutPWRD)
  else if blk == 0x04 then layoutNRG
  else if blk == 0x05 then (if u < 64 then layoutIRQ else if u < 194 then layoutIRQT.take 4 else layoutIrqGlobal)
  else if blk == 0x06 then layoutGLN
  else if blk == 0x07 then (if u == 0 then layoutPMC else layoutPMCB)
  else if blk == 0x08 then layoutRNG else if blk == 0x09 then layoutDCH
  else if blk == 0x10 then layoutSTK else if blk == 0x11 then layoutSHF else if blk == 0x12 then layoutTSK
  else if blk == 0x18 then layoutDTU else if blk == 0x19 then layoutDLOG
  else if blk == 0x20 then layoutPREF else if blk == 0x21 then layoutPCU
  else if blk == 0x23 then layoutTRG else if blk == 0x24 then layoutTIME
  else if blk == 0x30 then layoutKRP else if blk == 0x31 then layoutKSCH else if blk == 0x32 then layoutKHUB
  else if blk == 0x40 then layoutEMAC
  else if blk == 0x41 then (if u == 96 then layoutEFLTS else layoutEFLT)
  else if blk == 0x42 then (if u == 96 then layoutESTRS else layoutESTR)
  else if blk == 0x44 then layoutMSEC else if blk == 0x50 then layoutDMA
  else if blk == 0x58 then layoutWQ else if blk == 0x59 then layoutCQ
  else if blk == 0x60 then layoutINST else if blk == 0x61 then layoutMBX
  else if blk == 0x70 then layoutSRDS else if blk == 0x71 then layoutHOST else []

/-- A register at a page offset: its entry in the layout, its index, the byte of it at that offset. -/
structure RegAt where
  ent : RegEnt
  idx : Nat
  byte : Nat
deriving DecidableEq, Repr

/-- Where the layout entry `e` covers page offset `o`. -/
def RegEnt.at? (e : RegEnt) (o : Nat) : Option RegAt :=
  if e.stride == 0 then (if e.off ≤ o && o < e.off + e.bytes then some ⟨e, 0, o - e.off⟩ else none)
  else
    let d := o - e.off
    let i := d / e.stride
    if e.off ≤ o && d % e.stride < e.bytes && e.first ≤ i && i < e.cnt then some ⟨e, i, d % e.stride⟩ else none

/-- The register of page (`blk`, `u`) at offset `o`, if any. -/
def regAt (blk u o : Nat) : Option RegAt :=
  (if o < 0x40 then layoutHeader blk else layoutOf blk u).findSome? fun e => e.at? o

/-- The end of the last register of a page (R35, R68). -/
def pageEnd (blk u : Nat) : Nat :=
  (layoutOf blk u).foldl (fun m e => max m (e.off + (if e.stride == 0 then 0 else (e.cnt - 1) * e.stride) + e.bytes)) 0x28

/-- First and past-the-end bit address of a page's fields. -/
def pageLo (blk u : Nat) : Nat := (blk * 2 ^ 20 + u * 2 ^ 12) * 8
/-- Bit address `k` lies in page (`blk`, `u`). -/
def inPage (blk u k : Nat) : Bool := decide (pageLo blk u ≤ k) && decide (k < pageLo blk u + 4096 * 8)

/-- SHADOW_DIRTY of a page: its shadow holds values (R45). -/
def State.shadowDirty (s : State) (blk u : Nat) : Bool := s.shadow.any fun e => inPage blk u e.1
/-- The commit pending on a page (R46). -/
def State.armed (s : State) (blk u : Nat) : Option Armed := PMap.find s.cmts (pageOf blk u)

/-- Unit number as PAGE_ID and the origins of Table 15-1 name it, with the type code that goes with it. -/
def pageType (blk u : Nat) : Nat := blk + u / 256
def pageUnit (u : Nat) : Nat := u % 256

/-- Code `c` of the Gleaner. Codes 0xF0 to 0xF7 have fixed configurations (R552). -/
def State.glnCode (s : State) (c : Nat) : GlnCode :=
  let own := decide (0xF0 ≤ c) && decide (c ≤ 0xF7)
  let v := PMap.get s.gln c (if own then { tokens := 255 } else {})
  if own then { v with valid := true, kind := 0, period := 1, burst := 255 } else v

/-! Utilisation of an Ethernet port (R108, R322): successive windows of 100 µs. -/

/-- Number of the utilisation window that now runs. -/
def State.utilWin (s : State) : Nat := s.now / us 100
/-- Rate of a port type at full width, in Gbit/s (Table 09-1). -/
def emacRate (ty : Nat) : Nat :=
  if ty == 1 then 25 else if ty == 2 then 50 else if ty == 3 then 100 else if ty == 4 then 200 else if ty == 5 then 400 else 800
/-- Bits that port `n` carries in 100 µs on `lanes` lanes. -/
def State.emacCap (s : State) (n lanes : Nat) : Nat :=
  let ty := s.f EMAC_CFG_TYPE n
  emacRate ty * 100000 * lanes / emacLanes ty
/-- Lanes in use. -/
def State.emacUse (s : State) (n : Nat) : Nat := 2 ^ s.f EMAC_STAT_LANES n
/-- EMAC_UTIL: U of the last whole window, in thousandths of the current capacity. -/
def State.emacUtil (s : State) (n : Nat) : Nat :=
  let e := PMap.get s.emacs n {}
  if e.win == s.utilWin then e.lastU
  else if e.win + 1 == s.utilWin then min 1023 (max e.txBits e.rxBits * 1000 / s.emacCap n (s.emacUse n)) else 0

/-- Under HOLD the reference of port `n` stands behind the high-water mark (R197). -/
def State.hwmWait (s : State) (n : Nat) : Bool :=
  let q := PMap.get s.seqs n {}
  match q.hwm with
  | some h => q.clock == 0 && q.rev == 0 && decide (s.position q.pref < h)
  | none => false

/-- The IRQ_SRC_CFG word of a source as fields, for reading. -/
def srcField (v : IrqSrc) (F : Fld) : Nat :=
  if F.off == 0x600 then (if F.lo == 31 then b2n v.storm else v.coal)
  else if F.lo == 32 then v.prio else if F.lo == 30 then v.sense else if F.lo == 28 then v.tgt
  else if F.lo == 20 then v.inst else if F.lo == 16 then v.kind else v.unit

/-- Source `k` shows itself to function `fn`: to the manager, and to the instance whose it is (R490). -/
def State.srcShows (s : State) (fn k : Nat) : Bool := fn == 0 || (s.src k).inst == fn

/-- 32 bits of IRQ_EN, IRQ_PEND or IRQ_INSVC from source `k0` on, as function `fn` reads them (R490). -/
def State.irqWord (s : State) (fn k0 : Nat) (get : IrqSrc → Bool) : Nat :=
  (List.range 32).foldl (fun x b => if s.srcShows fn (k0 + b) && get (s.src (k0 + b)) then x + 2 ^ b else x) 0

/-- Counts of KHUB_CNT and the like are plain fields; the fields below are not held as such but read from the state that they
show. Every other field reads the value in effect. `fn` is the reading function: its latch and its own sources. -/
def State.fv (s : State) (F : Fld) (u i : Nat) (fn : Nat := 0) : Nat :=
  let blk := F.blk
  if F.off < 0x40 then
    if F.off == 0 then
      (if F.lo == 24 then pageType blk u else if F.lo == 16 then (if blk == 0x61 then u % 128 else pageUnit u) else if F.lo == 8 then 1 else 0)
    else if F.off == 4 then
      if F.lo == 8 then b2n (aliasable blk u)
      else if F.lo == 7 then b2n (allowsPoint blk 4)
      else if F.lo == 6 then b2n (allowsPoint blk 3)
      else if F.lo == 5 then b2n (allowsPoint blk 2)
      else if F.lo == 4 || F.lo == 0 then b2n (!(isLivePage blk))
      else s.f F u
    else if F.off == 0xC then
      if F.lo == 5 then b2n (!(s.domOn (domainOf blk u)))
      else if F.lo == 4 then b2n (s.absent blk u)
      else if F.lo == 3 then b2n (s.ready blk u)
      else if F.lo == 2 then b2n ((PMap.find s.latch fn).any fun l => l.page == pageOf blk u)
      else if F.lo == 1 then b2n (s.armed blk u).isSome
      else if F.lo == 0 then b2n (s.shadowDirty blk u)
      else s.f F u
    else if F.acc == .wo then 0
    else s.f F u
  else if F.acc == .wo then 0
  else if blk == 0x05 then
    if u < 64 then
      if F.off == 0x40 then s.irqWord fn (128 * u + 32 * i) IrqSrc.en
      else if F.off == 0x50 then s.irqWord fn (128 * u + 32 * i) IrqSrc.pend
      else if F.off == 0x60 then s.irqWord fn (128 * u + 32 * i) IrqSrc.insvc
      else if F.off == 0x200 || F.off == 0x600 then (if s.srcShows fn (128 * u + i) then srcField (s.src (128 * u + i)) F else 0)
      else s.f F u i
    else if F.off == 0x4C && F.lo != 20 then
      let t := if u < 194 then u else 190 + i
      if F.lo == 16 then s.ceil t else if F.lo == 15 then b2n (s.irqReq.contains t) else s.inSvcCount t
    else if F.off == 0x44 then 0
    else s.f F u i
  else if blk == 0x06 && (F.off == 0x74 || F.off == 0x78 || F.off == 0x7C || F.off == 0x80 || F.off == 0xC0) then
    let c := s.glnCode (s.f GLN_CODE_SEL_CODE)
    if F.off == 0x74 then
      (if F.lo == 31 then b2n c.valid else if F.lo == 30 then b2n c.evEn else if F.lo == 28 then c.kind
       else if F.lo == 24 then c.pref else c.src)
    else if F.off == 0x78 then (if F.lo == 16 then c.period else c.burst)
    else if F.off == 0x7C then c.pending
    else if F.off == 0x80 then c.count
    else match PMap.find c.wsel i with
      | some o => if F.lo == 31 then 1 else o
      | none => 0
  else if blk == 0x20 && F.off == 0x60 then unsgn (s.position u) 64
  else if blk == 0x20 && F.off == 0x68 then unsgn (s.velocity u) 64
  else if blk == 0x21 && F.off == 0x80 then
    (if s.f PCU_CTL_MODE u == 2 then ((s.pcu u).next % sec 1).toNat else unsgn (s.pcu u).next 64)
  else if blk == 0x21 && F.off == 0x88 then
    (if s.f PCU_CTL_MODE u == 2 then ((s.pcu u).next / sec 1).toNat else 0)
  else if blk == 0x24 && F.off == 0x50 then time96 s.devTime
  else if F == NRG_STAT_ACCOUNTING then b2n (s.b NRG_CTL_EN u && s.b KHUB_PWR_MAP_FITTED 0 u)
  else if F == NRG_STAT_UNTIMED then b2n !(s.b TIME_STAT_SET_ONCE)
  else if blk == 0x61 && F.mgr && 128 < u then s.f F (u - 128) i
  else if F == INST_CTL_PORT && u == 0 then s.f DEV_STRAPS_LEAD_HOST
  else if F == WQ_STAT_QUIESCED then s.f WQ_RSY_STAT_QUIESCED (s.wqOwner (64 * u + i))
  else if F == KSCH_STAT_HWM_WAIT then b2n (s.hwmWait u)
  else if blk == 0x40 && F.off == 0x64 then s.emacUtil u
  else if blk == 0x41 && u == 96 && F.off == 0x60 then PMap.get s.em (s.f EFLT_EM_RD_SEL_INDEX 96) 0
  else if blk == 0x32 && F.off == KHUB_PWR_STAT_PSTATE.off && F.lo == 0 && !(s.b KHUB_PWR_MAP_FITTED 0 i) then 2
  else s.f F u i

/-- Field `F` appears in a read-only view of its page, beside PAGE_ID, PAGE_CAP and PAGE_STAT: what the owning chapters list (R67, R71,
R328, R541, chapter 5). -/
def roShows (F : Fld) : Bool :=
  if F.blk == 0x01 then F.off == DEV_PART_PART.off || F.off == DEV_SERVICE_SERVICE.off || F.off == DEV_EPOCH_EPOCH.off
  else if F.blk == 0x24 then F.off == TIME_STAT_SET_ONCE.off || F.off == 0x50
  else if F.blk == 0x04 then F.off != NRG_CTL_EN.off && F.off != NRG_CMD_CLEAR_MAX.off
  else if F.blk == 0x40 then
    [EMAC_CFG_TYPE.off, EMAC_CTL_ENABLE.off, EMAC_MTU_MTU.off, EMAC_TUN_VXLAN_PORT.off, EMAC_ADDR_ADDR.off, EMAC_TPID_TPID.off,
      EMAC_TC_RATE_RATE.off].contains F.off ||
    [EMAC_STAT_LINK_UP, EMAC_STAT_FEC_LOCK, EMAC_STAT_AN_DONE, EMAC_STAT_LOCAL_FAULT, EMAC_STAT_REMOTE_FAULT].contains F
  else false

/-- Entry `i` of field `F` reads zero for instance `fn`: through a read-only view (`ro`) every field that the view does not show; through an
alias what describes another instance's resource (R66, R67, R156, R490, R560, chapter 13). -/
def State.hides (s : State) (fn : Nat) (ro : Bool) (F : Fld) (i : Nat) : Bool :=
  if fn == 0 then false
  else if F.off < 0x10 then (ro || F.blk == 0x06) && F.off == 0x8
  else if ro then !(roShows F)
  else if F.off < 0x40 then F.blk == 0x06 || (F.off < 0x18 && F.blk == 0x32)
  else
    F.blk == 0x06 ||
    (F.blk == 0x32 && 0x100 ≤ F.off && F.off < 0xD00 && !(s.holdsKrp fn i)) ||
    (F.blk == 0x19 && DLOG_LOG_CTL_EN.off ≤ F.off)

/-- What field `F` of unit `u`, entry `i`, reads as for function `fn`, through a read-only view or not, as it stands: R35 to R37 for a page
that is not there, absent or powered off, then R66 and R67. -/
def State.shows (s : State) (fn : Nat) (ro : Bool) (F : Fld) (u i : Nat) : Nat :=
  if !(unitListed F.blk u) || !(s.serves F.blk) || s.fastOff F.blk u then 0
  else if s.live F.blk u then
    (if s.hides fn ro F i || (fn != 0 && F.blk == 0x05 && u < 64 && 0x10 ≤ F.off && F.off < 0x18) then 0 else s.fv F u i fn)
  else if F.off < 8 then s.fv F u i fn
  else if F.off == 0xC && F.lo == 5 then b2n (!(s.domOn (domainOf F.blk u)))
  else if F.off == 0xC && F.lo == 4 then b2n (s.absent F.blk u)
  else 0

/-- What it reads as with the function's snapshot latch (R60): RO, RWC and W1C fields of the latched page come from the latch. -/
def State.seen (s : State) (fn : Nat) (ro : Bool) (F : Fld) (u i : Nat) : Nat :=
  match PMap.find s.latch fn with
  | some l =>
    if l.page == pageOf F.blk u && s.live F.blk u && !(s.hides fn ro F i) then (PMap.find l.vals (F.addr u i)).getD (s.shows fn ro F u i)
    else s.shows fn ro F u i
  | none => s.shows fn ro F u i

/-- The byte at offset `o` of a page as function `fn` reads it; reserved bits read 0. -/
def State.pageByte (s : State) (fn : Nat) (ro : Bool) (blk u o : Nat) : Nat :=
  match regAt blk u o with
  | none => 0
  | some r => r.ent.flds.foldl (fun x F => x + s.seen fn ro F u r.idx * 2 ^ F.lo) 0 / 256 ^ r.byte % 256

/-- The 32-bit word at page offset `o` as function `fn` reads it without a latch. -/
def State.wordFor (s : State) (fn : Nat) (ro : Bool) (blk u o : Nat) : Nat :=
  let s : State := { s with latch := PMap.del s.latch fn }
  leNat ((List.range 4).map fun j => BitVec.ofNat 8 (s.pageByte fn ro blk u (o + j)))

/-- The value that `size` bytes read at offset `off` of function `fn`'s BAR0, where nothing refuses the read and it stays in its page (R40). -/
def State.barValue (s : State) (fn off size : Nat) : Nat :=
  match s.reach fn off with
  | .page blk u o ro => leNat ((List.range size).map fun j => BitVec.ofNat 8 (s.pageByte fn ro blk u (o + j)))
  | _ => 0

/-- Every read of BAR2, of any size and by any function, returns zero at once, changes nothing and is no refusal (R608). -/
def State.bar2Read (s : State) (_fn _off _size : Nat) : State × Nat := (s, 0)

/-! ### Writes -/

/-- Fields whose writes are commands of their own: a REGISTER_WRITE leaves them alone. Key material of MSEC is written here
and only used by the load (R359). -/
def ownRow (F : Fld) : Bool :=
  (F.acc == .wo && F.blk != 0x44) || (F.acc == .wo && F.blk == 0x44 && F.off == MSEC_KEY_CMD_LOAD.off) ||
  [KHUB_TREE_BASE_ADDR, KHUB_TREE_CTL_PWR_ON, KHUB_TREE_CTL_ENUM_EN, KHUB_TREE_ACK_SEQ, TIME_RATE_ADJ, WQ_CFG_ENABLE,
   CQ_HEAD_COUNT, DMA_CTL_ENABLE, DLOG_FQ_HEAD_COUNT, DLOG_SPILL_TAIL_UNITS, IRQ_EN_BITS, IRQ_PEND_BITS,
   IRQ_SRC_CFG_PRIO, IRQ_SRC_CFG_SENSE, IRQ_SRC_CFG_TGT, IRQ_SRC_CFG_INST, IRQ_SRC_CFG_KIND, IRQ_SRC_CFG_UNIT,
   PMC_CNT_COUNT].contains F

/-- A value is a legal encoding of a field (R7, R41). -/
def Fld.ok (F : Fld) (v : Nat) : Bool := F.legal.isEmpty || F.legal.any fun r => decide (r.1 ≤ v) && decide (v ≤ r.2)

/-- The part of field `F` that lies in bits `[lo + n - 1 : lo]` of its register, replaced by those bits of `v`, which holds
bits `lo` and up of the register (R38). -/
def mergeFld (F : Fld) (old lo n v : Nat) : Nat :=
  let a := max F.lo lo
  let b := min (F.lo + F.w) (lo + n)
  if a < b then setBits old (a - F.lo) (b - a) (v / 2 ^ (a - lo)) else old

/-- Field `F` has bits in `[lo + n - 1 : lo]`. -/
def touches (F : Fld) (lo n : Nat) : Bool := decide (max F.lo lo < min (F.lo + F.w) (lo + n))

/-- The value of field `F` after the write of a part of its register: on the shadow for RWC fields. -/
def State.newVal (s : State) (F : Fld) (u i lo n v : Nat) : Nat :=
  let old := if F.acc == .rwc then (PMap.find s.shadow (F.addr u i)).getD (s.fv F u i) else s.fv F u i
  mergeFld F old lo n v

/-- Fields of queues, rings and DMA channels that may not be written now (R240, R272, Tables 07-10 and 07-12). -/
def State.locked (s : State) (F : Fld) (u i : Nat) : Bool :=
  if F == WQ_BASE_ADDR || F == WQ_CFG_SIZE_LOG2 || F == WQ_CFG_CQ then
    s.b WQ_CFG_ENABLE u i || !(s.b WQ_STAT_IDLE u i)
  else if F == WQ_CFG_TYPE then s.b WQ_CFG_ENABLE u i
  else if F == CQ_BASE_ADDR || F == CQ_CFG_SIZE_LOG2 then s.b CQ_CFG_ENABLE u i
  else if F == DMA_CTL_SRC || F == DMA_CTL_SIZE_LOG2 || F == DMA_CTL_SHEAF || F == DMA_RING_BASE_ADDR then
    s.b DMA_CTL_ENABLE u
  else false

/-- Write one field, by its access code (R8, R38, R45, R48). CQ_CFG.ENABLE can only be cleared here: setting it is a command
of its own. -/
def State.writeFld (s : State) (F : Fld) (u i lo n v : Nat) : State :=
  if !(touches F lo n) || ownRow F || s.locked F u i then s
  else if F == CQ_CFG_ENABLE then s.setF F u i (min (s.f F u i) (s.newVal F u i lo n v))
  else match F.acc with
    | .ro => s
    | .rw => s.setF F u i (s.newVal F u i lo n v)
    | .wo => s.setF F u i (mergeFld F (s.f F u i) lo n v)
    | .w1c =>
      let ones := mergeFld F 0 lo n v
      if F.blk == 0x05 && F.off == 0x600 && u < 64 then
        (if ones == 1 then s.setSrc (128 * u + i) { s.src (128 * u + i) with storm := false } else s)
      else s.setF F u i ((List.range F.w).foldl (fun x b => if bit ones b then clrBit x b else x) (s.f F u i))
    | .rwc =>
      if (s.armed F.blk u).isSome then s.errOn PAGE_ERR_SHADOW_LOCKED F.blk u
      else { s with shadow := PMap.put s.shadow (F.addr u i) (s.newVal F u i lo n v % 2 ^ F.w) }

/-- EVENT and SUB codes that Tables 18-1 and 18-2 give bank `b` (R545). -/
def pmcSubOk (b sub : Nat) : Bool :=
  if 73 ≤ b && b ≤ 98 then sub ≤ 3 || sub == 0xF
  else if b == 109 then sub ≤ 7 || sub == 0xF
  else sub == 0 || sub == 0xF
/-- First and last event number of each kind of bank besides 0x000. -/
def pmcEventOk (b e : Nat) : Bool :=
  e == 0 ||
  (if b ≤ 8 then 0x80 ≤ e && e ≤ 0x83
   else if b ≤ 72 then (0x40 ≤ e && e ≤ 0x43) || e == 0x45 || (0x50 ≤ e && e ≤ 0x55)
   else if b ≤ 96 then (0xC0 ≤ e && e ≤ 0xC7) || (0x100 ≤ e && e ≤ 0x107)
   else if b ≤ 98 then 0x140 ≤ e && e ≤ 0x145
   else if b ≤ 102 then 0x180 ≤ e && e ≤ 0x185
   else if b ≤ 106 then 0x1C0 ≤ e && e ≤ 0x1C3
   else if b ≤ 108 then 0x200 ≤ e && e ≤ 0x202
   else if b == 109 then 0x240 ≤ e && e ≤ 0x243
   else 0x280 ≤ e && e ≤ 0x284)

/-- The encodings that depend on the unit (R545). -/
def unitOk (F : Fld) (u v : Nat) : Bool :=
  if F == PMC_EVSEL_EVENT then pmcEventOk u v else if F == PMC_EVSEL_SUB then pmcSubOk u v else true

/-- The fields of a register of unit `u` that function `fn` may write: for an instance, all that are not manager-only (R66). INST_CTL
is RO on unit 0 (R451). -/
def RegEnt.mine (e : RegEnt) (fn u : Nat) : List Fld :=
  if u == 0 && (e.flds.any fun F => F.blk == 0x60 && F.off == 0x40) then []
  else if fn == 0 then e.flds else e.flds.filter fun F => !F.mgr

/-- A part of a register that function `fn` may write would get a reserved encoding (R41). -/
def State.badEnc (s : State) (fn : Nat) (r : RegAt) (u lo n v : Nat) : Bool :=
  (r.ent.mine fn u).any fun F => touches F lo n && !(ownRow F) && (F.acc == .rw || F.acc == .rwc || F.acc == .wo) &&
    (let x := s.newVal F u r.idx lo n v; !(F.ok x && unitOk F u x))

/-- A register has only WO fields. -/
def RegEnt.isWo (e : RegEnt) : Bool := e.flds.all fun F => F.acc == .wo

/-- The size and alignment of a write suit the register that it falls on (R38, R39). -/
def sizeOk (r : RegAt) (o size : Nat) : Bool :=
  (size == 4 || size == 8) && o % size == 0 &&
  (r.ent.win || (if r.ent.bytes == 16 then size == 8 else if r.ent.bytes == 8 && r.ent.isWo then size == 8 else true))

/-- An instance's write touches a manager-only field: that part is dropped and counted as a refusal (R66). -/
def State.refuseMgr (s : State) (fn : Nat) (r : RegAt) (lo w : Nat) : State :=
  if fn != 0 && (r.ent.flds.any fun F => F.mgr && touches F lo w) then s.refuse fn else s

/-- Write the part of one register that starts at offset `o`, `n` bytes of value `v`, for function `fn`: manager-only fields
of an instance's write are dropped and counted as a refusal (R66). A reserved encoding in an RWC field while a commit is pending sets
RESERVED_ENC and not SHADOW_LOCKED: the spec does not order the two (DESIGN CHOICE, log entry 81). -/
def State.writeReg (s : State) (fn blk u o n v : Nat) : State :=
  match regAt blk u o with
  | none => s
  | some r =>
    let lo := 8 * r.byte
    let w := 8 * min n (r.ent.bytes - r.byte)
    let s := s.refuseMgr fn r lo w
    if s.badEnc fn r u lo w v then s.errOn PAGE_ERR_RESERVED_ENC blk u
    else
      let mine := r.ent.mine fn u
      let s := if mine.any fun F => F.acc == .w1c && touches F lo w then s.unlatch fn (pageOf blk u) else s
      mine.foldl (fun s F => s.writeFld F u r.idx lo w v) s

/-- A whole write of the `n` bytes of the register at offset `o` gives no reserved encoding (R41). -/
def State.encOk (s : State) (blk u o n v : Nat) : Bool :=
  match regAt blk u o with
  | none => false
  | some r => !(s.badEnc 0 r u (8 * r.byte) (8 * n) v)

/-- Write `size` bytes of value `v` at offset `o` of a live page: an 8-byte write may cover two 32-bit registers. -/
def State.writePage (s : State) (fn blk u o size v : Nat) : State :=
  match regAt blk u o with
  | none =>
    if (size == 4 || size == 8) && o % size == 0 then
      (if size == 8 then s.writeReg fn blk u (o + 4) 4 (v / 2 ^ 32) else s)
    else s.errOn PAGE_ERR_ACCESS blk u
  | some r =>
    if !(sizeOk r o size) then s.errOn PAGE_ERR_ACCESS blk u
    else if size == 8 && r.ent.bytes == 4 then
      (s.writeReg fn blk u o 4 (v % 2 ^ 32)).writeReg fn blk u (o + 4) 4 (v / 2 ^ 32)
    else s.writeReg fn blk u o size v

/-- The shadowed value of field `F`, if the shadow holds one. -/
def State.shadowed (s : State) (F : Fld) (u i : Nat) : Option Nat := PMap.find s.shadow (F.addr u i)

/-- The value field `F` would have after a commit of its page. -/
def State.nextVal (s : State) (F : Fld) (u i : Nat := 0) : Nat := (s.shadowed F u i).getD (s.f F u i)

/-- A commit of the page would change field `F`. -/
def State.willChange (s : State) (F : Fld) (u i : Nat := 0) : Bool := s.nextVal F u i != s.f F u i

/-- Take a field out of the shadow: it keeps its value at the commit. -/
def State.unshadow (s : State) (F : Fld) (u i : Nat := 0) : State := { s with shadow := PMap.del s.shadow (F.addr u i) }

end Sys2Proof.Machine
end

