-- ==== Sys2Proof/Machine/Obs.lean ====
section
/-! DEFINITION. Event counters and the Gleaner: what counts, what triggers, what a record holds (chapter 18). -/
namespace Sys2Proof.Machine

/-! ### Gleaner -/

/-- Put code `c`. -/
def State.setGln (s : State) (c : Nat) (v : GlnCode) : State := { s with gln := PMap.put s.gln c v }

/-- The view through which the code's owner reads the register at offset `off` of the manager's BAR0, if it has one (R555, R66, R67):
whether that is a read-only one. -/
def State.glnView (s : State) (owner off : Nat) : Option Bool :=
  if owner == 0 then some false
  else match reachManager off with
    | .page blk u o _ =>
      if blk == 0x01 || blk == 0x24 then some true
      else if blk == 0x60 || blk == 0x61 then (if u == owner then some false else none)
      else if blk == 0x05 && 64 ≤ u then (if u == 64 + owner || (u == 129 + owner && s.classMode) then some false else none)
      else if blk == 0x58 then
        (if (o < 0x100 && u == owner) || (0x100 ≤ o && s.wqOwner (64 * u + (o - 0x100) / 48) == owner) then some false else none)
      else if blk == 0x59 then
        (if (o < 0x100 && u == owner) || (0x100 ≤ o && s.cqOwner (64 * u + (o - 0x100) / 32) == owner) then some false else none)
      else
        let es := (List.range 208).filterMap fun k => (s.aliasAt owner k).filter fun e => e % 256 == pageType blk u && bits e 8 8 == pageUnit u
        if es.isEmpty then none else some (es.all fun e => bit e 17)
    | _ => none

/-- Word `w` of a record of code `c` (R555). -/
def State.glnWord (s : State) (owner : Nat) (c : GlnCode) (w : Nat) : Nat :=
  match PMap.find c.wsel w with
  | some off =>
    match reachManager off, s.glnView owner off with
    | .page blk u o _, some ro => s.wordFor owner ro blk u o
    | _, _ => 0
  | none => 0

/-- A trigger can make a record now (R553, R558): the domain is on, the bucket has a token, no record of the code is still
being written, and the device has made fewer than 16 records within the last microsecond. -/
def State.glnTakes (s : State) (code : Nat) : Bool :=
  let c := s.glnCode code
  s.domOn 48 && (c.period == 0 || c.tokens != 0) && !(s.glnRecs.any fun r => r.code == code) &&
  decide ((s.glnTimes.filter fun t => decide (s.now < t + us 1)).length < 16)

/-- Bytes 8 to 127 of a record (Table 18-5), with `words` in place of the register words where they are given. -/
def State.glnBody (s : State) (code : Nat) (soft : Bool) (origin arg : Nat) (words : List Nat) : List (BitVec 8) :=
  let c := s.glnCode code
  let owner := s.glnOwner code
  let ws := (List.range 12).map fun w => if words.isEmpty then s.glnWord owner c w else words.getD w 0
  leBytes 12 (time96 s.devTime) ++ s.snapshot c.pref ++ leBytes 1 code ++
  leBytes 1 (b2n soft + 2 * b2n (c.pending == 0xFFFFFFFF) + 4 * b2n (c.off != s.glnOff)) ++ leBytes 1 owner ++
  leBytes 4 c.pending ++ leBytes 4 origin ++ leBytes 8 arg ++ ws.flatMap (leBytes 4) ++ leBytes 32 0

/-- Trigger code `code` (R552, R553): a record, or one more suppressed trigger. -/
def State.glnTrigger (s : State) (code : Nat) (soft : Bool) (origin arg : Nat) (words : List Nat := []) : State :=
  let c := s.glnCode code
  if !c.valid then s
  else if s.glnTakes code then
    let n := s.f GLN_SEQ_SEQ + s.glnRecs.length + 1
    let r : GlnRec := { seq := n, code := code, bytes := s.glnBody code soft origin arg words, at_ := s.now }
    let c' := { c with tokens := (if c.period == 0 then c.tokens else c.tokens - 1), pending := 0,
                       count := (c.count + 1) % 2 ^ 32, off := s.glnOff }
    { s.setGln code c' with
      glnRecs := s.glnRecs ++ [r]
      glnTimes := s.now :: s.glnTimes.filter fun t => decide (s.now < t + us 1) }
  else s.setGln code { c with pending := min (c.pending + 1) 0xFFFFFFFF }

/-- Trigger the codes of `kind` whose SRC is `src` (R552). -/
def State.glnKind (s : State) (kind src origin : Nat) : State :=
  (s.gln.filter fun e => e.2.valid && e.2.kind == kind && e.2.src == src).foldl
    (fun s e => s.glnTrigger e.1 false origin 0) s

/-- A record of the reserve chapter (R510, Tables 16-6 and 16-7). -/
def State.glnReserve (s : State) (code kind dom unit gen left cause : Nat) : State :=
  s.glnTrigger code false 0 0 [kind + 256 * dom, unit, gen, left + 256 * cause]

/-! ### Interrupt inputs with their Gleaner triggers -/

/-- After an input has been looked at: an assertion triggers the codes of KIND IRQ of that source (R552), then requests are
re-evaluated (R483). -/
def State.irqDone (r : State × Bool) (k : Nat) : State :=
  (if r.2 then r.1.glnKind 1 k k else r.1).irqEval

/-! ### Counters -/

/-- Counter `c` of bank `b` steps from all ones (R544). -/
def State.pmcWrap (s : State) (b c : Nat) : State :=
  let s := s.setF PMC_OVF_BITS b 0 (setBit (s.f PMC_OVF_BITS b) c)
  let s := s.setF PMC_CNT_COUNT b c (if s.b PMC_EVSEL_RELOAD_EN b c then s.f PMC_RELOAD_VALUE b else 0)
  let s := if s.b PMC_EVSEL_OVF_EN b c then s.post 0xA b else s
  s.glnKind 2 (b + 256 * c) (b + 256 * c)

/-- Counter `c` of bank `b` adds `n` events (R544). -/
def State.pmcAdd (s : State) (b c n : Nat) : State :=
  let x := s.f PMC_CNT_COUNT b c
  if x + n < 2 ^ 48 then s.setF PMC_CNT_COUNT b c (x + n)
  else
    let s := s.pmcWrap b c
    s.setF PMC_CNT_COUNT b c (s.f PMC_CNT_COUNT b c + (x + n - 2 ^ 48))

/-- Counter `c` of bank `b` counts event `ev` of part `sub`, of instance `inst` where it has one (R544). -/
def State.pmcCounts (s : State) (b c ev sub : Nat) (inst : Option Nat) : Bool :=
  s.b PMC_EVSEL_EN b c && s.f PMC_EVSEL_EVENT b c == ev &&
  (s.f PMC_EVSEL_SUB b c == 0xF || s.f PMC_EVSEL_SUB b c == sub) &&
  (!(s.b PMC_EVSEL_INST_EN b c) || inst == some (s.f PMC_EVSEL_INST b c))

/-- `n` events `ev` in bank `b` (R543, R544). A bank of a domain that is off counts nothing (R546). -/
def State.count (s : State) (b ev sub : Nat) (inst : Option Nat) (n : Nat := 1) : State :=
  if n == 0 || !(s.domOn (domainOf 0x07 b)) then s
  else s.each (pmcCounters b) fun s c => if s.pmcCounts b c ev sub inst then s.pmcAdd b c n else s

/-! ### Faults, counted (R434, Table 18-2) -/

/-- The stook, 0 to 3 of its die, that a DTU event is counted for: the spec does not place most work on a stook. -/
def State.dtuSub (s : State) : Nat := Config.freeNat s.draws % 4

/-- A fault of work that waits, with its event (R434, R438, R543). -/
def State.faultWait (s : State) (die inst kind : Nat) (e : XErr) (write : Bool) (unit detail ref : Nat)
    (blocked : Bool := false) : Nat × State :=
  let r := s.faultWait0 die inst kind e write unit detail ref blocked
  if (r.2.waiters.any fun w => w.inst == inst && w.fid == r.1 && w.recSt == 0) then r
  else (r.1, r.2.bump.count (97 + die) 0x144 s.dtuSub (some inst))

/-- A fault of work that does not wait, with its event (R434, R436, R543). -/
def State.faultNoWait (s : State) (die inst kind : Nat) (e : XErr) (write : Bool) (unit detail : Nat)
    (spillFull : Bool) (fid : Nat) : State :=
  ((s.faultNoWait0 die inst kind e write unit detail spillFull fid).bump).count (97 + die) 0x144 s.dtuSub (some inst)

/-! ### Sampler (R550, R551) -/

/-- Draw a countdown from N/2 to 3N/2 - 1 (R550), from the output of the DRBG. -/
def State.sampleDraw (s : State) (h : Nat) : State :=
  let n := 2 ^ s.f PMC_S_CTL_PERIOD_LOG2
  let r := leNat ((List.range 4).map fun j => Config.drbg s.draws j)
  { s.bump with sampleCnt := PMap.put s.sampleCnt h (n / 2 + r % n) }

/-- The sampler is on for sheaf `h` and counts instructions of instance `i`. -/
def State.samples (s : State) (h i : Nat) : Bool :=
  s.b PMC_S_CTL_EN && bit (s.f PMC_S_SHEAVES_BITS) h && (!(s.b PMC_S_INST_EN) || s.f PMC_S_INST_INST == i)

/-- An instruction issues: it takes an issue slot (R547), counts down, and is tagged where a tag is due (R550). -/
def State.sampleIssue (s : State) (t : Task) (w slot : Nat) : State :=
  let s := { s with slotUse := PMap.put s.slotUse t.sheaf (PMap.get s.slotUse t.sheaf 0 + 1) }
  if !(s.samples t.sheaf t.inst) then s
  else
    let s := match PMap.find s.sampleCnt t.sheaf with
      | none => s.sampleDraw t.sheaf
      | some n => { s with sampleCnt := PMap.put s.sampleCnt t.sheaf (n - 1) }
    if s.tagNext.contains t.sheaf then
      let g : Tag := { sheaf := t.sheaf, inst := t.inst, slot := slot, pc := t.ctx.pc, insn := w, seq := t.seq,
                       strm := t.ctx.strm, hook := t.base.isSome, issuedAt := t.issued, time := time96 s.devTime }
      { s with tagNext := s.tagNext.filter fun h => h != t.sheaf, tags := s.tags ++ [g] }
    else s

/-- The 64 bytes of a sample record (Table 18-4). The cycle counts and times of bytes 28 to 39 are free values: the model has
no instruction timing. -/
def State.sampleBytes (s : State) (g : Tag) (outcome : Nat) : List (BitVec 8) :=
  leBytes 12 g.time ++ leBytes 1 g.sheaf ++ leBytes 1 g.inst ++ leBytes 1 g.slot ++
  leBytes 1 (outcome + 4 * b2n g.strm + 8 * b2n g.hook) ++ leBytes 4 g.pc ++ leBytes 4 g.insn ++ leBytes 4 g.seq ++
  (List.range 10).map (Config.freeByte s.draws) ++ leBytes 1 (Config.freeNat s.draws % 5) ++
  leBytes 1 (Config.freeNat (s.draws + 1) % 3) ++ leBytes 24 0

/-- Write one sample record, or count it as LOST (R551). -/
def State.sampleWrite (s : State) (outcome : Nat) (g : Tag) : State :=
  let n := s.f PMC_S_TAIL_COUNT
  let size := 2 ^ s.f PMC_S_CTL_SIZE_LOG2
  if (n + 2 ^ 32 - s.f PMC_S_HEAD_COUNT) % 2 ^ 32 == size then s.satF PMC_S_STAT_LOST 0 0 1
  else match s.writeV 0 (s.f PMC_S_BASE_ADDR + 64 * (n % size)) (s.sampleBytes g outcome) with
    | .error e => (s.useUp 0 e).satF PMC_S_STAT_LOST 0 0 1
    | .ok s => (s.bump).addF PMC_S_TAIL_COUNT 0 0 1

/-- The outcome of the tagged instructions of a task from its `from_`-th issued one on is known (R551): 0 retired, 1 replayed,
2 aborted, 3 undone. -/
def State.sampleOut (s : State) (h seq from_ outcome : Nat) : State :=
  let mine (g : Tag) : Bool := g.sheaf == h && g.seq == seq && decide (from_ ≤ g.issuedAt)
  (s.tags.filter mine).foldl (fun s g => s.sampleWrite outcome g) { s with tags := s.tags.filter fun g => !(mine g) }

/-- Bank of sheaf `h`, stook `k`, the quad of lane `n`, and of stook `k`'s queue engines (Table 18-1). -/
def bankSheaf (h : Nat) : Nat := 9 + h
def bankStook (k : Nat) : Nat := 1 + k
def bankQuad (n : Nat) : Nat := 73 + n / 4
def bankDma (k : Nat) : Nat := 110 + k
/-- Bank of the crypto and MACsec block that serves port `n`, and of memory stack `m`. -/
def bankCrypto (n : Nat) : Nat := if n < 48 then 107 else 108
def bankStack (m : Nat) : Nat := 103 + m

end Sys2Proof.Machine
end

