-- ==== Sys2Proof/Machine/Energy.lean ====
section
/-! DEFINITION. Energy accounting of the root ports and the tariff band (chapter 17). -/
namespace Sys2Proof.Machine

/-- Energy accounting of port `n`. -/
def State.nrg (s : State) (n : Nat) : NrgSt := PMap.get s.nrgs n {}
def State.setNrg (s : State) (n : Nat) (e : NrgSt) : State := { s with nrgs := PMap.put s.nrgs n e }

/-- ACCOUNTING: EN and FITTED are both 1 (R533, Table 17-14). -/
def State.accounting (s : State) (n : Nat) : Bool := s.b NRG_CTL_EN n && s.b KHUB_PWR_MAP_FITTED 0 n

/-! ### The tariff band (R535) -/

/-- Time of day at an instant of device time (R535). -/
def State.timeOfDay (s : State) (t : Nat) : Nat := ((((t / sec 1 : Nat) : Int) + sgn (s.f PWR_TOD_OFFSET_SEC) 32) % 86400).toNat

/-- VALID tariff points: second and band. -/
def State.tariffPoints (s : State) : List (Nat × Nat) :=
  ((List.range 8).filter fun k => s.b PWR_TOD_VALID 0 k).map fun k => (s.f PWR_TOD_SECOND 0 k, s.f PWR_TOD_BAND 0 k)

/-- The latest of some points. Of two with one SECOND, the lower entry counts (R540 keeps such a table out). -/
def lastPoint (ps : List (Nat × Nat)) : Option (Nat × Nat) :=
  ps.foldl (fun (m : Option (Nat × Nat)) p => match m with
    | none => some p
    | some q => if q.1 < p.1 then some p else some q) none

/-- The band that the table gives at a time of day: that of the latest point at or before it, or of the last point of the previous day. -/
def bandAt (ps : List (Nat × Nat)) (tod : Nat) : Option Nat :=
  match lastPoint (ps.filter fun p => decide (p.1 ≤ tod)) with
  | some p => some p.2
  | none => (lastPoint ps).map (·.2)

/-- The band changes at device time `t`: what was in effect is kept for the spans that end later (R534). -/
def State.setBand (s : State) (t b : Nat) : State :=
  if s.f PWR_TARIFF_BAND == b then s
  else { s.setF PWR_TARIFF_BAND 0 0 b with
    power := { s.power with bands := ((t, s.f PWR_TARIFF_BAND) :: s.power.bands).take 16 } }

/-- Whether a band that software has set holds until the next point (R535). -/
def State.bandHeld (s : State) (on : Bool) : State := { s with power := { s.power with held := on } }

/-- The band of the table, or BOOT_BAND while device time has not been set (R535). -/
def State.tariff (s : State) (t : Nat) : State :=
  if !(s.b TIME_STAT_SET_ONCE) then s.setBand t (s.f PWR_DMD_BOOT_BAND)
  else match bandAt s.tariffPoints (s.timeOfDay s.devTime) with
    | some b => s.setBand t b
    | none => s

/-- The band in effect at an instant `t` that is past, as far as the switches kept show it. -/
def bandThen (t : Nat) : List (Nat × Nat) → Nat → Nat
  | [], b => b
  | (x, old) :: bs, b => if t < x then bandThen t bs old else b

/-! ### Demand intervals (R536) -/

/-- Length of a demand interval in seconds. -/
def State.demandLen (s : State) : Nat := 60 * s.f PWR_DMD_MINUTES

/-- The first interval boundary after device time `t`. -/
def State.nextDemand (s : State) (t : Nat) : Nat :=
  let off := sgn (s.f PWR_TOD_OFFSET_SEC) 32
  let len : Int := s.demandLen
  ((((((t / sec 1 : Nat) : Int) + off) / len + 1) * len - off).toNat) * sec 1

/-- Flags of an interval that opens: PARTIAL where it does not begin at a boundary, UNTIMED while device time has not been set. -/
def State.openFlags (s : State) (part : Bool) : Nat := 2 * b2n part + 4 * b2n !(s.b TIME_STAT_SET_ONCE)

/-- Open an interval at device time `t`. -/
def State.nrgOpen (s : State) (n t : Nat) (part : Bool) : State :=
  let s := (s.setF NRG_INT_E_UJ n 0 0).setF NRG_INT_START_SEC n 0 (t / sec 1)
  s.setNrg n { s.nrg n with isOpen := true, start := t, peak := 0, flags := s.openFlags part }

/-- Close the open interval at device time `t` (R536): its energy, start, largest sample, flags and average, in whole mW; a complete one
may be the largest. -/
def State.nrgClose (s : State) (n t : Nat) (part : Bool) : State :=
  let e := s.nrg n
  let uj := s.f NRG_INT_E_UJ n
  let flags := if part && e.flags / 2 % 2 == 0 then e.flags + 2 else e.flags
  let avg := if t ≤ e.start then 0 else uj * 1000 * us 1 / (t - e.start)
  let s := (s.setF NRG_LAST_E_UJ n 0 uj).setF NRG_LAST_START_SEC n 0 (s.f NRG_INT_START_SEC n)
  let s := (s.setF NRG_LAST_AVG_MW n 0 avg).setF NRG_LAST_INFO_PEAK n 0 e.peak
  let s := (s.setF NRG_LAST_INFO_GAP n 0 (flags / 16)).setF NRG_LAST_INFO_ESTIMATED n 0 (flags / 8)
  let s := (s.setF NRG_LAST_INFO_UNTIMED n 0 (flags / 4)).setF NRG_LAST_INFO_PARTIAL n 0 (flags / 2)
  let s := s.setF NRG_LAST_INFO_INTERRUPTED n 0 flags
  let whole := flags % 8 == 0 && flags / 16 == 0
  if whole && decide (s.f NRG_MAX_AVG_MW n < avg) then
    (s.setF NRG_MAX_AVG_MW n 0 avg).setF NRG_MAX_START_SEC n 0 (s.f NRG_INT_START_SEC n)
  else s

/-- Close the open interval and open the next one at the same instant. -/
def State.nrgTurn (s : State) (n t : Nat) (part : Bool) : State :=
  if (s.nrg n).isOpen then (s.nrgClose n t part).nrgOpen n t part else s

/-! ### Energy (R533, R534) -/

/-- One µJ in 10 mW times 1/65,536 ns. -/
def perUj : Nat := 6553600000

/-- Add power `p` from device time `t0` to `t1` to the band then in effect and to the open interval; what is below 1 µJ is carried. -/
def State.nrgAdd (s : State) (n p t0 t1 : Nat) : State :=
  let e := s.nrg n
  let x := e.rem + p * (t1 - t0)
  let s := s.setNrg n { e with rem := x % perUj }
  let s := s.addF NRG_ACC_UJ n (bandThen t0 s.power.bands (s.f PWR_TARIFF_BAND)) (x / perUj)
  if e.isOpen then s.addF NRG_INT_E_UJ n 0 (x / perUj) else s

/-- Add a span at power `p`, divided at the interval boundaries and band switches in it (R534); an interval whose boundary it reaches
closes there. -/
def State.nrgSpan (s : State) (n p t0 t1 : Nat) : Nat → State
  | 0 => s
  | k + 1 =>
    let b := s.nextDemand t0
    let cut := (s.power.bands.map (·.1)).foldl (fun m x => if t0 < x && x < m then x else m) (min b t1)
    let s := s.nrgAdd n p t0 cut
    let s := if cut == b then s.nrgTurn n b false else s
    if cut < t1 then s.nrgSpan n p cut t1 k else s

/-- Number of parts that a span can have. -/
def spanParts (t0 t1 : Nat) : Nat := (t1 - t0) / sec 60 + 20

/-- The span since the last sample at power `p`. -/
def State.nrgSince (s : State) (n p : Nat) : State :=
  match (s.nrg n).last with
  | some (t0, _) => if t0 < s.devTime then s.nrgSpan n p t0 s.devTime (spanParts t0 s.devTime) else s
  | none => s

/-- A telemetry sample of PIN `p` (R533, R538): the first one after a start-up opens a PARTIAL interval. -/
def State.nrgSample (s : State) (n p : Nat) : State :=
  if !(s.accounting n) then s
  else
    let s := s.nrgSince n p
    let s := if (s.nrg n).isOpen then s else s.nrgOpen n s.devTime true
    let e := s.nrg n
    s.setNrg n { e with last := some (s.devTime, p), peak := max e.peak p }

/-- A failed sample while TELEMETRY_STALE is set: the last good power counts for the interval missed, and the open interval is ESTIMATED
(R533). -/
def State.nrgMissed (s : State) (n : Nat) : State :=
  match (s.nrg n).last with
  | some (_, p) =>
    if !(s.accounting n) then s
    else
      let s := s.nrgSince n p
      let e := s.nrg n
      s.setNrg n { e with last := some (s.devTime, p), flags := if e.flags / 8 % 2 == 0 then e.flags + 8 else e.flags }
  | none => s

/-- ESTIMATING follows TELEMETRY_STALE; BLK_ERR.TELEMETRY when it becomes 1 (Table 17-14). -/
def State.nrgEstimate (s : State) (n : Nat) (on : Bool) : State :=
  let s := if on && !(s.b NRG_STAT_ESTIMATING n) then s.err NRG_ERR_TELEMETRY n else s
  s.setF NRG_STAT_ESTIMATING n 0 (b2n on)

/-- The port is switched off: it draws nothing until it is sampled again (R533). -/
def State.nrgBreak (s : State) (n : Nat) : State := s.setNrg n { s.nrg n with last := none }

/-- Every open interval closes early at device time `old` and a PARTIAL one opens at `new` (R536). -/
def State.nrgEarly (s : State) (old new : Nat) : State :=
  s.nrgs.foldl (fun (s : State) x => if x.2.isOpen then (s.nrgClose x.1 old true).nrgOpen x.1 new true else s) s

/-- A step or set of device time (R535, R536): open intervals close as PARTIAL, the last samples keep their distance, and the band is that
of the new time. -/
def State.nrgJump (s : State) (old : Nat) : State :=
  let s := s.nrgEarly old s.devTime
  let move (t : Nat) : Nat := ((t : Int) + (s.devTime : Int) - (old : Int)).toNat
  let s := { s with nrgs := s.nrgs.map fun (x : Nat × NrgSt) => (x.1, { x.2 with last := x.2.last.map fun (l : Nat × Nat) => (move l.1, l.2) })
                    power := { s.power with bands := [], held := false } }
  s.tariff s.devTime

/-- The point of no return (R527, R537): the span since the last sample at its power; then the interval whose boundary falls here closes,
then the band switches, then the loss record is written and the open interval is closed as INTERRUPTED. -/
def State.nrgLoss (s : State) : State :=
  let s := s.nrgs.foldl (fun (s : State) x => match x.2.last with
    | some (_, p) => if s.accounting x.1 then s.nrgSince x.1 p else s
    | none => s) s
  s.nrgs.foldl (fun (s : State) x =>
    let n := x.1
    let e := s.nrg n
    let s := if e.isOpen then
        ((s.setF NRG_LOSS_E_UJ n 0 (s.f NRG_INT_E_UJ n)).setF NRG_LOSS_START_SEC n 0 (s.f NRG_INT_START_SEC n)).setF
          NRG_LOSS_START_FLAGS n 0 (if e.flags % 2 == 0 then e.flags + 1 else e.flags) |>.setF NRG_INT_E_UJ n 0 0
      else s
    s.setNrg n { s.nrg n with isOpen := false, last := none }) s

/-- Telemetry does not run for a time (DSLEEP, OFF): open intervals carry GAP (R536), and the next sample begins a new span. -/
def State.nrgGap (s : State) : State :=
  { s with nrgs := s.nrgs.map fun (x : Nat × NrgSt) =>
      (x.1, { x.2 with last := none, flags := if x.2.isOpen && x.2.flags / 16 % 2 == 0 then x.2.flags + 16 else x.2.flags }) }

end Sys2Proof.Machine
end

