-- ==== Sys2Proof/Machine/Queue.lean ====
section
/-! DEFINITION. Submission queues and completion rings: descriptors, completions, round robin (chapter 7). -/
namespace Sys2Proof.Machine

/-- A WQ or CQ field of device queue or ring `q` (Tables 07-9 and 07-11). -/
def State.q (s : State) (F : Fld) (q : Nat) : Nat := s.f F (q / 64) (q % 64)
def State.qb (s : State) (F : Fld) (q : Nat) : Bool := s.q F q == 1
def State.setQ (s : State) (F : Fld) (q v : Nat) : State := s.setF F (q / 64) (q % 64) v

/-- Queue `q` and ring `c` beside their registers. -/
def State.wq (s : State) (q : Nat) : WqSt := PMap.get s.wqs q {}
def State.setWq (s : State) (q : Nat) (w : WqSt) : State := { s with wqs := PMap.put s.wqs q w }
def State.cq (s : State) (c : Nat) : CqSt := PMap.get s.cqs c {}
def State.setCq (s : State) (c : Nat) (w : CqSt) : State := { s with cqs := PMap.put s.cqs c w }

/-- The device queue, respectively ring, that function `fn` names by `k`: its own local index, or any for the manager's
pages (R63, R65). -/
def State.wqFor (s : State) (fn k : Nat) : Option Nat := if fn == 0 then (if k < 16384 then some k else none) else s.wqDev fn k
def State.cqFor (s : State) (fn k : Nat) : Option Nat := if fn == 0 then (if k < 16384 then some k else none) else s.cqDev fn k

/-- The device queue of slot `k` of function `fn`'s BAR2: a queue of the function's own grant (R69, R454). -/
def State.slotQ (s : State) (fn k : Nat) : Option Nat :=
  if fn == 0 then (match s.wqDev 0 k with
    | some q => some q
    | none => if s.wqOwner k == 0 then some k else none)
  else s.wqDev fn k

/-- Entries of a queue or ring (R239). -/
def State.wqSize (s : State) (q : Nat) : Nat := 2 ^ s.q WQ_CFG_SIZE_LOG2 q
def State.cqSize (s : State) (c : Nat) : Nat := 2 ^ s.q CQ_CFG_SIZE_LOG2 c
/-- HEAD, TAIL and the difference of 16-bit free-running counts (R240). -/
def State.head (s : State) (q : Nat) : Nat := s.q WQ_IDX_HEAD q
def State.tail (s : State) (q : Nat) : Nat := s.q WQ_IDX_TAIL q
def diff16 (a b : Nat) : Nat := (a + 65536 - b % 65536) % 65536
def diff32 (a b : Nat) : Nat := (a + 2 ^ 32 - b % 2 ^ 32) % 2 ^ 32
/-- `a` is later than `b` among `2 ^ w`-valued counts (R11). -/
def later (a b w : Nat) : Bool :=
  let d := (a + 2 ^ w - b % 2 ^ w) % 2 ^ w
  decide (0 < d) && decide (d < 2 ^ (w - 1))

/-- Header fields of a descriptor (Table 07-2). -/
def dOpcode (b : List (BitVec 8)) : Nat := leAt b 0 1
def dQuiet (b : List (BitVec 8)) : Bool := bit (leAt b 1 1) 0
def dFence (b : List (BitVec 8)) : Bool := bit (leAt b 1 1) 1
def dTag (b : List (BitVec 8)) : Nat := leAt b 2 2
def dHseq (b : List (BitVec 8)) : Nat := leAt b 4 4

/-! ### Completions -/

/-- Slots of ring `c` that are neither filled nor reserved (R241, R260). -/
def State.cqFree (s : State) (c : Nat) : Nat :=
  s.cqSize c - (diff32 (s.q CQ_TAIL_COUNT c) (s.q CQ_HEAD_COUNT c) + s.q CQ_STAT_RESERVED_SLOTS c)

/-- FULL and HELD show what they should. -/
def State.cqShow (s : State) (c : Nat) : State :=
  (s.setQ CQ_STAT_FULL c (b2n (s.cqFree c == 0))).setQ CQ_STAT_HELD c (min 64 (s.cq c).held.length)

/-- The event test of R262: pulse the ring's source and clear ARMED where it holds. -/
def State.cqEvent (s : State) (c : Nat) : State :=
  let n := diff32 (s.q CQ_TAIL_COUNT c) (s.q CQ_HEAD_COUNT c)
  let us_ := s.q CQ_CFG_COAL_US c
  let old := match (s.cq c).times with
    | t :: _ => us_ != 0 && decide (t + us us_ ≤ s.now)
    | [] => false
  if s.qb CQ_CFG_EV_EN c && s.qb CQ_STAT_ARMED c &&
      (decide (s.q CQ_CFG_COAL_CNT c ≤ n) || (decide (1 ≤ n) && old)) then
    (s.setQ CQ_STAT_ARMED c 0).post 0x3 c
  else s

/-- DRAINED and INFLIGHT of instance `i` (R267). -/
def State.rsyShow (s : State) (i : Nat) : State :=
  if 64 < i then s
  else
    let open_ := s.wqs.foldl (fun n e => if s.wqOwner e.1 == i then n + e.2.acc.length else n) 0
    let held := s.cqs.any fun e => s.cqOwner e.1 == i && !e.2.held.isEmpty && !(s.qb CQ_STAT_FULL e.1)
    let s := s.setF WQ_RSY_STAT_INFLIGHT i 0 (min open_ 0xFFFFFF)
    s.setF WQ_RSY_STAT_DRAINED i 0
      (b2n (s.b WQ_RSY_STAT_QUIESCED i && open_ == 0 && !held && !(s.tasks.any fun t => t.inst == i && !t.own.isEmpty)))

/-- The 32 bytes of an entry (Table 07-5), its n-th of the ring (R257). -/
def cplBytes (r : Cpl) (n dseq : Nat) : List (BitVec 8) :=
  leBytes 1 r.status ++ leBytes 1 r.ty ++ leBytes 2 ((n - 1) % 65535 + 1) ++ leBytes 4 dseq ++ (r.body ++ leBytes 24 0).take 24

/-- The address space a ring's accesses are made in, and the place of its `n`-th entry. -/
def State.cplAddr (s : State) (c n : Nat) : Nat := s.q CQ_BASE_ADDR c + 32 * ((n - 1) % s.cqSize c)

/-- Write one completion to the next slot of ring `c`: nothing where the write meets a translation fault, which the answer
gives (R257 to R259). DSEQ is the next of the instance (R258). -/
def State.cplWrite (s : State) (c : Nat) (r : Cpl) : Except XErr State :=
  let i := s.cqOwner c
  let n := (s.cq c).count + 1
  let d := s.f WQ_RSY_DSEQ i
  let dseq := if d + 1 ≥ 2 ^ 32 then 1 else d + 1
  match s.writeV i (s.cplAddr c n) (cplBytes r n dseq) with
  | .error e => .error e
  | .ok s =>
    let s := (s.setQ CQ_TAIL_COUNT c (n % 2 ^ 32)).setF WQ_RSY_DSEQ i 0 dseq
    let s := s.setCq c { s.cq c with count := n, times := (s.cq c).times ++ [s.now] }
    let s := if r.resv then s.setQ CQ_STAT_RESERVED_SLOTS c (s.q CQ_STAT_RESERVED_SLOTS c - 1) else s
    .ok (s.cqEvent c)

/-- Hold a completion, at the back (R260, R263). -/
def State.cplHold (s : State) (c : Nat) (r : Cpl) : State := s.setCq c { s.cq c with held := (s.cq c).held ++ [r] }

/-- The ring parks: a fault record of KIND 0x08 (R263). Work that must only wait (R453, R427) writes none. -/
def State.cqPark (s : State) (c : Nat) (e : XErr) : State :=
  if e.reason == 0 then s
  else
    let n := (s.cq c).count + 1
    let r := s.faultWait (Config.queueStook c / 4 % 2) (s.cqOwner c) 0x08 e true (s.cqLocal c) ((n - 1) % 65535 + 1) c
    (r.2.setCq c { r.2.cq c with fid := r.1 }).setQ CQ_STAT_PARKED c 1

/-- Write held completions of ring `c` in order while each has a slot; one with a reserved slot does not wait for others (R260). -/
def State.cqFlushN (s : State) (c : Nat) : Nat → State
  | 0 => s
  | fuel + 1 =>
    let held := (s.cq c).held
    match held.find? fun r => r.resv || s.cqFree c != 0 with
    | none => s
    | some r =>
      if s.qb CQ_STAT_PARKED c || !(s.qb CQ_CFG_ENABLE c) then s
      else match s.cplWrite c r with
        | .ok s' => (s'.setCq c { s'.cq c with held := held.erase r }).cqFlushN c fuel
        | .error e => s.cqPark c e

/-- Write what ring `c` holds and can now take. -/
def State.cqFlush (s : State) (c : Nat) : State :=
  ((s.cqFlushN c ((s.cq c).held.length + 1)).cqShow c).rsyShow (s.cqOwner c)

/-- Produce completion `r` for ring `c` (R257 to R263): written, held, or dropped and counted. -/
def State.cpl (s : State) (c : Nat) (r : Cpl) : State :=
  let x := s.cq c
  let loose := (x.held.filter fun h => !h.resv && !h.keep).length
  let s :=
    if !(s.qb CQ_CFG_ENABLE c) then
      let s := if r.resv then s.setQ CQ_STAT_RESERVED_SLOTS c (s.q CQ_STAT_RESERVED_SLOTS c - 1) else s
      s.setQ CQ_LOST_COUNT c (min (s.q CQ_LOST_COUNT c + 1) (2 ^ 32 - 1))
    else if s.qb CQ_STAT_PARKED c || (x.held.any fun h => h.resv == r.resv) || (!r.resv && s.cqFree c == 0) then
      if r.resv || r.keep || loose < 64 then s.cplHold c r
      else (s.setQ CQ_LOST_COUNT c (min (s.q CQ_LOST_COUNT c + 1) (2 ^ 32 - 1))).setQ CQ_STAT_OVERFLOW c 1
    else match s.cplWrite c r with
      | .ok s' => s'
      | .error e => (s.cplHold c r).cqPark c e
  (s.cqShow c).rsyShow (s.cqOwner c)

/-! ### Descriptors -/

/-- A descriptor completion (Table 07-6). -/
def State.descCpl (s : State) (q : Nat) (d : Desc) (status len : Nat) (body : List (BitVec 8)) : Cpl :=
  { status := status, ty := 0x01, resv := true,
    body := leBytes 2 (dTag d.bytes) ++ leBytes 2 (s.wqLocal q) ++ leBytes 4 (dHseq d.bytes) ++ leBytes 4 len ++
            (body ++ leBytes 12 0).take 12 }

/-- INFLIGHT and IDLE of queue `q`. -/
def State.wqShow (s : State) (q : Nat) : State :=
  let n := (s.wq q).acc.length
  ((s.setQ WQ_STAT_INFLIGHT q n).setQ WQ_STAT_IDLE q (b2n (n == 0))).setQ WQ_CNT_CACHED q (s.wq q).cached.length

/-- Descriptor `d` of queue `q` finishes (R255): a completion, unless it is QUIET and OK, which only releases its slot. -/
def State.descDone (s : State) (q : Nat) (d : Desc) (status len : Nat) (body : List (BitVec 8) := []) : State :=
  let w := s.wq q
  let s := (s.setWq q { w with acc := w.acc.filter fun x => x.idx != d.idx }).wqShow q
  if dQuiet d.bytes && status == 0 then
    ((s.setQ CQ_STAT_RESERVED_SLOTS d.cq (s.q CQ_STAT_RESERVED_SLOTS d.cq - 1)).cqFlush d.cq).rsyShow (s.wqOwner q)
  else (s.cpl d.cq (s.descCpl q d status len body)).rsyShow (s.wqOwner q)

/-- Replace an accepted descriptor of queue `q`. -/
def State.setDesc (s : State) (q : Nat) (d : Desc) : State :=
  let w := s.wq q
  s.setWq q { w with acc := w.acc.map fun x => if x.idx == d.idx then d else x }

/-- The queue halts (R264). -/
def State.halt (s : State) (q status : Nat) : State := (s.setQ WQ_STAT_HALTED q 1).setQ WQ_STAT_HALT_STATUS q status

/-- A KPB queue whose descriptor has completed with a status halts on STALL, PROTOCOL_ERROR and DEVICE_GONE (R264). -/
def State.haltOn (s : State) (q status : Nat) : State :=
  if status == 0x12 || status == 0x11 || status == 0x13 then s.halt q status else s

/-- A KPB descriptor finishes (R264). -/
def State.kpbDone (s : State) (q : Nat) (d : Desc) (status len : Nat) : State := (s.descDone q d status len).haltOn q status

/-- The status codes of Table 07-7 (R269). -/
def statusCodes : List Nat := [0x00, 0x01, 0x02, 0x03, 0x04, 0x10, 0x11, 0x12, 0x13, 0x20, 0x21, 0x22, 0x23, 0x24, 0x25]
/-- A status that the spec does not give: a free value among the codes of Table 07-7. -/
def State.freeStatus (s : State) : Nat := statusCodes.getD (Config.freeNat s.draws % 15) 0
/-- The status that a program asks for: a reserved value is never produced (R269), and what stands in its place is a free value (log entry 93). -/
def State.listedStatus (s : State) (c : Nat) : Nat := if statusCodes.contains c then c else s.freeStatus

/-- Count a dropped doorbell (R247, R248, R252). -/
def State.dbErr (s : State) (q : Nat) : State :=
  let s := (s.setQ WQ_STAT_DB_ERR q 1).setQ WQ_CNT_DB_ERRS q (min (s.q WQ_CNT_DB_ERRS q + 1) 0xFFFF)
  s.count (bankDma (Config.queueStook q % 8)) 0x284 0 (some (s.wqOwner q))

/-- The copy held of index `idx` of a queue: pushed or fetched. -/
def WqSt.copy (w : WqSt) (idx : Nat) : Option (List (BitVec 8)) := (PMap.find w.taken idx).orElse fun _ => PMap.find w.cached idx

/-- Bytes of an announced descriptor as ABORT finds them: the copy held, or the slot in memory; free bytes where the slot
cannot be read (the spec says nothing of that). -/
def State.peekDesc (s : State) (q idx : Nat) : List (BitVec 8) :=
  match (s.wq q).copy idx with
  | some b => b
  | none =>
    match s.readV (s.wqOwner q) (s.q WQ_BASE_ADDR q + 64 * (idx % s.wqSize q)) 64 with
    | .ok b => b
    | .error _ => (List.range 64).map fun j => Config.freeByte s.draws j

/-- Complete every accepted descriptor of queue `q` of which `p` holds as SQUASHED (R265, R267). -/
def State.squash (s : State) (q : Nat) (p : Desc → Bool) : State :=
  ((s.wq q).acc.filter p).foldl (fun s d => (s.unwait (s.wqOwner q) d.fid).descDone q d 0x23 d.moved) s

/-- Complete the `n` announced descriptors from index `idx` on, which are not accepted, as SQUASHED (R265). They have no reserved slot and wait
for one; no completion of a submitted descriptor is dropped (R241). -/
def State.squashWaiting (s : State) (q idx : Nat) : Nat → State
  | 0 => s
  | n + 1 =>
    let c := (s.cqDev (s.wqOwner q) (s.q WQ_CFG_CQ q)).getD (s.q WQ_CFG_CQ q)
    let d : Desc := { idx := idx, bytes := s.peekDesc q idx, cq := c }
    let r := s.descCpl q d 0x23 0 []
    let r := if s.q WQ_CFG_TYPE q == 4 then
        { r with ty := 0x03, body := overlay (r.body.take 8 ++ leBytes 16 0) 2 (leBytes 2 (s.wqLocal q + 1024 * bits (s.q WQ_BIND_TARGET q) 8 3)) }
      else r
    ((s.cpl c { r with resv := false, keep := true }).bump).squashWaiting q ((idx + 1) % 65536) n

/-- The device ring of queue `q`'s completions: its local ring CQ in its owner's view. -/
def State.wqRing (s : State) (q : Nat) : Nat := (s.cqFor (s.wqOwner q) (s.q WQ_CFG_CQ q)).getD 0

/-! ### Weighted round robin (R254) -/

/-- Keys of the targets: kind (Table 07-1) and number. -/
def wrrKey (kind n : Nat) : Nat := kind * 2 ^ 16 + n

/-- The next queue after `last` in cyclic order of number among `qs`. -/
def nextAfter (last : Nat) (qs : List Nat) : Option Nat :=
  let up := qs.filter fun q => decide (last < q)
  (if up.isEmpty then qs else up).min?

/-- What a target serves next among `ready`, with the round robin as it then stands, for given weights, bursts and units ready: a visit in
progress goes on; else the next with credit is visited; a round without credit left starts afresh. -/
def State.wrrPickBy (s : State) (weight burst units : Nat → Nat) (key : Nat) (ready : List Nat) : Option (Nat × Wrr) :=
  let w := PMap.get s.wrrs key {}
  let visit (q c : Nat) (w : Wrr) : Nat × Wrr := (q, { w with cur := some q, left := min (min (burst q) c) (max 1 (units q)), last := q })
  let goOn : Option Nat := match w.cur with
    | some q => if w.left != 0 && ready.contains q && PMap.get w.credit q 0 != 0 then some q else none
    | none => none
  match goOn with
  | some q => some (q, w)
  | none =>
    match nextAfter w.last (ready.filter fun q => PMap.get w.credit q 0 != 0) with
    | some q => some (visit q (PMap.get w.credit q 0) w)
    | none =>
      match nextAfter w.last ready with
      | none => none
      | some q =>
        let credit := ready.foldl (fun m q => PMap.put m q (weight q)) []
        some (visit q (weight q) { w with credit := credit })

/-- Units of service (Table 07-1) that an accepted descriptor of a queue of type `ty` still is: bursts of at most 32 packets OUT and of one
packet IN, control stages, or the descriptor itself. -/
def State.descUnits (s : State) (q ty : Nat) (d : Desc) : Nat :=
  let pk := 256 * s.f KSCH_GUARD_PKT_MAX (s.q WQ_BIND_TARGET q % 128)
  if ty == 1 then max 1 (cdiv (leAt d.bytes 12 3 - d.moved) (if bit (leAt d.bytes 9 1) 3 then pk else 32 * pk))
  else if ty == 2 then (if d.stage == 0 then (if leAt d.bytes 28 2 == 0 then 2 else 3) else 3 - d.stage)
  else 1

/-- Units of queue `q` that are ready (R254): those of its accepted descriptors, and for a task queue its announced descriptors (DEDUCED,
log entry 92). -/
def State.wqUnits (s : State) (q : Nat) : Nat :=
  let ty := s.q WQ_CFG_TYPE q
  if ty == 6 then diff16 (s.tail q) (s.head q)
  else (((s.wq q).acc.filter fun d => d.phase ≤ 1).map (s.descUnits q ty)).sum

/-- The queue a target serves next among `ready` (R254). -/
def State.wrrPick (s : State) (key : Nat) (ready : List Nat) : Option (Nat × Wrr) :=
  s.wrrPickBy (s.q WQ_SCHED_WEIGHT) (s.q WQ_SCHED_BURST) s.wqUnits key ready

/-- Serve `k` units of queue `q` at target `key`, with the round robin `w` that chose it. -/
def State.wrrServe (s : State) (key q : Nat) (w : Wrr) (k : Nat := 1) : State :=
  { s with wrrs := PMap.put s.wrrs key { w with left := w.left - k, credit := PMap.put w.credit q (PMap.get w.credit q 0 - k) } }

/-- A visit ends early (R254). -/
def State.wrrEnd (s : State) (key : Nat) : State :=
  { s with wrrs := PMap.put s.wrrs key { PMap.get s.wrrs key {} with cur := none, left := 0 } }

/-- Queues of a type bound to a target: those enabled of which `p` holds for WQ_BIND. -/
def State.boundTo (s : State) (ty : Nat) (p : Nat → Bool) : List Nat :=
  (s.wqs.filter fun e => s.q WQ_CFG_TYPE e.1 == ty && p (s.q WQ_BIND_TARGET e.1)).map (·.1)

/-! ### Refusals that end at their fixed time (R460) -/

/-- A descriptor of queue `q` as work that waits names it. -/
def descRef (q idx : Nat) : Nat := q + 16384 * idx

/-- The accepted descriptor that a `descRef` names. -/
def State.refDesc (s : State) (ref : Nat) : Option Desc := (s.wq (ref % 16384)).acc.find? fun d => d.idx == ref / 16384

/-- A refused piece of work ends 2.000 µs from now: kind 1 a read, 2 a descriptor named by `descRef`, 3 a stream operation. -/
def State.refuseLater (s : State) (fn kind ref : Nat) : State :=
  { s with refusals := s.refusals ++ [{ fn := fn, kind := kind, ref := ref, arrivedAt := s.now }] }

end Sys2Proof.Machine
end

