-- ==== Sys2Proof/Machine/Dma.lean ====
section
/-! DEFINITION. DMA channels: descriptors, the units they move, pacing, parking and outcomes (chapter 8). -/
namespace Sys2Proof.Machine

/-- Channel `c` beside its registers. -/
def State.dma (s : State) (c : Nat) : DmaSt := PMap.get s.dmas c {}
def State.setDma (s : State) (c : Nat) (d : DmaSt) : State := { s with dmas := PMap.put s.dmas c d }

/-- `base + off` in a 64-bit address. -/
def addr64 (base : Nat) (off : Int) : Nat := (((base : Int) + off) % (2 : Int) ^ 64).toNat

/-- A DMA descriptor body (Table 08-3). -/
structure DmaBody where
  op : Nat
  src : Nat
  dst : Nat
  count : Nat
  rows : Nat
  planes : Nat
  phases : Nat
  align : Nat
  inF : Nat
  outF : Nat
  srow : Int
  drow : Int
  pstr : Int
  sel : Nat
  del : Nat
  mask : Nat
deriving DecidableEq, Repr

/-- Read a descriptor (R280). -/
def dmaBody (b : List (BitVec 8)) : DmaBody :=
  { op := leAt b 0 1, src := leAt b 8 8, dst := leAt b 16 8, count := leAt b 24 3, rows := leAt b 28 2,
    planes := leAt b 30 1 % 16 + 1, phases := bits (leAt b 30 1) 4 1 + 1, align := bits (leAt b 30 1) 5 1,
    inF := leAt b 31 1 % 16, outF := leAt b 31 1 / 16, srow := sgn (leAt b 32 4) 32, drow := sgn (leAt b 36 4) 32,
    pstr := sgn (leAt b 40 4) 32, sel := leAt b 44 2, del := leAt b 46 2, mask := leAt b 48 2 }

/-- Bits per sample of a format code, 0 where the code is reserved (Table 08-5). -/
def fmtBits (f : Nat) : Nat :=
  if 1 ≤ f && f ≤ 8 then 8 * f else if f == 0xA then 10 else if f == 0xC then 12 else if f == 0xE then 14 else 0
/-- A packed format. -/
def packedFmt (f : Nat) : Bool := f == 0xA || f == 0xC || f == 0xE

/-- Samples in one row on the interleaved side. -/
def DmaBody.rowSamples (d : DmaBody) : Nat := d.count * d.planes
/-- Planes in all. -/
def DmaBody.allPlanes (d : DmaBody) : Nat := d.planes * d.phases
/-- Bytes of a row of `n` samples of format `f` (R281). -/
def rowBytes (n f : Nat) : Nat := cdiv (n * fmtBits f) 8

/-- Destination bytes of a whole descriptor. -/
def DmaBody.dstBytes (d : DmaBody) : Nat :=
  if d.op == 1 then d.count
  else if d.op == 2 then d.count * d.rows * d.inF
  else if d.op == 3 then d.rows * d.planes * rowBytes d.count d.outF
  else if d.op == 4 then d.rows * rowBytes d.rowSamples d.outF
  else d.rows * (d.count / 8) * popcount 16 d.mask

/-- Cursor units of a whole descriptor (Table 08-4). -/
def DmaBody.units (d : DmaBody) : Nat :=
  if d.op == 1 then cdiv d.count 64
  else if d.op == 2 then d.count * d.rows
  else if d.op == 5 then d.rows * (d.count / 8)
  else d.rows * d.rowSamples

/-- Destination bytes of the first `k` units. -/
def DmaBody.bytesOf (d : DmaBody) (k : Nat) : Nat :=
  if d.units ≤ k then d.dstBytes
  else if d.op == 1 then min (64 * k) d.count
  else if d.op == 2 then k * d.inF
  else if d.op == 5 then k * popcount 16 d.mask
  else
    let part := k % d.rowSamples * fmtBits d.outF / 8
    if d.op == 3 then k / d.rowSamples * (d.planes * rowBytes d.count d.outF) + part
    else k / d.rowSamples * rowBytes d.rowSamples d.outF + part

/-- Lowest and highest of `0` and `(n - 1) * step`. -/
def reachOf (n : Nat) (step : Int) : Int × Int :=
  let e := ((n : Int) - 1) * step
  (min 0 e, max 0 e)

/-- The span from the lowest to the highest byte read, then of those written, as first and last addresses (R285). -/
def DmaBody.spans (d : DmaBody) : (Int × Int) × (Int × Int) :=
  let side (base : Nat) (parts : List (Int × Int)) (w : Nat) : Int × Int :=
    (parts.foldl (fun x p => x + p.1) (base : Int), parts.foldl (fun x p => x + p.2) (base : Int) + w - 1)
  let group (base : Int) (rows : Nat) (row : Int) (f : Nat) : Int × Int :=
    let a := reachOf d.planes d.pstr
    let b := reachOf rows row
    (base + a.1 + b.1, base + a.2 + b.2 + rowBytes d.count f - 1)
  let planar (base : Nat) (row : Int) (f : Nat) : Int × Int :=
    let x := group base (cdiv d.rows d.phases) row f
    if d.phases == 1 || d.rows == 1 then x
    else
      let y := group (base + d.planes * d.pstr) (d.rows / 2) row f
      (min x.1 y.1, max x.2 y.2)
  let woven (base : Nat) (row : Int) (f : Nat) : Int × Int := side base [reachOf d.rows row] (rowBytes d.rowSamples f)
  if d.op == 1 then (side d.src [] d.count, side d.dst [] d.count)
  else if d.op == 2 then
    (side d.src [reachOf d.rows d.srow, reachOf d.count d.sel] d.inF, side d.dst [reachOf d.rows d.drow, reachOf d.count d.del] d.inF)
  else if d.op == 3 then (woven d.src d.srow d.inF, planar d.dst d.drow d.outF)
  else if d.op == 4 then (planar d.src d.srow d.inF, woven d.dst d.drow d.outF)
  else (side d.src [reachOf d.rows d.srow] (rowBytes d.count d.inF),
        side d.dst [reachOf (popcount 16 d.mask) d.pstr, reachOf d.rows d.drow] (d.count / 8))

/-- The formats suit the opcode (Table 08-6). -/
def DmaBody.fmtOk (d : DmaBody) : Bool :=
  if d.op == 1 then d.inF == 1 && d.outF == 1
  else if d.op == 2 then (1 ≤ d.inF && d.inF ≤ 8) && d.outF == d.inF
  else if d.op == 3 then fmtBits d.inF != 0 && (d.outF == d.inF || (d.outF == 2 && packedFmt d.inF))
  else if d.op == 4 then fmtBits d.inF != 0 && (d.outF == d.inF || (d.inF == 2 && packedFmt d.outF))
  else if d.op == 5 then (d.inF == 1 || d.inF == 2 || packedFmt d.inF) && d.outF == 1
  else false

/-- Fields that the opcode does not use are zero (R280). -/
def DmaBody.unusedZero (d : DmaBody) (b : List (BitVec 8)) : Bool :=
  leAt b 27 1 == 0 && bits (leAt b 30 1) 6 2 == 0 && leAt b 50 14 == 0 &&
  (d.op == 2 || (d.sel == 0 && d.del == 0)) && (d.op == 5 || d.mask == 0) &&
  (3 ≤ d.op || d.pstr == 0) && (d.op != 1 || (d.srow == 0 && d.drow == 0)) &&
  (d.op == 3 || d.op == 4 || (d.planes == 1 && d.phases == 1)) &&
  (((d.op == 3 || d.op == 4) && d.inF != d.outF) || d.align == 0)

/-- The descriptor breaks no rule of R280 to R285. -/
def dmaOk (b : List (BitVec 8)) : Bool :=
  let d := dmaBody b
  let sp := d.spans
  d.fmtOk && d.unusedZero b && d.rows != 0 && d.count != 0 && (d.op != 1 || d.rows == 1) && decide (d.allPlanes ≤ 16) &&
  (d.op != 5 || (d.count % 8 == 0 && decide (d.mask < 2 ^ fmtBits d.inF))) && decide (d.dstBytes ≤ 16777215) &&
  (d.dstBytes == 0 || decide (sp.1.2 < sp.2.1) || decide (sp.2.2 < sp.1.1))

/-! ### Moving units -/

/-- Read `w` bits at bit `o` of the bit string that starts at `a` (R281). -/
def State.readBits (s : State) (i a o w : Nat) : Except XErr Nat :=
  match s.readV i (addr64 a (o / 8)) (cdiv (o % 8 + w) 8) with
  | .error e => .error e
  | .ok bs => .ok (leNat bs / 2 ^ (o % 8) % 2 ^ w)

/-- Write `w` bits at bit `o` of the bit string that starts at `a`: the bits below in the first byte stay, the bits above in the
last byte become zero until the next sample fills them (R281). -/
def State.writeBits (s : State) (i a o w v : Nat) : Except XErr State :=
  let at_ := addr64 a (o / 8)
  let low : Nat := if o % 8 == 0 then 0 else match s.xlate i at_ true with
    | .ok (p, _) => (s.byte p).toNat % 2 ^ (o % 8)
    | .error _ => 0
  s.writeV i at_ (leBytes (cdiv (o % 8 + w) 8) (low + v % 2 ^ w * 2 ^ (o % 8)))

/-- Convert a sample between formats (R283). -/
def convert (inF outF align v : Nat) : Nat :=
  if inF == outF then v
  else if packedFmt inF then (if align == 1 then v * 2 ^ (16 - fmtBits inF) else v)
  else if align == 1 then v / 2 ^ (16 - fmtBits outF) else v % 2 ^ fmtBits outF

/-- Move unit `k` of a descriptor in the address space of instance `i` (R281 to R284). -/
def State.dmaUnit (s : State) (i : Nat) (d : DmaBody) (k : Nat) : Except XErr State :=
  if d.op == 1 then
    let n := min 64 (d.count - 64 * k)
    match s.readV i (addr64 d.src (64 * k)) n with
    | .error e => .error e
    | .ok bs => s.writeV i (addr64 d.dst (64 * k)) bs
  else if d.op == 2 then
    let r := k / d.count
    let j := k % d.count
    match s.readV i (addr64 d.src (r * d.srow + j * d.sel)) d.inF with
    | .error e => .error e
    | .ok bs => s.writeV i (addr64 d.dst (r * d.drow + j * d.del)) bs
  else if d.op == 5 then
    let g := d.count / 8
    let r := k / g
    let x := k % g
    let row := addr64 d.src (r * d.srow)
    let w := fmtBits d.inF
    let samples := (List.range 8).map fun j => s.readBits i row ((8 * x + j) * w) w
    match samples.findSome? fun v => match v with
        | .error e => some e
        | .ok _ => none with
    | some e => .error e
    | none =>
      let vals := samples.map fun v => match v with
        | .ok n => n
        | .error _ => 0
      let planeByte (b : Nat) : Nat := (List.range 8).foldl (fun y j => y + bits (vals.getD j 0) b 1 * 2 ^ j) 0
      ((List.range 16).filter fun b => bit d.mask b).foldl (fun acc b => match acc with
        | .error e => .error e
        | .ok st => st.writeV i (addr64 d.dst (popcount b d.mask * d.pstr + r * d.drow + x)) (leBytes 1 (planeByte b))) (.ok s)
  else
    let r := k / d.rowSamples
    let p := k / d.planes % d.count
    let c := k % d.planes
    let plane := if d.phases == 2 then r % 2 * d.planes + c else c
    let j := if d.phases == 2 then r / 2 else r
    let woven (base : Nat) (row : Int) : Nat := addr64 base (r * row)
    let planar (base : Nat) (row : Int) : Nat := addr64 base (plane * d.pstr + j * row)
    let src := if d.op == 3 then woven d.src d.srow else planar d.src d.srow
    let dst := if d.op == 3 then planar d.dst d.drow else woven d.dst d.drow
    let so := (if d.op == 3 then p * d.planes + c else p) * fmtBits d.inF
    let dO := (if d.op == 3 then p else p * d.planes + c) * fmtBits d.outF
    match s.readBits i src so (fmtBits d.inF) with
    | .error e => .error e
    | .ok v => s.writeBits i dst dO (fmtBits d.outF) (convert d.inF d.outF d.align v)

/-- Move units from `k` on, `n` of them at most: the state, the units done, and the error that stopped it. -/
def State.dmaMove (s : State) (i : Nat) (d : DmaBody) (k : Nat) : Nat → State × Nat × Option XErr
  | 0 => (s, k, none)
  | n + 1 => match s.dmaUnit i d k with
    | .ok s' => s'.dmaMove i d (k + 1) n
    | .error e => (s, k, some e)

/-! ### Stream operations' outcomes -/

/-- The task of a stream operation. -/
def State.taskOf (s : State) (h seq : Nat) : Option Task := s.tasks.find? fun t => t.sheaf == h && t.seq == seq

/-- Replace a task. -/
def State.setTask (s : State) (t : Task) : State :=
  { s with tasks := s.tasks.map fun x => if x.sheaf == t.sheaf && x.seq == t.seq then t else x }

/-- A stream operation ends with a status: one other than OK is kept for its tag (R409). -/
def State.opEnd (s : State) (id status : Nat) : State :=
  match s.ops.find? fun o => o.id == id with
  | none => s
  | some o =>
    let s := { s with ops := s.ops.filter fun x => x.id != id }
    if status == 0 then s
    else match s.taskOf o.sheaf o.seq with
      | some t => s.setTask { t with kept := t.kept ++ [(o.tag, status, o.id)] }
      | none => s

/-- Change a stream operation. -/
def State.setOp (s : State) (o : StreamOp) : State := { s with ops := s.ops.map fun x => if x.id == o.id then o else x }

/-! ### Channels -/

/-- Channel `c` is owned by this instance (R270). -/
def State.dmaInst (s : State) (c : Nat) : Nat := s.dmaOwner c

/-- Set the channel's state (DMA_STAT.STATE). -/
def State.dmaState (s : State) (c v : Nat) : State := s.setF DMA_STAT_STATE c 0 v

/-- Evaluate the pacing level of channel `c` (R286, R287): the level, or the error of a KIND 1 read. -/
def State.paceLevel (s : State) (c : Nat) : Except XErr Nat :=
  let i := s.dmaInst c
  let side := s.b DMA_PACE_CTL_SIDE c
  let level (fill cap : Nat) : Nat := if side then cap - fill else fill
  let kind := s.f DMA_PACE_CTL_KIND c
  let obj := s.f DMA_PACE_CTL_OBJ c
  if kind == 1 then
    match s.readV i (s.f DMA_PACE_ADDR_ADDR c) 32 with
    | .error e => .error e
    | .ok b =>
      let z := leAt b 16 4
      let h := leAt b 20 4
      .ok (level (if s.b DMA_PACE_CTL_RING_OUT c then diff32 h z else diff32 z h) (leAt b 8 4))
  else if kind == 2 then
    match s.wqFor i obj with
    | some q => .ok (level (diff16 (s.tail q) (s.head q)) (s.wqSize q))
    | none => .ok 0
  else match s.cqFor i obj with
    | some r => .ok (level (diff32 (s.q CQ_TAIL_COUNT r) (s.q CQ_HEAD_COUNT r)) (s.cqSize r))
    | none => .ok 0

/-- Take up the pacing level of channel `c` (R287, R288). -/
def State.pace (s : State) (c : Nat) : State :=
  if s.f DMA_PACE_CTL_KIND c == 0 || (s.dma c).paceFid != 0 then s
  else match s.paceLevel c with
    | .ok l =>
      let s := s.setF DMA_PACE_LEVEL_LEVEL c 0 (min l (2 ^ 32 - 1))
      if s.f DMA_PACE_MARK_HIGH c ≤ l then s.setF DMA_STAT_PACE_GO c 0 1
      else if l ≤ s.f DMA_PACE_MARK_LOW c then s.setF DMA_STAT_PACE_GO c 0 0 else s
    | .error e =>
      if e.reason == 0 then s
      else
        let r := s.faultWait (c / 256) (s.dmaInst c) 0x0B e false c 0 c
        (r.2.setDma c { r.2.dma c with paceFid := r.1 }).err DMA_ERR_PACE_FAULT c

/-- Pacing lets channel `c` start a descriptor (R287). -/
def State.paceGo (s : State) (c : Nat) : Bool :=
  s.f DMA_PACE_CTL_KIND c == 0 || (s.b DMA_STAT_PACE_GO c && !(s.dma c).paceKick)

/-- Start a descriptor on channel `c`. -/
def State.dmaStart (s : State) (c : Nat) (d : DmaCur) : State :=
  (((s.setDma c { s.dma c with cur := some d }).setF DMA_CURSOR_UNITS c 0 0).setF DMA_CURSOR_INDEX c 0
    (if d.src == 2 then 0 else d.idx % 65536)).dmaState c 2

/-- Queues bound to channel `c` whose oldest accepted descriptor has not started (R274). -/
def State.dmaQueues (s : State) (c : Nat) : List Nat :=
  (s.boundTo 0x5 fun b => b % 512 == c).filter fun q =>
    !(s.qb WQ_STAT_HALTED q) && (s.wq q).acc.any fun d => d.phase == 0

/-- A queue bound to channel `c` is parked on the fetch of a descriptor: the channel parks with it (R291). -/
def State.dmaStuck (s : State) (c : Nat) : Bool :=
  s.f DMA_CTL_SRC c == 1 && (s.boundTo 0x5 fun b => b % 512 == c).any fun q => (s.wq q).fid != 0

/-- At a descriptor boundary: disabled, stopped, paced, or the next descriptor of the channel's source (R273 to R279, R287,
R289). A RING channel waits to examine its slot. -/
def State.dmaBoundary (s : State) (c : Nat) : State :=
  let x := s.dma c
  let s := s.pace c
  if !(s.b DMA_CTL_ENABLE c) then (s.setDma c { s.dma c with off := false }).dmaState c 0
  else if s.b DMA_STAT_STOP_PENDING c then s.dmaState c 5
  else if !(s.paceGo c) then s.dmaState c 4
  else if s.dmaStuck c then
    (((s.setF DMA_STAT_PARK_AT c 0 1).satF DMA_CNT_PARK_COUNT c 0 1).setF DMA_CURSOR_UNITS c 0 0).dmaState c 6
  else
    let src := s.f DMA_CTL_SRC c
    if src == 0 then s.dmaState c 1
    else if src == 1 then
      match s.wrrPick (wrrKey 5 c) (s.dmaQueues c) with
      | none => s.dmaState c 1
      | some (q, w) =>
        match (s.wq q).acc.find? fun d => d.phase == 0 with
        | none => s.dmaState c 1
        | some d =>
          let s := (s.wrrServe (wrrKey 5 c) q w).setDesc q { d with phase := 1 }
          s.dmaStart c { src := 1, bytes := d.bytes, idx := d.idx, q := q }
    else
      match x.sq with
      | [] => s.dmaState c 1
      | id :: rest =>
        let s := s.setDma c { s.dma c with sq := rest }
        match s.ops.find? fun o => o.id == id with
        | none => s.dmaState c 1
        | some o => s.dmaStart c { src := 2, bytes := o.bytes, op := id }

/-- An idle channel looks for work (a descriptor was accepted or issued, pacing changed, GO). -/
def State.dmaWake (s : State) (c : Nat) : State :=
  if s.f DMA_STAT_STATE c == 1 || s.f DMA_STAT_STATE c == 4 then s.dmaBoundary c else s

/-- Channel `c` parks at `at_` (0 data, 1 FETCH, 2 WRITEBACK) on error `e` (R290, R291). Work that must only wait stays as it
is. A stream descriptor's record is held until its task has left its tiller place (R441). -/
def State.dmaPark (s : State) (c at_ : Nat) (e : XErr) (wr : Bool) : State :=
  if e.reason == 0 then s
  else
    let s := (((s.setF DMA_STAT_PARK_AT c 0 at_).satF DMA_CNT_PARK_COUNT c 0 1).dmaState c 6).count (bankDma (c / 64)) 0x282 0
      (some (s.dmaInst c))
    let s := if at_ == 0 then s else s.setF DMA_CURSOR_UNITS c 0 0
    match (s.dma c).cur with
    | some d =>
      if d.src == 2 then
        match s.ops.find? fun o => o.id == d.op with
        | some o =>
          let r := s.faultWait (c / 256) o.inst 0x0A e wr o.sheaf (o.seq % 2 ^ 28 + o.tag * 2 ^ 28) d.op true
          (r.2.setDma c { r.2.dma c with fid := r.1 }).setOp { o with phase := 2, fid := r.1 }
        | none => s
      else
        let r := s.faultWait (c / 256) (s.dmaInst c) 0x06 e wr c (s.f DMA_CURSOR_UNITS c) c
        r.2.setDma c { r.2.dma c with fid := r.1 }
    | none =>
      let r := s.faultWait (c / 256) (s.dmaInst c) 0x06 e wr c 0 c
      r.2.setDma c { r.2.dma c with fid := r.1 }

/-- Address of ring slot `i` of channel `c` (R277). -/
def State.dmaSlot (s : State) (c i : Nat) : Nat :=
  s.f DMA_RING_BASE_ADDR c + 64 * (i % 2 ^ s.f DMA_CTL_SIZE_LOG2 c)

/-- The ring moves on after a descriptor (R278, R294). -/
def State.dmaAdvance (s : State) (c : Nat) : State := s.addF DMA_RING_IDX_NEXT c 0 1

/-- Count a descriptor that has ended, and its destination bytes. -/
def State.dmaCount (s : State) (c len : Nat) : State :=
  let s := (s.addF DMA_CNT_DESC_COUNT c 0 1).addF DMA_CNT_BYTES_COUNT c 0 len
  (s.count (bankDma (c / 64)) 0x280 0 (some (s.dmaInst c))).count (bankDma (c / 64)) 0x281 0 (some (s.dmaInst c)) len

/-- The header of a ring descriptor as it is written back (R278). -/
def DmaCur.head (d : DmaCur) (status : Nat) : List (BitVec 8) :=
  leBytes 8 ((clrBit (leAt d.bytes 1 1) 7) * 256 + leAt d.bytes 0 1 + leAt d.bytes 2 2 * 2 ^ 16 + status * 2 ^ 32 + leAt d.bytes 5 3 * 2 ^ 40)

/-- Report the outcome of the descriptor in progress and come to the boundary (R257, R273 to R278, R294). A writeback that
meets a fault parks the channel. -/
def State.dmaReport (s : State) (c : Nat) (d : DmaCur) (status len units : Nat) : State :=
  let s0 := s
  let s := (s.setF DMA_STAT_LAST_STATUS c 0 status).dmaCount c len
  let s := if status == 0x11 then s.err DMA_ERR_DESC_ERR c else s
  let done (s : State) : State := (s.setDma c { s.dma c with cur := none, fid := 0 }).dmaBoundary c
  if d.src == 0 then
    match s.writeV (s.dmaInst c) (s.dmaSlot c d.idx) (d.head status) with
    | .error e =>
      ((s0.setDma c { s0.dma c with cur := some { d with status := status, len := len, wb := true } }).dmaState c 2).dmaPark c 2 e true
    | .ok s =>
      let s := if bit (leAt d.bytes 1 1) 0 && s.b DMA_CTL_EV_EN c then s.post 0x4 c else s
      done (s.dmaAdvance c)
  else if d.src == 1 then
    let s := match (s.wq d.q).acc.find? fun x => x.idx == d.idx with
      | some x => s.descDone d.q x status len (leBytes 4 units)
      | none => s
    done (if status == 0x11 || status == 0x20 then s.halt d.q status else s)
  else done (s.opEnd d.op status)

/-- Run the descriptor in progress from its cursor to its end, or to the fault that parks it (R285, R290). -/
def State.dmaRun (s : State) (c : Nat) : State :=
  match (s.dma c).cur with
  | none => s
  | some d =>
    if d.wb then s.dmaReport c d d.status d.len (dmaBody d.bytes).units
    else if !(dmaOk d.bytes) then s.dmaReport c d 0x11 0 0
    else
      let b := dmaBody d.bytes
      let k := s.f DMA_CURSOR_UNITS c
      let r := s.dmaMove (s.dmaInst c) b k (b.units - k)
      let s := r.1.setF DMA_CURSOR_UNITS c 0 r.2.1
      match r.2.2 with
      | none => s.dmaReport c d 0 b.dstBytes b.units
      | some e => s.dmaPark c 0 e false

/-- End the descriptor of a parked channel with a status (R292, Table 08-8). A ring descriptor is written back with it (R294); where the
writeback on which the channel is parked still meets a fault, it is left out, and the channel is at its boundary all the same (DESIGN CHOICE,
log entry 94). A parked FETCH has no descriptor: the ring moves on, and a queue is dealt with as by ABORT of its own fault (log entry 94). -/
def State.dmaEndParked (s : State) (c status : Nat) : State :=
  let fid := (s.dma c).fid
  let units := s.f DMA_CURSOR_UNITS c
  match (s.dma c).cur with
  | some d =>
    let s := s.unwait (if d.src == 2 then (s.ops.find? fun o => o.id == d.op).elim (s.dmaInst c) StreamOp.inst
      else s.dmaInst c) fid
    let s := s.setDma c { s.dma c with fid := 0 }
    if s.f DMA_STAT_PARK_AT c == 2 then
      let s := (s.setF DMA_STAT_LAST_STATUS c 0 status).dmaCount c d.len
      let s := match s.writeV (s.dmaInst c) (s.dmaSlot c d.idx) (d.head status) with
        | .ok s => if bit (leAt d.bytes 1 1) 0 && s.b DMA_CTL_EV_EN c then s.post 0x4 c else s
        | .error _ => s
      ((s.setDma c { s.dma c with cur := none }).dmaAdvance c).dmaBoundary c
    else s.dmaReport c d status ((dmaBody d.bytes).bytesOf units) units
  | none =>
    if s.f DMA_CTL_SRC c == 1 then
      let s := if status != 0x20 then s else (s.boundTo 0x5 fun b => b % 512 == c).foldl (fun (s : State) q =>
        let w := s.wq q
        if w.fid == 0 then s
        else (((s.unwait (s.wqOwner q) w.fid).setWq q { w with fid := 0 }).setQ WQ_STAT_PARKED q 0).halt q 0x20) s
      s.dmaBoundary c
    else
    let s := (s.unwait (s.dmaInst c) fid).setDma c { s.dma c with fid := 0 }
    (((s.setF DMA_STAT_LAST_STATUS c 0 status).dmaCount c 0).dmaAdvance c).dmaBoundary c

/-- Examine ring slot NEXT (R279): take the descriptor, wait for its OWN bit, or park. -/
def State.dmaFetch (s : State) (c : Nat) : State :=
  let i := s.f DMA_RING_IDX_NEXT c
  match s.readV (s.dmaInst c) (s.dmaSlot c i) 64 with
  | .error e => if e.reason == 0 then s else (s.setF DMA_CURSOR_INDEX c 0 i).dmaPark c 1 e false
  | .ok b =>
    let s := s.setDma c { s.dma c with polled := s.now }
    if bit (leAt b 1 1) 7 then s.dmaStart c { src := 0, bytes := b, idx := i } else s.dmaState c 3

/-- Come to the boundary and examine slot NEXT where the channel may go on (R279, R287). -/
def State.dmaExamine (s : State) (c : Nat) : State :=
  let s := s.dmaBoundary c
  if s.f DMA_STAT_STATE c == 1 then s.dmaFetch c else s

/-- Re-evaluate the pacing of every channel that follows a queue or a ring (Table 08-7, KIND 2 and 3). -/
def State.paceQueues (s : State) : State :=
  s.dmas.foldl (fun s e =>
    if s.f DMA_PACE_CTL_KIND e.1 == 2 || s.f DMA_PACE_CTL_KIND e.1 == 3 then (s.pace e.1).dmaWake e.1 else s) s

/-- Continue after the fault of channel `c` is answered with RETRY (R290, R291). -/
def State.dmaRetry (s : State) (c : Nat) : State :=
  let s := s.setDma c { s.dma c with fid := 0 }
  match (s.dma c).cur with
  | some d =>
    if s.f DMA_STAT_PARK_AT c == 2 then (s.dmaState c 2).dmaReport c d d.status d.len (dmaBody d.bytes).units
    else s.dmaState c 2
  | none => (s.dmaState c 1).dmaFetch c

/-- The queue on whose fetch channel `c` was parked goes on: so does the channel (R291). -/
def State.dmaUnpark (s : State) (c : Nat) : State :=
  if s.f DMA_STAT_STATE c == 6 && s.f DMA_CTL_SRC c == 1 && (s.dma c).cur.isNone && !(s.dmaStuck c) then s.dmaBoundary c else s

end Sys2Proof.Machine
end

