-- ==== Sys2Proof/Machine/Task.lean ====
section
/-! DEFINITION. Tasks: creation, order, contexts, held effects, aborts (chapter 11). -/
namespace Sys2Proof.Machine

/-- Stream keys (R372): one schedule entry, one receive queue of a MAC, one queue named by SHF_BULK or SHF_TXHOOK, one task
queue; 0 for a task of no stream. -/
def streamKey (kind n : Nat) : Nat := kind * 2 ^ 24 + n

/-- Tasks of sheaf `h`, in order of creation. -/
def State.tasksOn (s : State) (h : Nat) : List Task := s.tasks.filter fun t => t.sheaf == h

/-- A task of the periodic region (R367). -/
def Task.periodic (t : Task) : Bool := t.src == 0 || t.src == 6

/-- Contexts in use on a sheaf: of tasks that are preempted, suspended or waiting to run again (R374). -/
def State.ctxUsed (s : State) (h : Nat) : Nat := ((s.tasksOn h).filter fun t => t.phase == 2 || t.phase == 3).length

/-- Contexts kept free for the instances whose MIN_TILLERS is non-zero (R474). -/
def State.ctxKept (s : State) (h : Nat) : Nat :=
  ((List.range 65).filter fun i => s.f SHF_SHARE_MIN_TILLERS h i != 0).length

/-- Reservations held on a sheaf (R379). -/
def State.resvUsed (s : State) (h : Nat) : Nat := ((s.tasksOn h).filter Task.resv).length

/-- Tiller places in service (R506). -/
def State.places (s : State) (h : Nat) : Nat := 16 - PMap.get s.placesOut h 0

/-- The counts that SHF_STAT, TSK_STAT and TSK_CB show (Tables 11-11 and 11-12). -/
def State.tskShow (s : State) (h : Nat) : State :=
  let ts := s.tasksOn h
  let n (p : Task → Bool) : Nat := (ts.filter p).length
  let r := s.resvUsed h
  let s := (s.setF TSK_STAT_READY h 0 (n fun t => t.phase == 0 || t.phase == 2)).setF TSK_STAT_RUNNING h 0 (n fun t => t.phase == 1)
  let s := (s.setF TSK_STAT_SUSPENDED h 0 (n fun t => t.phase == 3)).setF TSK_CB_IN_USE h 0 r
  let s := s.setF TSK_CB_HWM h 0 (max (s.f TSK_CB_HWM h) r)
  (s.setF SHF_STAT_CTX_FREE h 0 (64 - s.ctxUsed h)).setF SHF_STAT_CB_FREE h 0 (32 - r)

/-- General slots that an instance holds on a sheaf, and that all hold (R367). -/
def State.generalUsed (s : State) (h : Nat) (p : Task → Bool) : Nat :=
  ((s.tasksOn h).filter fun t => !t.periodic && p t).length

/-- A source is blocked for an instance (R373). -/
def State.blocked (s : State) (h inst : Nat) : Bool :=
  decide (s.f SHF_SHARE_SLOTS h inst ≤ s.generalUsed h fun t => t.inst == inst) ||
  decide (4096 - s.f SHF_CFG_PER_SLOTS h ≤ s.generalUsed h fun _ => true)

/-- The periodic region has no place for a task of this stream: it is full, or the entry has two tasks (Table 11-4). -/
def State.perFull (s : State) (h stream : Nat) : Bool :=
  decide (s.f SHF_CFG_PER_SLOTS h ≤ ((s.tasksOn h).filter Task.periodic).length) ||
  (stream != 0 && decide (2 ≤ ((s.tasksOn h).filter fun t => t.stream == stream).length))

/-- Tillers issue: the device is in RUN and its supply holds (R518, R527). -/
def State.tillersRun (s : State) : Bool := s.f PWR_STAT_STATE == 0 && !(s.b PWR_STAT_SUPPLY_LOW)

/-- The last-wake record (R520): SOURCE, UNIT, DETAIL, device time, whether the source acted during the entry, and the state left. -/
def State.wakeRecord (s : State) (w : Nat × Nat × Nat × Nat) (duringEntry : Bool) (left : Nat) : State :=
  let s := ((s.setF PWR_LAST_WAKE_SOURCE 0 0 w.1).setF PWR_LAST_WAKE_UNIT 0 0 w.2.1).setF PWR_LAST_WAKE_DETAIL 0 0 w.2.2.1
  let s := (s.setF PWR_WAKE_TIME_TIME 0 0 (time96 w.2.2.2)).setF PWR_LAST_WAKE_FROM_STATE 0 0 left
  s.setF PWR_LAST_WAKE_DURING_ENTRY 0 0 (b2n duringEntry)

/-- States of Table 17-2 that a source of Table 17-4 wakes. -/
def wakes (source : Nat) : List Nat :=
  if source == 1 then [1, 2, 3, 4] else if source == 2 then [1, 2, 3] else if source == 3 then [1, 2] else if source == 4 then [2]
  else if source == 5 || source == 6 then [1] else if source == 7 then [2, 3] else if source == 8 then [4] else []

/-- A wake source is enabled: source 8 cannot be disabled (R519). -/
def State.wakeOn (s : State) (source : Nat) : Bool := source == 8 || bit (s.f PWR_WAKE_EN_EN * 2) source

/-- A source that acts in the nanosecond of the recorded wake, with a lower number and listed for the state that was left, is the one recorded
(R520). -/
def State.wakeTie (s : State) (source unit detail : Nat) : State :=
  if source < s.f PWR_LAST_WAKE_SOURCE && s.f PWR_WAKE_TIME_TIME / 2 ^ 16 == time96 s.devTime / 2 ^ 16 &&
    (wakes source).contains (s.f PWR_LAST_WAKE_FROM_STATE) then
    s.wakeRecord (source, unit, detail, s.devTime) (s.b PWR_LAST_WAKE_DURING_ENTRY) (s.f PWR_LAST_WAKE_FROM_STATE)
  else s

/-- A wake source acts in IDLE (R518 to R521): the tillers run again; while a drain runs, or an entry has been commanded, it is kept for the
end of the entry. -/
def State.wakeIdle (s : State) (source unit detail : Nat) : State :=
  if !(s.wakeOn source) then s
  else match s.power.target with
    | some t => if ((match s.power.wake with
          | some w => decide (source < w.1) && time96 s.devTime / 2 ^ 16 == time96 w.2.2.2 / 2 ^ 16
          | none => true) && ((wakes source).contains t || (wakes source).contains (s.f PWR_STAT_STATE))) then
        { s with power := { s.power with wake := some (source, unit, detail, s.devTime) } } else s
    | none => if s.f PWR_STAT_STATE == 1 && (wakes source).contains 1 then
        (s.wakeRecord (source, unit, detail, s.devTime) false 1).setF PWR_STAT_STATE 0 0 0
      else if s.f PWR_STAT_STATE ≤ 1 then s.wakeTie source unit detail else s

/-- Create a task where its region has a slot (R363, R367, R373); the answer says whether it was created. -/
def State.taskCreate (s : State) (t : Task) : State × Bool :=
  let h := t.sheaf
  if (if t.periodic then s.perFull h t.stream else s.blocked h t.inst) then (s, false)
  else
    let n := PMap.get s.taskSeq h 0
    let s := { s with tasks := s.tasks ++ [{ t with seq := n }], taskSeq := PMap.put s.taskSeq h ((n + 1) % 2 ^ 32) }
    let s := (s.addF TSK_CNT_CREATED_COUNT h 0 1).count (bankSheaf h) 0x50 0 (some t.inst)
    ((s.tskShow h).wakeIdle 5 h t.src, true)

/-- Device time of a deadline as it now stands (R369): none where there is no deadline or no prediction. -/
def State.dlTime (s : State) : Deadline → Option Nat
  | .none => none
  | .time t => some t
  | .pos p x => (s.predict p x).map fun d => s.devTime + d

/-- `a` ranks before `b`, which was created after it where `older` is true (R369). List preparation ranks above all. -/
def State.ranksBefore (s : State) (a b : Task) (older : Bool) : Bool :=
  if a.src == 6 || b.src == 6 then (a.src == 6 && (b.src != 6 || older))
  else if s.f SHF_CFG_POLICY a.sheaf == 0 then decide (b.prio < a.prio) || (a.prio == b.prio && older)
  else match s.dlTime a.dl, s.dlTime b.dl with
    | some x, some y => decide (x < y) || (x == y && older)
    | some _, none => true
    | none, some _ => false
    | none, none => older

/-- The first of some tasks, given in order of creation, in the order of R369. -/
def State.firstTask (s : State) : List Task → Option Task
  | [] => none
  | t :: ts => match s.firstTask ts with
    | none => some t
    | some u => if s.ranksBefore u t false then some u else some t

/-- The 64-byte task record (Table 11-2). -/
def State.taskRecord (s : State) (t : Task) : List (BitVec 8) :=
  leBytes 1 t.src ++ leBytes 1 t.hook ++ leBytes 1 t.inst ++ leBytes 1 t.prio ++ leBytes 4 t.seq ++
  leBytes 8 (match s.dlTime t.dl with
    | some d => time96 d % 2 ^ 64
    | none => 2 ^ 64 - 1) ++ (t.data ++ leBytes 48 0).take 48

/-- Completions of tasks: the source's own record is written (R378). -/
def State.ownWrite (s : State) (own : List (Nat × Cpl)) : State := own.foldl (fun s r => s.cpl r.1 r.2) s

/-- A task leaves its sheaf. -/
def State.taskGone (s : State) (t : Task) : State :=
  ({ s with tasks := s.tasks.filter fun x => !(x.sheaf == t.sheaf && x.seq == t.seq) }).tskShow t.sheaf

/-- Cancel the stream operations of a task (R382, R412, Tables 08-8 and 11-5). SGET and SPUT go at once, as do descriptors that
wait; on a replay a running or parked descriptor goes at once too (`now`), on an abort at the next descriptor boundary. Fault
records that are still held are withdrawn (R32, R441). -/
def State.cancelOps (s : State) (t : Task) (now : Bool) : State :=
  let mine := s.ops.filter fun o => o.sheaf == t.sheaf && o.seq == t.seq
  let s := mine.foldl (fun s o => s.unwait o.inst o.fid) s
  let s := { s with ops := s.ops.filter fun o => !(o.sheaf == t.sheaf && o.seq == t.seq) }
  mine.foldl (fun s o =>
    if o.kind != 0 then s
    else
      let x := s.dma o.chan
      let s := s.setDma o.chan { x with sq := x.sq.filter fun i => i != o.id }
      match x.cur with
      | some d =>
        if d.src == 2 && d.op == o.id && (now || o.phase == 2) then
          (s.setDma o.chan { s.dma o.chan with cur := none, fid := 0 }).dmaBoundary o.chan
        else s
      | none => s) s

/-- Completion of a descriptor task (R366, R382): status and the 12 result bytes. -/
def State.taskQDone (s : State) (t : Task) (status : Nat) (result : List (BitVec 8)) : State :=
  match (s.wq t.q).acc.find? fun d => d.idx == t.idx with
  | some d => s.descDone t.q d status 0 result
  | none => s

/-- Abort a task (R382): held effects are discarded, stream operations cancelled; a descriptor task completes, another source's
own record is written with its own status, or its descriptor goes on to be sent, unless a reset discards it. -/
def State.taskAbort (s : State) (t : Task) (status ecause : Nat) (reset : Bool) : State :=
  let s := (s.cancelOps t false).unwait t.inst t.fid
  let s := (s.satF TSK_CNT_ABORT_COUNT t.sheaf 0 1).count (bankSheaf t.sheaf) 0x41 0 (some t.inst) t.issued
  let s := (s.sampleOut t.sheaf t.seq 0 2).taskGone t
  if t.src == 5 then s.taskQDone t status (leBytes 4 ecause)
  else if reset then s
  else if t.src == 3 then match (s.wq t.q).acc.find? fun d => d.idx == t.idx with
    | some d => if d.phase == 4 then s.setDesc t.q { d with phase := 0 } else s
    | none => s
  else s.ownWrite t.own

/-- A task that met a fault leaves its tiller place, when a context is free (R377); its held record is then written (R441).
Where none is free it stays stalled on its place. -/
def State.suspend (s : State) (t : Task) (fid : Nat) : State :=
  if s.ctxUsed t.sheaf < 64 - s.ctxKept t.sheaf then
    let s := s.setTask { t with phase := 3, fid := fid }
    let s := { s with waiters := s.waiters.map fun (w : Waiter) =>
                        if w.inst == t.inst && w.fid == fid then { w with blocked := false } else w }
    (s.fqFlush t.inst).tskShow t.sheaf
  else s.setTask { t with fid := fid }

/-- The program slot that a task now runs: its own, or that of the hook that was bound at its hook point when it was called. -/
def State.progSlot (_s : State) (t : Task) : Nat := t.prog
/-- The image that a task now runs. -/
def State.image (s : State) (t : Task) : List (BitVec 8) :=
  (PMap.get s.progs (t.sheaf * 32 + s.progSlot t) {}).image

/-- A header keeps to Table 12-1 for a program of KIND `kind` (R388). -/
def headerOk (im : List (BitVec 8)) (kind : Nat) : Bool :=
  let entry := leAt im 4 4
  let w := leAt im 12 2
  leAt im 0 2 == 0x544C && leAt im 2 1 == 1 && leAt im 3 1 == kind &&
  entry % 4 == 0 && decide (64 ≤ entry) && decide (entry < im.length) && leAt im 8 4 % 4 == 0 &&
  (if kind == 1 then w == 0 else w % 64 == 0 && decide (128 ≤ w) && decide (w ≤ 2048)) &&
  (im.drop 14).take 50 == List.replicate 50 0

/-- The task waits at its END for the commit instant. -/
def State.atEnd (s : State) (t : Task) : State := s.setTask { t with commit := some true }

/-- A hook failed (R385): what it held since the call is discarded and the base program goes on with FAIL_ACT. -/
def State.hookFail (s : State) (t : Task) : State :=
  let s := (s.satF TSK_CNT_HOOK_OVER_COUNT t.sheaf 0 1).err TSK_ERR_HOOK_OVER t.sheaf
  s.atEnd { t with ctx := t.base.getD {}, base := none, held := t.held.take t.hookHeld, cost := t.hookCost,
                   verdict := s.f SHF_HOOK_FAIL_ACT t.sheaf t.hook }

/-- The base program calls the hook bound at the task's hook point, if one is bound for its instance, with its own registers
(R384, R390); a header that breaks R388 is a hook failure. Without a hook the base program goes to its end. -/
def State.callHook (s : State) (t : Task) : State :=
  let h := t.sheaf
  if t.hook < 4 && s.b SHF_HOOK_VALID h t.hook && s.f SHF_HOOK_INST h t.hook == t.inst then
    let im := (PMap.get s.progs (h * 32 + s.f SHF_HOOK_SLOT h t.hook) {}).image
    let t' := { t with base := some t.ctx, prog := s.f SHF_HOOK_SLOT h t.hook, hookHeld := t.held.length, hookCost := t.cost,
                       budget := s.f SHF_HOOK_BUDGET h t.hook * 16,
                       win := t.win.take 0x400 ++ List.replicate (t.win.length - 0x400) 0,
                       ctx := { regs := 0 :: t.hook :: List.replicate 30 0, pc := leAt im 4 4 } }
    if headerOk im 1 then s.setTask t' else s.hookFail t'
  else s.atEnd t

/-- A ready task takes a tiller place (R364, R379, R388, R390): its first dispatch takes a reservation, writes its record into
the window and starts its program; a later one goes on from its context. -/
def State.dispatch (s : State) (t : Task) : State :=
  if t.started then (s.setTask { t with phase := 1, fid := 0 }).tskShow t.sheaf
  else
    let im := (PMap.get s.progs (t.sheaf * 32 + t.prog) {}).image
    let w := if t.src == 5 then leAt im 12 2 else 2048
    let t := { t with phase := 1, started := true, resv := true, cost := 48 * t.own.length,
                      win := s.taskRecord t ++ List.replicate (w - 64) 0 }
    let s := s.setTask t
    let s :=
      if t.src != 5 then s.callHook t
      else if headerOk im 0 then s.setTask { t with ctx := { pc := leAt im 4 4 } }
      else s.taskAbort t 0x11 0x09 false
    s.tskShow t.sheaf

/-- Ready tasks of a sheaf that may be dispatched now: the order of streams (R372) and the reservations (R379) allow it. -/
def State.dispatchable (s : State) (h : Nat) : List Task :=
  let ts := s.tasksOn h
  let order := s.b SHF_CFG_STREAM_ORDER h
  let rec go (seen : List Nat) : List Task → List Task
    | [] => []
    | t :: rest =>
      let busy := order && t.stream != 0 && seen.contains t.stream
      let ok := (t.phase == 0 || t.phase == 2) && !busy && (t.resv || decide (s.resvUsed h < 32))
      let more := go (if t.stream != 0 then t.stream :: seen else seen) rest
      if ok then t :: more else more
  go [] ts

/-- Tasks that an instance runs on a sheaf. -/
def State.runningOf (s : State) (h inst : Nat) : Nat :=
  ((s.tasksOn h).filter fun t => t.phase == 1 && t.inst == inst).length

/-- The task that takes a free place (R371), with the round robin as it then stands. -/
def State.chooseTask (s : State) (h : Nat) : Option (Task × Option (Nat × Nat × Wrr)) :=
  let ts := s.dispatchable h
  match ts.find? fun t => t.src == 6 with
  | some t => some (t, none)
  | none =>
    let insts := (ts.map Task.inst).dedup
    let low := insts.filter fun i => decide (s.runningOf h i < s.f SHF_SHARE_MIN_TILLERS h i)
    let key := if low.isEmpty then wrrKey 0x11 h else wrrKey 0x12 h
    let units (i : Nat) : Nat := (ts.filter fun t => t.inst == i).length
    match s.wrrPickBy (s.f SHF_SHARE_WEIGHT h) (s.f SHF_SHARE_BURST h) units key (if low.isEmpty then insts else low) with
    | none => none
    | some (i, w) => (s.firstTask (ts.filter fun t => t.inst == i)).map fun t => (t, some (key, i, w))

/-- A running task may be stopped here (R375, R419): not between a branch and its delay slot, in a mode shadow, or after its
commit instant. -/
def Task.stoppable (t : Task) : Bool := t.phase == 1 && t.ctx.slot.isNone && t.ctx.shadow.isNone

/-- Ready task `t` may preempt running task `u` (R375); only the case of two instances may take a context that is kept free (R474). -/
def State.mayPreempt (s : State) (t u : Task) : Bool :=
  let h := t.sheaf
  let least (i : Nat) : Nat := s.f SHF_SHARE_MIN_TILLERS h i
  let first := match s.dlTime t.dl, s.dlTime u.dl with
    | some x, some y => s.f SHF_CFG_POLICY h == 0 || decide (x + us 1 ≤ y)
    | _, _ => true
  u.stoppable && u.src != 6 &&
  ((decide (s.ctxUsed h < 64 - s.ctxKept h) && (t.src == 6 || (t.inst == u.inst && s.ranksBefore t u false && first))) ||
   (t.inst != u.inst && decide (s.runningOf h t.inst < least t.inst) && decide (least u.inst < s.runningOf h u.inst)))

/-- Preempt for ready task `t` where it may (R375, R376): the running task that ranks last gives up its place. -/
def State.preemptFor (s : State) (t : Task) : Option State :=
  let h := t.sheaf
  if !(s.b SHF_CFG_PREEMPT_EN h) || decide (64 ≤ s.ctxUsed h) then none
  else
    let us_ := (s.tasksOn h).filter fun u => s.mayPreempt t u
    let worst := us_.foldl (fun (m : Option Task) u => match m with
      | none => some u
      | some v => if s.ranksBefore v u true then some u else some v) none
    worst.map fun u =>
      ((s.setTask { u with phase := 2 }).satF TSK_CNT_PREEMPT_COUNT h 0 1).count (bankSheaf h) 0x53 0 (some u.inst)

/-- A deadline has passed (R370): of a position, when it lies behind in the direction of motion (R176). -/
def State.dlPassed (s : State) : Deadline → Bool
  | .none => false
  | .time t => decide (t < s.devTime)
  | .pos p x =>
    let v := s.velocity p
    let d := x - s.position p
    (decide (0 < v) && decide (d < 0)) || (decide (v < 0) && decide (0 < d))

/-- Count the sheaf's tasks whose deadline has passed uncommitted (R370). -/
def State.deadlines (s : State) (h : Nat) : State :=
  (s.tasksOn h).foldl (fun s t =>
    if !t.missed && s.dlPassed t.dl then (s.setTask { t with missed := true }).satF TSK_CNT_DL_MISS_COUNT h 0 1 else s) s

end Sys2Proof.Machine
end

