-- ==== Sys2Proof/Machine/Tiller.lean ====
section
/-! DEFINITION. The tiller: instruction words, placement, operands, exceptions, retirement, held effects and stream operations
(chapter 12). -/
namespace Sys2Proof.Machine

/-! ### Instruction words -/

/-- Fields of an instruction word (Table 12-4). -/
def iOp (w : Nat) : Nat := bits w 26 6
def iRd (w : Nat) : Nat := bits w 21 5
def iRa (w : Nat) : Nat := bits w 16 5
def iRb (w : Nat) : Nat := bits w 11 5
def iFn (w : Nat) : Nat := bits w 0 11
def iImm (w : Nat) : Nat := bits w 0 16
/-- IMM sign-extended to 64 bits. -/
def iSimm (w : Nat) : Nat := unsgn (sgn (iImm w) 16) 64

/-- Which instruction a word is, by opcode and function: ALU by FN, SHFI by IMM[7:6], SYS by FN, the others by OP (R393). -/
def insn (w : Nat) : Nat :=
  if iOp w == 0 then iFn w
  else if iOp w == 0x09 then 0x1000 + bits w 6 2
  else if iOp w == 0x20 then 0x2000 + iFn w
  else 0x4000 + iOp w

/-- The word has an instruction of Tables 12-5 and 12-6. -/
def insnKnown (w : Nat) : Bool :=
  let k := insn w
  k ≤ 0x14 || (0x1000 ≤ k && k ≤ 0x1003) || (0x2001 ≤ k && k ≤ 0x2008) ||
  (0x4001 ≤ k && k ≤ 0x4008) || (0x4010 ≤ k && k ≤ 0x4014) || (0x4018 ≤ k && k ≤ 0x401F) ||
  (0x4021 ≤ k && k ≤ 0x4024) || (0x4030 ≤ k && k ≤ 0x4033)

/-- Fields that the instruction shows as zero, or whose values are reserved (R392, R395, R399, R401). IMM[13] of a store of fewer than 8 bytes has no
meaning in R395 and is not shown as zero: it is ignored, DEDUCED (log entry 95). -/
def insnLegal (w : Nat) : Bool :=
  let k := insn w
  let sizeOk := bit w 12 == false && !(bits w 14 2 == 3 && bit w 13)
  if 0x12 ≤ k && k ≤ 0x14 then iRb w == 0
  else if k == 0x4007 then iRa w == 0
  else if 0x1000 ≤ k && k ≤ 0x1003 then bits w 8 8 == 0
  else if 0x4010 ≤ k && k ≤ 0x4013 then sizeOk
  else if k == 0x4014 then bits w 2 14 == 0
  else if k == 0x2001 then iRd w == 0 && iRb w == 0
  else if k == 0x2002 then iRb w == 0 && iRd w != iRa w
  else if k == 0x2003 then iRa w == 0
  else if k == 0x2004 then iRb w == 0
  else if 0x2005 ≤ k && k ≤ 0x2007 then iRd w == 0 && iRa w == 0 && iRb w == 0
  else if k == 0x2008 then iRd w == 0 && iRa w == 0
  else if k == 0x4021 then iRd w == 0 && iImm w != 0
  else if k == 0x4022 then iRd w == 0 && iRa w == 0 && bits w 1 15 == 0
  else if k == 0x4023 then iRd w == 0 && iRb w == 0 && iFn w == 0
  else if k == 0x4024 then iRd w == 0 && iFn w < 2
  else if k == 0x4030 then iRb w == 0 && bits w 4 7 == 0
  else if k == 0x4031 || k == 0x4032 then bits w 4 7 == 0
  else if k == 0x4033 then iRa w == 0 && iRb w == 0 && bits w 4 7 == 0
  else true

/-- Branches and jumps: the instructions with a delay slot (R399). -/
def isBranch (k : Nat) : Bool := (0x4018 ≤ k && k ≤ 0x401F) || k == 0x2001 || k == 0x2002
/-- LOOP, MODE, CMT, END, ERET, TRAP: with branches, what no delay slot and no loop end may hold (R400, R404). -/
def isFlow (k : Nat) : Bool := isBranch k || k == 0x4021 || k == 0x4022 || (0x2005 ≤ k && k ≤ 0x2008)
/-- What a mode shadow may hold: ALU, immediate, LDL and STL, and LDX when the old mode is CTRL (R405). -/
def shadowOk (k : Nat) (strm : Bool) : Bool :=
  k < 0x1004 || (0x4001 ≤ k && k ≤ 0x4008) || k == 0x4010 || k == 0x4011 || (k == 0x4012 && !strm)

/-! ### Contexts -/

/-- Read a general register; g0 reads as zero (R391). -/
def Ctx.g (c : Ctx) (r : Nat) : Nat := if r == 0 then 0 else c.regs.getD r 0
/-- Write a general register; a write to g0 is discarded (R391). -/
def Ctx.setG (c : Ctx) (r v : Nat) : Ctx := if r == 0 then c else { c with regs := c.regs.set r (v % 2 ^ 64) }

/-- EXC of eflags (Table 12-10). -/
def Ctx.exc (c : Ctx) : Bool := bit c.eflags 4
/-- Count, first and last offset of the innermost active level. -/
def Ctx.inner (c : Ctx) : Nat × Nat × Nat := if c.depth == 2 then (c.lc1, c.ls1, c.le1) else (c.lc0, c.ls0, c.le0)
/-- The instruction at `pc` is at le of the innermost active level. -/
def Ctx.atLe (c : Ctx) : Bool := c.depth != 0 && c.pc == c.inner.2.2
/-- The instruction at `pc` is at le of an active level (R404). -/
def Ctx.atAnyLe (c : Ctx) : Bool := (c.depth != 0 && c.pc == c.le0) || (c.depth == 2 && c.pc == c.le1)
/-- Close the innermost level (R402, R403). -/
def Ctx.close (c : Ctx) : Ctx :=
  if c.depth == 2 then { c with lc1 := 0, depth := 1 } else { c with lc0 := 0, depth := 0 }
/-- A taken branch, J or JR to `t` closes every level that `t` lies outside of, from the innermost out (R403). -/
def Ctx.leave (c : Ctx) (t : Nat) : Ctx :=
  let out (c : Ctx) : Bool := c.depth != 0 && !(decide (c.inner.2.1 ≤ t) && decide (t ≤ c.inner.2.2))
  if out c then (let c := c.close; if out c then c.close else c) else c

/-- Where a stopped instruction restarts (R415, R416, R419): the MODE whose shadow is undone, the branch of a delay slot, or
the instruction itself; with registers and window as they then are. Shadow instructions that are undone count neither as issued nor
against a hook's budget (R420). -/
def Task.restart (t : Task) : Task :=
  let c := t.ctx
  match c.shadow with
  | some h => { t with win := h.win, issued := t.issued - (3 - h.left),
                       budget := if t.base.isSome then t.budget + (2 - h.left) else t.budget,
                       ctx := { c with regs := h.regs, pc := h.at_, shadow := none, slot := none } }
  | none => match c.slot with
    | some (b, _) => { t with ctx := { c with pc := b, slot := none } }
    | none => t

/-- The instructions of a mode shadow that are undone, the MODE among them, count as wasted slots (R416, R547). -/
def State.undo (s : State) (t : Task) : State :=
  match t.ctx.shadow with
  | some h => (s.count (bankSheaf t.sheaf) 0x41 0 (some t.inst) (3 - h.left)).sampleOut t.sheaf t.seq (t.issued - (3 - h.left)) 3
  | none => s

/-! ### Retirement -/

/-- What an instruction answers: an exception (CAUSE and DETAIL), a wait (nothing changes), or its result with the way on: to
the next instruction, to a delay slot and then to `target` (closing levels when `leave`), or straight to an offset. -/
inductive Ans where
  | exc (cause detail : Nat)
  | wait
  | next (s : State) (t : Task)
  | branch (s : State) (t : Task) (target : Nat) (leave : Bool)
  | goto (s : State) (t : Task)
  | gone (s : State)

/-- After an instruction that is neither branch nor jump: the transfer of a delay slot, the end of a mode shadow, the loop end,
or the next instruction (R399, R402, R405). -/
def Ctx.advance (c : Ctx) : Ctx :=
  let c := match c.shadow with
    | some h => if h.left ≤ 1 then { c with shadow := none, strm := h.new } else { c with shadow := some { h with left := h.left - 1 } }
    | none => c
  match c.slot with
  | some (_, target) => (if c.taken then c.leave target else c) |> fun c => { c with slot := none, taken := false, pc := target }
  | none =>
    if c.atLe && !c.exc then
      let l := c.inner
      if 1 < l.1 then
        (if c.depth == 2 then { c with lc1 := l.1 - 1, pc := l.2.1 } else { c with lc0 := l.1 - 1, pc := l.2.1 })
      else { c.close with pc := l.2.2 + 4 }
    else { c with pc := c.pc + 4 }

/-- An instruction retires: one more issued, one less of a hook's budget (R385, R420). -/
def Task.retire (t : Task) : Task :=
  { t with issued := t.issued + 1, budget := if t.base.isSome then t.budget - 1 else t.budget }

/-! ### Exceptions -/

/-- The task's program handles exceptions: its HANDLER offset (Table 12-1). -/
def State.handler (s : State) (t : Task) : Nat := leAt (s.image t) 8 4

/-- An instruction raises an exception (R413 to R417): entry to the handler, or what follows where it is not handled: a hook
fails, a task program aborts with ecause in its result. -/
def State.except (s : State) (t : Task) (cause detail : Nat) : State :=
  let c := t.ctx
  let s := ((s.undo t).count (bankSheaf t.sheaf) 0x41 0 (some t.inst)).sampleOut t.sheaf t.seq t.issued 3
  let ec := cause + 256 * detail
  let hnd := s.handler t
  if hnd == 0 || c.exc || cause == 0x08 || cause == 0x09 then
    (if t.base.isSome then s.hookFail t else s.taskAbort t 0x11 ec false)
  else
    let ds := c.slot.isSome
    let sh := c.shadow.isSome
    let le := c.atLe && !sh && !ds
    let t := { t.restart with unresolved := false }
    let flags := b2n ds + 2 * b2n sh + 4 * b2n le + 8 * b2n c.strm + 16
    s.setTask { t with ctx := { t.ctx with epc := t.ctx.pc, ecause := ec, eflags := flags, pc := hnd, strm := false,
                                           shadow := none, slot := none, taken := false } }

/-- The placement rule that the instruction at pc breaks, as DETAIL of PLACEMENT (Table 12-9), 0 where it breaks none: delay
slot, shadow, loop end, handler. -/
def State.placement (_s : State) (t : Task) (k : Nat) : Nat :=
  let c := t.ctx
  if c.slot.isSome && (isFlow k || k == 0x4033) then 1
  else if c.shadow.isSome && !(shadowOk k c.strm) then 2
  else if c.atAnyLe && (isFlow k || c.slot.isSome || c.shadow.isSome) then 3
  else if c.exc && (k == 0x4021 || k == 0x4022) then 5
  else if t.base.isSome && k == 0x2007 then 6
  else 0

/-- The word at the task's pc; beyond the image there is none, and the offset holds a reserved opcode. -/
def State.fetch (s : State) (t : Task) : Nat :=
  let im := s.image t
  if t.ctx.pc + 4 ≤ im.length then leAt im t.ctx.pc 4 else 0xFFFFFFFF

/-- One instruction of task `seq` of sheaf `h`, of which `is` says whether the word at its pc is the instruction of this
command; where it is not, or the task is not running, or it waits for its commit, nothing happens. -/
def State.tiller (s : State) (h seq : Nat) (is : Nat → Bool) (body : State → Task → Nat → Ans) : State :=
  match s.taskOf h seq with
  | none => s
  | some t =>
    let w := s.fetch t
    if !s.tillersRun || t.phase != 1 || t.commit.isSome || t.src != 5 && t.base.isNone || t.fid != 0 || !(is w) then s
    else if t.base.isSome && t.budget == 0 then s.except t 0x08 0
    else
      let s1 := s.sampleIssue t w (s.progSlot t)
      let p := s.placement t (insn w)
      if !(insnKnown w) || !(insnLegal w) then s1.except t 0x01 0
      else if p != 0 then s1.except t 0x02 p
      else match body s1 t w with
        | .exc cause detail => s1.except t cause detail
        | .wait => s
        | .gone s => s
        | .next s t => s.setTask { t.retire with ctx := t.ctx.advance }
        | .branch s t target leave =>
          s.setTask { t.retire with ctx := { t.ctx with slot := some (t.ctx.pc, target), taken := leave, pc := t.ctx.pc + 4 } }
        | .goto s t => s.setTask t.retire

/-- The common case: a result into rd. -/
def result (s : State) (t : Task) (w v : Nat) : Ans := .next s { t with ctx := t.ctx.setG (iRd w) v }

/-- An ALU instruction (R394). -/
def State.alu (s : State) (h seq fn : Nat) (f : Nat → Nat → Nat) : State :=
  s.tiller h seq (fun w => insn w == fn) fun s t w => result s t w (f (t.ctx.g (iRa w)) (t.ctx.g (iRb w)))

/-- An immediate instruction (R393). -/
def State.imm (s : State) (h seq op : Nat) (f : Nat → Nat → Nat) : State :=
  s.tiller h seq (fun w => insn w == 0x4000 + op) fun s t w => result s t w (f (t.ctx.g (iRa w)) w)

/-- Arithmetic on 64-bit values as numbers. -/
def sub64 (a b : Nat) : Nat := (a + 2 ^ 64 - b % 2 ^ 64) % 2 ^ 64
def s64 (a : Nat) : Int := sgn (a % 2 ^ 64) 64
def sra64 (a n : Nat) : Nat := unsgn (s64 a / (2 : Int) ^ n) 64
def ror64 (a n : Nat) : Nat := (a % 2 ^ 64 / 2 ^ n + a * 2 ^ (64 - n)) % 2 ^ 64
/-- Leading zeros of a 64-bit value (CLZ). -/
def clz64 (a : Nat) : Nat := (List.range 64).foldl (fun n i => if bit a i then 63 - i else n) 64
/-- Bytes reversed (BSWAP). -/
def bswap64 (a : Nat) : Nat := leNat (leBytes 8 a).reverse

/-! ### Local and external accesses -/

/-- Bytes of an access (R395). -/
def accBytes (w : Nat) : Nat := 2 ^ bits w 14 2

/-- A window range is aligned and inside the window; a store by a hook is inside 0x400 to 0x7FF (R395). -/
def Task.winOk (t : Task) (off n align : Nat) (store : Bool) : Bool :=
  off % align == 0 && decide (off + n ≤ t.win.length) &&
  (!(store && t.base.isSome) || (decide (0x400 ≤ off) && decide (off + n ≤ 0x800)))

/-- Window bytes `[a, a + n)` and `[b, b + m)` overlap. -/
def overlaps (a n b m : Nat) : Bool := decide (a < b + m) && decide (b < a + n)

/-- Outstanding stream operations of a task. -/
def State.opsOf (s : State) (t : Task) : List StreamOp := s.ops.filter fun o => o.sheaf == t.sheaf && o.seq == t.seq

/-- Window bytes that an operation writes (SGET), and that it reads (SPUT, SDMA). -/
def StreamOp.writes (o : StreamOp) : Nat × Nat := if o.kind == 1 then (o.off, o.len) else (0, 0)
def StreamOp.reads (o : StreamOp) : Nat × Nat := if o.kind == 1 then (0, 0) else (o.off, if o.kind == 0 then 64 else o.len)

/-- An access waits in CTRL mode for an outstanding operation (R406): a load for an SGET of its bytes, a store also for an SPUT
or SDMA that reads them. -/
def State.mustWait (s : State) (t : Task) (off n : Nat) (store : Bool) : Bool :=
  !t.ctx.strm && (s.opsOf t).any fun o =>
    overlaps off n o.writes.1 o.writes.2 || (store && overlaps off n o.reads.1 o.reads.2)

/-- A loaded value extended to 64 bits: sign-extended unless IMM[13] (R395). -/
def extend (w v : Nat) : Nat :=
  let n := 8 * accBytes w
  if bit w 13 then v else unsgn (sgn v n) 64

/-- A byte of the window read while an outstanding SGET writes it: the old or the new value (R407). -/
def State.strmByte (s : State) (t : Task) (o : StreamOp) (j : Nat) : BitVec 8 :=
  let old := t.win.getD j 0
  match s.readV t.inst (addr64 o.addr (j - o.off : Nat)) 1 with
  | .ok [b] => if Config.choice (s.draws + j) then b else old
  | _ => old

/-- Window bytes as a load or a stream operation takes them (R406, R407). -/
def State.winLoad (s : State) (t : Task) (off n : Nat) : List (BitVec 8) :=
  (List.range n).map fun k =>
    let j := off + k
    match (s.opsOf t).find? fun o => o.kind == 1 && decide (o.off ≤ j) && decide (j < o.off + o.len) with
    | some o => s.strmByte t o j
    | none => t.win.getD j 0

/-- The address of an external access (R396): ra plus the 12-bit immediate, sign-extended. -/
def extAddr (t : Task) (w : Nat) : Nat := addr64 (t.ctx.g (iRa w)) (sgn (bits w 0 12) 12)

/-- A task's external access meets a fault (R377, R438): a record of KIND 0x09 that is held until the task has left its place,
and the task suspends at the instruction's restart point. An access that must only wait waits. -/
def State.taskFault (s : State) (t : Task) (e : XErr) (wr : Bool) : Ans :=
  if e.reason == 0 then .wait
  else
    let r := s.faultWait (t.sheaf / 32) t.inst 0x09 e wr t.sheaf t.seq 0 true
    .gone ((r.2.undo t).suspend t.restart r.1)

/-- Hold an effect of `n` data bytes (R379): one that brings the task above 8 KiB since its last commit aborts it. -/
def State.hold_ (s : State) (t : Task) (e : Held) (n : Nat) : Ans :=
  let cost := t.cost + 16 + cdiv n 16 * 16
  if 8192 < cost then .gone (s.taskAbort t 0x24 0 false)
  else .next s { t with held := t.held ++ [e], cost := cost }

/-- The places of a store's pieces, or the first error. -/
def State.placesOf (s : State) (i va n : Nat) : Except XErr (List (Nat × Option Nat × Nat)) :=
  match s.xcheck i va n true with
  | some e => .error e
  | none => .ok ((piecesOf va n).filterMap fun p => match s.xlate i p.1 true with
    | .ok (a, h) => some (a, h, p.2)
    | .error _ => none)

/-- A held store of `bytes` at `va` (R397): translated when it executes. A fault ended as unresolved raises XLATE. -/
def State.holdStore (s : State) (t : Task) (va : Nat) (bytes : List (BitVec 8)) : Ans :=
  if t.unresolved then .exc 0x06 0
  else match s.placesOf t.inst va bytes.length with
    | .error e => s.taskFault t e true
    | .ok ps => (s.bump).hold_ t (.store va bytes ps false) (if bytes.length ≤ 8 then 16 else bytes.length)

/-! ### Stream units -/

/-- The operations of a task that are parked on a fault and not yet answered, first in issue order (R411). -/
def State.parkedOp (s : State) (t : Task) (p : StreamOp → Bool) : Option StreamOp :=
  (s.opsOf t).find? fun o => p o && o.phase == 2

/-- A task waits for stream operations of which `p` holds (R398, R410, R411): it goes on when none is outstanding, suspends on
the earliest that is parked, and otherwise waits. -/
def State.awaitOps (s : State) (t : Task) (p : StreamOp → Bool) (go : Ans) : Ans :=
  if !((s.opsOf t).any p) then go
  else match s.parkedOp t p with
    | some o => .gone ((s.undo t).suspend t.restart o.fid)
    | none => .wait

/-- The ordering checks of an issue in CTRL mode hold (R406): earlier local stores are done, and an SGET waits for operations
that read the bytes it writes. -/
def State.issueOk (s : State) (t : Task) (kind off n : Nat) : Bool :=
  t.ctx.strm || kind != 1 || !((s.opsOf t).any fun o => overlaps off n o.reads.1 o.reads.2)

/-- Issue a stream operation (R408): at most 32 are outstanding for a task. -/
def State.issue (s : State) (t : Task) (o : StreamOp) : Ans :=
  if 32 ≤ (s.opsOf t).length || !(s.issueOk t o.kind o.off o.len) then .wait
  else
    let o := { o with id := s.nextOp, sheaf := t.sheaf, seq := t.seq, inst := t.inst, at_ := s.now }
    .next { s with ops := s.ops ++ [o], nextOp := s.nextOp + 1 } t

/-- An SDMA issue to channel `c` (R275, R276, R409): refused with NOT_PERMITTED, which ends at its fixed time for an instance;
NOT_READY at once where the channel is disabled; otherwise it waits its turn, if the channel's stream queue has room. -/
def State.issueDma (s : State) (t : Task) (c tag : Nat) (o : StreamOp) : Ans :=
  let permitted := decide (c < 512) && s.dmaOwner c == t.inst && s.f DMA_CTL_SRC c == 2 && s.f DMA_CTL_SHEAF c == t.sheaf
  if !permitted then
    match s.issue t { o with phase := 4, status := 0x21 } with
    | .next s' t' => .next (s'.refuseLater t.inst 3 s.nextOp) t'
    | a => a
  else if s.f DMA_STAT_STATE c == 0 || !(s.b DMA_CTL_ENABLE c) then .next s { t with kept := t.kept ++ [(tag, 0x22, s.nextOp)] }
  else if 64 ≤ (s.dma c).sq.length then .wait
  else match s.issue t o with
    | .next s' t' => .next ((s'.setDma c { s'.dma c with sq := (s'.dma c).sq ++ [s.nextOp] }).dmaWake c) t'
    | a => a

/-- Move an SGET or SPUT from its cursor on, in units of 64 bytes (R408, R411). The window is the task's, wherever it is held.
A byte of an SPUT's window that changed since its issue goes out old or new (R407). -/
def State.opMove (s : State) (o : StreamOp) (t : Task) : Nat → State × Task × StreamOp × Option XErr
  | 0 => (s, t, o, none)
  | n + 1 =>
    let k := 64 * o.units
    let m := min 64 (o.len - k)
    if m == 0 then (s, t, o, none)
    else if o.kind == 1 then
      match s.readV t.inst (addr64 o.addr k) m with
      | .error e => (s, t, o, some e)
      | .ok bs =>
        let shadow := t.ctx.shadow.map fun h => { h with win := overlay h.win (o.off + k) bs }
        s.opMove { o with units := o.units + 1 } { t with win := overlay t.win (o.off + k) bs, ctx := { t.ctx with shadow := shadow } } n
    else
      let bs := (List.range m).map fun j =>
        let old := o.bytes.getD (k + j) 0
        let new := t.win.getD (o.off + k + j) 0
        if Config.choice (s.draws + k + j) then new else old
      match s.writeV t.inst (addr64 o.addr k) bs with
      | .error e => (s, t, o, some e)
      | .ok s => s.opMove { o with units := o.units + 1 } t n

/-! ### Commits -/

/-- Translate marked stores again (R433): the held effects with fresh translations, or the first error. -/
def State.remark (s : State) (i : Nat) : List Held → Except XErr (List Held)
  | [] => .ok []
  | .store a b _ true :: hs => match s.placesOf i a b.length with
    | .error e => .error e
    | .ok p' => match s.remark i hs with
      | .error e => .error e
      | .ok hs' => .ok (.store a b p' false :: hs')
  | h :: hs => match s.remark i hs with
    | .error e => .error e
    | .ok hs' => .ok (h :: hs')

/-- Commit-buffer bytes of the completion that a descriptor task writes at its END (R366, R379). -/
def State.endCost (s : State) (t : Task) : Nat :=
  match (s.wq t.q).acc.find? fun d => d.idx == t.idx with
  | some d => if t.src != 5 || (dQuiet d.bytes && leAt t.win 0x40 1 == 0) then 0 else 48
  | none => 0

/-- The status that SWAIT gives for a tag (R410): of the earliest operation in issue order that did not end OK, or OK. -/
def keptStatus (kept : List (Nat × Nat × Nat)) (tag : Nat) : Nat :=
  ((kept.filter fun k => k.1 == tag).foldl (fun (m : Option (Nat × Nat × Nat)) k => match m with
    | none => some k
    | some x => if k.2.2 < x.2.2 then some k else some x) none).elim 0 fun k => k.2.1

/-- CMT or END: wait for the stream operations, then translate marked stores again, then wait for the commit instant (R380,
R398, R433). -/
def State.toCommit (s : State) (t : Task) (last : Bool) : Ans :=
  s.awaitOps t (fun _ => true) <|
    if t.unresolved then .exc 0x06 0
    else match s.remark t.inst t.held with
      | .error e => s.taskFault t e true
      | .ok held =>
        let cost := t.cost + if last then s.endCost t else 0
        if 8192 < cost then .gone (s.taskAbort t 0x24 0 false)
        else .gone (s.setTask { t with held := held, cost := cost, commit := some last })

/-- Release one held store through the translations it holds (R380, R433). -/
def State.releaseStore (s : State) (i : Nat) : List (Nat × Option Nat × Nat) → List (BitVec 8) → State
  | [], _ => s
  | (a, h, n) :: ps, bs =>
    let s := s.store a (bs.take n)
    let s := match h with
      | some x => s.dirty i x
      | none => s
    s.releaseStore i ps (bs.drop n)

/-- Restart a task from its last checkpoint, or from its record if it has none (R381): held effects since then are discarded and
it is ready to run again. -/
def State.replay (s : State) (t : Task) : State :=
  let s := (s.cancelOps t true).unwait t.inst t.fid
  let s := (s.satF TSK_CNT_REPLAY_COUNT t.sheaf 0 1).count (bankSheaf t.sheaf) 0x52 0 (some t.inst)
  let s := (s.count (bankSheaf t.sheaf) 0x41 0 (some t.inst) t.issued).sampleOut t.sheaf t.seq 0 1
  let t := { t with held := [], cost := 0, kept := [], commit := none, fid := 0, unresolved := false, base := none,
                    verdict := 0, issued := 0 }
  let t := match t.check with
    | some (c, w) => { t with ctx := c, win := w, phase := 2 }
    | none => { t with ctx := {}, win := [], phase := 0, started := false }
  (s.setTask t).tskShow t.sheaf

end Sys2Proof.Machine
end

