-- ==== Sys2Proof/Machine/TillerCmds.lean ====
section
/-! DEFINITION. The tiller instructions, one meaning each (chapter 12). A command names the sheaf and the SEQ of the task whose
tiller executes its next instruction; it does nothing where the word at the task's pc is another instruction. -/
namespace Sys2Proof.Machine

/-- ADD: rd = ra + rb modulo 2^64 (R394). -/
def execAdd (sheaf seq : Nat) (s : State) : Res :=
  .next (s.alu sheaf seq 0x0 fun a b => a + b)

/-- SUB: rd = ra - rb modulo 2^64 (R394). -/
def execSub (sheaf seq : Nat) (s : State) : Res :=
  .next (s.alu sheaf seq 0x1 fun a b => sub64 a b)

/-- AND: rd = ra AND rb (R394). -/
def execAnd (sheaf seq : Nat) (s : State) : Res :=
  .next (s.alu sheaf seq 0x2 fun a b => a &&& b)

/-- OR: rd = ra OR rb (R394). -/
def execOr (sheaf seq : Nat) (s : State) : Res :=
  .next (s.alu sheaf seq 0x3 fun a b => a ||| b)

/-- XOR: rd = ra XOR rb (R394). -/
def execXor (sheaf seq : Nat) (s : State) : Res :=
  .next (s.alu sheaf seq 0x4 fun a b => a ^^^ b)

/-- NOR: rd = NOT (ra OR rb) (R394). -/
def execNor (sheaf seq : Nat) (s : State) : Res :=
  .next (s.alu sheaf seq 0x5 fun a b => 2 ^ 64 - 1 - (a ||| b))

/-- SLT: rd = 1 if ra < rb signed, else 0 (R394). -/
def execSlt (sheaf seq : Nat) (s : State) : Res :=
  .next (s.alu sheaf seq 0x6 fun a b => b2n (decide (s64 a < s64 b)))

/-- SLTU: rd = 1 if ra < rb unsigned, else 0 (R394). -/
def execSltu (sheaf seq : Nat) (s : State) : Res :=
  .next (s.alu sheaf seq 0x7 fun a b => b2n (decide (a < b)))

/-- SLL: rd = ra shifted left by rb[5:0] (R394). -/
def execSll (sheaf seq : Nat) (s : State) : Res :=
  .next (s.alu sheaf seq 0x8 fun a b => a * 2 ^ (b % 64))

/-- SRL: rd = ra shifted right by rb[5:0], zeros in (R394). -/
def execSrl (sheaf seq : Nat) (s : State) : Res :=
  .next (s.alu sheaf seq 0x9 fun a b => a / 2 ^ (b % 64))

/-- SRA: rd = ra shifted right by rb[5:0], sign in (R394). -/
def execSra (sheaf seq : Nat) (s : State) : Res :=
  .next (s.alu sheaf seq 0xa fun a b => sra64 a (b % 64))

/-- ROR: rd = ra rotated right by rb[5:0] (R394). -/
def execRor (sheaf seq : Nat) (s : State) : Res :=
  .next (s.alu sheaf seq 0xb fun a b => ror64 a (b % 64))

/-- MUL: rd = low 64 bits of ra * rb (R394). -/
def execMul (sheaf seq : Nat) (s : State) : Res :=
  .next (s.alu sheaf seq 0xc fun a b => a * b)

/-- MULHU: rd = high 64 bits of ra * rb, unsigned (R394). -/
def execMulhu (sheaf seq : Nat) (s : State) : Res :=
  .next (s.alu sheaf seq 0xd fun a b => a * b / 2 ^ 64)

/-- MIN: rd = the smaller, signed (R394). -/
def execMin (sheaf seq : Nat) (s : State) : Res :=
  .next (s.alu sheaf seq 0xe fun a b => if s64 a < s64 b then a else b)

/-- MAX: rd = the larger, signed (R394). -/
def execMax (sheaf seq : Nat) (s : State) : Res :=
  .next (s.alu sheaf seq 0xf fun a b => if s64 a < s64 b then b else a)

/-- MINU: rd = the smaller, unsigned (R394). -/
def execMinu (sheaf seq : Nat) (s : State) : Res :=
  .next (s.alu sheaf seq 0x10 fun a b => min a b)

/-- MAXU: rd = the larger, unsigned (R394). -/
def execMaxu (sheaf seq : Nat) (s : State) : Res :=
  .next (s.alu sheaf seq 0x11 fun a b => max a b)

/-- CLZ: rd = leading zeros of ra (R394). -/
def execClz (sheaf seq : Nat) (s : State) : Res :=
  .next (s.alu sheaf seq 0x12 fun a _ => clz64 a)

/-- POPC: rd = bits set in ra (R394). -/
def execPopc (sheaf seq : Nat) (s : State) : Res :=
  .next (s.alu sheaf seq 0x13 fun a _ => popcount 64 a)

/-- BSWAP: rd = bytes of ra reversed (R394). -/
def execBswap (sheaf seq : Nat) (s : State) : Res :=
  .next (s.alu sheaf seq 0x14 fun a _ => bswap64 a)

/-- ADDI: rd = ra + IMM (R393). -/
def execAddi (sheaf seq : Nat) (s : State) : Res :=
  .next (s.imm sheaf seq 0x1 fun a w => a + iSimm w)

/-- ANDI: rd = ra AND IMM, zero-extended (R393). -/
def execAndi (sheaf seq : Nat) (s : State) : Res :=
  .next (s.imm sheaf seq 0x2 fun a w => a &&& iImm w)

/-- ORI: rd = ra OR IMM, zero-extended (R393). -/
def execOri (sheaf seq : Nat) (s : State) : Res :=
  .next (s.imm sheaf seq 0x3 fun a w => a ||| iImm w)

/-- XORI: rd = ra XOR IMM, zero-extended (R393). -/
def execXori (sheaf seq : Nat) (s : State) : Res :=
  .next (s.imm sheaf seq 0x4 fun a w => a ^^^ iImm w)

/-- SLTI: rd = 1 if ra < IMM signed, else 0 (R393). -/
def execSlti (sheaf seq : Nat) (s : State) : Res :=
  .next (s.imm sheaf seq 0x5 fun a w => b2n (decide (s64 a < sgn (iImm w) 16)))

/-- SLTIU: rd = 1 if ra < IMM unsigned, with IMM sign-extended, else 0 (R393). -/
def execSltiu (sheaf seq : Nat) (s : State) : Res :=
  .next (s.imm sheaf seq 0x6 fun a w => b2n (decide (a < iSimm w)))

/-- LUI: rd = IMM << 16, with IMM sign-extended (R393). -/
def execLui (sheaf seq : Nat) (s : State) : Res :=
  .next (s.imm sheaf seq 0x07 fun _ w => iSimm w * 2 ^ 16)

/-- SHI: rd = (ra << 16) OR IMM, zero-extended (R393). -/
def execShi (sheaf seq : Nat) (s : State) : Res :=
  .next (s.imm sheaf seq 0x08 fun a w => a * 2 ^ 16 + iImm w)

/-- SHFI SLL: rd = SLL of ra by IMM[5:0] (R393). -/
def execShfiSll (sheaf seq : Nat) (s : State) : Res :=
  .next (s.tiller sheaf seq (fun w => insn w == 0x1000) fun s t w =>
    let a := t.ctx.g (iRa w)
    result s t w (a * 2 ^ bits w 0 6))

/-- SHFI SRL: rd = SRL of ra by IMM[5:0] (R393). -/
def execShfiSrl (sheaf seq : Nat) (s : State) : Res :=
  .next (s.tiller sheaf seq (fun w => insn w == 0x1001) fun s t w =>
    let a := t.ctx.g (iRa w)
    result s t w (a / 2 ^ bits w 0 6))

/-- SHFI SRA: rd = SRA of ra by IMM[5:0] (R393). -/
def execShfiSra (sheaf seq : Nat) (s : State) : Res :=
  .next (s.tiller sheaf seq (fun w => insn w == 0x1002) fun s t w =>
    let a := t.ctx.g (iRa w)
    result s t w (sra64 a (bits w 0 6)))

/-- SHFI ROR: rd = ROR of ra by IMM[5:0] (R393). -/
def execShfiRor (sheaf seq : Nat) (s : State) : Res :=
  .next (s.tiller sheaf seq (fun w => insn w == 0x1003) fun s t w =>
    let a := t.ctx.g (iRa w)
    result s t w (ror64 a (bits w 0 6)))

/-- LDL: load from the window; LOCAL where the range is misaligned or outside it (R395, R406, R407). -/
def execLdl (sheaf seq : Nat) (s : State) : Res :=
  .next (s.tiller sheaf seq (fun w => insn w == 0x4010) fun s t w =>
    let off := (t.ctx.g (iRa w) + bits w 0 12) % 2 ^ 64
    let n := accBytes w
    if !(t.winOk off n n false) then .exc 0x04 0
    else if s.mustWait t off n false then .wait
    else result s.bump t w (extend w (leNat (s.winLoad t off n))))

/-- STL: store to the window; a hook may store to 0x400 to 0x7FF only (R395, R406). -/
def execStl (sheaf seq : Nat) (s : State) : Res :=
  .next (s.tiller sheaf seq (fun w => insn w == 0x4011) fun s t w =>
    let off := (t.ctx.g (iRa w) + bits w 0 12) % 2 ^ 64
    let n := accBytes w
    if !(t.winOk off n n true) then .exc 0x04 0
    else if s.mustWait t off n true then .wait
    else .next s { t with win := overlay t.win off (leBytes n (t.ctx.g (iRd w))) })

/-- LDX: load from the address space of the task's instance (R396); not in STRM mode; a fault suspends the task (R377). -/
def execLdx (sheaf seq : Nat) (s : State) : Res :=
  .next (s.tiller sheaf seq (fun w => insn w == 0x4012) fun s t w =>
    let a := extAddr t w
    let n := accBytes w
    if t.ctx.strm then .exc 0x03 0
    else if a % n != 0 then .exc 0x05 0
    else if t.unresolved then .exc 0x06 0
    else match s.readV t.inst a n with
      | .error e => s.taskFault t e false
      | .ok bs => result s.bump t w (extend w (leNat bs)))

/-- STX: held external store of a register (R397). -/
def execStx (sheaf seq : Nat) (s : State) : Res :=
  .next (s.tiller sheaf seq (fun w => insn w == 0x4013) fun s t w =>
    let a := extAddr t w
    let n := accBytes w
    if a % n != 0 then .exc 0x05 0 else s.holdStore t a (leBytes n (t.ctx.g (iRd w))))

/-- STXW: held external store of 16 * (N + 1) window bytes (R397). -/
def execStxw (sheaf seq : Nat) (s : State) : Res :=
  .next (s.tiller sheaf seq (fun w => insn w == 0x4014) fun s t w =>
    let a := t.ctx.g (iRa w)
    let off := t.ctx.g (iRd w)
    let n := 16 * (bits w 0 2 + 1)
    if a % 16 != 0 then .exc 0x05 0
    else if !(t.winOk off n 16 false) then .exc 0x04 0
    else if s.mustWait t off n false then .wait
    else s.holdStore t a (s.winLoad t off n))

/-- A conditional branch (R399, R403): taken or not, its delay slot executes next. -/
def State.condBranch (s : State) (sheaf seq op : Nat) (p : Nat → Nat → Bool) : State :=
  s.tiller sheaf seq (fun w => insn w == 0x4000 + op) fun s t w =>
    let a := t.ctx.g (bits w 21 5)
    let b := t.ctx.g (bits w 16 5)
    if p a b then .branch s t (addr64 (t.ctx.pc + 4) (4 * sgn (iImm w) 16)) true
    else .branch s t (t.ctx.pc + 8) false

/-- BEQ: branch when ra = rb (R393, R399). -/
def execBeq (sheaf seq : Nat) (s : State) : Res := .next (s.condBranch sheaf seq 0x18 fun a b => a == b)

/-- BNE: branch when ra ≠ rb (R393, R399). -/
def execBne (sheaf seq : Nat) (s : State) : Res := .next (s.condBranch sheaf seq 0x19 fun a b => a != b)

/-- BLT: branch when ra < rb, signed (R393, R399). -/
def execBlt (sheaf seq : Nat) (s : State) : Res := .next (s.condBranch sheaf seq 0x1a fun a b => decide (s64 a < s64 b))

/-- BGE: branch when ra ≥ rb, signed (R393, R399). -/
def execBge (sheaf seq : Nat) (s : State) : Res := .next (s.condBranch sheaf seq 0x1b fun a b => decide (s64 b ≤ s64 a))

/-- BLTU: branch when ra < rb, unsigned (R393, R399). -/
def execBltu (sheaf seq : Nat) (s : State) : Res := .next (s.condBranch sheaf seq 0x1c fun a b => decide (a < b))

/-- BGEU: branch when ra ≥ rb, unsigned (R393, R399). -/
def execBgeu (sheaf seq : Nat) (s : State) : Res := .next (s.condBranch sheaf seq 0x1d fun a b => decide (b ≤ a))

/-- Target of a J-format jump (R399). -/
def jTarget (pc w : Nat) : Nat := addr64 (pc + 4) (4 * sgn (bits w 0 26) 26)

/-- J: jump (R399, R403). -/
def execJ (sheaf seq : Nat) (s : State) : Res :=
  .next (s.tiller sheaf seq (fun w => insn w == 0x401E) fun s t w => .branch s t (jTarget t.ctx.pc w) true)

/-- JAL: jump; g31 = offset of the jump + 8; closes no loop level (R391, R399, R403). -/
def execJal (sheaf seq : Nat) (s : State) : Res :=
  .next (s.tiller sheaf seq (fun w => insn w == 0x401F) fun s t w =>
    .branch s { t with ctx := t.ctx.setG 31 (t.ctx.pc + 8) } (jTarget t.ctx.pc w) false)

/-- JR: jump to ra; ALIGN where ra is no multiple of 4 (R399, R403). -/
def execJr (sheaf seq : Nat) (s : State) : Res :=
  .next (s.tiller sheaf seq (fun w => insn w == 0x2001) fun s t w =>
    let a := t.ctx.g (iRa w)
    if a % 4 != 0 then .exc 0x05 0 else .branch s t a true)

/-- JALR: jump to ra; rd = offset + 8; closes no loop level (R399, R403). -/
def execJalr (sheaf seq : Nat) (s : State) : Res :=
  .next (s.tiller sheaf seq (fun w => insn w == 0x2002) fun s t w =>
    let a := t.ctx.g (iRa w)
    if a % 4 != 0 then .exc 0x05 0
    else .branch s { t with ctx := t.ctx.setG (iRd w) (t.ctx.pc + 8) } a false)

/-- The special registers (Table 12-3), as MFS reads them. -/
def State.special (s : State) (t : Task) (n : Nat) : Option Nat :=
  let c := t.ctx
  if n == 0 then some c.pc
  else if n == 1 then some (b2n c.strm + 2 * c.depth)
  else if n == 2 then some c.epc
  else if n == 3 then some c.ecause
  else if n == 4 then some c.eflags
  else if n == 8 then some c.lc0
  else if n == 9 then some c.ls0
  else if n == 10 then some c.le0
  else if n == 12 then some c.lc1
  else if n == 13 then some c.ls1
  else if n == 14 then some c.le1
  else if n == 16 then some (time96 s.devTime % 2 ^ 64)
  else if n == 17 then some ((List.range 16).foldl (fun x g => if (s.opsOf t).any fun o => o.tag == g then x + 2 ^ g else x) 0)
  else none

/-- MFS: rd = special register rb; a number outside Table 12-3 raises ILLEGAL_OP (R391). -/
def execMfs (sheaf seq : Nat) (s : State) : Res :=
  .next (s.tiller sheaf seq (fun w => insn w == 0x2003) fun s t w =>
    match s.special t (iRb w) with
    | some v => result s t w v
    | none => .exc 0x01 0)

/-- MTS: special register rd = ra. Bits that Table 12-3 or 12-10 does not define stay zero; an lc of a level that is not active
is left alone; a register marked RO raises ILLEGAL_OP (R391). -/
def execMts (sheaf seq : Nat) (s : State) : Res :=
  .next (s.tiller sheaf seq (fun w => insn w == 0x2004) fun s t w =>
    let c := t.ctx
    let v := c.g (iRa w)
    let n := iRd w
    if n == 2 then .next s { t with ctx := { c with epc := v } }
    else if n == 3 then .next s { t with ctx := { c with ecause := v % 2 ^ 16 } }
    else if n == 4 then .next s { t with ctx := { c with eflags := v % 2 ^ 5 } }
    else if n == 8 then .next s { t with ctx := if c.depth == 0 then c else { c with lc0 := v % 2 ^ 32 } }
    else if n == 12 then .next s { t with ctx := if c.depth == 2 then { c with lc1 := v % 2 ^ 32 } else c }
    else .exc 0x01 0)

/-- ERET: continue at epc in mode PMODE and clear EXC; ILLEGAL_OP while EXC is 0 (R418, Table 12-9). -/
def execEret (sheaf seq : Nat) (s : State) : Res :=
  .next (s.tiller sheaf seq (fun w => insn w == 0x2005) fun s t _ =>
    let c := t.ctx
    if c.exc then .goto s { t with ctx := { c with pc := c.epc, strm := bit c.eflags 3, eflags := clrBit c.eflags 4 } }
    else .exc 0x01 0)

/-- END: a hook returns its verdict to the base program, which goes to its own end; a task program waits for its last commit
(R390, R398). A verdict other than 0 and 1 is a hook failure (R385). -/
def execEndTask (sheaf seq : Nat) (s : State) : Res :=
  .next (s.tiller sheaf seq (fun w => insn w == 0x2006) fun s t _ =>
    match t.base with
    | some c =>
      let v := t.ctx.g 1
      if v ≤ 1 then .gone (s.atEnd { t.retire with ctx := c, base := none, verdict := v }) else .gone (s.hookFail t)
    | none => s.toCommit t true)

/-- CMT: wait for the stream operations and for the commit instant (R398). -/
def execCmt (sheaf seq : Nat) (s : State) : Res :=
  .next (s.tiller sheaf seq (fun w => insn w == 0x2007) fun s t _ => s.toCommit t false)

/-- TRAP: raise TRAP with the rb code (R413). A word that holds no instruction of Table 12-5 is executed here too: it raises
ILLEGAL_OP (R392). -/
def execTrap (sheaf seq : Nat) (s : State) : Res :=
  .next (s.tiller sheaf seq (fun w => insn w == 0x2008 || !(insnKnown w)) fun _ _ w => .exc 0x07 (iRb w))

/-- LOOP: open a loop level over the next IMM instructions, or skip them where the count is 0 (R401). -/
def execLoop (sheaf seq : Nat) (s : State) : Res :=
  .next (s.tiller sheaf seq (fun w => insn w == 0x4021) fun s t w =>
    let c := t.ctx
    let n := c.g (iRa w) % 2 ^ 32
    let ls := c.pc + 4
    let le := c.pc + 4 * iImm w
    if c.depth == 2 || (c.depth == 1 && decide (c.le0 ≤ le)) then .exc 0x02 4
    else if n == 0 then .goto s { t with ctx := { c with pc := le + 4 } }
    else if c.depth == 0 then .next s { t with ctx := { c with depth := 1, lc0 := n, ls0 := ls, le0 := le } }
    else .next s { t with ctx := { c with depth := 2, lc1 := n, ls1 := ls, le1 := le } })

/-- MODE: change the mode after a shadow of two instructions (R405). -/
def execMode (sheaf seq : Nat) (s : State) : Res :=
  .next (s.tiller sheaf seq (fun w => insn w == 0x4022) fun s t w =>
    let c := t.ctx
    .next s { t with ctx := { c with shadow := some { left := 3, at_ := c.pc, new := bit w 0, regs := c.regs, win := t.win } } })

/-- DBELL: held doorbell (R397, R253). -/
def execDbell (sheaf seq : Nat) (s : State) : Res :=
  .next (s.tiller sheaf seq (fun w => insn w == 0x4023) fun s t w => s.hold_ t (.doorbell (t.ctx.g (iRa w) % 2 ^ 32)) 4)

/-- PGW: held register write of four or eight bytes (R397). -/
def execPgw (sheaf seq : Nat) (s : State) : Res :=
  .next (s.tiller sheaf seq (fun w => insn w == 0x4024) fun s t w =>
    let n := if bit w 0 then 8 else 4
    s.hold_ t (.page (t.ctx.g (iRa w)) n (t.ctx.g (iRb w) % 256 ^ n)) n)

/-- SDMA: hand the 64 bytes at window offset ra to DMA channel rc as a stream descriptor (R408). -/
def execSdma (sheaf seq : Nat) (s : State) : Res :=
  .next (s.tiller sheaf seq (fun w => insn w == 0x4030) fun s t w =>
    let off := t.ctx.g (iRa w)
    let c := t.ctx.g (iRd w) % 512
    if !(t.winOk off 64 64 false) then .exc 0x04 0
    else s.bump.issueDma t c (bits w 0 4)
      { kind := 0, tag := bits w 0 4, off := off, len := 64, chan := c, bytes := s.winLoad t off 64 })

/-- SGET and SPUT: a stream operation between the window and the instance's address space (R408). -/
def State.getPut (s : State) (sheaf seq op kind : Nat) : State :=
  s.tiller sheaf seq (fun w => insn w == 0x4000 + op) fun s t w =>
    let off := t.ctx.g (iRb w)
    let n := t.ctx.g (iRd w) % 2 ^ 12
    if n == 0 || decide (2048 < n) || !(t.winOk off n 1 (kind == 1)) then .exc 0x04 0
    else s.bump.issue t { kind := kind, tag := bits w 0 4, addr := t.ctx.g (iRa w), off := off, len := n, bytes := s.winLoad t off n }

/-- SGET: stream read into the window (R408). -/
def execSget (sheaf seq : Nat) (s : State) : Res := .next (s.getPut sheaf seq 0x31 1)

/-- SPUT: stream write from the window (R408). -/
def execSput (sheaf seq : Nat) (s : State) : Res := .next (s.getPut sheaf seq 0x32 2)

/-- SWAIT: wait for a tag; rc = the earliest kept status of the tag, or OK, and the tag's kept statuses are cleared (R410,
R411). -/
def execSwait (sheaf seq : Nat) (s : State) : Res :=
  .next (s.tiller sheaf seq (fun w => insn w == 0x4033) fun s t w =>
    let g := bits w 0 4
    s.awaitOps t (fun o => o.tag == g)
      (.next s { t with kept := t.kept.filter fun k => k.1 != g, ctx := t.ctx.setG (iRd w) (keptStatus t.kept g) }))

/-- STREAM_OP_END: the earliest outstanding SGET or SPUT of a tag moves its data and ends, or parks at a cursor on a fault
(R408, R409, R411); its record is held until its task has left its tiller place (R441). -/
def execStreamOpEnd (sheaf seq tag : Nat) (s : State) : Res :=
  match s.taskOf sheaf seq with
  | none => .next s
  | some t =>
    match (s.opsOf t).find? fun o => o.tag == tag && o.kind != 0 && o.phase == 0 with
    | none => .next s
    | some o =>
      let (s', t', o', e) := s.opMove o t (cdiv o.len 64 + 1)
      let s' := (s'.setTask t').setOp o'
      let s' := s'.count (bankSheaf sheaf) 0x54 0 (some t.inst) (64 * (o'.units - o.units))
      match e with
      | none => .next ((s'.opEnd o.id 0).bump)
      | some x =>
        if x.reason == 0 then .next s'
        else
          let r := s'.faultWait (sheaf / 32) t.inst 0x0A x false sheaf (seq % 2 ^ 28 + tag * 2 ^ 28) o.id true
          .next (r.2.setOp { o' with phase := 2, fid := r.1 })

end Sys2Proof.Machine
end

