-- ==== Sys2Proof/Machine/TaskCmds.lean ====
section
/-! DEFINITION. The commands and events of the sheaves, but for the commit instant (chapter 11). -/
namespace Sys2Proof.Machine

/-- The places of sheaf `h` that are in service and not taken (R371). -/
def State.freePlaces (s : State) (h : Nat) : Nat :=
  s.places h - ((s.tasksOn h).filter fun t => t.phase == 1).length

/-- Take a free place, or preempt for the ready task that ranks first of those that may (R371, R375, R376). -/
def State.dispatchOne (s : State) (h : Nat) : State :=
  if s.freePlaces h != 0 then
    match s.chooseTask h with
    | none => s
    | some (t, none) => s.dispatch t
    | some (t, some (key, i, w)) => (s.wrrServe key i w).dispatch t
  else
    match s.firstTask ((s.dispatchable h).filter fun t => (s.preemptFor t).isSome) with
    | some t => ((s.preemptFor t).getD s).dispatch t
    | none => s

/-- A task that stayed stalled on its place for want of a context takes the one that became free (R377). -/
def State.unstall (s : State) (h : Nat) : State :=
  match (s.tasksOn h).find? fun t => t.phase == 1 && t.fid != 0 with
  | some t => s.suspend t t.fid
  | none => s

/-- TASK_DISPATCH: the dispatcher fills one tiller place of sheaf `h` (R371, R375). -/
def execTaskDispatch (sheaf : Nat) (s : State) : Res :=
  .next (if s.ready 0x11 sheaf && s.tillersRun then (s.unstall sheaf).dispatchOne sheaf else s)

/-- TASK_DEADLINE_MISS: uncommitted tasks whose deadline has passed are counted, once each (R370). -/
def execTaskDeadlineMiss (sheaf : Nat) (s : State) : Res :=
  .next (if s.ready 0x11 sheaf then (s.deadlines sheaf).tskShow sheaf else s)

/-- SHF_LOAD_CMD.LOAD: a program load starts (R386). A length outside 1 to 1,024 and an instance above 64 are reserved
encodings (R41). A write while a load runs is dropped. -/
def State.shfLoad (s : State) (sheaf inst slot len : Nat) : State :=
  if len == 0 || 1024 < len || 64 < inst then s.errOn PAGE_ERR_RESERVED_ENC 0x11 sheaf
  else if (PMap.find s.loads sheaf).isSome then s
  else ({ s with loads := PMap.put s.loads sheaf (slot % 32, inst, len) }).setF SHF_LOAD_STAT_RUNNING sheaf 0 1

/-- SHF_LOAD_CMD_LOAD: the register write by function `fn` (R386). -/
def execShfLoadCmdLoad (fn sheaf inst slot len : Nat) (s : State) : Res :=
  .next (s.act fn 0x11 sheaf false fun s => s.shfLoad sheaf inst slot len)

/-- A slot is used by a VALID hook or an unfinished task (R386). -/
def State.slotBusy (s : State) (h slot : Nat) : Bool :=
  ((List.range 4).any fun k => s.b SHF_HOOK_VALID h k && s.f SHF_HOOK_SLOT h k == slot) ||
  (s.tasksOn h).any fun t => (t.src == 5 || t.base.isSome) && t.prog == slot

/-- PROGRAM_LOAD_DONE: the load in progress on a sheaf ends with its RESULT (R386); it goes on while a translation must be waited for. -/
def execProgramLoadDone (sheaf : Nat) (s₀ : State) : Res :=
  .next <| match PMap.find s₀.loads sheaf with
  | none => s₀
  | some (slot, inst, len) =>
    let s := s₀
    let s := ({ s with loads := PMap.del s.loads sheaf }).setF SHF_LOAD_STAT_RUNNING sheaf 0 0
    let k := sheaf * 32 + slot
    let res (s : State) (v : Nat) : State := s.setF SHF_LOAD_STAT_RESULT sheaf 0 v
    let valid := s.f SHF_LOAD_STAT_SLOT_VALID sheaf
    if slot < 16 then res s 0x21
    else if s.slotBusy sheaf slot then res s 0x24
    else match s.readV 0 (s.f SHF_LOAD_ADDR_ADDR sheaf) (64 * len) with
      | .error e =>
        if e.reason == 0 then s₀ else
        res (({ s.useUp 0 e with progs := PMap.put s.progs k { inst := inst, image := [] } }).setF SHF_LOAD_STAT_SLOT_VALID sheaf 0 (clrBit valid (slot - 16))) 0x20
      | .ok bs =>
        res (({ s with progs := PMap.put s.progs k { inst := inst, image := bs } }).setF SHF_LOAD_STAT_SLOT_VALID sheaf 0
          (setBit valid (slot - 16))) 0

end Sys2Proof.Machine
end

