-- ==== Sys2Proof/Machine/DmaCmds.lean ====
section
/-! DEFINITION. The commands and events of the DMA channels (chapter 8). -/
namespace Sys2Proof.Machine

/-- End every stream descriptor that waits in the queue of channel `c` as SQUASHED (R276). -/
def State.dmaSquashWaiting (s : State) (c : Nat) : State :=
  let sq := (s.dma c).sq
  sq.foldl (fun s id => s.opEnd id 0x23) (s.setDma c { s.dma c with sq := [] })

/-- ENABLE changes from 0 to 1 (R277). -/
def State.dmaOn (s : State) (c : Nat) : State :=
  let s := ((s.setF DMA_CTL_ENABLE c 0 1).setF DMA_RING_IDX_NEXT c 0 0).setDma c { s.dma c with off := false }
  if s.f DMA_STAT_STATE c == 0 then (s.dmaState c 1).dmaBoundary c else s

/-- ENABLE changes from 1 to 0 (R276, R293): at the boundary for a running descriptor, at once otherwise. -/
def State.dmaOff (s : State) (c : Nat) : State :=
  let s := (s.setF DMA_CTL_ENABLE c 0 0).dmaSquashWaiting c
  let st := s.f DMA_STAT_STATE c
  if st == 6 then s.dmaEndParked c 0x23
  else if st == 2 then s.setDma c { s.dma c with off := true }
  else s.dmaBoundary c

/-- A write of DMA_CTL (Table 08-12). -/
def State.dmaCtlWrite (s : State) (fn c v : Nat) : State :=
  if s.encOk 0x50 c 0x40 4 v then
    let was := s.b DMA_CTL_ENABLE c
    let s := s.writePage fn 0x50 c 0x40 4 v
    if !was && bit v 31 then s.dmaOn c else if was && !(bit v 31) then s.dmaOff c else s
  else s.errOn PAGE_ERR_RESERVED_ENC 0x50 c

/-- KICK (R279, R286). -/
def State.dmaKick (s : State) (c : Nat) : State :=
  let s := s.setDma c { s.dma c with paceKick := false }
  let st := s.f DMA_STAT_STATE c
  if st == 3 then s.dmaExamine c else if st == 4 then s.dmaBoundary c else s

/-- STOP (R289): at a boundary the channel stops at once. -/
def State.dmaStop (s : State) (c : Nat) : State :=
  let s := s.setF DMA_STAT_STOP_PENDING c 0 1
  let st := s.f DMA_STAT_STATE c
  if st == 1 || st == 3 || st == 4 then s.dmaBoundary c else s

/-- GO (R289). -/
def State.dmaGo (s : State) (c : Nat) : State :=
  let s := s.setF DMA_STAT_STOP_PENDING c 0 0
  if s.f DMA_STAT_STATE c == 5 then s.dmaBoundary c else s

/-- DISCARD_PARKED (R292). -/
def State.dmaDiscard (s : State) (c : Nat) : State :=
  if s.f DMA_STAT_STATE c == 6 then s.dmaEndParked c 0x20 else s

/-- POLL_US has passed since the last read (R279). -/
def State.dmaPollDue (s : State) (c : Nat) : Bool :=
  s.f DMA_CTL_POLL_US c != 0 && decide ((s.dma c).polled + us (s.f DMA_CTL_POLL_US c) ≤ s.now)

/-- DMA_ENABLE: a write of DMA_CTL with ENABLE 1 (R277). -/
def execDmaEnable (fn chan ctl : Nat) (s : State) : Res :=
  .next (s.act fn 0x50 chan false fun s => s.dmaCtlWrite fn chan (setBit ctl 31))

/-- DMA_DISABLE: a write of DMA_CTL with ENABLE 0 (R293). -/
def execDmaDisable (fn chan ctl : Nat) (s : State) : Res :=
  .next (s.act fn 0x50 chan false fun s => s.dmaCtlWrite fn chan (clrBit ctl 31))

/-- DMA_CMD_KICK (R279). -/
def execDmaCmdKick (fn chan : Nat) (s : State) : Res := .next (s.act fn 0x50 chan false fun s => s.dmaKick chan)

/-- DMA_CMD_STOP (R289). -/
def execDmaCmdStop (fn chan : Nat) (s : State) : Res := .next (s.act fn 0x50 chan false fun s => s.dmaStop chan)

/-- DMA_CMD_GO (R289). -/
def execDmaCmdGo (fn chan : Nat) (s : State) : Res := .next (s.act fn 0x50 chan false fun s => s.dmaGo chan)

/-- DMA_CMD_DISCARD_PARKED (R292). -/
def execDmaCmdDiscardParked (fn chan : Nat) (s : State) : Res :=
  .next (s.act fn 0x50 chan false fun s => s.dmaDiscard chan)

/-- DMA_POLL: POLL_US has passed (R279, Table 08-7). -/
def execDmaPoll (chan : Nat) (s : State) : Res :=
  .next <| if !(s.dmaPollDue chan) then s
  else if s.f DMA_STAT_STATE chan == 3 then s.dmaExamine chan
  else if s.f DMA_STAT_STATE chan == 4 && s.f DMA_PACE_CTL_KIND chan == 1 then
    (s.setDma chan { s.dma chan with polled := s.now }).dmaBoundary chan
  else s

/-- DMA_RING_READ: an idle RING channel examines slot NEXT (R279). -/
def execDmaRingRead (chan : Nat) (s : State) : Res :=
  .next <| if s.f DMA_STAT_STATE chan == 1 && s.b DMA_CTL_ENABLE chan && s.f DMA_CTL_SRC chan == 0 then s.dmaExamine chan
  else s

/-- DMA_DESCRIPTOR_END: the descriptor in progress ends, or parks on a fault (R273, R290). -/
def execDmaDescriptorEnd (chan : Nat) (s : State) : Res :=
  .next (if s.f DMA_STAT_STATE chan == 2 then s.dmaRun chan else s)

end Sys2Proof.Machine
end

