-- ==== Sys2Proof/Machine/IrqCmds.lean ====
section
/-! DEFINITION. The commands and events of the interrupt controller (chapter 15). -/
namespace Sys2Proof.Machine

/-- Function `fn` reaches target `t`'s registers: the manager every target, an instance its own (Table 02-5). -/
def reachesTarget (fn t : Nat) : Bool := fn == 0 && 64 ≤ t && t ≤ 196 || t == 64 + fn || t == 129 + fn

/-- Target `t` is one of function `fn`'s own (R485). -/
def ownTarget (fn t : Nat) : Bool := t == 64 + fn || t == 129 + fn || fn == 0 && 194 ≤ t

/-- The source that a CLAIM of target `t` takes (R484): the highest PRIO, then the highest number. -/
def State.claimable (s : State) (t : Nat) : Option Nat :=
  (s.irq.foldl (fun (m : Option (Nat × Nat)) e =>
    if s.offers t e.1 e.2 then
      match m with
      | some (_, p) => if p ≤ e.2.prio then some (e.1, e.2.prio) else m
      | none => some (e.1, e.2.prio)
    else m) none).map (·.1)

/-- CLAIM takes source `k` for target `t` and starts the hold-off of its group (R480, R484, R486). -/
def State.claim (s : State) (t k : Nat) : State :=
  let s := s.setSrc k { s.src k with pend := false, insvc := true, svc := t }
  let hold := s.f IRQ_HOLDOFF_HOLD (k / 128) (k / 32 % 4)
  let s := if hold == 0 then s else { s with hold := PMap.put s.hold (k / 32) (s.now + ns (64 * hold)) }
  s.irqEval

/-- IRQ_CLAIM: a read of IRQ_CLAIM; `rdata` returns the answer (R484). -/
def execIrqClaim (fn target size : Nat) (s : State) : Res :=
  .next <|
    if !(s.serves 0x05) then { s with rdata := 0 }
    else if !(reachesTarget fn target) || s.resetting fn then { (s.refuse fn).refuseLater fn 1 0 with rdata := 0 }
    else if s.fastOff 0x05 target then { s with rdata := 0 }
    else if size != 4 then { s with rdata := 0 }
    else match s.claimable target with
      | none => { s with rdata := 0 }
      | some k => { s.claim target k with rdata := 2 ^ 31 + k }

/-- A write of IRQ_COMPLETE at target `target` (R485, R480). -/
def State.irqComplete (s : State) (fn target source : Nat) : State :=
  let k := source % 2 ^ 13
  let v := s.src k
  if v.insvc && ownTarget fn v.svc then
    State.irqDone ((s.setSrc k { v with insvc := false }).relevel k) k
  else s.setF (tgtFld IRQ_TSTAT_COMPLETE_ERR) (tgtUnit target) (tgtIdx target) 1

/-- IRQ_COMPLETE: a write of IRQ_COMPLETE by function `fn`. -/
def execIrqComplete (fn target source : Nat) (s : State) : Res :=
  .next <|
    if !(s.serves 0x05) then s
    else if !(reachesTarget fn target) || s.resetting fn then s.refuse fn
    else if s.fastOff 0x05 target then s
    else s.irqComplete fn target source

/-- SOURCE_SIGNAL: a pulse that an origin has raised reaches its source, or a page error level has changed (R479). A pulse of
an origin that is bound to no source is lost. -/
def execSourceSignal (kind unit : Nat) (s : State) : Res :=
  .next <|
    if kind == 1 then
      match s.srcOf 1 unit with
      | some k => State.irqDone (s.levelInput k) k
      | none => s
    else if s.events.any fun e => e.kind == kind && e.unit == unit then
      let s := { s with events := dropEv kind unit s.events }
      match s.srcOf kind unit with
      | some k => State.irqDone (s.pulseSrc k) k
      | none => s
    else s

/-- HOLDOFF_EXPIRY: the hold-off of group `group` (source number / 32) ends (R486). -/
def execHoldoffExpiry (group : Nat) (s : State) : Res :=
  .next <| match PMap.find s.hold group with
  | some t => if t ≤ s.now then ({ s with hold := PMap.del s.hold group }).irqEval else s
  | none => s

/-- STORM_WINDOW_END: assertions of a page's sources count from zero in the window that device time is now in (R487). -/
def execStormWindowEnd (page : Nat) (s : State) : Res :=
  let w := s.stormWin page
  .next <| s.each 128 fun s j =>
    let v := s.src (128 * page + j)
    if v.asserts != 0 && v.win != w then s.setSrc (128 * page + j) { v with asserts := 0, win := w } else s

/-- The bits of a 32-bit word write that name sources of another instance are left alone; a 1 among them counts one refusal
(R490). -/
def State.foreignBits (s : State) (fn k0 value : Nat) : Bool :=
  fn != 0 && (List.range 32).any fun b => bit value b && (s.src (k0 + b)).inst != fn

/-- A write of IRQ_PEND (R480, R488, Table 15-2). -/
def State.pendWrite (s : State) (fn page word value : Nat) : State :=
  let k0 := 128 * page + 32 * word
  let s := if s.foreignBits fn k0 value then s.refuse fn else s
  (s.each 32 fun s b =>
    let k := k0 + b
    let v := s.src k
    if fn != 0 && v.inst != fn then s
    else if bit value b then s.setSrc k { v with pend := true }
    else if v.pend then
      let r := (s.setSrc k { v with pend := false }).relevel k
      if r.2 then r.1.glnKind 1 k k else r.1
    else s).irqEval

/-- IRQ_PEND_WRITE (R488). -/
def execIrqPendWrite (fn page word value : Nat) (s : State) : Res :=
  .next (if page < 64 && word < 4 then s.act fn 0x05 page false fun s => s.pendWrite fn page word value else s)

/-- A write of IRQ_EN (R489, R491): zeros first, then the new ones in rising source number, up to INST_IRQ.SOURCES of each
instance. -/
def State.enWrite (s : State) (fn page word value : Nat) : State :=
  let k0 := 128 * page + 32 * word
  let s := if s.foreignBits fn k0 value then s.refuse fn else s
  let mine (s : State) (k : Nat) : Bool := fn == 0 || (s.src k).inst == fn
  let s := s.each 32 fun s b =>
    if mine s (k0 + b) && !(bit value b) then s.setSrc (k0 + b) { s.src (k0 + b) with en := false } else s
  let r := (List.range 32).foldl (fun (acc : State × Bool) b =>
    let s := acc.1
    let k := k0 + b
    let v := s.src k
    if !(mine s k) || !(bit value b) || v.en then acc
    else if s.enCount v.inst < s.f INST_IRQ_SOURCES v.inst then (s.setSrc k { v with en := true }, acc.2)
    else (s, true)) (s, false)
  (if r.2 then r.1.refuse fn else r.1).irqEval

/-- IRQ_EN_WRITE (R489). -/
def execIrqEnWrite (fn page word value : Nat) (s : State) : Res :=
  .next (if page < 64 && word < 4 then s.act fn 0x05 page false fun s => s.enWrite fn page word value else s)

/-- The source `k` with the low word (part 0), the high word (part 1) or both (part 2) of IRQ_SRC_CFG written. -/
def srcWritten (v : IrqSrc) (part value : Nat) : IrqSrc :=
  let v := if part == 1 then v else
    { v with sense := bits value 30 2, tgt := bits value 28 2, inst := bits value 20 7, kind := bits value 16 4,
             unit := bits value 0 16 }
  let hi := if part == 2 then value / 2 ^ 32 else value
  if part == 0 then v else { v with prio := bits hi 0 4 }

/-- A binding of source `k` that R478 drops. -/
def State.bindBad (s : State) (k : Nat) (v : IrqSrc) : Bool :=
  (v.kind != 0 && s.irq.any fun e => e.1 != k && e.2.kind == v.kind && e.2.unit == v.unit) ||
  (v.kind != 0 && !(s.originGranted v.inst v.kind v.unit)) || (v.tgt != 0 && v.inst != 0)

/-- A write of IRQ_SRC_CFG (R478, R490): an instance writes SENSE and PRIO of its own sources only. A source bound anew takes
the level its origin then has without an edge. -/
def State.srcCfgWrite (s : State) (fn k part value : Nat) : State :=
  let v := s.src k
  let new := srcWritten v part value
  if fn != 0 && v.inst != fn then (if value == 0 then s else s.refuse fn)
  else
    let s := if fn != 0 && part != 1 then s.refuse fn else s
    let new := if fn == 0 then new else { v with sense := new.sense, prio := new.prio }
    if 0xB < new.kind || 64 < new.inst then s.errOn PAGE_ERR_RESERVED_ENC 0x05 (k / 128)
    else if s.bindBad k new then s.err IRQ_ERR_BIND_BAD (k / 128)
    else
      let moved := new.kind != v.kind || new.unit != v.unit
      let s := s.setSrc k (if moved then { new with sig := s.signal new } else new)
      let r := if new.sense == 0 && s.signal new then s.levelSrc k else (s, false)
      State.irqDone r k

/-- IRQ_SRC_CFG_WRITE: `part` 0 is the low word, 1 the high word, 2 both (R478). -/
def execIrqSrcCfgWrite (fn source part value : Nat) (s : State) : Res :=
  .next (if source < 8192 && part < 3 then
    s.act fn 0x05 (source / 128) false fun s => s.srcCfgWrite fn source part value else s)

end Sys2Proof.Machine
end

