-- ==== Sys2Proof/Machine/ObsCmds.lean ====
section
/-! DEFINITION. The commands and events of the counters, the gatherer, the sampler and the Gleaner (chapter 18). -/
namespace Sys2Proof.Machine

/-- PMC_CNT_WRITE: a write of PMC_CNT replaces the count on arrival (R546). -/
def execPmcCntWrite (fn bank counter value : Nat) (s : State) : Res :=
  .next (if counter < 16 then s.act fn 0x07 bank false fun s => s.setF PMC_CNT_COUNT bank counter value else s)

/-- COUNTER_OVERFLOW: an enabled counter that stands at all ones takes one step more (R544). -/
def execCounterOverflow (bank counter : Nat) (s : State) : Res :=
  .next (if s.live 0x07 bank && counter < pmcCounters bank && s.b PMC_EVSEL_EN bank counter &&
      s.f PMC_CNT_COUNT bank counter == 2 ^ 48 - 1 then s.pmcWrap bank counter else s)

/-- The 128 bytes of bank `b` in a snapshot slot (Table 18-3). -/
def State.gatherBank (s : State) (b : Nat) : List (BitVec 8) :=
  (List.range 16).flatMap fun c =>
    if s.live 0x07 b && c < pmcCounters b then
      leBytes 8 (s.f PMC_CNT_COUNT b c + s.f PMC_EVSEL_EVENT b c * 2 ^ 48 + s.f PMC_EVSEL_EN b c * 2 ^ 58 +
        b2n (bit (s.f PMC_OVF_BITS b) c) * 2 ^ 59)
    else leBytes 8 0

/-- The banks that PMC_G_SET selects, in rising order; bank 0 is ignored. -/
def State.gatherSet (s : State) : List Nat :=
  (List.range 256).filter fun b => b != 0 && bit (s.f PMC_G_SET_BITS 0 (b / 64)) (b % 64)

/-- Take one snapshot (R548, R549): skipped while the last one is being written at 4 GB/s, abandoned at a fault; it is still to be taken while a
translation must be waited for. -/
def State.gather (s₀ : State) : State :=
  let s := s₀
  let s := { s with gatherNext := s.gatherNext + us (s.f PMC_G_CTL_PERIOD_US) }
  if s.now < s.gatherBusy then s.satF PMC_G_STAT_SKIPPED 0 0 1
  else
    let set := s.gatherSet
    let tag := s.f PMC_G_TAG_TAG + 1
    let bytes := leBytes 8 tag ++ leBytes 12 (time96 s.devTime) ++ leBytes 2 set.length ++ leBytes 2 0 ++
      leBytes 8 (s.f DEV_EPOCH_EPOCH) ++ leBytes 32 0 ++ set.flatMap s.gatherBank
    let slot := (tag - 1) % s.f PMC_G_RING_SLOTS
    match s.writeV 0 (s.f PMC_G_BASE_ADDR + slot * bytes.length) bytes with
    | .error e => if e.reason == 0 then s₀ else (s.useUp 0 e).setF PMC_G_STAT_FAULT 0 0 1
    | .ok s => ({ s with gatherBusy := s.now + ns (bytes.length / 4) }).setF PMC_G_TAG_TAG 0 0 tag

/-- GATHERER_SNAPSHOT: PERIOD_US has passed since the last snapshot fell due (R548). -/
def execGathererSnapshot (s : State) : Res :=
  .next (if s.domOn 48 && s.b PMC_G_CTL_EN && s.gatherNext ≤ s.now then s.gather else s)

/-- SAMPLE_COUNTDOWN: a sheaf's countdown stands at zero: the next instruction issued is to be tagged, unless four are, and a
new countdown is drawn (R550). -/
def execSampleCountdown (sheaf : Nat) (s : State) : Res :=
  .next <| if s.b PMC_S_CTL_EN && bit (s.f PMC_S_SHEAVES_BITS) sheaf && PMap.find s.sampleCnt sheaf == some 0 then
    let s := s.sampleDraw sheaf
    if 4 ≤ (s.tags.filter fun g => g.sheaf == sheaf).length then s.satF PMC_S_STAT_LOST 0 0 1
    else { s with tagNext := sheaf :: s.tagNext.filter fun h => h != sheaf }
  else s

/-- A trigger by software (R552, R560). -/
def State.glnSoft (s : State) (fn code arg : Nat) : State :=
  if fn != 0 && !(s.holdsGln fn code) then s.refuse fn
  else if 0xF0 ≤ code && code ≤ 0xF7 then s
  else s.glnTrigger code true 0 arg

/-- GLN_TRIG: a write of GLN_TRIG by function `fn` (R552, R560). -/
def execGlnTrig (fn code arg : Nat) (s : State) : Res :=
  .next (s.act fn 0x06 0 false fun s => s.glnSoft fn (code % 256) (arg % 2 ^ 56))

/-- GLEANER_TOKEN: PERIOD_US has passed since the code's last token (R553). -/
def execGleanerToken (code : Nat) (s : State) : Res :=
  let c := s.glnCode code
  .next (if c.period != 0 && c.tokenAt + us c.period ≤ s.now then
    s.setGln code { c with tokens := min (c.tokens + 1) c.burst, tokenAt := c.tokenAt + us c.period } else s)

/-- Bytes 0 to 127 of the slot of record `n` (R554, R556). -/
def State.glnSlot (s : State) (n : Nat) : Nat :=
  if s.b GLN_RING_VALID then
    devAt 0 (s.f GLN_RING_BASE * 2 ^ 21 + (n - 1) % 2 ^ s.f GLN_RING_SIZE_LOG2 * 128)
  else glnAt ((n - 1) % 2 ^ 19 * 128)

/-- Write the oldest record that is triggered and not yet written (R554, R559). -/
def State.glnWrite (s : State) : State :=
  match s.glnRecs with
  | [] => s
  | r :: rs =>
    let s := (s.store (s.glnSlot r.seq) (leBytes 8 (2 * r.seq + 1) ++ r.bytes)).setF GLN_SEQ_SEQ 0 0 r.seq
    let s := { s with glnRecs := rs }
    let ev := s.f GLN_CTL_EV_CNT
    let s := if (s.glnCode r.code).evEn then s.post 0xB 0 else s
    if ev != 0 && (r.seq + 2 ^ 63 - s.f GLN_RD_SEQ) % 2 ^ 63 == ev then s.post 0xB 0 else s

/-- GLEANER_RECORD_WRITE: the oldest record is written to the ring in use (R554). -/
def execGleanerRecordWrite (s : State) : Res := .next (if s.domOn 48 then s.glnWrite else s)

end Sys2Proof.Machine
end

