-- ==== Sys2Proof/Machine/Kpb.lean ====
section
/-! DEFINITION. KPB packets, CRCs, link rates, and the shared accessors of root ports (chapters 3, 4 and 6). -/
namespace Sys2Proof.Machine

/-! ### CRC-32C (R84) -/

/-- One bit of the reflected CRC-32C register. -/
def crcBit (c : Nat) : Nat := if c % 2 == 1 then (c / 2) ^^^ 0x82F63B78 else c / 2
/-- One byte. -/
def crcByte (c : Nat) (b : BitVec 8) : Nat :=
  crcBit (crcBit (crcBit (crcBit (crcBit (crcBit (crcBit (crcBit (c ^^^ b.toNat))))))))
/-- CRC-32C of a byte string (R84). -/
def crc32c (bs : List (BitVec 8)) : Nat := bs.foldl crcByte 0xFFFFFFFF ^^^ 0xFFFFFFFF

/-! ### Packet headers (Tables 03-3 to 03-5) -/

/-- The byte at place `n` of a header. -/
def hByte (h : List (BitVec 8)) (n : Nat) : Nat := (h.getD n 0).toNat
def hType (h : List (BitVec 8)) : Nat := hByte h 0
def hAddr (h : List (BitVec 8)) : Nat := hByte h 1
def hSel (h : List (BitVec 8)) : Nat := hByte h 2
def hEp (h : List (BitVec 8)) : Nat := hByte h 2 / 16
/-- DIR is IN (device to root). -/
def hIn (h : List (BitVec 8)) : Bool := bit (hByte h 2) 3
def hLvl (h : List (BitVec 8)) : Nat := hByte h 3 / 16
def hFlags (h : List (BitVec 8)) : Nat := hByte h 3 % 16
/-- SEQ of TOK, DAT and ACK, NEXT of BUR. -/
def hSeq (h : List (BitVec 8)) : Nat := leAt h 4 2 % 1024
/-- LEN of DAT. -/
def hLen (h : List (BitVec 8)) : Nat := leAt h 6 2 % 2 ^ 15
/-- CREDIT of BUR and TOK. -/
def hCredit (h : List (BitVec 8)) : Nat := hByte h 6 % 64
/-- ARG0 of LNK, REASON of NAK. -/
def hArg (h : List (BitVec 8)) : Nat := hByte h 4
/-- The last four bytes of the body: MAXLEN, FRAME, NONCE. -/
def hTail (h : List (BitVec 8)) : Nat := leAt h 8 4

/-- A header with its HCRC (R83, R84). -/
def mkHdr (ty addr sel lvl flags : Nat) (body : List (BitVec 8)) : List (BitVec 8) :=
  let h := leBytes 1 ty ++ leBytes 1 addr ++ leBytes 1 sel ++ leBytes 1 (flags % 16 + 16 * lvl) ++ (body ++ leBytes 8 0).take 8
  h ++ leBytes 4 (crc32c h)

/-- The header arrived whole (R78, R85): no errored marker block, which one whose first byte Table 03-2 reserves is as well, and HCRC
matches. -/
def pktOk (p : Pkt) : Bool :=
  !p.errored && p.hdr.length == 16 && decide (0x10 ≤ hType p.hdr) && decide (hType p.hdr ≤ 0x7F) &&
  leAt p.hdr 12 4 == crc32c (p.hdr.take 12)
/-- The data CRC matches (R84). -/
def pktDataOk (p : Pkt) : Bool := p.dcrc == crc32c p.data
/-- TYPE values of Table 03-3. -/
def typeKnown (t : Nat) : Bool := [0x10, 0x20, 0x21, 0x22, 0x30, 0x40, 0x41, 0x42, 0x43, 0x50, 0x60, 0x70].contains t

/-- What follows the payload of a DAT: the data CRC and zero bytes up to a whole block (R83, R84). -/
def datTail (data : List (BitVec 8)) (crc : Nat := crc32c data) : List (BitVec 8) :=
  leBytes 4 crc ++ leBytes ((16 - (data.length + 4) % 16) % 16) 0
/-- Payload blocks of a packet (R83). -/
def payBlocks (hdr data : List (BitVec 8)) : Nat := if hType hdr == 0x30 then cdiv (data.length + 4) 16 else 0
/-- The block that a transmitter sends while it has nothing to send (R82, Table 03-2). -/
def idlBlock : List (BitVec 8) := leBytes 1 0xF0 ++ leBytes 15 0

/-- SEL of an endpoint and direction. -/
def selOf (ep : Nat) (dirIn : Bool) : Nat := 16 * ep + 8 * b2n dirIn

/-! ### Rates (R72, R210) -/

/-- Line rate of one lane in Gbit/s. -/
def laneRate (code : Nat) : Nat := 28 * 2 ^ (min code 2)
/-- Block time of a link at a rate code and width code, in 1/65,536 ns, rounded up (R210). -/
def blockTime (rate width : Nat) : Nat := cdiv (130 * 254 * 65536) (240 * laneRate rate * krpLanes width)
/-- Payload blocks that a link carries in 100 µs (R108). -/
def blocksPer100 (rate width : Nat) : Nat := laneRate rate * krpLanes width * 100000 * 240 / (130 * 254)
/-- Blocks of a DAT with `len` bytes (R83). -/
def datBlocks (len : Nat) : Nat := 1 + cdiv (len + 4) 16

/-! ### Accessors -/

def State.link (s : State) (n : Nat) : Link := PMap.get s.links n {}
def State.setLink (s : State) (n : Nat) (l : Link) : State := { s with links := PMap.put s.links n l }
def State.sq (s : State) (n : Nat) : SeqSt := PMap.get s.seqs n {}
def State.setSq (s : State) (n : Nat) (q : SeqSt) : State := { s with seqs := PMap.put s.seqs n q }
def State.tree (s : State) (n : Nat) : Tree := PMap.get s.trees n {}
def State.setTree (s : State) (n : Nat) (t : Tree) : State := { s with trees := PMap.put s.trees n t }
def State.lstate (s : State) (n : Nat) : Nat := s.f KRP_STAT_LSTATE n

/-- The link carries packets: FULL, SHED or STEPPED, and no port reset holds it idle. -/
def State.carries (s : State) (n : Nat) : Bool := 4 ≤ s.lstate n && s.lstate n ≤ 6 && (s.link n).idleEnd.isNone

/-- The root port faces upstream: lane 0 of a quad in hub role (R153). -/
def State.hubRole (s : State) (n : Nat) : Bool := n % 4 == 0 && s.b SRDS_CTL_HUB_ROLE (n / 4) && s.quadMode (n / 4) == 1

/-- RATE_MAX, WIDTH_MAX and LVL_MAX in effect (R117): what is committed, while the link is in DISABLED or DETECT; what was at the last entry
to CONFIG, or when DETECT was left, beyond. -/
def State.offered (s : State) (n : Nat) : Nat × Nat × Nat :=
  if s.lstate n ≤ 1 then (s.f KRP_CTL_RATE_MAX n, s.f KRP_CTL_WIDTH_MAX n, s.f KRP_CTL_LVL_MAX n) else (s.link n).off

/-- The parts of the last 5 µs in which payload blocks ran (R110): what is older goes. -/
def State.recentBlk (s : State) (n : Nat) : List (Nat × Nat × Nat) := (s.link n).recent.filter fun e => decide (s.now < e.2.2 + us 5)

/-- Payload blocks ran on the link until elapsed time `till`: dir 0 sent, 1 received. -/
def State.ran (s : State) (n dir blocks till : Nat) : State :=
  if blocks == 0 then s
  else
    let d := blocks * blockTime (s.f KRP_STAT_RATE n) (s.f KRP_STAT_WIDTH n)
    s.setLink n { s.link n with recent := (dir, till - d, till) :: s.recentBlk n }

/-- Place a packet on the wire of root port `n`, not before elapsed time `at_` and behind what is there: its first block goes to the lane
after the one that carried the block before it (R79, R83). Its payload blocks count for the utilisation (R108). -/
def State.wire (s : State) (n at_ : Nat) (hdr data : List (BitVec 8)) (crc : Nat := crc32c data) : State :=
  let l := s.link n
  let w := krpLanes (s.f KRP_STAT_WIDTH n)
  let pay := payBlocks hdr data
  let from_ := max at_ l.txEnd
  let till := from_ + (1 + pay) * blockTime (s.f KRP_STAT_RATE n) (s.f KRP_STAT_WIDTH n)
  let tail := if hType hdr == 0x30 then datTail data crc else []
  let onWire := (l.onWire.filter fun p => decide (s.now < p.till)) ++ [{ hdr := hdr, data := data, tail := tail, from_ := from_, till := till }]
  let s := (s.setLink n { l with txBlk := l.txBlk + pay, txLane := (l.txLane + 1 + pay) % w, txEnd := till, onWire := onWire }).ran n 0 pay till
  let s := if pay == 0 then s else s.count (bankQuad n) 0xC1 (n % 4) (some (s.krpOwner n)) pay
  s.emit (.packet n (n + l.txLane % w) hdr data tail)

/-- A slice fails: the packet that root port `n` has on the wire is ended as errored (R503). -/
def State.wireCut (s : State) (n : Nat) : State :=
  if (s.link n).onWire.any fun p => decide (p.from_ ≤ s.now) && decide (s.now < p.till) then s.emit (.errored false n) else s

/-- The spare slice sends the packet that was cut at `cut` again from its first block, ahead of what follows it; what was placed behind it
leaves by as much later (R503). -/
def State.wireAgain (s : State) (n cut : Nat) : State :=
  match (s.link n).onWire.find? fun p => decide (p.from_ ≤ cut) && decide (cut < p.till) with
  | none => s
  | some p =>
    let l := s.link n
    let late := s.now - p.from_
    let later := (l.onWire.filter fun x => decide (p.from_ ≤ x.from_)).map fun x => { x with from_ := x.from_ + late, till := x.till + late }
    let w := krpLanes (s.f KRP_STAT_WIDTH n)
    (s.setLink n { l with onWire := later, txEnd := l.txEnd + late, txLane := (l.txLane + 1 + payBlocks p.hdr p.data) % w }).emit
      (.packet n (n + l.txLane % w) p.hdr p.data p.tail)

/-- Elapsed time from which the wire of root port `n` is free. -/
def State.wireFree (s : State) (n : Nat) : Nat := max s.now (s.link n).txEnd

/-- What root port `n` sends while it has no packet to send (R82). -/
def State.idleBlock (s : State) (n : Nat) : Option (List (BitVec 8)) :=
  if s.carries n && decide ((s.link n).txEnd ≤ s.now) then some idlBlock else none

/-- Send a packet on root port `n` at the link's level (R83). -/
def State.send (s : State) (n ty addr sel flags : Nat) (body : List (BitVec 8)) (data : List (BitVec 8) := []) : State :=
  s.wire n s.now (mkHdr ty addr sel (s.f KRP_STAT_LVL n) flags body) data

/-- A LNK packet (Table 03-7). -/
def State.sendLnk (s : State) (n op arg nonce : Nat) : State :=
  s.send n 0x60 0 op 0 (leBytes 1 arg ++ leBytes 3 0 ++ leBytes 4 nonce)

/-- A token (Table 03-5): TYPE 0x20 IN, 0x21 OUT, 0x22 SETUP. -/
def State.sendTok (s : State) (n ty addr ep : Nat) (dirIn : Bool) (kind seq credit maxlen : Nat) : State :=
  s.send n ty addr (selOf ep dirIn) kind (leBytes 2 seq ++ leBytes 1 credit ++ leBytes 1 0 ++ leBytes 4 maxlen)

/-- A DAT. -/
def State.sendDat (s : State) (n addr ep flags seq frame : Nat) (data : List (BitVec 8)) (dirIn : Bool := false) : State :=
  s.send n 0x30 addr (selOf ep dirIn) flags (leBytes 2 seq ++ leBytes 2 data.length ++ leBytes 4 frame) data

/-- Header of a bulk DAT, which waits for its place on the wire (R96). -/
def State.datHdr (s : State) (n addr ep flags seq len : Nat) (dirIn : Bool) : List (BitVec 8) :=
  mkHdr 0x30 addr (selOf ep dirIn) (s.f KRP_STAT_LVL n) flags (leBytes 2 seq ++ leBytes 2 len)

/-- Packets of a burst that may go on the wire by now: each when the one before it has ended, and the rest. -/
def State.wireRest (s : State) (n : Nat) : List (List (BitVec 8) × List (BitVec 8)) → State × List (List (BitVec 8) × List (BitVec 8))
  | [] => (s, [])
  | p :: ps =>
    if s.now < (s.link n).txEnd then (s, p :: ps) else (s.wire n (s.link n).txEnd p.1 p.2).wireRest n ps

/-- An ACK, or a BUR with CREDIT 0 (R94, R98). -/
def State.sendAck (s : State) (n addr ep : Nat) (dirIn : Bool) (seq : Nat) : State :=
  s.send n 0x40 addr (selOf ep dirIn) 0 (leBytes 2 seq)
def State.sendBur (s : State) (n addr ep : Nat) (dirIn : Bool) (next credit : Nat) : State :=
  s.send n 0x43 addr (selOf ep dirIn) 0 (leBytes 2 next ++ leBytes 1 credit)

/-- Send a marker block on each of the first lanes of a root port, `k` of them. -/
def State.markersOn (s : State) (n k code arg : Nat) : State := s.each k fun s i => s.emit (.marker n (n + i) code arg)
/-- On every lane of the link's width (R79). -/
def State.markers (s : State) (n code arg : Nat) : State := s.markersOn n (krpLanes (s.f KRP_STAT_WIDTH n)) code arg
/-- On every lane of the port. -/
def State.markersAll (s : State) (n code arg : Nat) : State := s.markersOn n (krpLanes (s.offered n).2.1) code arg

/-! ### Bulk sequence numbers and steps -/

/-- Key of a bulk endpoint in a tree. -/
def epKey (addr ep : Nat) (dirIn : Bool) : Nat := addr * 32 + ep * 2 + b2n dirIn
/-- NEXT of a bulk endpoint (R92). -/
def State.bseq (s : State) (n addr ep : Nat) (dirIn : Bool) : Nat := PMap.get (s.tree n).seqs (epKey addr ep dirIn) 0
def State.setBseq (s : State) (n addr ep : Nat) (dirIn : Bool) (v : Nat) : State :=
  s.setTree n { s.tree n with seqs := PMap.put (s.tree n).seqs (epKey addr ep dirIn) (v % 1024) }
/-- Restart the sequence spaces of an address, or of one endpoint of it (R92). -/
def State.restartSeqs (s : State) (n : Nat) (p : Nat → Bool) : State :=
  s.setTree n { s.tree n with seqs := (s.tree n).seqs.filter fun e => !(p e.1), credits := (s.tree n).credits.filter fun e => !(p e.1) }

/-- The oldest step that waits for a response (R90). -/
def State.oldStep (s : State) (n : Nat) : Option Step := (s.sq n).steps.find? fun t => !t.idle
/-- Replace the steps that satisfy `p`. -/
def State.mapStep (s : State) (n : Nat) (p : Step → Bool) (f : Step → Step) : State :=
  s.setSq n { s.sq n with steps := (s.sq n).steps.map fun t => if p t then f t else t }
/-- Remove a step. -/
def State.dropStep (s : State) (n : Nat) (t : Step) : State :=
  s.setSq n { s.sq n with steps := (s.sq n).steps.erase t }

/-- A discarded upstream packet is charged to the step that has waited longest (R90). -/
def State.chargeBad (s : State) (n : Nat) : State :=
  match s.oldStep n with
  | some t => s.mapStep n (fun x => x == t) fun x => { x with bad := true }
  | none => s

/-- A received packet is taken or discarded (R85, R86): the new state and whether it is to be handled. -/
def State.receive (s : State) (n : Nat) (p : Pkt) : State × Bool :=
  if !(pktOk p) then (((s.satF KRP_CNT_HCRC_COUNT n 0 1)).chargeBad n, false)
  else if !(s.carries n) then (s.satF KRP_CNT_DISCARD_COUNT n 0 1, false)
  else if !(typeKnown (hType p.hdr)) || hLvl p.hdr != s.f KRP_STAT_LVL n then
    (((s.satF KRP_CNT_DISCARD_COUNT n 0 1).err KRP_ERR_PROTO n).chargeBad n, false)
  else
    let l := s.link n
    let blocks := payBlocks p.hdr p.data
    (((s.setLink n { l with rxBlk := l.rxBlk + blocks }).ran n 1 blocks s.now).count (bankQuad n) 0xC0 (n % 4) (some (s.krpOwner n)) blocks, true)

/-- The die of a root port (R22): quads 0 to 11 on die 0. -/
def dieOf (n : Nat) : Nat := n / 48

end Sys2Proof.Machine
end

