-- ==== Sys2Proof/Machine/Load.lean ====
section
/-! DEFINITION. Device-table entries, schedule entries, worst-case times and the load of a periodic table (chapter 6). -/
namespace Sys2Proof.Machine

def State.ent (s : State) (n a : Nat) : TreeEnt := PMap.get (s.tree n).ents a {}
def State.setEnt (s : State) (n a : Nat) (e : TreeEnt) : State :=
  s.setTree n { s.tree n with ents := PMap.put (s.tree n).ents a e }
/-- The address is ADDRESSED or CONFIGURED. -/
def TreeEnt.there (e : TreeEnt) : Bool := e.state == 1 || e.state == 2
def TreeEnt.isHub (e : TreeEnt) : Bool := bit e.flags 0

/-! ### Schedule entries (Table 06-1) and ring headers (Table 06-2), as 256-bit numbers -/

def eValid (e : Nat) : Bool := bit e 0
def eIn (e : Nat) : Bool := bit e 1
def eClass (e : Nat) : Nat := bits e 2 2
def eTiming (e : Nat) : Nat := bits e 4 2
def eTask (e : Nat) : Bool := bit e 6
def eDrop (e : Nat) : Bool := bit e 7
def eAddr (e : Nat) : Nat := bits e 8 8
def eEp (e : Nat) : Nat := bits e 20 4
def eOwner (e : Nat) : Nat := bits e 24 6
def eBytes (e : Nat) : Nat := bits e 32 17
def eCq (e : Nat) : Nat := bits e 52 10
def ePitch (e : Nat) : Nat := bits e 64 16
def ePhase (e : Nat) : Nat := bits e 80 16
def eWinFrames (e : Nat) : Nat := bits e 96 16
def eTag (e : Nat) : Nat := bits e 112 16
def eWinStart (e : Nat) : Int := sgn (bits e 128 48) 48
def eInst (e : Nat) : Nat := bits e 176 7
def eRing (e : Nat) : Nat := bits e 192 64
def rBase (r : Nat) : Nat := bits r 0 64
def rSlots (r : Nat) : Nat := bits r 64 32
def rStride (r : Nat) : Nat := bits r 96 32
def rZidx (r : Nat) : Nat := bits r 128 32
def rHidx (r : Nat) : Nat := bits r 160 32

/-- An entry has a reserved TIMING, an operand out of range or a non-zero bit shown as zero (Table 06-4). -/
def entryMalformed (e clock : Nat) : Bool :=
  eTiming e == 3 || eAddr e == 0 || eAddr e == 255 || eEp e == 0 || eBytes e == 0 || decide (65536 < eBytes e) ||
  ePitch e == 0 || (eTiming e == 2 && (eWinFrames e == 0 || clock == 1)) ||
  (eTiming e != 2 && (eWinFrames e != 0 || bits e 128 48 != 0)) ||
  bits e 16 4 != 0 || bits e 30 2 != 0 || bits e 49 3 != 0 || bits e 62 2 != 0 || bits e 183 9 != 0

/-- A ring header that admission does not take (Table 06-4). -/
def ringMalformed (e r : Nat) : Bool := rSlots r == 0 || decide (rStride r < eBytes e) || rStride r % 64 != 0

/-! ### Worst-case times (R210, R211), in the exact unit of 1/5,376 ns -/

/-- One nanosecond. -/
def xns (n : Nat) : Nat := n * 5376
/-- Block time of a link: 137.583 bits over rate and width. -/
def xBlock (rate width : Nat) : Nat := 1651 * 448 / (laneRate rate * krpLanes width)
/-- Packets and blocks of a service of `b` bytes. -/
def svcPackets (b : Nat) : Nat := cdiv b 16384
def svcBlocks (b : Nat) : Nat :=
  let p := svcPackets b
  (p - 1) * 1026 + 1 + cdiv (b - 16384 * (p - 1) + 4) 16
/-- TURN of a tier. -/
def State.turnOf (s : State) (n tier : Nat) : Nat := xns (400 + 240 * (tier - 1) + s.f KSCH_ADM_RT_NS n)

/-- The largest block time of the upstream links of a device and of the hubs on its route, as LINK records them. -/
def State.pathBlock (s : State) (n a : Nat) : Nat → Nat
  | 0 => 0
  | fuel + 1 =>
    let e := s.ent n a
    max (xBlock (e.link % 4) (e.link / 4 % 4)) (if e.parent == 0 then 0 else s.pathBlock n e.parent fuel)

/-- Path time and tier of a schedule entry, with the root link's block time `root` (R210). -/
def State.pathOf (s : State) (n a root : Nat) : Nat × Nat :=
  let e := s.ent n a
  if e.state == 2 then (max root (s.pathBlock n a 6), e.tier) else (root, 6)

/-- Worst-case time of a service (R211). -/
def State.svcTime (s : State) (n e root : Nat) : Nat :=
  let p := s.pathOf n (eAddr e) root
  (1 + svcBlocks (eBytes e)) * p.1 + (if eIn e then s.turnOf n p.2 else 0)

/-- The root link's block time at MIN_WIDTH and MIN_RATE, and as it now is; a link that carries nothing is taken at its minimum. -/
def State.rootMin (s : State) (n : Nat) : Nat := xBlock (s.f KRP_CTL_MIN_RATE n) (s.f KRP_CTL_MIN_WIDTH n)
def State.rootNow (s : State) (n : Nat) : Nat :=
  if s.carries n then xBlock (s.f KRP_STAT_RATE n) (s.f KRP_STAT_WIDTH n) else s.rootMin n

/-- H: the FRM and the trigger turn. -/
def State.frmTime (s : State) (n root : Nat) : Nat := (1 + s.f KSCH_ADM_TRG_RSV n) * root

/-- What the group of one TIMING and PITCH adds to the load (R212). -/
def State.groupLoad (s : State) (n root : Nat) (es : List Nat) (timing pitch : Nat) : Nat :=
  let g := es.filter fun e => eTiming e == timing && ePitch e == pitch
  let sum (l : List Nat) : Nat := (l.map fun e => s.svcTime n e root).sum
  if timing == 2 then sum g
  else ((g.map fun e => ePhase e % pitch).dedup.map fun ph => sum (g.filter fun e => ePhase e % pitch == ph)).foldl max 0

/-- The load L of a table (R212). -/
def State.tableLoad (s : State) (n root : Nat) (t : PerTable) : Nat :=
  let es := t.ents.filter eValid
  s.frmTime n root + (((es.map fun e => (eTiming e, ePitch e)).dedup.map fun g => s.groupLoad n root es g.1 g.2).sum)

/-- F_min, in ns. -/
def State.fMin (s : State) (n : Nat) : Nat := 10 * (if s.f KSCH_CTL_CLOCK n == 1 then s.f KSCH_FLEN_MAX n else s.f KSCH_FLEN_MIN n)

/-- A load lies above 0.8 x F_min. -/
def State.tooMuch (s : State) (n load : Nat) : Bool := decide (8 * xns (s.fMin n) < 10 * load)

/-- OVERLOAD after a change of link, tree or registers (R229). -/
def State.overload (s : State) (n : Nat) : State :=
  let t := match (s.sq n).next with
    | some t => t
    | none => (s.sq n).table
  let o := s.tooMuch n (s.tableLoad n (s.rootNow n) t)
  let s := if o && !(s.b KSCH_STAT_OVERLOAD n) then s.err KSCH_ERR_OVERLOAD n else s
  s.setF KSCH_STAT_OVERLOAD n 0 (b2n o)

end Sys2Proof.Machine
end

