-- ==== Sys2Proof/Machine/Tree.lean ====
section
/-! DEFINITION. KPB trees: the device table, detach, and the enumeration engine up to the requests it makes (chapter 4). -/
namespace Sys2Proof.Machine

/-! ### The device table (R140 to R143) -/

/-- The 64 bytes of an entry (Table 04-5). -/
def TreeEnt.bytes (e : TreeEnt) : List (BitVec 8) :=
  leBytes 4 e.seq ++ leBytes 1 e.state ++ leBytes 1 e.tier ++ leBytes 1 e.flags ++ leBytes 1 e.parent ++ leBytes 4 e.route ++
  leBytes 4 e.gen ++ (e.device ++ leBytes 32 0).take 32 ++ leBytes 1 e.cfg ++ leBytes 1 e.link ++ leBytes 1 e.failStep ++
  leBytes 1 e.failStatus ++ leBytes 12 0

/-- DEVICES, ADDR_EXHAUSTED and TOO_DEEP of a tree. -/
def State.treeShow (s : State) (n : Nat) : State :=
  let t := s.tree n
  ((s.setF KHUB_TREE_STAT_DEVICES 0 n (t.ents.filter fun e => e.2.there).length).setF KHUB_TREE_STAT_ADDR_EXHAUSTED 0 n
    (b2n !t.starved.isEmpty)).setF KHUB_TREE_STAT_TOO_DEEP 0 n (b2n !t.deep.isEmpty)

/-- Write the records that wait, in order, up to a fault (R140, R142, R143). -/
def State.tableFlush (s : State) (n : Nat) : List Nat → State
  | [] => s.setTree n { s.tree n with dirty := [] }
  | a :: rest =>
    let base := s.f KHUB_TREE_BASE_ADDR 0 n
    let q := s.f KHUB_TREE_SEQ_SEQ 0 n + 1
    let q := if q ≥ 2 ^ 32 then 1 else q
    let e := { s.ent n a with seq := q }
    let i := s.krpOwner n
    match s.writeV i (base + 64 * a) e.bytes with
    | .ok s => ((((s.setEnt n a e).setF KHUB_TREE_SEQ_SEQ 0 n q).post 0x6 n)).tableFlush n rest
    | .error x =>
      let s := s.setTree n { s.tree n with dirty := a :: rest }
      if x.reason == 0 then s
      else
        let r := s.faultWait (dieOf n) i 0x0C x true n a n
        (r.2.setTree n { r.2.tree n with fid := r.1 }).setF KHUB_TREE_STAT_TABLE_FAULT 0 n 1

/-- Record a change of entries: nothing is written while TREE_BASE is 0, and records wait behind a fault (R142, R143). -/
def State.tableWrite (s : State) (n : Nat) (as : List Nat) : State :=
  let s := (s.treeShow n).overload n
  if s.f KHUB_TREE_BASE_ADDR 0 n == 0 then s
  else
    let t := s.tree n
    let all := t.dirty ++ as
    if t.fid != 0 then s.setTree n { t with dirty := all } else s.tableFlush n all

/-! ### Places in a tree -/

/-- The route and tier of a device at a port (R119, R122). -/
def State.portRoute (s : State) (n : Nat) (p : TPort) : Nat × Nat :=
  if p.hub == 0 then (0, 1)
  else
    let h := s.ent n p.hub
    (h.route + p.port * 16 ^ (h.tier - 1), h.tier + 1)

/-- The entry lies at or below a port (R124). -/
def State.below (s : State) (n : Nat) (p : TPort) (e : TreeEnt) : Bool :=
  if p.hub == 0 then true
  else
    let r := s.portRoute n p
    decide (r.2 ≤ e.tier) && e.route % 16 ^ (r.2 - 1) == r.1

/-- A port lies below port `p`. -/
def State.portBelow (s : State) (n : Nat) (p q : TPort) : Bool :=
  p == q || p.hub == 0 || (q.hub != 0 && s.below n p (s.ent n q.hub))

/-- The hubs on the path to a port, nearest the root first, each with the port taken at it. -/
def State.pathHubs (s : State) (n : Nat) (p : TPort) : Nat → List (Nat × Nat)
  | 0 => []
  | fuel + 1 =>
    if p.hub == 0 then []
    else
      let h := s.ent n p.hub
      let up : TPort := if h.parent == 0 then {} else { hub := h.parent, port := h.route / 16 ^ (h.tier - 2) % 16 }
      s.pathHubs n up fuel ++ [(p.hub, p.port)]

/-! ### Detach (R124, R144, R145) -/

/-- Complete the transfers of an address as DEVICE_GONE (R145): its descriptors, and its steps on the wire. -/
def State.goneTransfers (s : State) (n a : Nat) : State :=
  let s := s.setSq n { s.sq n with steps := (s.sq n).steps.filter fun t => t.addr != a }
  let qs := s.boundTo 0x1 (fun b => b % 128 == n) ++ s.boundTo 0x2 (fun b => b % 128 == n)
  qs.foldl (fun s q =>
    ((s.wq q).acc.filter fun d => leAt d.bytes 8 1 == a && d.phase != 2).foldl (fun s d =>
      (s.unwait (s.wqOwner q) d.fid).kpbDone q d 0x13 d.moved) s) s

/-- Detach every device below a port. `flags` adds OVERCURRENT and POWER_OFF. -/
def State.detach (s : State) (n : Nat) (p : TPort) (flags : Nat := 0) : State :=
  let gone := ((s.tree n).ents.filter fun e => e.1 != 0 && e.2.there && s.below n p e.2).map (·.1)
  let t := s.tree n
  let lost (x : TPort) : Bool := s.portBelow n p x
  let drop := match t.enum with
    | some e => lost e.at_
    | none => false
  let clear := match t.enum with
    | some e => if lost e.at_ then (e.routes.filter fun h => !(gone.contains h)).map fun h => (h, e.addr) else []
    | none => []
  let t := { t with enum := (if drop then none else t.enum), clear := t.clear ++ clear,
                    queue := t.queue.filter fun q => !(lost q.1), hubs := t.hubs.filter fun h => !(gone.contains h.1),
                    starved := t.starved.filter fun q => q == p || !(lost q), deep := t.deep.filter fun q => q == p || !(lost q) }
  let s := s.setTree n t
  let s := if drop then s.setF KHUB_TREE_STAT_ENUM_STEP 0 n 0 else s
  let s := gone.foldl (fun s a => s.goneTransfers n a) s
  let s := gone.foldl (fun s a => s.setEnt n a { s.ent n a with state := 3, flags := (s.ent n a).flags ||| flags }) s
  let s := s.restartSeqs n fun k => gone.contains (k / 32)
  let s := s.tableWrite n gone
  if p.hub == 0 then
    let s := s.setSq n { s.sq n with portGone := true }
    s.setTree n { s.tree n with ents := (s.tree n).ents.map fun e => if e.2.state == 3 then (e.1, { e.2 with state := 0 }) else e }
  else s

/-! ### Readiness (R123, R136) -/

/-- A port becomes ready: its debounce starts. -/
def State.portReady (s : State) (n : Nat) (p : TPort) : State :=
  let t := s.tree n
  if (t.queue.any fun q => q.1 == p) || t.enum.any fun e => e.at_ == p then s
  else s.setTree n { t with queue := t.queue ++ [(p, s.now, false)] }

/-- PORT_STAT that a hub last reported for a port. -/
def State.hubStat (s : State) (n h p : Nat) : Nat := PMap.get (PMap.get (s.tree n).hubs h {}).stat p 0

/-- A port is still ready (R123). -/
def State.isReady (s : State) (n : Nat) (p : TPort) : Bool :=
  if p.hub == 0 then s.carries n else bit (s.hubStat n p.hub p.port) 0 && bit (s.hubStat n p.hub p.port) 1

/-- Keep what a hub has said of port `p`: PORT_STAT, and the PORT_CHG bits that it goes on holding. -/
def State.hubKeep (s : State) (n h p stat chg : Nat) : State :=
  let t := s.tree n
  match PMap.find t.hubs h with
  | none => s
  | some hub => s.setTree n { t with hubs := PMap.put t.hubs h { hub with stat := PMap.put hub.stat p stat, chg := PMap.put hub.chg p chg } }

/-- Port `p` holds something that its reset has enabled: a device of the table, or one under enumeration from step 4 on. -/
def State.portHolds (s : State) (n : Nat) (p : TPort) : Bool :=
  ((s.tree n).ents.any fun e => e.1 != 0 && e.2.there && s.below n p e.2) || (s.tree n).enum.any fun e => e.at_ == p && decide (4 ≤ e.step)

/-- A hub reports PORT_STAT and PORT_CHG of one of its ports (R124, R133, R146): detach before attach. A bit that reads 1 as before but
has changed since has dropped and risen, but for what a port reset of Zhoem's own has changed (DEDUCED, log entry 88). -/
def State.hubReport (s : State) (n h p stat chg : Nat) : State :=
  let t := s.tree n
  match PMap.find t.hubs h with
  | none => s
  | some hub =>
    let old := PMap.get hub.stat p 0
    let port : TPort := { hub := h, port := p }
    let busy := t.enum.any fun e => e.at_ == port && e.step == 3
    let fell (b : Nat) : Bool := !(bit stat b) || (bit old b && bit chg b && !(bit (PMap.get hub.chg p 0) b) && !busy)
    let left := fell 0 || fell 1
    let dark := bit old 3 && fell 3
    let s := s.hubKeep n h p stat 0
    let s := s.setTree n { s.tree n with starved := t.starved.filter fun q => !(left && q == port),
                                         deep := t.deep.filter fun q => !(left && q == port) }
    let off := left || dark || bit stat 4 || (!(bit stat 2) && s.portHolds n port)
    let s := if off && !(busy && bit stat 5) then s.detach n port (2 * b2n (bit stat 4) + 4 * b2n dark) else s
    if bit stat 0 && bit stat 1 && (left || !(bit old 0 && bit old 1)) then s.portReady n port else s

/-! ### Zhoem's own requests (R127, R136) -/

/-- A setup record (Table 04-1). -/
def setupRec (req : Nat) (dirIn : Bool) (kind recip target value index length : Nat) : List (BitVec 8) :=
  leBytes 1 req ++ leBytes 1 (128 * b2n dirIn + 32 * kind) ++ leBytes 2 (recip * 4096 + target) ++ leBytes 4 value ++
  leBytes 4 index ++ leBytes 2 length ++ leBytes 2 0

def reqGetDesc (dtype length : Nat) : List (BitVec 8) := setupRec 0x01 true 0 0 0 dtype 0 length
def reqSetAddr (a : Nat) : List (BitVec 8) := setupRec 0x02 false 0 0 0 a 0 0
def reqSetConfig (v : Nat) : List (BitVec 8) := setupRec 0x03 false 0 0 0 v 0 0
def reqGetPort (p : Nat) : List (BitVec 8) := setupRec 0x41 true 1 2 p 0 0 4
def reqSetPort (p feature : Nat) : List (BitVec 8) := setupRec 0x42 false 1 2 p feature 0 0
def reqClrPort (p feature : Nat) : List (BitVec 8) := setupRec 0x43 false 1 2 p feature 0 0
def reqSetRoute (a p : Nat) : List (BitVec 8) := setupRec 0x44 false 1 0 0 (a + p * 256) 0 0

/-- Replace the enumeration in progress. -/
def State.setEnum (s : State) (n : Nat) (e : Option Enum) : State :=
  (s.setTree n { s.tree n with enum := e }).setF KHUB_TREE_STAT_ENUM_STEP 0 n (match e with
    | some x => x.step
    | none => 0)

/-- Ask for a control transfer. -/
def Enum.ask (e : Enum) (addr : Nat) (setup : List (BitVec 8)) : Enum :=
  { e with ctl := some { addr := addr, setup := setup }, wait := none }

/-- The next free address after the last one assigned (R137). -/
def State.freeAddr (s : State) (n : Nat) : Option Nat :=
  ((List.range 254).map fun k => ((s.tree n).last + k) % 254 + 1).find? fun a => (s.ent n a).state == 0

/-- A port reset of a root port (R125): EIE and 200 µs of electrical idle; what follows is PORT_RESET_IDLE_END. -/
def State.resetPort (s : State) (n : Nat) : State :=
  let s := s.markersAll n 0xF2 0
  s.setLink n { s.link n with idleEnd := some (s.now + us 200) }

/-- Begin step 3 of Table 04-4. -/
def State.enumStart (s : State) (n : Nat) (e : Enum) : State :=
  let e := { e with step := 3, sub := 0, since := s.now, addr := 0, routes := [], device := [], config := [], hub := [], ports := [], ctl := none, wait := none }
  if e.at_.hub == 0 then (s.setEnum n (some e)).resetPort n
  else s.setEnum n (some (e.ask e.at_.hub (reqSetPort e.at_.port 2)))

/-- LINK of Table 04-5 for a device at port `p`: of the root port, or as the hub last said (GET_PORT at the end of step 3). -/
def State.portLink (s : State) (n : Nat) (p : TPort) : Nat :=
  if p.hub == 0 then s.f KRP_STAT_RATE n + 4 * s.f KRP_STAT_WIDTH n
  else
    let st := s.hubStat n p.hub p.port
    bits st 8 2 + 4 * bits st 6 2

/-- Record FAILED in entry 0 (R138 to R140). DEVICE is there where step 4 of the last attempt succeeded. GEN of entry 0, which is never
assigned, counts its records (DESIGN CHOICE, log entry 89). -/
def State.enumFailed (s : State) (n : Nat) (e : Enum) (step status : Nat) : State :=
  let r := s.portRoute n e.at_
  let x : TreeEnt := { state := 4, tier := r.2, flags := b2n (leAt e.device 3 1 == 0x09), parent := e.at_.hub, route := r.1,
                       gen := (s.ent n 0).gen + 1, device := e.device, link := s.portLink n e.at_, failStep := step, failStatus := status }
  let s := (s.setEnt n 0 x).setF KHUB_TREE_CNT_FAILED 0 n (min (s.f KHUB_TREE_CNT_FAILED 0 n + 1) 0xFFFF)
  (s.setEnum n none).tableWrite n [0]

/-- Endpoint descriptors of a CONFIG descriptor (Table 04-3): EPSEL, KIND, MAXSVC. -/
def endpoints : List (BitVec 8) → Nat → List (Nat × Nat × Nat)
  | _, 0 => []
  | bs, k + 1 => (leAt bs 2 1, leAt bs 3 1 % 4, leAt bs 4 4) :: endpoints (bs.drop 16) k

/-- Step 9: the entry, ADDRESSED (1) or CONFIGURED (2) (Table 04-4). A device that is enumerated starts its sequence spaces at 0 (R92). The
ports of a hub that step 7 has found ready are queued, as already debounced (DEDUCED, log entry 91). -/
def State.enumEntry (s : State) (n : Nat) (e : Enum) (st cfg : Nat) : State :=
  let r := s.portRoute n e.at_
  let hub := leAt e.device 3 1 == 0x09
  let x : TreeEnt := { state := st, tier := r.2, flags := b2n hub, parent := e.at_.hub, route := r.1,
                       gen := (s.ent n e.addr).gen + 1, device := e.device, cfg := cfg, link := s.portLink n e.at_,
                       hubPorts := if hub then leAt e.hub 2 1 else 0,
                       eps := endpoints (e.config.drop 16) (leAt e.config 5 1) }
  let s := (s.setEnt n e.addr x).restartSeqs n fun k => k / 32 == e.addr
  let t := s.tree n
  let stats := e.ports.map fun p => (p.1, p.2 % 65536)
  let ready := (stats.filter fun p => bit p.2 0 && bit p.2 1).map fun p => (({ hub := e.addr, port := p.1 } : TPort), s.now, true)
  let known : HubSt := { stat := stats, chg := e.ports.map (fun p => (p.1, p.2 / 65536)), pollAt := s.now }
  let s := s.setTree n { t with last := e.addr, hubs := (if hub then PMap.put t.hubs e.addr known else t.hubs), queue := t.queue ++ ready }
  let s := (s.addF KHUB_TREE_CNT_ATTACHED 0 n 1).setEnum n none
  s.tableWrite n [e.addr]

/-- A stop of enumeration takes effect at the end of the step (R147): the entry is ADDRESSED where the address is set, with the CFG_VALUE that
step 8 has brought into effect. A device still at address 0 keeps its port first in the queue, so that no other port of the tree is reset before
it (R120, R136; DEDUCED, log entry 91). -/
def State.enumStop (s : State) (n : Nat) (e : Enum) (cfg : Nat := 0) : State :=
  if 6 ≤ e.step then s.enumEntry n e 1 cfg
  else
    let s := s.setEnum n none
    let t := s.tree n
    s.setTree n { t with clear := t.clear ++ e.routes.map (fun h => (h, e.addr)), queue := (e.at_, s.now, true) :: t.queue }

/-- After a failed attempt and the clearing of its routes: another attempt, or the end (R138). -/
def State.enumAgain (s : State) (n : Nat) (e : Enum) : State :=
  if e.stop then s.enumStop n e
  else if e.attempt < s.f KHUB_CTL_ENUM_ATTEMPTS then s.enumStart n { e with attempt := e.attempt + 1 }
  else if e.at_.hub != 0 && e.sub != 99 then
    s.setEnum n (some ({ e with sub := 99 }.ask e.at_.hub (reqClrPort e.at_.port 3)))
  else s.enumFailed n e e.fail.1 e.fail.2

/-- Clear the routes that a failed attempt has set, one by one; then go on (R138). Step 2 stands for this. -/
def State.enumClear (s : State) (n : Nat) (e : Enum) : State :=
  match e.routes with
  | [] => s.enumAgain n { e with step := 2 }
  | h :: rest => s.setEnum n (some ({ e with step := 2, routes := rest }.ask h (reqSetRoute e.addr 0)))

/-- A step has failed (R138). -/
def State.enumFail (s : State) (n : Nat) (e : Enum) (status : Nat) : State :=
  let e := { e with ctl := none, wait := none }
  if e.stop then s.enumStop n e else s.enumClear n { e with fail := (e.step, status) }

/-- Wait until an elapsed time. -/
def State.enumWait (s : State) (n : Nat) (e : Enum) (d : Nat) : State :=
  s.setEnum n (some { e with ctl := none, wait := some (s.now + d) })

/-- Step 8, or step 9 straight away (Table 04-4). -/
def State.enumConfig (s : State) (n : Nat) (e : Enum) : State :=
  if s.f KHUB_TREE_CTL_AUTO_CFG 0 n == 1 && leAt e.config 4 1 != 0 && !e.stop then
    s.setEnum n (some ({ e with step := 8, sub := 0 }.ask e.addr (reqSetConfig (leAt e.config 4 1))))
  else s.enumEntry n { e with step := 9 } 1 0

/-- Step 7, or step 8 for what is no hub. -/
def State.enumHub (s : State) (n : Nat) (e : Enum) : State :=
  if leAt e.device 3 1 == 0x09 && !e.stop then
    s.setEnum n (some ({ e with step := 7, sub := 0 }.ask e.addr (reqGetDesc 4 16)))
  else s.enumConfig n e

/-- The rest of step 7: GET_PORT of each port in turn, `sub` counting from 256, then step 8. -/
def State.enumPorts (s : State) (n : Nat) (e : Enum) : State :=
  if e.sub - 256 < leAt e.hub 2 1 then s.setEnum n (some ({ e with sub := e.sub + 1 }.ask e.addr (reqGetPort (e.sub - 255))))
  else if e.stop then s.enumStop n e
  else s.enumConfig n e

/-- Step 5: routes on the hubs of the path, then SET_ADDR. -/
def State.enumRoute (s : State) (n : Nat) (e : Enum) : State :=
  match (s.pathHubs n e.at_ 6)[e.sub]? with
  | some (h, p) => s.setEnum n (some ({ e with routes := e.routes ++ [h] }.ask h (reqSetRoute e.addr p)))
  | none => s.setEnum n (some (e.ask 0 (reqSetAddr e.addr)))

/-- A port that is held (R139): it is disabled where a hub holds it, and recorded FAILED. -/
def State.enumHold (s : State) (n : Nat) (e : Enum) (step status : Nat) : State :=
  if e.at_.hub == 0 then s.enumFailed n e step status
  else s.setEnum n (some ({ e with step := 2, sub := 99, fail := (step, status) }.ask e.at_.hub (reqClrPort e.at_.port 3)))

/-- No address is free for a port: it waits, and FAILED is recorded with BUSY (R139). FAIL_STEP is 5, the step that chooses an address (DESIGN
CHOICE, log entry 90). A port that is ENABLED is disabled first. -/
def State.enumStarved (s : State) (n : Nat) (e : Enum) : State :=
  let s := (s.setTree n { s.tree n with starved := (s.tree n).starved ++ [e.at_] }).treeShow n
  if bit (s.hubStat n e.at_.hub e.at_.port) 2 then s.enumHold n e 5 0x24 else s.enumFailed n e 5 0x24

/-- Step 4 has its DEVICE descriptor: a hub at tier 6 is held (R139), with FAIL_STEP 4, the step that found it (DESIGN CHOICE, log entry 90); else
step 5. -/
def State.enumDevice (s : State) (n : Nat) (e : Enum) : State :=
  if leAt e.device 3 1 == 0x09 && 6 ≤ (s.portRoute n e.at_).2 then
    ((s.setTree n { s.tree n with deep := (s.tree n).deep ++ [e.at_] }).treeShow n).enumHold n e 4 0x21
  else match s.freeAddr n with
    | none => s.enumStarved n e
    | some a => s.enumRoute n { e with step := 5, sub := 0, addr := a }

/-- An address has become free: the ports that wait for one are queued again. -/
def State.unstarve (s : State) (n : Nat) : State :=
  let t := s.tree n
  if t.starved.isEmpty || (s.freeAddr n).isNone then s
  else (s.setTree n { t with starved := [], queue := t.queue ++ t.starved.map fun p => (p, s.now, true) }).treeShow n

/-- The root port or hub port under enumeration is enabled: step 4 (R126). -/
def State.enumEnabled (s : State) (n : Nat) (e : Enum) : State := s.enumWait n { e with step := 4, sub := 0 } (ms 1)

/-- A wait of the enumeration ends (R126, Table 04-4). -/
def State.enumWaited (s : State) (n : Nat) (e : Enum) : State :=
  if e.step == 4 then s.setEnum n (some (e.ask 0 (reqGetDesc 1 32)))
  else if e.step == 6 then s.setEnum n (some ({ e with sub := 1 }.ask e.addr (reqGetDesc 2 16)))
  else s.enumPorts n { e with sub := 256 }

/-- A request of the enumeration has ended with a status and the data it brought (Table 04-4, R138). FAIL_STATUS of a step that fails without
the status of a transfer is 0x11 for a descriptor that is not valid and 0x22 for a port that its reset has not enabled (DESIGN CHOICE,
log entry 90). -/
def State.enumDone (s : State) (n : Nat) (status : Nat) (data : List (BitVec 8)) : State :=
  match (s.tree n).enum with
  | none => s
  | some e =>
    let e := { e with ctl := none }
    if e.step == 2 then (if e.sub == 99 then s.enumFailed n e e.fail.1 e.fail.2 else s.enumClear n e)
    else if status != 0 then s.enumFail n e status
    else if e.step == 3 then
      if e.sub == 0 then s.setEnum n (some ({ e with sub := 1 }.ask e.at_.hub (reqGetPort e.at_.port)))
      else
        let st := leAt data 0 2
        let s := s.hubKeep n e.at_.hub e.at_.port st (leAt data 2 2)
        if bit st 5 then s.setEnum n (some (e.ask e.at_.hub (reqGetPort e.at_.port)))
        else if bit st 2 then (if e.stop then s.enumStop n e else s.enumEnabled n e)
        else s.enumFail n e 0x22
    else if e.step == 4 then
      if data.length == 32 && leAt data 0 1 == 32 && leAt data 1 1 == 1 then
        (if e.stop then s.enumStop n e else s.enumDevice n { e with device := data })
      else s.enumFail n e 0x11
    else if e.step == 5 then
      if e.sub < (s.pathHubs n e.at_ 6).length then s.enumRoute n { e with sub := e.sub + 1 }
      else if e.stop then s.enumStop n { e with step := 6 }
      else s.enumWait n { e with step := 6, sub := 0 } (us 100)
    else if e.step == 6 then
      if e.sub == 1 then
        (if data.length == 16 && leAt data 1 1 == 2 then
          s.setEnum n (some ({ e with sub := 2 }.ask e.addr (reqGetDesc 2 (leAt data 2 2)))) else s.enumFail n e 0x11)
      else (let e := { e with config := data }; if e.stop then s.enumStop n e else s.enumHub n e)
    else if e.step == 7 then
      let e := if e.sub == 0 then { e with hub := data } else e
      if 256 ≤ e.sub then s.enumPorts n { e with ports := e.ports ++ [(e.sub - 256, leAt data 0 4)] }
      else if bit (leAt e.hub 3 1) 0 && e.sub < leAt e.hub 2 1 then
        s.setEnum n (some ({ e with sub := e.sub + 1 }.ask e.addr (reqSetPort (e.sub + 1) 1)))
      else if bit (leAt e.hub 3 1) 0 then s.enumWait n e (ms (leAt e.hub 4 2))
      else s.enumPorts n { e with sub := 256 }
    else if e.stop then s.enumStop n e (leAt e.config 4 1)
    else s.enumEntry n { e with step := 9 } 2 (leAt e.config 4 1)

/-- A port's turn comes (R136): no other port of the tree is being enumerated, and an address is free (R139). -/
def State.enumTurn (s : State) (n : Nat) : State :=
  let t := s.tree n
  if t.enum.isSome || s.f KHUB_TREE_CTL_ENUM_EN 0 n != 1 || t.fid != 0 then s
  else match t.queue.find? fun q => q.2.2 && s.isReady n q.1 with
    | none => s
    | some q =>
      let s := s.setTree n { t with queue := t.queue.filter fun x => x.1 != q.1 }
      if (s.freeAddr n).isSome then s.enumStart n { at_ := q.1 } else s.enumStarved n { at_ := q.1 }

/-- Enumeration of the root port's own device goes on when its link reaches FULL (step 3), or the port is ready anew. -/
def State.rootUp (s : State) (n : Nat) : State :=
  match (s.tree n).enum with
  | some e =>
    if e.at_.hub == 0 && e.step == 3 then (if e.stop then s.enumStop n e else s.enumEnabled n e) else s
  | none => s.portReady n {}

end Sys2Proof.Machine
end

