-- ==== Sys2Proof/Machine/Sched.lean ====
section
/-! DEFINITION. Frame sequencers: boundaries, frames, due services, completions, trimming, the FRM and its triggers
(chapter 6). -/
namespace Sys2Proof.Machine

/-! ### The table in effect -/

/-- Entry `i` of a table. -/
def PerTable.ent (t : PerTable) (i : Nat) : Nat := t.ents.getD i 0
/-- Ring header of entry `i`. -/
def PerTable.ring (t : PerTable) (i : Nat) : Nat := t.rings.getD i 0
/-- Key of a ring: its instance and address. -/
def ringKey (e : Nat) : Nat := eInst e * 2 ^ 64 + eRing e
/-- Zhoem's copies of ZIDX and HIDX of the ring of entry `i`. -/
def PerTable.z (t : PerTable) (i : Nat) : Nat := PMap.get t.zidx (ringKey (t.ent i)) (rZidx (t.ring i))
def PerTable.h (t : PerTable) (i : Nat) : Nat := PMap.get t.hidx (ringKey (t.ent i)) (rHidx (t.ring i))

/-- The table has a VALID entry with this ring. -/
def PerTable.names (t : PerTable) (key : Nat) : Bool := t.ents.any fun e => eValid e && ringKey e == key

/-- Replace the table in effect on port `n`. -/
def State.setTable (s : State) (n : Nat) (t : PerTable) : State := s.setSq n { s.sq n with table := t }

/-- The last multiple of the pitch at or below a position. -/
def SeqSt.mark (q : SeqSt) (x : Int) : Int := if q.pitch == 0 then x else Int.fdiv x q.pitch * q.pitch

/-- The table that takes over: Zhoem's counts go on for the rings that the old one also names (R206, R214). -/
def PerTable.carryFrom (t old : PerTable) : PerTable :=
  let keep (m : List (Nat × Nat)) : List (Nat × Nat) := m.filter fun x => t.names x.1 && old.names x.1
  { t with zidx := keep old.zidx, hidx := keep old.hidx }

/-- The frame fields and the table that a commit has left for the next boundary come into force (R215). With another reference the
search for crossings starts from where that one stands; with another pitch the high-water mark becomes a multiple of it. A service in
progress goes on under the table it began with. -/
def State.latchSeq (s : State) (n : Nat) : State :=
  let q := s.sq n
  let q : SeqSt := match q.next with
    | some t => { q with next := none, table := t.carryFrom q.table,
                         svc := q.svc.map fun v => { v with table := some (v.table.getD q.table) } }
    | none => q
  let new := { q with clock := s.f KSCH_CTL_CLOCK n, pref := s.f KSCH_CTL_PREF n, pitch := s.f KSCH_PITCH_PITCH n,
                      fmin := s.f KSCH_FLEN_MIN n, fmax := s.f KSCH_FLEN_MAX n, rev := s.f KSCH_CTL_REV_MODE n,
                      far := if s.f KSCH_CTL_PREF n != q.pref || s.f KSCH_CTL_CLOCK n != q.clock then none else q.far }
  let x := s.position new.pref
  s.setSq n (if new.pref != q.pref || new.clock != q.clock then { new with prev := x, hwm := some (new.mark x) }
             else if new.pitch != q.pitch then { new with hwm := q.hwm.map new.mark } else new)

/-- The longest frame of port `n`, in the model's unit. -/
def SeqSt.longest (q : SeqSt) : Nat := ns (10 * q.fmax)

/-! ### Crossings (R196 to R198) -/

/-- The position lies on the same port as the endpoint that its reference follows (R199). -/
def State.prefLoop (s : State) (n : Nat) : Bool :=
  let q := s.sq n
  q.clock == 0 && s.f PREF_CTL_SRC q.pref == 2 && s.f PREF_KPB_ROOT q.pref == n

/-- How far motion has come, and in which direction (true: reverse): where the reference stands, or where the motion whose crossings are
still to be served has reached. -/
def State.movedTo (s : State) (n : Nat) : Int × Bool :=
  let q := s.sq n
  let pos := s.position q.pref
  match q.far with
  | some (x, back) => (if back != s.b PREF_STAT_DIR q.pref then x else if back then min x pos else max x pos, back)
  | none => (pos, s.b PREF_STAT_DIR q.pref)

/-- The first multiple of the pitch that motion has crossed, since crossings were last looked for, in a direction that starts
a frame: its position, whether in reverse (R196, R197). -/
def State.crossing (s : State) (n : Nat) : Option (Int × Bool) :=
  let q := s.sq n
  let p : Int := q.pitch
  let pos := (s.movedTo n).1
  let back := (s.movedTo n).2
  if q.pitch == 0 then none
  else if q.prev < pos && !back then
    let m := (Int.fdiv q.prev p + 1) * p
    let m := match q.hwm with
      | some h => if q.rev == 0 then max m (h + p) else m
      | none => m
    if m ≤ pos then some (m, false) else none
  else if pos < q.prev && back && q.rev == 1 then
    let m := -((Int.fdiv (-q.prev) p + 1) * p)
    if pos ≤ m then some (m, true) else none
  else none

/-- Crossings up to `x` have been looked for. -/
def State.lookedTo (s : State) (n : Nat) (x : Int) : State :=
  s.setSq n { s.sq n with prev := x }

/-- The position that clocks port `n` changes: crossings that have been made are still to be served, and where there are none, the next one
is looked for from here on (R196, R197). -/
def State.noticeSeq (s : State) (n : Nat) : State :=
  let q := s.sq n
  match s.crossing n with
  | some _ => s.setSq n { q with far := some (s.movedTo n) }
  | none => (s.setSq n { q with far := none }).lookedTo n (s.position q.pref)

/-- For every sequencer that runs on reference `p`. -/
def State.noticeSeqs (s : State) (p : Nat) : State :=
  (s.seqs.filter fun e => s.b KSCH_STAT_RUNNING e.1 && e.2.clock == 0 && e.2.pref == p).foldl (fun s e => s.noticeSeq e.1) s

/-- A jump of reference `p` to `new` for the sequencers that it clocks (R198): no frame, and a new high-water mark. -/
def State.jumpSeqs (s : State) (p : Nat) (new : Int) : State :=
  (s.seqs.filter fun e => s.b KSCH_STAT_RUNNING e.1 && e.2.clock == 0 && e.2.pref == p).foldl (fun s e =>
    let q := s.sq e.1
    (s.setSq e.1 { q with hwm := some (q.mark new), far := none }).lookedTo e.1 new) s

/-- A jump of reference `p` from `old` to `new` (R177, R198). -/
def State.jump (s : State) (p : Nat) (old new : Int) : State := (s.jumpUnits p old new).jumpSeqs p new

/-! ### Prediction of the next boundary (R222, R227) -/

/-- Elapsed time at which the next boundary of port `n` is predicted, where there is a prediction. -/
def State.nextBoundary (s : State) (n : Nat) : Option Nat :=
  let q := s.sq n
  if !(s.b KSCH_STAT_RUNNING n) then none
  else if q.clock == 1 then some (match q.lastBnd with
    | some t => t + q.longest
    | none => q.startAt)
  else
    let p : Int := q.pitch
    let pos := s.position q.pref
    let up := (Int.fdiv pos p + 1) * p
    let m :=
      if q.rev == 1 && s.b PREF_STAT_DIR q.pref then -((Int.fdiv (-pos) p + 1) * p)
      else match q.hwm with
        | some h => if q.rev == 0 then max up (h + p) else up
        | none => up
    (s.predict q.pref m).map fun d => s.now + d

/-! ### Completions (Tables 06-7 and 06-10) -/

/-- Entry index, frame flags and the rest of the body of a periodic service completion. -/
def svcBody (e i : Nat) (f : Frame) (collapsed spill : Bool) (len : Nat) (at_ : Option Nat) : List (BitVec 8) :=
  leBytes 2 (eTag e) ++
  leBytes 2 (i % 4096 + 4096 * b2n f.filler + 8192 * b2n f.shifted + 16384 * b2n collapsed + 32768 * b2n spill) ++
  leBytes 4 f.no ++ leBytes 8 (unsgn f.pos 64) ++ leBytes 1 f.snap ++
  leBytes 3 (len + 2 ^ 17 * b2n at_.isSome) ++ leBytes 4 (at_.getD 0)

/-- The completion of a service. -/
def svcCpl (e i : Nat) (f : Frame) (status : Nat) (collapsed spill : Bool) (len : Nat) (at_ : Option Nat) : Cpl :=
  { status := status, ty := 0x02, body := svcBody e i f collapsed spill len at_ }

/-- The device ring of an entry's completions (Table 06-1). -/
def State.entRing (s : State) (e : Nat) : Nat := (s.cqFor (eInst e) (eCq e)).getD 0

/-- A service completes without data. -/
def State.svcEmpty (s : State) (i e status : Nat) (f : Frame) (collapsed : Bool) : State :=
  s.cpl (s.entRing e) (svcCpl e i f status collapsed false 0 none)

/-- A service is dropped as LATE (R230). -/
def State.svcLate (s : State) (n i : Nat) (f : Frame) (collapsed : Bool := false) : State :=
  let e := (s.sq n).table.ent i
  (((State.svcEmpty s i e 0x03 f collapsed).satF KSCH_CNT_LATE_COUNT n (eClass e) 1).err KSCH_ERR_LATE n).count (bankQuad n) 0xC5 (n % 4)
    (some (eInst e))

/-- What is left of the current frame completes as LATE (R228). -/
def State.lateRest (s : State) (n : Nat) : State :=
  let q := s.sq n
  match q.cur with
  | none => s
  | some f => q.due.foldl (fun s i => s.svcLate n i f) (s.setSq n { q with due := [] })

/-- A held boundary collapses (R204). -/
def State.collapse (s : State) (n : Nat) : State :=
  let q := s.sq n
  match q.held with
  | none => s
  | some f =>
    (f.due.foldl (fun s i => s.svcLate n i f true) (s.setSq n { q with held := none })).satF KSCH_CNT_COLLAPSE_COUNT n 0 1

/-! ### Due services (R207, R209) -/

/-- The due test of Table 06-3. -/
def dueTest (e no mno : Nat) (f : Frame) (pitch : Nat) : Bool :=
  let p := ePitch e
  if eTiming e == 0 then no % p == ePhase e % p
  else if eTiming e == 1 then !f.filler && mno % p == ePhase e % p
  else if f.filler || f.time || f.rev || pitch == 0 then false
  else
    let w := eWinStart e * 65536
    let m := -(Int.fdiv (-w) pitch) * pitch
    let i := Int.fdiv (f.pos - m) pitch
    decide (0 ≤ i) && decide (i < eWinFrames e) && i.toNat % p == ePhase e % p

/-- What becomes of a due entry: 0 dormant or GONE already, 1 served, 2 DEVICE_GONE now; and the GEN recorded then. -/
def State.dueCase (s : State) (n i : Nat) : Nat × Nat :=
  let q := s.sq n
  let t := q.table
  let d := s.ent n (eAddr (t.ent i))
  let g := t.gens.getD i 0
  if t.gone.contains i then (0, g)
  else if s.f KHUB_TREE_CTL_ENUM_EN 0 n == 0 then (if q.portGone then 2 else 1, g)
  else if d.state == 2 && d.gen == g then (1, g)
  else if g == 0 then (if d.state == 2 then (1, d.gen) else (0, g))
  else (2, g)

/-- One entry of the list of due services. -/
def State.dueEntry (n no mno : Nat) (f : Frame) (acc : State × List Nat) (i : Nat) : State × List Nat :=
  let s' := acc.1
  let t := (s'.sq n).table
  let e := t.ent i
  if !(eValid e) || t.susp.contains i || !(dueTest e no mno f (s'.sq n).pitch) then acc
  else
    let c := s'.dueCase n i
    if c.1 == 1 then (s'.setTable n { t with gens := t.gens.set i c.2 }, acc.2 ++ [i])
    else if c.1 == 2 then ((s'.setTable n { t with gone := i :: t.gone }).svcEmpty i e 0x13 f false, acc.2)
    else acc

/-- The services due in a frame, in the order of service: class, then entry (Table 06-6). -/
def State.dueList (s : State) (n no mno : Nat) (f : Frame) : State × List Nat :=
  let t := (s.sq n).table
  let all := List.range t.ents.length
  let order := (List.range 4).flatMap fun c => all.filter fun i => eClass (t.ent i) == c
  order.foldl (State.dueEntry n no mno f) (s, [])

/-! ### A boundary (R202 to R204, R224, R228) -/

/-- KSCH_MAX_SHIFT takes a value in ns, if it is the largest so far (R225). -/
def State.shiftBy (s : State) (n x : Nat) : State := s.setF KSCH_MAX_SHIFT_NS n 0 (max (s.f KSCH_MAX_SHIFT_NS n) x)

/-- What is left of the packet that a device sends when a boundary cuts its step, in ns (R225): the spec does not say when it began, so it is
a free value up to P_max. -/
def State.shiftFor (s : State) (n a : Nat) : State :=
  let t := (s.pathOf n a (s.rootNow n)).1
  let pmax := (1 + cdiv (256 * s.f KSCH_GUARD_PKT_MAX n + 4) 16) * t / 5376
  (s.shiftBy n (Config.freeNat s.draws % (pmax + 1))).bump

/-- The boundary has fallen in the retrain of a rate step (R112). -/
def State.inStep (s : State) (n : Nat) : Bool := s.lstate n == 7 && (s.link n).stepping

/-- What a boundary at elapsed time `at_` does before the commits of its instant: the current frame's rest is late, a held boundary
collapses, a burst or stage on the wire is cut and the rest of its packets withheld (R96, R224), with the largest cut (R225). The answer
says whether the new frame is shifted: by a cut of its own or of the boundary it replaces, or by the retrain of a rate step (R112). -/
def State.boundaryFirst (s : State) (n at_ : Nat) : State × Bool :=
  let was := (s.sq n).held.any fun f => f.shifted
  let s := (s.lateRest n).collapse n
  let live (t : Step) : Bool := !t.cut && !t.idle
  let steps := (s.sq n).steps.filter live
  let cut := !steps.isEmpty
  let s := if cut || s.inStep n then s.satF KSCH_CNT_SHIFT_COUNT n 0 1 else s
  let s := if cut then s.shiftBy n (((s.link n).txEnd - at_) / ns 1) else s
  let s := (steps.filter fun t => t.dirIn).foldl (fun s t => s.shiftFor n t.addr) s
  (s.mapStep n live fun t => { t with cut := true, rest := [], withheld := t.withheld || !t.rest.isEmpty }, cut || was || s.inStep n)

/-- The rest of a boundary, after the commits of its instant (R200 to R202, R215): frame numbers, the snapshot, the services due, the
preparation of the list two frames on. `p` is the reference whose position the frame carries. -/
def State.boundaryRest (s : State) (n : Nat) (filler time rev cut : Bool) (pos : Option Int) (at_ : Nat) : State :=
  let s := s.latchSeq n
  let q := s.sq n
  let p := if time then s.f KSCH_CTL_SNAP_PREF n else q.pref
  let no := (s.f KSCH_FRAME_NO_FRAME n + 1) % 2 ^ 32
  let mno := if filler then s.f KSCH_MFRAME_MFRAME n else (s.f KSCH_MFRAME_MFRAME n + 1) % 2 ^ 32
  let s := (s.setF KSCH_FRAME_NO_FRAME n 0 no).setF KSCH_MFRAME_MFRAME n 0 mno
  let s := if filler then s.satF KSCH_CNT_FILLER_COUNT n 0 1 else s
  let f : Frame := { no := no, filler := filler, time := time, rev := rev, shifted := cut, pos := pos.getD (s.position p),
                     snap := leAt (s.snapshot p) 8 1, at_ := at_, devAt := s.devTime - (s.now - at_), retrain := s.inStep n }
  let r := s.dueList n no mno f
  let s := r.1.setSq n { r.1.sq n with held := some { f with due := r.2 }, lastBnd := some at_ }
  let s := s.setF KSCH_STAT_HELD n 0 1
  (s.taskCreate { sheaf := s.f KSCH_CTL_LIST_SHEAF n, inst := 0, src := 6, q := n, idx := (no + 2) % 2 ^ 32 }).1

/-! ### The FRM and what follows it -/

/-- The conditions of R203 hold for the boundary that is held. No packet is on the wire: an OUT service has then sent its last one. -/
def State.frmMay (s : State) (n : Nat) : Bool :=
  let q := s.sq n
  q.held.isSome && s.b KSCH_STAT_RUNNING n && s.carries n && decide ((s.link n).txEnd ≤ s.now) &&
  (match q.lastFrm with
    | some t => decide (t + us 2 ≤ s.now)
    | none => true) &&
  (match q.cur with
    | some c => !c.filler || (q.svc.isNone && q.due.isEmpty)
    | none => true)

/-- A TRG of unit `u` (R183, Table 03-5). -/
def State.sendTrg (s : State) (n u no offset : Nat) : State :=
  let g := s.b PCU_KPB_GROUPED u
  s.send n 0x50 (if g then 255 else s.f PCU_KPB_ADDR u) (s.f PCU_KPB_ACTION u) (b2n g)
    (leBytes 2 (s.f PCU_KPB_GROUP u) ++ leBytes 2 no ++ leBytes 4 offset)

/-- Time from now until unit `u`'s next target, plus its delay, where it is predicted to be reached in a direction that fires the unit
(R178, R183). -/
def State.trgTime (s : State) (u : Nat) : Option Nat :=
  let t := (s.pcu u).next
  let p := s.f PCU_CTL_PREF u
  (if s.f PCU_CTL_MODE u == 2 then some ((t - (s.devTime : Int)).toNat)
   else if if s.velocity p < 0 then s.revOk u else s.fwdOk u then s.predict p t else none).map fun d => d + ns (s.f PCU_DELAY_NS u)

/-- What unit `u` has for this frame's trigger turn: 0 nothing, 1 a TRG for a past target, 2 one for its next target. -/
def State.trgCase (s : State) (n u : Nat) : Nat :=
  let c := s.pcu u
  if s.f PCU_KPB_ROOT u != n || !(s.b PCU_CTL_KPB_EN u) then 0
  else if c.trgOwed != 0 then 1
  else if !(s.b PCU_STAT_ARMED u) || c.trgSent || c.due then 0
  else match s.trgTime u, s.nextBoundary n with
    | none, _ => 0
    | some _, none => 2
    | some d, some b => if s.now + d < b then 2 else 0

/-- The TRG packets of unit `u` in a trigger turn in which as many may still be sent as the second part says: those owed for past targets, then
one for its next target. -/
def State.trgUnit (n no : Nat) (acc : State × Nat) (u : Nat) : State × Nat :=
  let s := acc.1
  if acc.2 == 0 || s.trgCase n u == 0 then acc
  else
    let k := min acc.2 (s.pcu u).trgOwed
    let s := s.each k fun s _ => ((s.sendTrg n u no 0).setF PCU_STAT_LATE u 0 1).setPcu u { s.pcu u with trgOwed := (s.pcu u).trgOwed - 1 }
    if acc.2 ≤ k || s.trgCase n u != 2 then (s, acc.2 - k)
    else (((s.sendTrg n u no (max 100 (((s.trgTime u).getD 0 + 32768) / ns 1))).setF PCU_STAT_PREDICT u 0 1).setPcu u
      { s.pcu u with trgSent := true }, acc.2 - k - 1)

/-- The trigger turn: at most `k` TRG packets, in ascending unit number (R183, R217). -/
def State.trgTurn (s : State) (n no k : Nat) (units : List Nat) : State := (units.foldl (State.trgUnit n no) (s, k)).1

/-- L_due, with every link as it now is (R227). -/
def State.dueTime (s : State) (n : Nat) (due : List Nat) : Nat :=
  s.frmTime n (s.rootNow n) + (due.map fun i => s.svcTime n ((s.sq n).table.ent i) (s.rootNow n)).sum

/-- Drop due services from the last on while they do not fit into window `w` (R227); `rev` is the list reversed. -/
def State.trim (s : State) (n w : Nat) (f : Frame) : List Nat → State × List Nat
  | [] => (s, [])
  | i :: rest =>
    let c0 := eClass ((s.sq n).table.ent i) == 0
    if w * 5376 < s.dueTime n (i :: rest) * 65536 && !(c0 && s.b KSCH_CTL_KEEP_C0 n) then
      ((s.svcLate n i f).satF KSCH_CNT_TRIM_COUNT n 0 1).trim n w f rest
    else (s, (i :: rest).reverse)

/-- The window of a frame whose FRM leaves now, where there is one (R227). -/
def State.frameWindow (s : State) (n : Nat) (f : Frame) : Option Nat :=
  if f.time then some ((s.sq n).longest - (s.now - f.at_)) else (s.nextBoundary n).map fun b => b - s.now

/-- The FRM of the held boundary leaves; its triggers and its list of services follow (R203, R215, R216, R224, R227,
R231). -/
def State.frmLeave (s : State) (n : Nat) : State :=
  match (s.sq n).held with
  | none => s
  | some f =>
    let s := s.setSq n { s.sq n with held := none, cur := some { f with due := [], at_ := s.now }, lastFrm := some s.now, turn := 1, ctrl := 0,
                                     ctrlAt := s.now, due := [] }
    let s := s.setLink n { s.link n with stepNow := false }
    let x := if f.time then f.devAt % sec 1 / ns 1 else unsgn f.pos 64 / 65536 % 2 ^ 32
    let s := s.send n 0x10 255 0 (b2n f.filler + 2 * b2n f.time + 4 * b2n f.rev) (leBytes 4 f.no ++ leBytes 4 x)
    let s := s.count (bankQuad n) 0xC3 (n % 4) (some (s.krpOwner n))
    let s := (s.setF KSCH_STAT_HELD n 0 0).setF KSCH_STAT_FILLER n 0 (b2n f.filler)
    let s := (s.setF KSCH_FRM_POS_POS n 0 (unsgn f.pos 64)).setF KSCH_FRM_TIME_TIME n 0 (time96 s.devTime)
    let s := if !f.time && bit f.snap 4 then s.satF KSCH_CNT_UNREL_COUNT n 0 1 else s
    let s := s.trgTurn n f.no (s.f KSCH_ADM_TRG_RSV n) (s.pcus.map (·.1))
    let s := if f.retrain then s.shiftBy n ((s.now - f.at_) / ns 1) else s
    if later f.no (s.sq n).listTo 32 then
      (f.due.foldl (fun (s : State) i => s.svcLate n i f) s).err KSCH_ERR_LIST_LATE n
    else
      let r := match s.frameWindow n f with
        | some w => s.trim n w f f.due.reverse
        | none => (s, f.due)
      r.1.setSq n { r.1.sq n with due := r.2 }

/-! ### Running and reset (R194, R195) -/

/-- Abandon the pending FRAME commits of root port `n` (R53). -/
def State.abandonFrame (s : State) (n : Nat) : State :=
  let hit (e : Nat × Armed) : Bool := e.2.point == 2 && e.2.arg == n
  let pages := (s.cmts.filter hit).map (·.1)
  pages.foldl (fun s p => s.errOn PAGE_ERR_COMMIT_ABANDONED (p / 4096) (p % 4096))
    { s with cmts := s.cmts.filter fun e => !(hit e) }

/-- The candidate that admission accepted is forgotten. -/
def State.dropCand (s : State) (n : Nat) : State :=
  (s.setSq n { s.sq n with cand := none }).setF KSCH_ADM_STAT_CAND_VALID n 0 0

/-- A service cut off by the link or by a reset of the sequencer completes as SHORT with nothing kept beyond what had arrived
(R105); what has arrived is dropped here with the link. -/
def State.svcCut (s : State) (n : Nat) : State :=
  match (s.sq n).svc with
  | none => s
  | some v => s.setSq n { s.sq n with svc := some { v with missing := true, done := true } }

/-- The sequencer stops: unstarted services are late, and so are those of a held boundary. -/
def State.seqStop (s : State) (n : Nat) : State :=
  let s := s.lateRest n
  let s := match (s.sq n).held with
    | some f => f.due.foldl (fun (s : State) i => s.svcLate n i f) s
    | none => s
  let s := s.svcCut n
  let s := s.setSq n { s.sq n with held := none, cur := none, lastBnd := none, far := none, hwm := none, turn := 2, ctrl := 0, ctrlAt := s.now, due := [] }
  let s := (s.setF KSCH_STAT_RUNNING n 0 0).setF KSCH_STAT_HELD n 0 0
  s.setF KSCH_STAT_FILLER n 0 0

/-- The sequencer starts: it looks for crossings from where the reference stands (R194, R195). -/
def State.seqStart (s : State) (n : Nat) : State :=
  let s := s.latchSeq n
  let q := s.sq n
  let x := s.position q.pref
  let s := s.setSq n { q with startAt := s.now, lastBnd := none, hwm := some (q.mark x), prev := x, far := none, turn := 0,
                              listTo := (s.f KSCH_FRAME_NO_FRAME n + 2) % 2 ^ 32 }
  s.setF KSCH_STAT_RUNNING n 0 1

/-- The sequencer runs while ENABLE is 1 and the link is in FULL, SHED, STEPPED or RETRAIN (R194), in RUN and IDLE (R523). A change of
PREF, PITCH, CLOCK or the table on a sequencer that does not run comes into force at once. -/
def State.seqUpdate (s : State) (n : Nat) : State :=
  let want := s.b KSCH_CTL_ENABLE n && decide (4 ≤ s.lstate n) && decide (s.lstate n ≤ 7) && decide (s.f PWR_STAT_STATE ≤ 1)
  if want then (if s.b KSCH_STAT_RUNNING n then s else s.seqStart n)
  else (if s.b KSCH_STAT_RUNNING n then s.seqStop n else s).latchSeq n

end Sys2Proof.Machine
end

