-- ==== Sys2Proof/Machine/PosCmds.lean ====
section
/-! DEFINITION. Encoder edges, samples and jumps of the references, pins, and the discipline of device time (chapter 5); what fires
compare units is in PcuCmds. -/
namespace Sys2Proof.Machine

/-! ### Motion -/

/-- Motion of reference `p` to where an edge or sample accepted now has brought it (R178). -/
def State.moveUnits (s : State) (p : Nat) : State :=
  ((s.unitsOn 1 p).foldl (fun s u => s.noticeUnit u (some s.now)) s).noticeSeqs p

/-- What reference `p` has crossed since its last edge, sample or write, before the next one changes its position (R178, R196). -/
def State.noticeMotion (s : State) (p : Nat) : State := (s.noticeUnits p).noticeSeqs p

/-- The turning point, direction and estimate after the count of reference `p` has moved from `old` to `new` (R172): the direction
(true: reverse), the turning point of a band in progress, whether the estimate restarts. -/
def bandStep (h : Nat) (back : Bool) (turn : Option Int) (old new : Int) : Bool × Option Int × Bool :=
  let d := if back then old - new else new - old
  match turn with
  | none =>
    if 0 ≤ d then (back, none, false)
    else if (h : Int) ≤ -d then (!back, none, true) else (back, some old, false)
  | some t =>
    let x := if back then new - t else t - new
    if (h : Int) ≤ x then (!back, none, true)
    else if x < 0 then (back, none, true)
    else (back, some t, false)

/-- The bookkeeping of R172 for a move of reference `p` from count `old` to `new` seen at elapsed time `at_`: the measured interval
feeds the estimate, a band or a restart stills it. -/
def State.track (s : State) (p : Nat) (old new : Int) (at_ : Nat) : State :=
  let r := s.pref p
  let still := s.b PREF_STAT_STANDSTILL p
  let b := bandStep (s.f PREF_FILT_HYST p) (s.b PREF_STAT_DIR p) r.turn old new
  let ivs := if b.2.2 || still || !r.estOn || b.2.1.isSome then [] else ((at_ - r.lastEdge) :: r.intervals).take 64
  let m := meanRate (s.f PREF_FILT_INTERP_EDGES p) ivs
  let s := s.setPref p { r with turn := b.2.1, intervals := ivs, lastEdge := at_, estOn := b.2.1.isNone,
                                rate := if b.1 then -m else m }
  (s.setF PREF_STAT_DIR p 0 (b2n b.1)).setF PREF_STAT_STANDSTILL p 0 0

/-- Set a flag of PREF_STAT and, where it was 0, the error bit that reports it. -/
def State.prefFlag (s : State) (p : Nat) (F E : Fld) : State :=
  if s.b F p then s else (s.setF F p 0 1).err E p

/-- The run of edges on one channel (R160): `b` is true for channel B. -/
def State.stuckRun (s : State) (p : Nat) (b : Bool) : State :=
  let r := s.pref p
  let run := if r.runB == b && r.run != 0 then r.run + 1 else 1
  let s := (s.setPref p { r with runB := b, run := run }).setF (if b then PREF_STAT_STUCK_B else PREF_STAT_STUCK_A) p 0 0
  if s.f PREF_STILL_STUCK_EDGES p ≤ run then
    (s.prefFlag p (if b then PREF_STAT_STUCK_A else PREF_STAT_STUCK_B) PREF_ERR_STUCK).unreliable p
  else s

/-- How far the count has moved in one direction since the last index edge (R163). -/
def State.indexRun (s : State) (p : Nat) : State :=
  let r := s.pref p
  let lo := min r.lo r.cnt
  let hi := max r.hi r.cnt
  let s := s.setPref p { r with lo := lo, hi := hi }
  let period := s.f PREF_INDEX_PERIOD_COUNTS p
  if period != 0 && decide (3 * (period : Int) < 2 * max (r.cnt - lo) (hi - r.cnt)) && !(s.b PREF_STAT_INDEX_MISSING p) then
    (s.prefFlag p PREF_STAT_INDEX_MISSING PREF_ERR_INDEX_MISSING).unreliable p
  else s

/-- Place of a quadrature state in the sequence 00, 10, 11, 01 (R611). -/
def quadIdx (a b : Bool) : Nat := if a then (if b then 2 else 1) else if b then 3 else 0

/-- The second change of an illegal transition, on channel B where `chB` is set, or both changes of one (R159): the state takes the new
levels, no count is made, and what the first of the two, which arrived at `first`, had done to count, turning point and direction is taken
back. Both are accepted edges, between which the intervals of R170 are measured. -/
def State.illegalEdge (s : State) (p : Nat) (a b chB : Bool) (at_ first : Nat) (undo : EdgeUndo) : State :=
  let ivs := if undo.estOn && undo.turn.isNone then ((at_ - first) :: (first - undo.lastEdge) :: undo.intervals).take 64 else []
  let m := meanRate (s.f PREF_FILT_INTERP_EDGES p) ivs
  let s := s.setPref p { s.pref p with lvA := a, lvB := b, cnt := undo.cnt, base := undo.cnt * 65536, at_ := at_,
                                       rate := if undo.back then -m else m, turn := undo.turn, lastEdge := at_,
                                       intervals := ivs, estOn := undo.estOn, lo := undo.lo, hi := undo.hi,
                                       stillAt := at_, undo := none }
  let s := (s.setF PREF_STAT_DIR p 0 (b2n undo.back)).setF PREF_STAT_STANDSTILL p 0 0
  let s := (s.stuckRun p chB).setF PREF_STAT_OVERSPEED p 0 1
  (s.unreliable p).settleUnits p

/-- An accepted edge on channel A (0), B (1), or on both within one filter window (2) (R158 to R160, R170 to R174, R611). The edge
arrived FILT_NS before its acceptance. -/
def State.encoderEdge (s : State) (p ch : Nat) : State :=
  let s := s.noticeMotion p
  let r := s.pref p
  let filt := ns (s.f PREF_FILT_FILT_NS p)
  let at_ := s.now - filt
  let a := if ch == 1 then r.lvA else !r.lvA
  let b := if ch == 0 then r.lvB else !r.lvB
  let near := r.run != 0 && r.runB != (ch == 1) && decide (at_ ≤ r.stillAt + filt)
  let still := s.b PREF_STAT_STANDSTILL p
  let here : EdgeUndo := { cnt := r.cnt, turn := r.turn, back := s.b PREF_STAT_DIR p, lastEdge := r.lastEdge,
                           intervals := if still then [] else r.intervals, estOn := r.estOn && !still, lo := r.lo, hi := r.hi }
  if ch == 2 then (s.stuckRun p false).illegalEdge p a b true at_ at_ here
  else if near then s.illegalEdge p a b (ch == 1) at_ r.stillAt (r.undo.getD here)
  else
    let up := (quadIdx a b + 4 - quadIdx r.lvA r.lvB) % 4 == 1
    let d : Int := if up != s.b PREF_CTL_INVERT_DIR p then 1 else -1
    let new := r.cnt + d
    let s := s.setPref p { r with lvA := a, lvB := b, cnt := new, base := new * 65536, at_ := at_, stillAt := at_, undo := some here,
                                  fullSeen := r.fullSeen || s.f DEV_SERVICE_SERVICE == 2 }
    (((s.track p r.cnt new at_).stuckRun p (ch == 1)).indexRun p).moveUnits p

/-- Unit 47's page of reference `p` works and its source is `src`. -/
def State.prefOn (s : State) (p src : Nat) : Bool := s.live 0x20 p && s.f PREF_CTL_SRC p == src

/-- ENCODER_EDGE: an accepted edge (R611). -/
def execEncoderEdge (ref chan : Nat) (s : State) : Res :=
  .next (if s.prefOn ref 1 && decide (chan ≤ 2) then
    (s.encoderEdge ref chan).count 109 0x240 ref none (if chan == 2 then 2 else 1) else s)

/-- GLITCH: a discarded level change on A (0), B (1) or Z (2) (R158, R159, R161). -/
def execGlitch (ref chan : Nat) (s : State) : Res :=
  .next <| if !(s.prefOn ref 1) then s
  else
    let s := (s.satF PREF_CNT_GLITCH_COUNT ref 0 1).count 109 0x241 ref none
    if 2 ≤ chan then s
    else
      let r := s.pref ref
      let g := (s.now :: r.glitches.filter fun t => decide (s.now ≤ t + us 1)).take 8
      let s := s.setPref ref { r with glitches := g }
      if g.length == 8 then (s.setF PREF_STAT_OVERSPEED ref 0 1).unreliable ref else s

/-- Place reference `p` at `x` as a jump (R177, R198); the offset from a device's counts moves with it, as do the turning point and the
count's range for SRC 1. -/
def State.jumpTo (s : State) (p : Nat) (x : Int) : State :=
  let s := s.noticeMotion p
  let r := s.pref p
  let old := s.position p
  let s := s.place p x
  let d := x / 65536 - r.cnt
  let src := s.f PREF_CTL_SRC p
  let s := if src == 2 then
      let turn := r.turn.map fun t => (t * 65536 + (x - old)) / 65536
      let sample := r.sample.map fun y => (y.1, y.2 + (x - old))
      s.setPref p { s.pref p with t0 := r.t0 + (x - old), turn := turn, sample := sample }
    else if src == 1 then
      s.setPref p { s.pref p with turn := r.turn.map fun t => t + d, lo := r.lo + d, hi := r.hi + d, undo := none }
    else s
  s.jump p old (s.position p)

/-- The count becomes INDEX_POS at an index edge (R162): a jump where it changes the position. -/
def State.indexSet (s : State) (p : Nat) : State :=
  let x := sgn (s.f PREF_INDEX_POS_COUNT p) 48 * 65536
  let s := s.reliable p
  if x == s.position p then s.place p x else s.jumpTo p x

/-- INDEX_EDGE: an accepted change of Z to `level` (R161, R162). -/
def execIndexEdge (ref : Nat) (level : Bool) (s : State) : Res :=
  .next <| if !(s.prefOn ref 1) then s
  else
    let r := s.pref ref
    let s := s.setPref ref { r with lvZ := level }
    if level == s.b PREF_CTL_INDEX_POL ref || (s.b PREF_CTL_INDEX_QUAL ref && !(r.lvA && r.lvB)) then s
    else
      let diff := sgn (s.f PREF_INDEX_POS_COUNT ref) 48 - r.cnt
      let s := (s.setF PREF_IDX_ERR_ERR ref 0 (unsgn diff 32)).addF PREF_CNT_INDEX_COUNT ref 0 1
      let s := s.setF PREF_STAT_INDEX_MISSING ref 0 0
      let m := s.f PREF_CTL_INDEX_MODE ref
      let s := if m == 3 then s.indexSet ref
        else if m == 2 && r.homing then
          ((s.indexSet ref).setF PREF_STAT_HOMED ref 0 1).setPref ref { (s.indexSet ref).pref ref with homing := false }
        else if m != 0 && diff != 0 then s.unreliable ref
        else s
      s.setPref ref { s.pref ref with lo := (s.pref ref).cnt, hi := (s.pref ref).cnt }

/-- Freeze the fraction and the velocity of reference `p` (R173, R166). -/
def State.freeze (s : State) (p : Nat) : State :=
  s.setPref p { s.pref p with base := s.position p, at_ := s.now, rate := 0, intervals := [], estOn := false }

/-- STANDSTILL: no edge for STILL_TMO (R173). -/
def execStandstill (ref : Nat) (s : State) : Res :=
  .next <| if s.prefOn ref 1 && !(s.b PREF_STAT_STANDSTILL ref) &&
      decide ((s.pref ref).stillAt + us (s.f PREF_STILL_STILL_TMO ref) ≤ s.now) then
    (s.freeze ref).setF PREF_STAT_STANDSTILL ref 0 1
  else s

/-! ### KPB samples (R164 to R166) -/

/-- A dated sample of reference `p`: POSITION in the device's counts and the elapsed time of its capture. The first after a handover
fixes the offset to the count that the reference then has; the first after SRC_LOST is a jump. From the second on the velocity is taken from
the last two, but for the band of R172, in which the fraction is 0 as well (R165, R612). -/
def State.dateSample (s : State) (p : Nat) (raw : Int) (te : Nat) (fault : Bool) : State :=
  let s := s.noticeMotion p
  let r := s.pref p
  let t0 := if r.sample.isSome then r.t0 else s.position p - raw
  let x := raw + t0
  let s := if fault then s.unreliable p else s
  let put (s : State) : State :=
    s.setPref p { s.pref p with cnt := x / 65536, base := x, at_ := te, sample := some (te, x), missed := 0, t0 := t0,
                                fullSeen := r.fullSeen || s.f DEV_SERVICE_SERVICE == 2 }
  if s.b PREF_STAT_SRC_LOST p then
    let old := s.position p
    let s := put (s.setF PREF_STAT_SRC_LOST p 0 0)
    (s.setPref p { s.pref p with rate := 0, turn := none, estOn := true }).jump p old x
  else match r.sample with
    | none => put (s.setPref p { r with rate := 0, estOn := true })
    | some (t, y) =>
      let b := bandStep (s.f PREF_FILT_HYST p) (s.b PREF_STAT_DIR p) r.turn (y / 65536) (x / 65536)
      let on := r.estOn && b.2.1.isNone && !b.2.2
      let rate : Int := if on && t < te then (x - y) * (65536 * 1000000000) / ((te : Int) - t) else 0
      let s := (put s).setF PREF_STAT_DIR p 0 (b2n b.1)
      (s.setPref p { s.pref p with rate := rate, turn := b.2.1, estOn := b.2.1.isNone,
                                   base := if b.2.1.isSome then x / 65536 * 65536 else x }).moveUnits p

/-- The last sample of a service of endpoint `ep` of address `a` on root port `n` that completed as OK, for every reference that
follows it; `left` is the elapsed time at which its frame's FRM left (R164, R165). -/
def State.takeSample (s : State) (n a ep left : Nat) (data : List (BitVec 8)) : State :=
  if data.length < 16 then s
  else
    let d := data.drop (data.length / 16 * 16 - 16)
    let te := left + (s.link n).rtt / 2 - ns (leAt d 8 4)
    ((List.range 8).filter fun p => s.prefOn p 2 && s.f PREF_KPB_ROOT p == n && s.f PREF_KPB_ADDR p == a &&
        s.f PREF_KPB_EP p == ep).foldl
      (fun s p => s.dateSample p (sgn (leAt d 0 8) 64) te (bit (leAt d 12 1) 1)) s

/-- Every reference that follows an endpoint of root port `n` is one more frame without a sample (R166). -/
def State.frameSamples (s : State) (n : Nat) : State :=
  ((List.range 8).filter fun p => s.prefOn p 2 && s.f PREF_KPB_ROOT p == n).foldl
    (fun s p => s.setPref p { s.pref p with missed := (s.pref p).missed + 1 }) s

/-- SRC_LOST: LOST_FRAMES frames without a usable sample, or the device is detached (R166). -/
def execSrcLost (ref : Nat) (s : State) : Res :=
  .next <|
    let n := s.f PREF_KPB_ROOT ref
    let e := s.ent n (s.f PREF_KPB_ADDR ref)
    let gone := (s.f KHUB_TREE_CTL_ENUM_EN 0 n == 1 && !e.there) || e.state == 3 || decide (s.lstate n ≤ 2)
    if s.prefOn ref 2 && !(s.b PREF_STAT_SRC_LOST ref) &&
        (gone || decide (s.f PREF_KPB_LOST_FRAMES ref < (s.pref ref).missed)) then
      ((s.freeze ref).prefFlag ref PREF_STAT_SRC_LOST PREF_ERR_SRC_LOST).unreliable ref
    else s

/-! ### Register writes -/

/-- A write of PREF_SET: a jump that clears UNRELIABLE (R169). -/
def State.prefSet (s : State) (p v : Nat) : State := (s.reliable p).jumpTo p (sgn (v % 2 ^ 64) 64)

/-- PREF_SET (R169). -/
def execPrefSet (fn ref value : Nat) (s : State) : Res := .next (s.act fn 0x20 ref false fun s => s.prefSet ref value)

/-- A write of PREF_HOST_VEL: the rate for the next move (R167). -/
def State.hostVel (s : State) (p v : Nat) : State := s.setPref p { s.pref p with hostRate := sgn (v % 2 ^ 64) 64 }

/-- PREF_HOST_VEL (R167). -/
def execPrefHostVel (fn ref value : Nat) (s : State) : Res := .next (s.act fn 0x20 ref false fun s => s.hostVel ref value)

/-- A write of PCU_ARM (R191): DISARM and then ARM. -/
def State.pcuArm (s : State) (u : Nat) (disarm arm : Bool) : State :=
  let s := if disarm then s.disarm u else s
  if arm then s.arm u else s

/-- PCU_ARM_ARM: a PCU_ARM write with ARM, and DISARM where `disarm` is set (R191). -/
def execPcuArmArm (fn unit : Nat) (disarm : Bool) (s : State) : Res :=
  .next (s.act fn 0x21 unit false fun s => s.pcuArm unit disarm true)

/-- PCU_ARM_DISARM (R191). -/
def execPcuArmDisarm (fn unit : Nat) (s : State) : Res := .next (s.act fn 0x21 unit false fun s => s.pcuArm unit true false)

/-! ### Pins -/

/-- A pulse whose time has come ends (R182). -/
def State.endPulse (s : State) (t : Nat) : State :=
  match (s.pin t).pulse with
  | some e => if e ≤ s.now && !(s.pulseBefore t (e + ns 4)) then (s.pulseOver t e).drivePin t else s
  | none => s

/-- PIN_ACTION: the earliest placed actions of pin `pin` take effect: pulse edges first, then the others in ascending unit number
(R181, R182). -/
def execPinAction (pin : Nat) (s : State) : Res :=
  .next <|
    let mine := s.pinQ.filter fun a => a.pin == pin && decide (a.at_ ≤ s.now)
    match (mine.map PinAct.at_).min? with
    | none => s
    | some t =>
      let now := mine.filter fun a => a.at_ == t
      let s := match (s.pin pin).pulse with
        | some e => if e ≤ t then s.pulseOver pin e else s
        | none => s
      let s := { s with pinQ := s.pinQ.filter fun a => !(a.pin == pin && a.at_ == t) }
      let s := now.foldl (fun s a => s.count 109 0x243 (if s.f PCU_CTL_MODE a.unit == 1 then s.f PCU_CTL_PREF a.unit else 8) none) s
      let s := (now.filter fun a => a.act == 0).foldl State.pinAct s
      (((now.filter fun a => a.act != 0).foldr insAct []).foldl State.pinAct s).drivePin pin

/-- PULSE_END (R182). -/
def execPulseEnd (pin : Nat) (s : State) : Res := .next (s.endPulse pin)

/-! ### Device time -/

/-- A pulse of PPS_OUT starts now, or the one in progress is lengthened (R189). -/
def State.ppsPulse (s : State) : State :=
  let e := s.now + us (s.f TIME_PPS_PPS_OUT_WIDTH)
  let s' := { s with tm := { s.tm with ppsEnd := some e } }
  if s.tm.ppsEnd.isSome then s' else s'.emit (.ppsOut true)

/-- Device time jumps to `new` (R168, R177, R187, R189): references counted from it jump, units in time mode whose targets are passed
miss them, and PPS_OUT pulses once where a second boundary is crossed forward. -/
def State.timeJump (s : State) (new : Nat) : State :=
  let old := s.devTime
  let refs := ((List.range 8).filter fun p => s.f PREF_CTL_SRC p == 4).map fun p => (p, s.position p)
  let s := (s.unitsOn 2 0).foldl (fun s u => s.noticeUnit u none) (refs.foldl (fun s r => s.noticeUnits r.1) s)
  let s := { s with devTime := new }
  let s := refs.foldl (fun s r => s.jump r.1 r.2 (s.position r.1)) s
  let s := s.jumpTimeUnits old new
  let s := if s.b TIME_CTL_PPS_OUT_EN && decide (old / sec 1 < new / sec 1) then s.ppsPulse else s
  let s := { s with tm := { s.tm with ppsSec := new / sec 1 } }
  ((s.setF TIME_STAT_SET_ONCE 0 0 1).err TIME_ERR_STEPPED 0).nrgJump old

/-- A TIME_CMD write (R187): refused whole where TIME_SET is malformed or the result lies out of range. -/
def State.timeCmd (s : State) (set step : Bool) : State :=
  let t := s.f TIME_SET_TIME
  let z0 : Int := if set then ofTime96 t else s.devTime
  let z := if step then z0 + sgn (s.f TIME_STEP_OFFSET) 64 else z0
  if !set && !step then s
  else if (set && decide (sec 1 ≤ t % 2 ^ 48)) || decide (z < 0) || decide ((2 ^ 48 * sec 1 : Nat) ≤ z) then
    s.err TIME_ERR_STEP_REFUSED 0
  else (s.timeJump z.toNat).addF TIME_STAT_STEPS 0 0 (b2n set + b2n step)

/-- TIME_CMD_SET: a TIME_CMD write with SET, and STEP where `step` is set (R187). -/
def execTimeCmdSet (fn : Nat) (step : Bool) (s : State) : Res := .next (s.act fn 0x24 0 false fun s => s.timeCmd true step)

/-- TIME_CMD_STEP: a TIME_CMD write with STEP alone (R187). -/
def execTimeCmdStep (fn : Nat) (s : State) : Res := .next (s.act fn 0x24 0 false fun s => s.timeCmd false true)

/-- TIME_RATE_WRITE (R187, R193). -/
def execTimeRateWrite (fn value : Nat) (s : State) : Res :=
  .next (s.act fn 0x24 0 false fun s => s.setF TIME_RATE_ADJ 0 0 value)

/-- Holdover begins (R186): the servo holds its last rate, and slews no more. -/
def State.holdover (s : State) : State :=
  let s := { s with tm := { s.tm with good := 0, slew := 0 } }
  let s := if s.b TIME_STAT_HOLDOVER then s else (s.setF TIME_STAT_HOLDOVER 0 0 1).err TIME_ERR_HOLDOVER 0
  s.setF TIME_STAT_LOCKED 0 0 0

/-- Signed offset of an instant of device time from the nearest second. -/
def ppsOffset (t : Nat) : Int :=
  let r := t % sec 1
  if 2 * r ≤ sec 1 then r else (r : Int) - (sec 1 : Nat)

/-- The servo's work at a PPS_IN edge in REF mode (R186). The rate of REF10M_IN against the local oscillator's, to which it locks, is the
board's: a free value, in the unit of TIME_RATE. -/
def State.ppsServo (s : State) : State :=
  let off := ppsOffset s.devTime
  let s := s.setF TIME_PHASE_NS 0 0 (unsgn (off / 65536) 32)
  let s := if s.tm.ref10 then
      ({ s with tm := { s.tm with rate := sgn (Config.freeNat s.draws % 2 ^ 32) 32 } }).bump else s
  let s := if s.b TIME_STAT_HOLDOVER && s.tm.ref10 then
      ({ s with tm := { s.tm with good := 0 } }).setF TIME_STAT_HOLDOVER 0 0 0 else s
  if s.b TIME_STAT_HOLDOVER then s
  else if ns 1000 < off.natAbs then
    let z : Int := (s.devTime : Int) - off
    (({ s with tm := { s.tm with good := 0, slew := 0 } }).timeJump z.toNat).addF TIME_STAT_STEPS 0 0 1
  else
    let good := if off.natAbs ≤ ns 10 then s.tm.good + 1 else 0
    let s := { s with tm := { s.tm with slew := -off, good := good } }
    if 10 ≤ good then s.setF TIME_STAT_LOCKED 0 0 1 else if good == 0 then s.setF TIME_STAT_LOCKED 0 0 0 else s

/-- PPS_IN: an edge of the selected polarity; `ref10` says whether REF10M_IN is present at the ball (R186, R189). -/
def execPpsIn (ref10 : Bool) (s : State) : Res :=
  .next <| if !(s.live 0x24 0) then s
  else
    let s := { s with tm := { s.tm with lastPps := some s.now, ref10 := ref10 } }
    let s := (s.setF TIME_PPS_IN_TIME 0 0 (time96 s.devTime)).setF TIME_STAT_PPS_PRESENT 0 0 1
    let s := s.setF TIME_STAT_REF10_PRESENT 0 0 (b2n ref10)
    if s.f TIME_CTL_MODE == 1 then s.ppsServo else s

/-- REF10M_LOSS: REF10M_IN has been lost for 3 µs (R186). -/
def execRef10mLoss (s : State) : Res :=
  .next <| if !(s.live 0x24 0) then s
  else
    let s := ({ s with tm := { s.tm with ref10 := false } }).setF TIME_STAT_REF10_PRESENT 0 0 0
    if s.f TIME_CTL_MODE == 1 then s.holdover else s

/-- PPS_MISSING: no PPS_IN edge for 1.1 s (R186). -/
def execPpsMissing (s : State) : Res :=
  .next <| if !(s.live 0x24 0) || decide (s.now < (s.tm.lastPps.getD 0) + ms 1100) then s
  else
    let s := s.setF TIME_STAT_PPS_PRESENT 0 0 0
    if s.f TIME_CTL_MODE == 1 then s.holdover else s

/-- PPS_OUT_SECOND: running device time has reached a whole second (R189). -/
def execPpsOutSecond (s : State) : Res :=
  .next <| if s.live 0x24 0 && decide (s.tm.ppsSec < s.devTime / sec 1) then
    let s' := { s with tm := { s.tm with ppsSec := s.devTime / sec 1 } }
    if s.b TIME_CTL_PPS_OUT_EN then s'.ppsPulse else s'
  else s

/-- PPS_OUT_PULSE_END (R189). -/
def execPpsOutPulseEnd (s : State) : Res :=
  .next <| match s.tm.ppsEnd with
  | some e => if e ≤ s.now then ({ s with tm := { s.tm with ppsEnd := none } }).emit (.ppsOut false) else s
  | none => s

end Sys2Proof.Machine
end

