-- ==== Sys2Proof/Machine/Wire.lean ====
section
/-! DEFINITION. What root ports send in the turns of a frame: periodic services, control stages and bulk bursts, their repeats and
ends (chapters 3, 4 and 6). -/
namespace Sys2Proof.Machine

/-! ### Ends of descriptors -/

/-- The sheaf, if any, whose SHF_BULK names queue `q` (Table 11-1). -/
def State.bulkSheaf (s : State) (q : Nat) : Option Nat :=
  (List.range 64).find? fun h => (List.range 8).any fun k => s.b SHF_BULK_VALID h k && s.f SHF_BULK_QUEUE h k == q

/-- A bulk IN transfer that has brought its data completes: into a task of its sheaf where SHF_BULK names its queue (R363, R378),
to its ring otherwise. -/
def State.bulkInDone (s : State) (q : Nat) (d : Desc) (status : Nat) : State :=
  let go := s.kpbDone q d status d.moved
  match s.bulkSheaf q with
  | none => go
  | some h =>
    let c := s.descCpl q d status d.moved []
    let i := s.wqOwner q
    let r := s.taskCreate { sheaf := h, inst := i, src := 2, hook := 2, prio := s.f SHF_PRIO_BULK_PRIO h, q := q, idx := d.idx,
                            dl := .time (s.devTime + us (s.f SHF_DL_EV_DL_US h)), stream := streamKey 3 q,
                            data := leBytes 1 status ++ leBytes 1 1 ++ (List.range 6).map (Config.freeByte s.draws) ++ c.body,
                            own := [(d.cq, c)] }
    if !r.2 then go
    else
      let s := r.1.bump
      let w := s.wq q
      let s := (s.setWq q { w with acc := w.acc.filter fun x => x.idx != d.idx }).wqShow q
      s.haltOn q status

/-- What a control transfer of the owner's own has changed in the tree (R92, R128): a configuration set, a halt cleared. -/
def State.snoop (s : State) (n a : Nat) (setup : List (BitVec 8)) : State :=
  let kind := bits (leAt setup 1 1) 5 2
  if kind != 0 then s
  else if leAt setup 0 1 == 0x03 then
    let e := s.ent n a
    let v := leAt setup 4 1
    let s := s.restartSeqs n fun k => k / 32 == a
    if e.there then (s.setEnt n a { e with cfg := v, state := if v == 0 then 1 else 2 }).tableWrite n [a] else s
  else if leAt setup 0 1 == 0x06 && leAt setup 3 1 / 16 == 1 then
    s.restartSeqs n fun k => k / 2 == epKey a (leAt setup 2 1 / 16) false / 2
  else s

/-- A descriptor waits on a fault (R439, R440). Work that must only wait (R453, R427) is tried again at its next turn. -/
def State.descFault (s : State) (n q : Nat) (d : Desc) (kind : Nat) (e : XErr) (wr : Bool) : State :=
  if e.reason == 0 then s
  else
    let r := s.faultWait (dieOf n) (s.wqOwner q) kind e wr (s.wqLocal q) (d.idx % 65536) (descRef q d.idx)
    r.2.setDesc q { d with phase := 3, fid := r.1 }

/-- The accepted descriptor that a step serves. -/
def State.stepDesc (s : State) (t : Step) : Option Desc := (s.wq t.q).acc.find? fun d => d.idx == t.idx

/-! ### The frame close guard (R222) -/

/-- Time left to the guard, where the next boundary is predicted. -/
def State.guardLeft (s : State) (n : Nat) : Option Nat :=
  (s.nextBoundary n).map fun b => b - ns (s.f KSCH_GUARD_GUARD_NS n) - s.now

/-- Blocks beside the token that fit before the guard for a device, TURN taken off; no limit where there is no prediction. -/
def State.fitBlocks (s : State) (n a : Nat) : Option Nat :=
  let p := s.pathOf n a (s.rootNow n)
  (s.guardLeft n).map fun left => (left * 5376 / 65536 - s.turnOf n p.2) / p.1 - 1

/-- `x` blocks fit. -/
def fits (room : Option Nat) (x : Nat) : Bool := match room with
  | some k => decide (x ≤ k)
  | none => true

/-! ### Bulk bursts (R94, R95, R221 to R223) -/

/-- Largest bulk packet. -/
def State.pktMax (s : State) (n : Nat) : Nat := 256 * s.f KSCH_GUARD_PKT_MAX n

/-- Body of a KPB descriptor (Table 07-3). -/
def kAddr (d : Desc) : Nat := leAt d.bytes 8 1
def kEp (d : Desc) : Nat := leAt d.bytes 9 1 / 16
def kIn (d : Desc) : Bool := bit (leAt d.bytes 9 1) 3
def kLen (d : Desc) : Nat := leAt d.bytes 12 3
def kBuf (d : Desc) : Nat := leAt d.bytes 16 8

/-- Add a step that waits for its response: from the end of what has been sent for it (R90, R95). -/
def State.addStep (s : State) (n : Nat) (t : Step) : State :=
  s.setSq n { s.sq n with steps := (s.sq n).steps ++ [{ t with since := s.wireFree n, cut := false, idle := false, withheld := false }] }

/-- A bulk IN burst: one packet (CREDIT 1), as large as the bytes left, PKT_MAX and the guard allow. Nothing where the guard stops it. -/
def State.bulkIn (s : State) (n q : Nat) (d : Desc) (tries : Nat) (bad : Bool) : Option State :=
  let room := s.fitBlocks n (kAddr d)
  if !(fits room 4) then none
  else
    let most := min (kLen d - d.moved) (s.pktMax n)
    let len := match room with
      | some k => min most (16 * (k - 3))
      | none => most
    let seq := s.bseq n (kAddr d) (kEp d) true
    let s := s.setDesc q { d with phase := 1, tries := 1, bad := false }
    some ((s.sendTok n 0x20 (kAddr d) (kEp d) true 0 seq 1 len).addStep n
      { kind := 1, q := q, idx := d.idx, addr := kAddr d, ep := kEp d, dirIn := true, seq := seq, maxlen := len,
        tries := tries, bad := bad })

/-- Packets and bytes of a bulk OUT burst within `credit` packets of `pk` bytes, of `left` bytes, with `room` blocks. -/
def outShape (left pk credit : Nat) (room : Option Nat) : Nat × Nat :=
  let most := max 1 (min (min credit 32) (cdiv left pk))
  match ((List.range most).map fun i => i + 1).reverse.find? fun k => fits room (3 * k + cdiv (min left (k * pk)) 16) with
  | some k => (k, min left (k * pk))
  | none => match room with
    | some r => (1, min (min left pk) (16 * (r - 3)))
    | none => (1, min left pk)

/-- The packets of a bulk OUT burst: header and payload of each. -/
def State.outPackets (s : State) (n a ep seq pk : Nat) (final : Bool) (bs : List (BitVec 8)) : Nat → List (List (BitVec 8) × List (BitVec 8))
  | 0 => []
  | k + 1 =>
    let data := if k == 0 then bs else bs.take pk
    (s.datHdr n a ep (b2n (final && k == 0)) seq data.length false, data) :: s.outPackets n a ep ((seq + 1) % 1024) pk final (bs.drop pk) k

/-- The packets of an OUT burst go on the wire one behind the other (R95, R96): the first at once. -/
def State.outFlow (s : State) (n : Nat) : State :=
  match (s.sq n).steps.find? fun t => !t.idle && !t.rest.isEmpty with
  | none => s
  | some t =>
    if !(s.carries n) then s
    else
      let r := s.wireRest n t.rest
      r.1.mapStep n (fun x => x == t) fun x => { x with rest := r.2, since := max x.since (r.1.link n).txEnd }

/-- CREDIT of the last BUR of a bulk OUT endpoint (R95); before the first, what R92 allows. -/
def State.outCredit (s : State) (n : Nat) (d : Desc) : Nat :=
  PMap.get (s.tree n).credits (epKey (kAddr d) (kEp d) false) 32

/-- A bulk OUT burst (R95): every source byte is translated before its token (R439). -/
def State.bulkOut (s : State) (n q : Nat) (d : Desc) (tries : Nat) (bad : Bool) : Option State :=
  let room := s.fitBlocks n (kAddr d)
  if !(fits room 4) then none
  else
    let a := kAddr d
    let sh := outShape (kLen d - d.moved) (s.pktMax n) (s.outCredit n d) room
    match s.readV (s.wqOwner q) (kBuf d + d.moved) sh.2 with
    | .error e => some (s.descFault n q d 0x02 e false)
    | .ok bs =>
      let seq := s.bseq n a (kEp d) false
      let s := (s.setDesc q { d with phase := 1, tries := 1, bad := false }).sendTok n 0x21 a (kEp d) false 0 seq sh.1 sh.2
      let ps := s.outPackets n a (kEp d) seq (s.pktMax n) (d.moved + sh.2 == kLen d) bs sh.1
      let s := (ps.take 1).foldl (fun s p => s.wire n s.now p.1 p.2) s
      some (s.addStep n { kind := 2, q := q, idx := d.idx, addr := a, ep := kEp d, seq := seq, credit := sh.1, maxlen := sh.2,
                          tries := tries, bad := bad, rest := ps.drop 1 })

/-- A bulk burst of a descriptor. -/
def State.bulkGo (s : State) (n q : Nat) (d : Desc) (tries : Nat) (bad : Bool) : Option State :=
  if kIn d then s.bulkIn n q d tries bad else s.bulkOut n q d tries bad

/-- The first descriptor of queue `q` that a turn may serve: not waiting on a fault, none of its stream before it, not put off by a NAK
to a later turn, not held back by a halt or, for bulk IN, by a sheaf that has no slot (R91, R244, R264, Table 11-4). -/
def State.turnDesc (s : State) (n q : Nat) (stream : Desc → Nat) : Option Desc :=
  let halted := s.qb WQ_STAT_HALTED q
  let full := match s.bulkSheaf q with
    | some h => s.blocked h (s.wqOwner q)
    | none => false
  let rec go (seen : List Nat) : List Desc → Option Desc
    | [] => none
    | d :: ds =>
      let k := stream d
      if !(seen.contains k) && (d.phase == 1 || (d.phase == 0 && !halted)) && !(full && kIn d) then some d
      else go (if d.phase == 2 then seen else k :: seen) ds
  go (((s.sq n).naked.filter fun x => x.1 == q).map (·.2)) (s.wq q).acc

/-- The bulk descriptor that queue `q` has ready. A bulk OUT endpoint whose last BUR granted no CREDIT has none (R95). -/
def State.bulkReady (s : State) (n q : Nat) : Option Desc :=
  (s.turnDesc n q fun d => epKey (kAddr d) (kEp d) (kIn d)).filter fun d => kIn d || s.outCredit n d != 0

/-- The control descriptor that queue `q` has ready: one transfer at a time for each device. -/
def State.ctrlReady (s : State) (n q : Nat) : Option Desc := s.turnDesc n q kAddr

/-- What a NAK of a step puts off: its stream in its queue, or Zhoem's own work of its kind. -/
def nakKey (t : Step) : Nat × Nat :=
  if t.kind ≤ 2 then (t.q, epKey t.addr t.ep t.dirIn) else if t.kind == 3 then (t.q, t.addr) else (2 ^ 20 + t.kind, 0)

/-- A NAK puts a step off to the next turn of its kind (R91, R221). -/
def State.putOff (s : State) (n : Nat) (t : Step) : State := s.setSq n { s.sq n with naked := nakKey t :: (s.sq n).naked }

/-! ### Control stages (R98, R220) -/

/-- Bytes of the data stage and its direction. -/
def setupLen (setup : List (BitVec 8)) : Nat := leAt setup 12 2
def setupIn (setup : List (BitVec 8)) : Bool := bit (leAt setup 1 1) 7
/-- A stage runs IN. -/
def stageIn (setup : List (BitVec 8)) (stage : Nat) : Bool :=
  if stage == 0 then false else if stage == 1 then setupIn setup else setupLen setup == 0 || !(setupIn setup)

/-- Largest control payload of a device: 2^EP0_LOG2, and 64 while its DEVICE descriptor is not known. -/
def State.ep0Max (s : State) (n a : Nat) : Nat :=
  let dev := match (s.tree n).enum with
    | some e => if e.addr == a && (s.ent n a).state == 0 then e.device else (s.ent n a).device
    | none => (s.ent n a).device
  let l := leAt dev 11 1
  if 6 ≤ l && l ≤ 14 then 2 ^ l else 64

/-- Packets and bytes of a stage from byte `sent` of its data on. -/
def stageShape (setup : List (BitVec 8)) (stage sent most : Nat) : Nat × Nat :=
  if stage == 0 then (1, 16)
  else if stage == 1 then (max 1 (cdiv (setupLen setup - sent) most), setupLen setup - sent) else (1, 0)

/-- The bytes that an OUT packet of a step carries: the buffer's, as translated before the setup stage. -/
def State.stageOut (s : State) (t : Step) (n : Nat) : List (BitVec 8) :=
  match s.stepDesc t with
  | some d => ((d.places.flatMap fun p => s.load p.1 p.2.2).drop t.sent).take n
  | none => []

/-- Send the token of a stage's next packet, and the packet where it runs OUT. -/
def State.stageSend (s : State) (n : Nat) (t : Step) : State :=
  let len := if t.stage == 1 then min (setupLen t.setup - t.sent) (s.ep0Max n t.addr) else 0
  let t := { t with maxlen := len, dirIn := stageIn t.setup t.stage }
  let s := if t.stage == 0 then (s.sendTok n 0x22 t.addr 0 false 2 0 1 16).sendDat n t.addr 0 0 0 0 t.setup
    else if t.dirIn then s.sendTok n 0x20 t.addr 0 true 2 t.seq 1 len
    else (s.sendTok n 0x21 t.addr 0 false 2 t.seq 1 len).sendDat n t.addr 0
      (b2n (t.stage == 1 && t.sent + len == setupLen t.setup)) t.seq 0 (s.stageOut t len)
  s.addStep n t

/-- A stage fits before the guard (R222). -/
def State.stageFits (s : State) (n : Nat) (t : Step) : Bool :=
  let sh := stageShape t.setup t.stage t.sent (s.ep0Max n t.addr)
  fits (s.fitBlocks n t.addr) (3 * sh.1 + cdiv sh.2 16)

/-- The step of a control descriptor's stage. -/
def ctrlStep (q : Nat) (d : Desc) : Step :=
  { kind := 3, q := q, idx := d.idx, addr := kAddr d, stage := d.stage, setup := (d.bytes.drop 16).take 16, seq := d.next,
    sent := if d.stage == 1 then d.moved else 0, tries := d.tries, bad := d.bad }

/-- The places of `n` bytes at `va`, or the first error. -/
def State.placesFor (s : State) (i va n : Nat) (wr : Bool) : Except XErr (List (Nat × Option Nat × Nat)) :=
  match s.xcheck i va n wr with
  | some e => .error e
  | none => .ok ((piecesOf va n).filterMap fun p => match s.xlate i p.1 wr with
    | .ok (a, h) => some (a, h, p.2)
    | .error _ => none)

/-- Start a stage of a control descriptor; the setup stage first translates the buffer whole (R440). -/
def State.ctrlGo (s : State) (n q : Nat) (d : Desc) : State :=
  let t := ctrlStep q d
  let d := { d with tries := 1, bad := false }
  if d.stage != 0 || setupLen t.setup == 0 then (s.setDesc q { d with phase := 1 }).stageSend n t
  else match s.placesFor (s.wqOwner q) (leAt d.bytes 32 8) (setupLen t.setup) (setupIn t.setup) with
    | .error e => s.descFault n q d 0x03 e (setupIn t.setup)
    | .ok ps => ((s.bump).setDesc q { d with phase := 1, places := ps }).stageSend n t

/-- The step of a request that Zhoem itself runs. -/
def ctlStep (kind : Nat) (c : Ctl) : Step :=
  { kind := kind, addr := c.addr, stage := c.stage, setup := c.setup, seq := c.seq,
    sent := if c.stage == 1 then c.data.length else 0, tries := c.tries, bad := c.bad }

/-- The step of a status poll (R135). -/
def pollStep (h : Nat) : Step := { kind := 5, addr := h, ep := 1, dirIn := true, maxlen := 16 }

/-- Send a status poll. -/
def State.pollSend (s : State) (n : Nat) (t : Step) : State :=
  let tr := s.tree n
  let hub := PMap.get tr.hubs t.addr {}
  let s := s.setTree n { tr with hubs := PMap.put tr.hubs t.addr { hub with due := false, turnAt := some (s.sq n).ctrlAt } }
  (s.sendTok n 0x20 t.addr 1 true 2 0 1 16).addStep n t

/-- A route that waits to be cleared becomes a request (R138, R144). -/
def State.clearNext (s : State) (n : Nat) : State :=
  let t := s.tree n
  match t.clr, t.clear with
  | none, (h, a) :: rest =>
    if (s.ent n h).there then s.setTree n { t with clear := rest, clr := some { addr := h, setup := reqSetRoute a 0 } }
    else s.setTree n { t with clear := rest }
  | _, _ => s

/-- Zhoem's own next stage: a route to clear, an enumeration step unless a table fault parks it (R143), a hub poll (Table 06-6). -/
def State.ownStage (s : State) (n : Nat) : Option Step :=
  let t := s.tree n
  let off (k : Nat) : Bool := (s.sq n).naked.contains (2 ^ 20 + k, 0)
  match t.clr.filter fun _ => !(off 6) with
  | some c => some (ctlStep 6 c)
  | none =>
    match (t.enum.bind fun e => e.ctl).filter fun _ => !(off 4) && t.fid == 0 with
    | some c => some (ctlStep 4 c)
    | none =>
      (t.hubs.find? fun h => h.2.due && h.2.turnAt != some (s.sq n).ctrlAt && (s.ent n h.1).state == 2).map fun h =>
        pollStep h.1

/-- Send a stage of Zhoem's own. -/
def State.ownSend (s : State) (n : Nat) (t : Step) : State := if t.kind == 5 then s.pollSend n t else s.stageSend n t

/-! ### Periodic services (R218, R219) -/

/-- The periodic table under which the service in progress runs (R215): the table in effect, or the one that a boundary has replaced since
it began. -/
def State.svcTable (s : State) (n : Nat) : PerTable := match (s.sq n).svc with
  | some v => v.table.getD (s.sq n).table
  | none => (s.sq n).table
/-- Replace it. -/
def State.setSvcTable (s : State) (n : Nat) (t : PerTable) : State := match (s.sq n).svc with
  | some v => if v.table.isSome then s.setSq n { s.sq n with svc := some { v with table := some t } } else s.setTable n t
  | none => s.setTable n t

/-- Whether the ring of entry `i` is full (IN) or empty (OUT), read from Zhoem's copies and at most once from memory (R206). -/
def State.ringStuck (s : State) (n i : Nat) : Except XErr (State × Bool) :=
  let t := s.svcTable n
  let e := t.ent i
  let used := (t.z i + 2 ^ 32 - t.h i) % 2 ^ 32
  let stuck (t : PerTable) : Bool :=
    if eIn e then (t.z i + 2 ^ 32 - t.h i) % 2 ^ 32 == rSlots (t.ring i) else t.z i == t.h i
  if !(if eIn e then used == rSlots (t.ring i) else t.z i == t.h i) then .ok (s, false)
  else match s.readV (eInst e) (eRing e + 20) 4 with
    | .error x => .error x
    | .ok b =>
      let t := { t with hidx := PMap.put t.hidx (ringKey e) (leNat b) }
      .ok (s.setSvcTable n t, stuck t)

/-- The address of the slot that entry `i` fills or sends next. -/
def PerTable.slot (t : PerTable) (i : Nat) : Nat := rBase (t.ring i) + t.z i % rSlots (t.ring i) * rStride (t.ring i)

/-- DETAIL of a periodic service's fault record (Table 13-5). -/
def svcDetail (i : Nat) (f : Frame) : Nat := i % 4096 + f.no % 2 ^ 20 * 4096

/-- A service ends with its completion; the statuses of R234 create a task with TASK_EN. -/
def State.svcEnd (s : State) (n i status : Nat) (f : Frame) (spill : Bool) (len : Nat) (at_ : Option Nat) : State :=
  let e := (s.svcTable n).ent i
  let s := s.count (bankQuad n) 0xC4 (n % 4) (some (eInst e))
  let c := svcCpl e i f status false spill len at_
  let ring := s.entRing e
  if eTask e && [0x00, 0x01, 0x10, 0x11, 0x02].contains status then
    let h := eOwner e
    let k := s.f SHF_DL_PER_DL_FRAMES h
    let by_ := match (s.sq n).svc with
      | some v => (v.pref, v.pitch, v.longest)
      | none => ((s.sq n).pref, (s.sq n).pitch, (s.sq n).longest)
    let dl : Deadline := if f.time then .time (f.devAt + k * by_.2.2) else .pos by_.1 (f.pos + (k * by_.2.1 : Nat))
    let r := s.taskCreate { sheaf := h, inst := eInst e, src := 0, hook := 2, prio := s.f SHF_PRIO_PER_PRIO h, dl := dl,
                            stream := streamKey 1 (n * 4096 + i), own := [(ring, c)],
                            data := leBytes 1 status ++ leBytes 1 2 ++ (List.range 6).map (Config.freeByte s.draws) ++ c.body }
    if r.2 then r.1.bump
    else ((s.satF TSK_CNT_NOTASK_COUNT h 0 1).err TSK_ERR_PER_OVER h).cpl ring c
  else s.cpl ring c

/-- A translation fault of a service's slot or header (R235, R443, R444): a NOWAIT record, and the data to the spill area where
FAULT_POL and its room allow. `status` is what Table 06-7 gives but for the fault. -/
def State.svcFault (s : State) (n i : Nat) (f : Frame) (x : XErr) (wr : Bool) (status : Nat) (data : List (BitVec 8)) : State :=
  let e := (s.svcTable n).ent i
  let inst := eInst e
  let (fid, s) := s.takeFid inst
  let rec_ (s : State) (full : Bool) : State := s.faultNoWait (dieOf n) inst 0x01 x wr n (svcDetail i f) full fid
  if eDrop e || !(eIn e) then (rec_ s false).svcEnd n i 0x20 f false 0 none
  else if data.isEmpty then (rec_ s false).svcEnd n i status f false 0 none
  else match s.spill inst 0x01 fid n x.va f.no data with
    | none => ((rec_ s true).err DLOG_ERR_SPILL_FULL inst).svcEnd n i 0x20 f false 0 none
    | some (at_, s') => (rec_ s' false).svcEnd n i (if status == 0 then 0x02 else status) f true data.length (some at_)

/-- Advance ZIDX of entry `i`, in Zhoem's copies and in the ring header (R206, R233). A table in effect that names the same ring goes on
from there. -/
def State.zidxNext (s : State) (n i : Nat) : Except XErr State :=
  let t := s.svcTable n
  let e := t.ent i
  let z := (t.z i + 1) % 2 ^ 32
  match s.writeV (eInst e) (eRing e + 16) (leBytes 4 z) with
  | .error x => .error x
  | .ok s =>
    let s := s.setSvcTable n { t with zidx := PMap.put t.zidx (ringKey e) z }
    let cur := (s.sq n).table
    .ok (if cur.names (ringKey e) then s.setTable n { cur with zidx := PMap.put cur.zidx (ringKey e) z } else s)

/-- The status of an IN service but for its ring and its translation (Table 06-7), and its data. -/
def Svc.status (v : Svc) : Nat :=
  if v.missing || !v.last || v.hand == some 1 then 0x01
  else if v.poison || decide (eBytes v.ent < v.data.length) then 0x11
  else if v.crc then 0x10 else 0

/-- An IN service is over (R219): the first row of Table 06-7 that applies. A service without data fills no slot. The answer is none
where the work must wait (R453, R427). -/
def State.svcInEnd (s : State) (n : Nat) (v : Svc) : Option State :=
  let i := v.entry
  let f := v.frame
  let data := v.data.take (eBytes v.ent)
  match v.hand with
  | some 0x22 => some (s.svcEnd n i 0x22 f false 0 none)
  | some 0x12 => some (s.svcEnd n i 0x12 f false 0 none)
  | _ =>
    match s.ringStuck n i with
    | .error x => if x.reason == 0 then none else some (s.svcFault n i f x false v.status data)
    | .ok (s, true) => some (s.svcEnd n i 0x04 f false data.length none)
    | .ok (s, false) =>
      if data.isEmpty then some (s.svcEnd n i v.status f false 0 none)
      else
        let t := s.svcTable n
        let z := t.z i
        match s.writeV (eInst v.ent) (t.slot i) data with
        | .error x => if x.reason == 0 then none else some (s.svcFault n i f x true v.status data)
        | .ok s' => match s'.zidxNext n i with
          | .error x => if x.reason == 0 then none else some (s.svcFault n i f x true v.status data)
          | .ok s' =>
            let s' := s'.svcEnd n i v.status f false data.length (some z)
            some (if v.status == 0 then
              s'.takeSample n (eAddr v.ent) (eEp v.ent) f.at_ data else s')

/-- The service in progress on port `n` ends. -/
def State.svcOver (s : State) (n : Nat) : State :=
  match (s.sq n).svc with
  | none => s
  | some v =>
    let gone (s : State) : State := s.setSq n { s.sq n with svc := none }
    if eIn v.ent then match s.svcInEnd n v with
      | some s' => gone s'
      | none => s
    else if let some st := v.hand then gone (s.svcEnd n v.entry st v.frame false 0 none)
    else if v.missing then gone (s.svcEnd n v.entry 0x01 v.frame false (eBytes v.ent) none)
    else
      let z := (s.svcTable n).z v.entry
      match s.zidxNext n v.entry with
      | .error x => if x.reason == 0 then s else gone (s.svcFault n v.entry v.frame x true 0 [])
      | .ok s' => gone (s'.svcEnd n v.entry 0x00 v.frame false (eBytes v.ent) (some z))

/-- The DATs of a periodic OUT service (R218). -/
def State.svcDats (s : State) (n : Nat) (v : Svc) (k : Nat) (bs : List (BitVec 8)) : Nat → State
  | 0 => s
  | fuel + 1 =>
    let last := bs.length ≤ 16384
    let s := s.sendDat n (eAddr v.ent) (eEp v.ent) (2 + b2n last) k v.frame.no (bs.take 16384)
    if last then s else s.svcDats n v (k + 1) (bs.drop 16384) fuel

/-- Start the service of entry `i` in frame `f` (R218, R219). None where the work must wait. -/
def State.svcStart (s : State) (n i : Nat) (f : Frame) : Option State :=
  let e := (s.sq n).table.ent i
  let v : Svc := { entry := i, ent := e, frame := f, pref := (s.sq n).pref, pitch := (s.sq n).pitch, longest := (s.sq n).longest }
  let p := svcPackets (eBytes e)
  let run (s : State) (v : Svc) : State := s.setSq n { s.sq n with svc := some { v with since := s.wireFree n } }
  if eIn e then some (run (s.sendTok n 0x20 (eAddr e) (eEp e) true 1 0 p (eBytes e)) v)
  else match s.ringStuck n i with
    | .error x => if x.reason == 0 then none else some (s.svcFault n i f x false 0 [])
    | .ok (s, true) => some (s.svcEnd n i 0x22 f false 0 none)
    | .ok (s, false) => match s.readV (eInst e) ((s.sq n).table.slot i) (eBytes e) with
      | .error x => if x.reason == 0 then none else some (s.svcFault n i f x false 0 [])
      | .ok bs =>
        let s := (s.sendTok n 0x21 (eAddr e) (eEp e) false 1 0 p (eBytes e)).svcDats n v 0 bs 4
        some (run s { v with begun := true, done := true, last := true })

/-! ### The turns of a frame (R194, R216) -/

/-- Set the turn of port `n`. What was put off to a later turn may be served again. -/
def State.setTurn (s : State) (n k : Nat) : State := s.setSq n { s.sq n with turn := k, naked := [] }

/-- Repeat a step that waits to be sent again. None where the guard stops it. -/
def State.resend (s : State) (n : Nat) (t : Step) : Option State :=
  let s' := s.dropStep n t
  if t.kind ≤ 2 then match s.stepDesc t with
    | some d => s'.bulkGo n t.q d t.tries t.bad
    | none => some s'
  else if t.kind == 5 then (if s.stageFits n t then some (s'.pollSend n t) else none)
  else if s.stageFits n t then some (s'.stageSend n t) else none

/-- A step that waits to be sent again in turn `k` (2 control, 3 bulk). -/
def State.idleStep (s : State) (n k : Nat) : Option Step :=
  (s.sq n).steps.find? fun t => t.idle && (if k == 2 then decide (3 ≤ t.kind) else decide (t.kind ≤ 2))

/-- The control turn starts one stage. The answer is none where the turn is over. -/
def State.ctrlTurn (s : State) (n : Nat) : Option State :=
  let count (s : State) : State := s.setSq n { s.sq n with ctrl := (s.sq n).ctrl + 1 }
  match s.idleStep n 2 with
  | some t => s.resend n t
  | none =>
    if s.f KSCH_CTL_CTRL_MAX n ≤ (s.sq n).ctrl then none
    else
      let s := s.clearNext n
      match s.ownStage n with
      | some t => if s.stageFits n t then some ((count s).ownSend n t) else none
      | none =>
        let key := wrrKey 2 n
        let qs := (s.boundTo 0x2 fun b => b % 128 == n).filter fun q => (s.ctrlReady n q).isSome
        match s.wrrPick key qs with
        | none => none
        | some (q, w) => match s.ctrlReady n q with
          | none => none
          | some d =>
            if s.stageFits n (ctrlStep q d) then some ((count (s.wrrServe key q w)).ctrlGo n q d)
            else none

/-- The bulk turn starts one burst. The answer is none where the turn has nothing to send, or is over. -/
def State.bulkTurn (s : State) (n : Nat) : Option State :=
  let key := wrrKey 1 n
  match s.idleStep n 3 with
  | some t => match s.resend n t with
    | some s' => some s'
    | none => some ((s.wrrEnd key).setTurn n 0)
  | none =>
    let qs := (s.boundTo 0x1 fun b => b % 128 == n).filter fun q => (s.bulkReady n q).isSome
    match s.wrrPick key qs with
    | none => none
    | some (q, w) => match s.bulkReady n q with
      | none => none
      | some d => match (s.wrrServe key q w).bulkGo n q d d.tries d.bad with
        | some s' => some s'
        | none => some ((s.wrrEnd key).setTurn n 0)

/-- A step that waits takes the frame whose last periodic service has just ended, if at least 22 µs are left of it or nothing predicts its end
(Table 03-12, R176): its bulk is withheld. -/
def State.stepFrame (s : State) (n : Nat) : State :=
  if (s.link n).stepWait.isNone then s
  else
    let go := match s.nextBoundary n with
      | some b => decide (s.now + us 22 ≤ b)
      | none => true
    s.setLink n { s.link n with stepNow := go }

/-- No control stage or bulk burst starts: a boundary is held, whose FRM is to leave first (R203, R224), or bulk is withheld for a rate
step (Table 03-12). -/
def State.holdsBack (s : State) (n : Nat) : Bool := (s.sq n).held.isSome || (s.link n).stepNow

/-- Serve port `n` until it waits for a response or has nothing to send. -/
def State.serveN (s : State) (n : Nat) : Nat → State
  | 0 => s
  | fuel + 1 =>
    let q := s.sq n
    if !(s.carries n) || s.hubRole n || q.svc.isSome then s
    else if q.turn == 1 then
      match q.due, q.cur with
      | i :: rest, some f => match (s.setSq n { q with due := rest }).svcStart n i f with
        | some s' => s'.serveN n fuel
        | none => s
      | _, _ => ((s.setTurn n 2).stepFrame n).serveN n fuel
    else if (q.steps.any fun t => !t.idle) || s.holdsBack n then s
    else if q.turn == 2 then match s.ctrlTurn n with
      | some s' => s'.serveN n fuel
      | none => ((s.wrrEnd (wrrKey 2 n)).setTurn n 3).serveN n fuel
    else if q.turn == 3 then match s.bulkTurn n with
      | some s' => s'.serveN n fuel
      | none => s
    else s

/-- Serve port `n`. -/
def State.serve (s : State) (n : Nat) : State := s.serveN n ((s.sq n).due.length + 256)

/-! ### Ends of steps -/

/-- A request of Zhoem's own has ended. -/
def State.ownDone (s : State) (n : Nat) (kind status : Nat) : State :=
  let t := s.tree n
  if kind == 6 then s.setTree n { t with clr := none }
  else match t.enum.bind fun e => e.ctl with
    | some c => s.enumDone n status c.data
    | none => s

/-- Keep what a stage has brought so far in the transfer that it belongs to: stage, data moved, next SEQ, and the attempts that its step has
made so far. -/
def State.keepStage (s : State) (n : Nat) (t : Step) (stage next : Nat) (tries : Nat := 1) (bad : Bool := false) : State :=
  let keep (c : Ctl) : Ctl := { c with stage := stage, seq := next, tries := tries, bad := bad }
  if t.kind == 3 then match s.stepDesc t with
    | some d => s.setDesc t.q { d with stage := stage, next := next, moved := (if t.stage == 1 then t.sent else d.moved), tries := tries, bad := bad }
    | none => s
  else
    let tr := s.tree n
    if t.kind == 6 then s.setTree n { tr with clr := tr.clr.map keep }
    else s.setTree n { tr with enum := tr.enum.map fun e => { e with ctl := e.ctl.map keep } }

/-- A stage has ended: the next one, or the end of the transfer (R98). -/
def State.stageDone (s : State) (n : Nat) (t : Step) : State :=
  let s := s.dropStep n t
  let next := if t.stage == 0 then (if setupLen t.setup == 0 then 2 else 1) else 2
  let s := s.keepStage n t next (t.seq + 1)
  if t.stage != 2 then s
  else if t.kind == 3 then match s.stepDesc t with
    | some d => (s.kpbDone t.q d (if d.poison then 0x11 else 0x00) d.moved).snoop n t.addr t.setup
    | none => s
  else s.ownDone n t.kind 0x00

/-- A stage goes on with its next packet, at once or, when a boundary has cut it, in a later control turn (R224). -/
def State.stageMore (s : State) (n : Nat) (t t' : Step) : State :=
  let s := (s.dropStep n t).keepStage n t' t'.stage t'.seq
  if t.cut then s.setSq n { s.sq n with steps := (s.sq n).steps ++ [{ t' with idle := true, cut := false, tries := 1, bad := false }] }
  else s.stageSend n { t' with tries := 1, bad := false }

/-- A hub that does not answer its polls is detached with all below it, and its port may be enumerated afresh (R135). -/
def State.hubLost (s : State) (n h : Nat) : State :=
  let e := s.ent n h
  let p : TPort := if e.parent == 0 then {} else { hub := e.parent, port := e.route / 16 ^ (e.tier - 2) % 16 }
  let s := s.detach n p
  if s.isReady n p then s.portReady n p else s

/-- A step has ended for good with a status (R90, R91). -/
def State.stepFail (s : State) (n : Nat) (t : Step) (status : Nat) : State :=
  let s := s.dropStep n t
  if t.kind ≤ 3 then match s.stepDesc t with
    | some d => s.kpbDone t.q d status d.moved
    | none => s
  else if t.kind == 5 then (if status == 0x12 then s else s.hubLost n t.addr)
  else s.ownDone n t.kind status

/-- An attempt has failed (R90): another one, or the end. -/
def State.attemptFailed (s : State) (n : Nat) (t : Step) : State :=
  if s.f KRP_TMO_RETRY_MAX n ≤ t.tries then s.stepFail n t (if t.bad then 0x11 else 0x13)
  else
    let s := s.satF KRP_CNT_RETRY_COUNT n 0 1
    s.setSq n { s.sq n with steps := (s.sq n).steps.map fun x => if x == t then { t with idle := true, cut := false, rest := [], tries := t.tries + 1 } else x }

/-- An attempt has failed by a response outside the window (R90, R93): PROTO reports it. -/
def State.attemptBad (s : State) (n : Nat) (t : Step) : State :=
  ((s.err KRP_ERR_PROTO n).mapStep n (fun x => x == t) fun x => { x with bad := true }).attemptFailed n { t with bad := true }

end Sys2Proof.Machine
end

