-- ==== Sys2Proof/Machine/Link.lean ====
section
/-! DEFINITION. Training, recovery, shedding and stepping of KPB links (chapter 3). -/
namespace Sys2Proof.Machine

/-! ### Training blocks (Table 03-10) -/

/-- A TS block is valid: its TCRC matches (R101). -/
def tsOk (ts : List (BitVec 8)) : Bool :=
  ts.length == 16 && leAt ts 0 1 == 0xF1 && leAt ts 14 2 == crc32c (ts.take 14) % 2 ^ 16
/-- A training block with a lane's inverted polarity corrected (R74). -/
def tsTrue (ts : List (BitVec 8)) : List (BitVec 8) := if tsOk ts then ts else ts.map fun b => ~~~b
def tsReady (ts : List (BitVec 8)) : Bool := bit (leAt ts 1 1) 1
def tsHub (ts : List (BitVec 8)) : Bool := bit (leAt ts 1 1) 2
def tsLane (ts : List (BitVec 8)) : Nat := leAt ts 2 1 % 4
def tsPhase (ts : List (BitVec 8)) : Nat := leAt ts 4 1 / 16
def tsRate (ts : List (BitVec 8)) : Nat := leAt ts 5 1 % 4
def tsWidth (ts : List (BitVec 8)) : Nat := leAt ts 5 1 / 16 % 4
/-- What a run of TS blocks on a lane has in common: READY, the selections of PHASE 3, and whether the lane order is reversed. -/
def tsKind (ts : List (BitVec 8)) (rev : Bool) : Nat :=
  b2n (tsReady ts) + 2 * (if tsPhase ts == 3 then 1 + tsRate ts + 4 * tsWidth ts else 0) + 64 * b2n rev

/-- Whether lane `lane` of port `n` carries its own logical lane (false) or that of the reversed order (true); none for any other
permutation (R74). The order is reversed over the lanes that the port offers. -/
def State.laneRev (s : State) (n lane : Nat) (ts : List (BitVec 8)) : Option Bool :=
  let w := krpLanes (s.offered n).2.1
  if n + tsLane ts == lane then some false else if lane + tsLane ts + 1 == n + w then some true else none

/-- The lane that receives logical lane `k` of port `n`. -/
def State.laneAt (s : State) (n k : Nat) (rev : Bool) : Nat := if rev then n + krpLanes (s.offered n).2.1 - 1 - k else n + k

/-- READY in the TS blocks that port `n` sends (R104). -/
def State.upReady (s : State) (n : Nat) : Bool := !(s.hubRole n) || s.b KRP_CTL_UP_READY n

/-- The TS block that port `n` sends on its logical lane `k` (Table 03-10, R102): a root port faces downstream, the upstream port of a quad
in hub role is a hub that faces upstream. EQ_REQ is what its receiver asks for, a free value. -/
def State.tsOut (s : State) (n k : Nat) : List (BitVec 8) :=
  let l := s.link n
  let up := s.hubRole n
  let full := s.f DEV_SERVICE_SERVICE == 2
  let off := s.offered n
  let caps := if full then (2 ^ (off.1 + 1) - 1) + 16 * (2 ^ (off.2.1 + 1) - 1) else 0x11
  let sel := if s.lstate n == 7 then l.goalRate + 16 * s.f KRP_STAT_WIDTH n
    else if s.lstate n == 5 then s.f KRP_STAT_RATE n + 16 * l.reqArg else l.rate + 16 * l.width
  let body := leBytes 1 0xF1 ++ leBytes 1 (b2n up + 2 * b2n (s.upReady n) + 4 * b2n up) ++ leBytes 1 k ++ leBytes 1 caps ++
    leBytes 1 (off.2.2 + 16 * l.phase) ++ leBytes 1 (if l.phase == 3 then sel else 0) ++
    leBytes 2 (Config.freeNat s.draws % 2 ^ 15) ++ leBytes 4 l.linkId ++ leBytes 2 0
  body ++ leBytes 2 (crc32c body % 2 ^ 16)

/-- Send a TS on logical lane `k` of port `n`, unless LANE_OFF powers it down. -/
def State.sendTs (s : State) (n k : Nat) : State :=
  if bit (s.f SRDS_CTL_LANE_OFF ((n + k) / 4)) ((n + k) % 4) then s
  else (s.emit (.training n (n + k) (s.tsOut n k))).bump

/-- Lanes on which port `n` sends TS in its state (Table 03-9): every lane in DETECT, lane 0 in PRESENT, those of the configuration tried in
CONFIG, those in use in RETRAIN. -/
def State.tsLanes (s : State) (n : Nat) : Nat :=
  let st := s.lstate n
  if st == 1 then krpLanes (s.offered n).2.1 else if st == 2 then 1 else if st == 3 then krpLanes (s.link n).width
  else if st == 7 then krpLanes (s.f KRP_STAT_WIDTH n) else 0

/-- The TS blocks with which port `n` begins its state. -/
def State.trainStart (s : State) (n : Nat) : State := s.each (s.tsLanes n) fun s k => s.sendTs n k

/-- The eye height of a lane (SRDS_MARGIN). -/
def marginOf (lane : Nat) : Fld :=
  if lane % 4 == 0 then SRDS_MARGIN_L0 else if lane % 4 == 1 then SRDS_MARGIN_L1 else if lane % 4 == 2 then SRDS_MARGIN_L2 else SRDS_MARGIN_L3

/-- Set or clear lane bits of SRDS_STAT. -/
def State.laneStat (s : State) (lane : Nat) (on : Bool) (fs : List Fld) : State :=
  fs.foldl (fun (s : State) F =>
    let v := s.f F (lane / 4)
    s.setF F (lane / 4) 0 (if on then setBit v (lane % 4) else clrBit v (lane % 4))) s

/-- A lane is idle: no signal, nothing locked, no eye (Table 03-14). -/
def State.laneIdle (s : State) (lane : Nat) : State :=
  (s.laneStat lane false [SRDS_STAT_SIG_DET, SRDS_STAT_CDR_LOCK, SRDS_STAT_ADAPT_DONE, SRDS_STAT_FEC_LOCK]).setF (marginOf lane) (lane / 4) 0 0

/-- A lane has adapted at its rate: the height of its eye is the channel's, a free value. -/
def State.laneDone (s : State) (lane : Nat) : State :=
  ((s.laneStat lane true [SRDS_STAT_ADAPT_DONE]).setF (marginOf lane) (lane / 4) 0 (1 + Config.freeNat s.draws % 255)).bump

/-- Power of root port `n` is on, or no switch is fitted (R149). -/
def State.portOn (s : State) (n : Nat) : Bool := !(s.b KHUB_PWR_MAP_FITTED 0 n) || s.f KHUB_PWR_STAT_PSTATE 0 n == 2

/-- The highest code from `top` down whose bit is set in `mask`. -/
def highest (mask : Nat) : Nat → Nat
  | 0 => 0
  | k + 1 => if bit mask (k + 1) then k + 1 else highest mask k

/-- The configuration of R102: rate and width. Seedling service offers only rate code 0b00 at x1. -/
def State.linkChoice (s : State) (n : Nat) : Nat × Nat :=
  let c := (s.link n).caps
  if s.f DEV_SERVICE_SERVICE != 2 then (0, 0)
  else (highest c.1 (s.offered n).1, highest c.2.1 (s.offered n).2.1)

/-! ### Changes of state (R100, R105, R106) -/

/-- The sequencers of steps on a link that stops carrying packets: each waiting step is a lost response, a service is cut
(R105). -/
def State.linkCut (s : State) (n : Nat) : State :=
  ((s.sq n).steps.filter fun t => !t.idle).foldl (fun s t => s.attemptFailed n t) (s.svcCut n)

/-- BELOW_MIN (Table 03-16). -/
def State.belowMin (s : State) (n : Nat) : State :=
  s.setF KRP_STAT_BELOW_MIN n 0 (b2n (s.carries n &&
    (decide ((s.link n).tWidth < s.f KRP_CTL_MIN_WIDTH n) || decide ((s.link n).tRate < s.f KRP_CTL_MIN_RATE n))))

/-- Enter link state `st`: devices are detached in PRESENT, DETECT and DISABLED (R124), but for a reset that enumeration itself
makes; LINK_DOWN reports a link that had carried packets (R106). DISABLED, DETECT and CONFIG reset the sequencer, with its FRAME commits
(R195). A change of RATE_MAX, WIDTH_MAX or LVL_MAX comes into effect on entry to CONFIG (R117); LINK_ID is chosen anew in DETECT. -/
def State.linkTo (s : State) (n st : Nat) : State :=
  let old := s.lstate n
  if old == st then s
  else
    let up := s.carries n
    let s := if up && !(4 ≤ st && st ≤ 6) then s.linkCut n else s
    let l := s.link n
    let down := st == 1 && l.up
    let off := if st == 3 || old ≤ 1 then (s.f KRP_CTL_RATE_MAX n, s.f KRP_CTL_WIDTH_MAX n, s.f KRP_CTL_LVL_MAX n) else l.off
    let s := ((s.setF KRP_STAT_LSTATE n 0 st).satF KRP_CNT_LSTATE_COUNT n 0 1).setLink n
      { l with since := s.now, runs := [], up := l.up && st != 1, req := 0, acked := false, stepWait := none, low := none, off := off,
               stepNow := false, stepping := false, want := l.want && 4 ≤ st, seed := l.seed && 3 ≤ st,
               phase := (if st == 3 then 1 else if st == 7 then 2 else 0), heard := 0, sent := [],
               linkId := if st == 1 then Config.freeNat s.draws % 2 ^ 32 else l.linkId }
    let s := if st == 1 then s.bump else s
    let s := if st ≤ 1 then s.each (krpLanes off.2.1) (fun s k => s.laneIdle (n + k)) else s
    let s := if down then s.err KRP_ERR_LINK_DOWN n else s
    let s := s.setF KRP_STAT_LVL n 0 (if 4 ≤ st && st ≤ 6 then min (s.link n).caps.2.2 (s.offered n).2.2 else 0)
    let s := if st ≤ 2 then (s.setF KRP_STAT_RATE n 0 0).setF KRP_STAT_WIDTH n 0 0 else s
    let own := match (s.tree n).enum with
      | some e => st == 1 && e.at_.hub == 0 && e.step == 3
      | none => false
    let s := if st ≤ 2 && !own && !(s.hubRole n) then s.detach n {} else s
    let s := if st ≤ 3 then s.setSq n { s.sq n with steps := [], svc := (s.sq n).svc } else s
    let s := ((s.seqUpdate n).overload n).belowMin n
    let s := if st == 0 || st == 1 || st == 3 then s.abandonFrame n else s
    if st ≤ 2 then s.trainStart n else s

/-- Enter CONFIG for a configuration (R102, R103). -/
def State.linkConfig (s : State) (n : Nat) (c : Nat × Nat) : State :=
  let s := s.linkTo n 3
  (s.setLink n { s.link n with rate := c.1, width := c.2, attempts := 0, since := s.now }).trainStart n

/-- CONFIG from DETECT or PRESENT: the full choice of R102. -/
def State.linkConfigNew (s : State) (n : Nat) : State :=
  let s := s.linkTo n 3
  let c := s.linkChoice n
  (s.setLink n { s.link n with best := c, recAt := none }).linkConfig n c

/-- CONFIG after a recovery that failed, or again after PRESENT for a link that has not left by way of DETECT (R106): from the configuration
the link had, or the choice of R102 under the values now in effect where that is lower. For a link that was shed or stepped, the
configuration it had is the one that it was trained in (log entry 84). -/
def State.linkReconfig (s : State) (n : Nat) (failed : Bool) : State :=
  let s := s.linkTo n 3
  let l := s.link n
  let c := s.linkChoice n
  (s.setLink n { l with recAt := (if failed then some s.now else none), best := (min l.best.1 c.1, min l.best.2 c.2) }).linkConfig n
    (min l.tRate c.1, min l.tWidth c.2)

/-- A link carries packets at a rate and a width in state `st`. -/
def State.linkRun (s : State) (n st rate width : Nat) : State :=
  let s := (s.setF KRP_STAT_RATE n 0 rate).setF KRP_STAT_WIDTH n 0 width
  let s := s.setLink n { s.link n with rxWidth := width, winAt := s.now, txBlk := 0, rxBlk := 0, up := true, txLane := 0 }
  let s := s.linkTo n st
  let s := s.each (krpLanes width) fun s k => s.laneDone (n + k)
  let s := if s.b KSCH_STAT_RUNNING n then s else s.setSq n { s.sq n with turn := 2, ctrl := 0, ctrlAt := s.now }
  (s.overload n).belowMin n

/-! ### Shedding and stepping (R108 to R114) -/

/-- DWELL of a port. -/
def State.dwell (s : State) (n : Nat) : Nat := us (100 * s.f KRP_LPM_DWELL n)

/-- Make a LNK request. One that draws neither its acknowledgement nor a REFUSE that R114 allows stays outstanding, and the port makes no other,
until the link's state changes (log entry 85). -/
def State.linkAsk (s : State) (n op arg : Nat) : State :=
  (s.setLink n { s.link n with req := op, reqArg := arg, acked := false }).sendLnk n op arg 0

/-- Ask to widen a shed link by one step: EIX and TS on the waking lanes (Table 03-11). -/
def State.linkWiden (s : State) (n : Nat) : State :=
  let w := s.f KRP_STAT_WIDTH n
  if s.lstate n != 5 || (s.link n).req == 3 then s
  else
    let s := s.linkAsk n 3 (w + 1)
    let s := s.setLink n { s.link n with runs := [], phase := 3 }
    s.each (krpLanes (w + 1) - krpLanes w) fun s k =>
      (s.each 16 fun s _ => s.emit (.marker n (n + krpLanes w + k) 0xF3 0)).sendTs n (krpLanes w + k)

/-- Ask to step to a rate (Table 03-12). -/
def State.linkStep (s : State) (n rate : Nat) (seed : Bool) : State :=
  (s.setLink n { s.link n with stepSeed := seed }).linkAsk n 5 rate

/-- The next request of the passage from seedling to full service (R113): the rate of R102 without the seedling limit, then one step of
width after the other. -/
def State.linkSeedGo (s : State) (n : Nat) : State :=
  let s := if (s.link n).tRate == 0 && (s.link n).tWidth == 0 then
      let c := s.linkChoice n
      s.setLink n { s.link n with best := c, tRate := c.1, tWidth := c.2 } else s
  let l := s.link n
  if s.f KRP_STAT_RATE n != l.tRate then s.linkStep n l.tRate true
  else if s.f KRP_STAT_WIDTH n != l.tWidth then
    (s.linkTo n 5).linkWiden n
  else s.setLink n { l with seed := false }

/-- What port `n` asks for now that nothing is outstanding: the next step of the passage to full service, or of a widening or step up that is
still wanted (R110, R111, R113). -/
def State.linkGo (s : State) (n : Nat) : State :=
  let l := s.link n
  if s.hubRole n || l.req != 0 || l.stepWait.isSome || !(s.carries n) then s
  else if l.seed then s.linkSeedGo n
  else if !l.want then s
  else if s.lstate n == 5 then s.linkWiden n
  else if s.lstate n == 6 then s.linkStep n l.tRate false
  else s.setLink n { l with want := false }

/-- Leave SHED or STEPPED: widen, or step up (R110, R111). A link that is doing something else does so after it. -/
def State.linkUp (s : State) (n : Nat) : State :=
  if 4 ≤ s.lstate n && s.lstate n ≤ 7 then (s.setLink n { s.link n with want := true }).linkGo n else s

/-- CONFIG ends in FULL (R103, R106, R123): the lanes that are not used stay idle. Devices keep their addresses where a recovery's CONFIG took
no more than 50 ms. -/
def State.linkFull (s : State) (n : Nat) : State :=
  let l := s.link n
  let kept := match l.recAt with
    | some t => decide (s.now ≤ t + ms 50)
    | none => false
  let low := l.rate != l.best.1 || l.width != l.best.2
  let s := s.setLink n { l with tRate := l.rate, tWidth := l.width, recAt := none }
  let s := s.setF KRP_STAT_DEGRADED n 0 (b2n (low || (l.recAt.isSome && s.b KRP_STAT_DEGRADED n)))
  let s := if low then s.err KRP_ERR_DEGRADED n else s
  let s := s.each (krpLanes (s.offered n).2.1 - krpLanes l.width) fun s k => s.emit (.marker n (n + krpLanes l.width + k) 0xF2 0)
  let s := (s.linkRun n 4 l.rate l.width).linkGo n
  if s.hubRole n then { s with hub := { s.hub with frm := none } }
  else if kept then s
  else if l.recAt.isSome then (s.detach n {}).rootUp n
  else s.rootUp n

/-- A recovery at the same configuration (R105). -/
def State.linkRecover (s : State) (n : Nat) : State :=
  let st := s.lstate n
  let s := s.linkTo n 7
  (s.setLink n { s.link n with goal := st, goalRate := s.f KRP_STAT_RATE n, bound := us 100 }).trainStart n

/-- Switch to a width: WSW on the old active lanes, EIE on lanes that are shed (R109, Table 03-11); then what is still wanted. -/
def State.linkWidth (s : State) (n w : Nat) : State :=
  let old := s.f KRP_STAT_WIDTH n
  let s := s.markers n 0xF4 w
  let s := s.each (krpLanes old - krpLanes w) fun s k => (s.emit (.marker n (n + krpLanes w + k) 0xF2 0)).laneIdle (n + krpLanes w + k)
  let t := (s.link n).tWidth
  let s := s.setLink n { s.link n with req := 0, acked := false, low := none }
  (s.linkRun n (if w == t then 4 else 5) (s.f KRP_STAT_RATE n) w).linkGo n

/-- A widening that is acknowledged goes on once a valid TS has come on every waking lane. -/
def State.widenGo (s : State) (n : Nat) : State :=
  let l := s.link n
  let w := krpLanes (s.f KRP_STAT_WIDTH n)
  let woken := (List.range (krpLanes l.reqArg - w)).all fun k =>
    (PMap.find l.runs (s.laneAt n (w + k) (s.b KRP_STAT_LANE_REV n))).isSome
  if l.req == 3 && l.acked && woken then s.linkWidth n l.reqArg else s

/-- The retrain of a rate step begins (Table 03-12, R113). -/
def State.stepGo (s : State) (n : Nat) : State :=
  let l := s.link n
  match l.stepWait with
  | none => s
  | some rate =>
    let s := s.markers n 0xF2 0
    let s := s.linkTo n 7
    let goal := if rate == l.tRate then (if s.f KRP_STAT_WIDTH n == l.tWidth then 4 else 5) else 6
    (s.setLink n { s.link n with goal := goal, goalRate := rate, stepForce := false, stepping := true,
                                 bound := if l.stepSeed then ms 20 else us 20 }).trainStart n

/-- A step that has its frame begins once no other step waits for a response. A port whose sequencer does not run has no frame to wait for,
and steps at once (log entry 86). -/
def State.stepCheck (s : State) (n : Nat) : State :=
  let q := s.sq n
  let l := s.link n
  if l.stepWait.isNone || s.hubRole n || q.svc.isSome || (q.steps.any fun t => !t.idle) then s
  else if l.stepNow || !(s.b KSCH_STAT_RUNNING n) then s.stepGo n else s

/-- A retrain is done: FULL, SHED or STEPPED (R107, R113). -/
def State.retrainDone (s : State) (n : Nat) : State :=
  let l := s.link n
  let s := s.linkRun n l.goal l.goalRate (s.f KRP_STAT_WIDTH n)
  (s.setLink n { s.link n with stepSeed := false }).linkGo n

/-- The passage from seedling to full service (R113): a port trained at 0b00 x1 steps now, or when its link carries packets again. -/
def State.linkSeed (s : State) (n : Nat) : State :=
  let l := s.link n
  if s.lstate n < 3 || 7 < s.lstate n || (s.lstate n != 3 && (l.tRate != 0 || l.tWidth != 0)) || s.hubRole n then s
  else (s.setLink n { l with seed := true }).linkGo n

/-! ### TS blocks -/

/-- Every lane of width `w` has had eight TS of kind `k`, and has sent eight of PHASE 3 (Table 03-9). -/
def State.lanesAgree (s : State) (n w k : Nat) (rev : Bool) : Bool :=
  let l := s.link n
  (List.range (krpLanes w)).all fun i =>
    let lane := s.laneAt n i rev
    (PMap.find l.runs lane).any (fun r => r.1 == k && decide (8 ≤ r.2)) && decide (8 ≤ PMap.get l.sent lane 0)

/-- The PHASE that port `n` sends after a valid TS (R100): what the partner has reached, and one more after eight valid TS of a partner that has
come as far. -/
def Link.raise (l : Link) (phase : Nat) : Link :=
  let heard := if l.phase ≤ phase then l.heard + 1 else 0
  if l.phase < phase && phase ≤ 3 then { l with phase := phase, heard := 0 }
  else if 8 ≤ heard && l.phase < 3 then { l with phase := l.phase + 1, heard := 0 } else { l with heard := heard }

/-- A valid training block on lane `lane` of port `n`, in true polarity: the run it belongs to, the partner's capabilities, the TS that answers it,
and whether eight of its kind have now come (Table 03-9, R74, R101). -/
def State.tsTake (s : State) (n lane : Nat) (ts : List (BitVec 8)) (rev : Bool) : State :=
  let l := s.link n
  let k := tsKind ts rev
  let len := match PMap.find l.runs lane with
    | some r => if r.1 == k then r.2 + 1 else 1
    | none => 1
  let st := s.lstate n
  let l := { l with runs := PMap.put l.runs lane (k, len), lastTs := s.now,
                    caps := (leAt ts 3 1 % 8, leAt ts 3 1 / 16 % 8, leAt ts 4 1 % 16) }
  let l := if st == 3 || st == 7 then l.raise (tsPhase ts) else l
  let l := if s.hubRole n && st == 3 && tsPhase ts == 3 then { l with rate := tsRate ts, width := tsWidth ts } else l
  let l := { l with sent := if l.phase == 3 then PMap.put l.sent lane (PMap.get l.sent lane 0 + 1) else [] }
  let s := s.setLink n l
  let s := s.laneStat lane true [SRDS_STAT_SIG_DET, SRDS_STAT_CDR_LOCK, SRDS_STAT_FEC_LOCK]
  let s := if 1 ≤ st && st ≤ 3 then
      (let s := s.setF KRP_STAT_PARTNER_HUB n 0 (b2n (tsHub ts))
       if 8 ≤ len then s.setF KRP_STAT_LANE_REV n 0 (b2n rev) else s) else s
  if tsLane ts < s.tsLanes n then s.sendTs n (tsLane ts) else s

/-- A training block on lane `lane` of port `n` (Table 03-9, R74, R610). An invalid one ends its lane's run, and so does one of a lane that is
out of order, which is not trained. -/
def State.tsIn (s : State) (n lane : Nat) (raw : List (BitVec 8)) : State :=
  let ts := tsTrue raw
  match (s.laneRev n lane ts).filter fun _ => tsOk ts with
  | none => s.setLink n { s.link n with runs := PMap.del (s.link n).runs lane }
  | some rev =>
    let st := s.lstate n
    let s := s.tsTake n lane ts rev
    let l := s.link n
    let eight := (PMap.find l.runs lane).any fun r => decide (8 ≤ r.2)
    let ready := if s.hubRole n then s.upReady n else tsReady ts
    let config (s : State) : State := if l.up then s.linkReconfig n false else s.linkConfigNew n
    if st == 1 then (if !eight || !(s.portOn n) then s else if ready then s.linkConfigNew n else s.linkTo n 2)
    else if st == 2 then (if ready then config s else s)
    else if st == 3 then
      if !eight then s
      else if !ready then s.linkTo n 2
      else if tsPhase ts == 3 && tsRate ts == l.rate && tsWidth ts == l.width && s.lanesAgree n l.width (tsKind ts rev) rev then s.linkFull n
      else s
    else if st == 7 then
      if !eight then s
      else if !ready then s.linkTo n 2
      else if tsPhase ts == 3 && s.lanesAgree n (s.f KRP_STAT_WIDTH n) (tsKind ts rev) rev then s.retrainDone n else s
    else if st == 5 then s.widenGo n
    else s

/-- A configuration has failed (R103): the next attempt, the next lower configuration, or DETECT. -/
def State.configFailed (s : State) (n : Nat) : State :=
  let l := s.link n
  let l := { l with attempts := l.attempts + 1, since := s.now, runs := [], phase := 1, heard := 0, sent := [] }
  if l.attempts < 3 then (s.setLink n l).trainStart n
  else if l.width != 0 then (s.setLink n { l with attempts := 0, width := l.width - 1 }).trainStart n
  else if l.rate != 0 then (s.setLink n { l with attempts := 0, rate := l.rate - 1 }).trainStart n
  else s.linkTo n 1

/-- A committed ENABLE = 0 (R117): EIE on every lane, then DISABLED. ENABLE = 1 leads to DETECT. -/
def State.linkEnable (s : State) (n : Nat) (on : Bool) : State :=
  if on then (if s.lstate n == 0 then s.linkTo n 1 else s)
  else if s.lstate n == 0 then s
  else (s.markersAll n 0xF2 0).linkTo n 0

/-- UP_READY = 0 is committed on the upstream port of a quad in hub role while its link is active (R610): EIE on every active lane, then TS with
PHASE 0 and READY 0. -/
def State.upUnready (s : State) (n : Nat) : State :=
  if s.hubRole n && !(s.b KRP_CTL_UP_READY n) && decide (4 ≤ s.lstate n) && decide (s.lstate n ≤ 6) then
    (s.markers n 0xF2 0).linkTo n 2 else s

/-- Payload blocks have run in the busier direction for at least UP_PCT percent of the last 5 µs (R110, R111): a lane's block rate at the
current width and rate is the capacity. -/
def State.busy (s : State) (n : Nat) : Bool :=
  let from_ := s.now - us 5
  let part (dir : Nat) : Nat :=
    ((s.recentBlk n).map fun e => if e.1 == dir then min e.2.2 s.now - max e.2.1 from_ else 0).sum
  decide (s.f KRP_LPM_UP_PCT n * us 5 ≤ 100 * max (part 0) (part 1))

/-- The utilisation of the window that ends (R108): the busier direction over the current capacity, in thousandths; whether it lies
below SHED_PCT of the capacity that a shed or a step down would leave (R109, R111). -/
def State.utilWindow (s : State) (n : Nat) : State :=
  let l := s.link n
  let u := max l.txBlk l.rxBlk
  let rate := s.f KRP_STAT_RATE n
  let width := s.f KRP_STAT_WIDTH n
  let cap := blocksPer100 rate width
  let less := if width != 0 then blocksPer100 rate (width - 1) else blocksPer100 1 0
  let below := decide (u * 100 < s.f KRP_LPM_SHED_PCT n * less)
  let s := s.setF KRP_UTIL_UTIL n 0 (min 1023 (u * 1000 / cap))
  s.setLink n { l with txBlk := 0, rxBlk := 0, winAt := s.now, low := if below then some (l.low.getD l.winAt) else none }

/-- Utilisation has stayed low for DWELL. -/
def State.lowLong (s : State) (n : Nat) : Bool := match (s.link n).low with
  | some t => decide (t + s.dwell n ≤ s.now)
  | none => false

end Sys2Proof.Machine
end

