-- ==== Sys2Proof/Machine/Hub.lean ====
section
/-! DEFINITION. A quad in hub role: its downstream ports, the hub's own requests, and the device function behind port 4
(R125, R130 to R133, R135, R153 to R155). -/
namespace Sys2Proof.Machine

def State.hport (s : State) (p : Nat) : HPort :=
  PMap.get s.hub.ports p (if p == 4 then { stat := 9 } else {})
def State.setHport (s : State) (p : Nat) (h : HPort) : State := { s with hub := { s.hub with ports := PMap.put s.hub.ports p h } }

/-- PORT_STAT of a port takes a value: PORT_CHG bits for what changed (R133), and the routes that name the port go when it leaves
ENABLED (R131), and packets for address 0 go to it no more (R130). -/
def State.hportStat (s : State) (p v : Nat) : State :=
  let h := s.hport p
  let chg := (List.range 6).foldl (fun c i => if bit v i != bit h.stat i then setBit c i else c) h.chg
  let s := s.setHport p { h with stat := v, chg := chg }
  if bit h.stat 2 && !(bit v 2) then
    { s with hub := { s.hub with routes := s.hub.routes.filter (fun r => r.2 != p), last := if s.hub.last == p then 0 else s.hub.last } } else s

/-- A downstream port chooses its LINK_ID anew in DETECT (Table 03-10). -/
def State.hportNewId (s : State) (p : Nat) : State :=
  (s.setHport p { s.hport p with linkId := Config.freeNat s.draws % 2 ^ 32 }).bump

/-- The TS that downstream port `p` of the quad at lane `n` sends: it faces downstream, x1 on one lane (Table 03-10). -/
def State.hportTsOut (s : State) (n p phase : Nat) : State :=
  let body := leBytes 1 0xF1 ++ leBytes 1 6 ++ leBytes 1 0 ++ leBytes 1 (if s.f DEV_SERVICE_SERVICE == 2 then 0x17 else 0x11) ++
    leBytes 1 (s.f KRP_CTL_LVL_MAX n + 16 * min phase 3) ++ leBytes 1 0 ++ leBytes 2 (Config.freeNat s.draws % 2 ^ 15) ++
    leBytes 4 (s.hport p).linkId ++ leBytes 2 0
  (s.emit (.training (n + p) (n + p) (body ++ leBytes 2 (crc32c body % 2 ^ 16)))).bump

/-- A port is ENABLED. -/
def State.hportOn (s : State) (p : Nat) : Bool := bit (s.hport p).stat 2

/-- Set or clear bit `b` of PORT_STAT. -/
def State.hportBit (s : State) (p b : Nat) (on : Bool) : State :=
  let v := (s.hport p).stat
  s.hportStat p (if on then setBit v b else clrBit v b)

/-- A TS on a downstream port (R123, R132): CONNECTED and READY; eight of PHASE 3 with READY end a reset with ENABLED, if they come within
50 ms of the end of its idle. It is answered with a TS of the PHASE it carries. -/
def State.hportTs (s : State) (n p : Nat) (raw : List (BitVec 8)) : State :=
  let ts := tsTrue raw
  let h := s.hport p
  if !(tsOk ts) then s.setHport p { h with run := 0 }
  else
    let confirm := tsPhase ts == 3 && tsReady ts
    let h := { h with run := if confirm then h.run + 1 else 0, lastTs := s.now }
    let s := (s.setHport p h).hportTsOut n p (tsPhase ts)
    let v := setBit h.stat 0
    let v := if tsReady ts then setBit v 1 else clrBit (clrBit v 1) 2
    let s := s.hportStat p v
    match h.idle with
    | some t =>
      if h.run == 8 && t + ms 50 < s.now then (s.setHport p { s.hport p with idle := none }).hportBit p 5 false
      else if h.run == 8 && t ≤ s.now then
        let s := s.setHport p { s.hport p with idle := none }
        let v := setBits (setBits (s.hport p).stat 6 2 (tsWidth ts)) 8 2 (tsRate ts)
        let s := s.hportStat p (clrBit (setBit v 2) 5)
        { s with hub := { s.hub with last := p } }
      else s
    | none => s

/-- The bound of a port reset passes without ENABLED (R132). -/
def State.hportTimeout (s : State) (p : Nat) : State :=
  match (s.hport p).idle with
  | some t => if t + ms 50 ≤ s.now then (s.setHport p { s.hport p with idle := none }).hportBit p 5 false else s
  | none => s

/-- A downstream port hears nothing for 1 ms while it is not ENABLED, or loses block lock. -/
def State.hportSilent (s : State) (p : Nat) : State :=
  let v := (s.hport p).stat
  (s.hportStat p (clrBit (clrBit (clrBit v 0) 1) 2)).hportNewId p

/-- What a port reset clears: of the hub (0) or of the device function (1) (R125). -/
def State.kpbReset (s : State) (dev : Nat) : State :=
  let h := s.hub
  let h := { h with halts := h.halts.filter fun x => x / 256 != dev, ctls := PMap.del h.ctls dev }
  if dev == 1 then { s with hub := { h with fnAddr := 0, fnCfg := 0, eps := [], group := 0, fires := [] } }
  else
    let s := { s with hub := { h with addr := 0, cfg := 0, hubGroup := 0 } }
    let s := [1, 2, 3, 4].foldl (fun s p => s.hportBit p 2 false) s
    { s with hub := { s.hub with routes := [], last := 0 } }

/-- SET_PORT RESET (R132). -/
def State.hportReset (s : State) (n p : Nat) : State :=
  if p == 4 then
    let s := (s.kpbReset 1).hportBit 4 2 true
    { s with hub := { s.hub with last := 4 } }
  else
    let s := s.emit (.marker (n + p) (n + p) 0xF2 0)
    let s := s.hportStat p (setBit (clrBit (s.hport p).stat 2) 5)
    (s.setHport p { s.hport p with idle := some (s.now + us 200), run := 0 }).hportNewId p

/-! ### Descriptors -/

/-- A fused value of the hub's own descriptors that the spec leaves open. -/
def hubFused (k : Nat) : Nat := Config.fused (2 ^ 40 + k)

/-- Largest control payload of the hub, as a power of two. -/
def hubEp0 : Nat := 6 + hubFused 0 % 9

/-- The hub's DEVICE, CONFIG and HUB descriptors (R154). -/
def State.hubDesc (s : State) (n dtype : Nat) : List (BitVec 8) :=
  if dtype == 1 then
    leBytes 1 32 ++ leBytes 1 1 ++ leBytes 1 (s.f KRP_CTL_LVL_MAX n) ++ leBytes 1 9 ++ leBytes 2 (hubFused 1) ++ leBytes 2 (hubFused 2) ++
    leBytes 2 (hubFused 3) ++ leBytes 1 1 ++ leBytes 1 hubEp0 ++ leBytes 2 (hubFused 4) ++ leBytes 2 0 ++ leBytes 8 (hubFused 5) ++ leBytes 8 0
  else if dtype == 2 then
    leBytes 1 16 ++ leBytes 1 2 ++ leBytes 2 16 ++ leBytes 1 1 ++ leBytes 1 0 ++ leBytes 2 (hubFused 6) ++ leBytes 8 0
  else if dtype == 4 then
    leBytes 1 16 ++ leBytes 1 4 ++ leBytes 1 4 ++ leBytes 1 (2 * (hubFused 7 % 2)) ++ leBytes 2 (hubFused 8) ++ leBytes 10 0
  else []

/-- Place of byte `off` of the device function's descriptor image in device memory. -/
def State.imageAt (s : State) (off : Nat) : Nat := devAt 0 (s.f KHUB_HR_DESC_ADDR + off)

/-- Offset of CONFIG descriptor `i` in the image: each is followed by its endpoints, TOTAL bytes in all. -/
def State.configAt (s : State) : Nat → Nat
  | 0 => 32
  | i + 1 =>
    let o := s.configAt i
    o + max 16 (leNat (s.load (s.imageAt (o + 2)) 2))

/-- The device function's CONFIG of CFG_VALUE `v`: its offset. -/
def State.configOf (s : State) (v : Nat) : Option Nat :=
  ((List.range (leNat (s.load (s.imageAt 10) 1))).map s.configAt).find? fun o => leNat (s.load (s.imageAt (o + 4)) 1) == v

/-- A descriptor of the device function. -/
def State.fnDesc (s : State) (dtype i : Nat) : List (BitVec 8) :=
  if dtype == 1 then s.load (s.imageAt 0) 32
  else if dtype == 2 && decide (i < leNat (s.load (s.imageAt 10) 1)) then
    let o := s.configAt i
    s.load (s.imageAt o) (max 16 (leNat (s.load (s.imageAt (o + 2)) 2)))
  else []

/-- The endpoint descriptor of the device function for SEL `sel` in the configuration in effect: its KIND (R121, Table 04-3). -/
def State.fnEpKind (s : State) (sel : Nat) : Option Nat :=
  if s.hub.fnCfg == 0 then none
  else match s.configOf s.hub.fnCfg with
    | none => none
    | some o =>
      let n := leNat (s.load (s.imageAt (o + 5)) 1)
      ((List.range (min n 30)).find? fun i => leNat (s.load (s.imageAt (o + 16 + 16 * i + 2)) 1) == sel).map fun i =>
        leNat (s.load (s.imageAt (o + 16 + 16 * i + 3)) 1) % 4

/-- An endpoint selector names an endpoint that exists: endpoint 0, the status endpoint of the configured hub, or one that the configuration
of the device function declares (R121). -/
def State.hasEp (s : State) (dev sel : Nat) : Bool :=
  decide (sel < 256) && sel % 8 == 0 &&
  (sel / 16 == 0 || (if dev == 0 then s.hub.cfg != 0 && sel == selOf 1 true else (s.fnEpKind sel).isSome))

/-! ### Control transfers -/

/-- The answer to the setup stage of `dev`: the data of an IN stage, none for a request that ends in STL, since `dev` does not support it or a
field of it is out of range (R128, Table 04-2). -/
def State.hubAnswer (s : State) (n dev : Nat) (r : List (BitVec 8)) : Option (List (BitVec 8)) :=
  let req := leAt r 0 1
  let kind := bits (leAt r 1 1) 5 2
  let recip := leAt r 3 1 / 16
  let target := leAt r 2 2 % 4096
  let v := leAt r 4 4
  let h := s.hub
  let ok (b : Bool) (d : List (BitVec 8)) : Option (List (BitVec 8)) := if b then some (d.take (setupLen r)) else none
  let self := recip == 0 && target == 0
  let bare := setupLen r == 0
  let ep := recip == 1 && s.hasEp dev target
  let port := recip == 2 && dev == 0 && decide (1 ≤ target) && decide (target ≤ 4)
  if kind == 0 then
    if req == 1 then
      let d := if dev == 0 then (if v / 256 == 0 then s.hubDesc n (v % 256) else []) else s.fnDesc (v % 256) (v / 256 % 256)
      ok (self && decide (v < 65536) && !d.isEmpty) d
    else if req == 2 then ok (self && bare && decide (1 ≤ v) && decide (v ≤ 254)) []
    else if req == 3 then ok (self && bare && (v == 0 || (if dev == 0 then v == 1 else decide (v < 256) && (s.configOf v).isSome))) []
    else if req == 4 then ok (self && v == 0) (leBytes 1 (if dev == 0 then h.cfg else h.fnCfg))
    else if req == 5 then
      ok (v == 0 && (self || ep || port)) (leBytes 4 (b2n (ep && h.halts.contains (dev * 256 + target))))
    else if req == 6 || req == 7 then ok (bare && v == 0 && ep) []
    else if req == 8 then ok (self && bare && decide (v < 65536)) []
    else none
  else if kind == 1 && dev == 0 then
    if req == 0x41 then ok (port && v == 0) (leBytes 2 (s.hport target).stat ++ leBytes 2 (s.hport target).chg)
    else if req == 0x42 then ok (port && bare && decide (1 ≤ v) && decide (v ≤ 3)) []
    else if req == 0x43 then ok (port && bare && (v == 1 || v == 3)) []
    else if req == 0x44 then ok (self && bare && decide (v < 4096) && decide (1 ≤ v % 256) && decide (v % 256 ≤ 254) && decide (v / 256 ≤ 4)) []
    else none
  else none

/-- The effect of a request of `dev` at the end of its status stage (Table 04-2). The ports' power is not switched (R154), so feature POWER
changes nothing. -/
def State.hubEffect (s : State) (n dev : Nat) (r : List (BitVec 8)) : State :=
  let req := leAt r 0 1
  let kind := bits (leAt r 1 1) 5 2
  let target := leAt r 2 2 % 4096
  let v := leAt r 4 4
  let h := s.hub
  let sel := dev * 256 + target % 256
  if kind == 0 then
    if req == 2 then { s with hub := if dev == 0 then { h with addr := v } else { h with fnAddr := v } }
    else if req == 3 then
      { s with hub := if dev == 0 then { h with cfg := v } else { h with fnCfg := v, eps := [] } }
    else if req == 6 then
      let eps := if dev == 1 then h.eps.filter (fun x => x.1 / 16 != target / 16 % 16) else h.eps
      { s with hub := { h with halts := h.halts.filter (fun x => x != sel), eps := eps } }
    else if req == 7 then { s with hub := { h with halts := sel :: h.halts.filter (fun x => x != sel) } }
    else if req == 8 then { s with hub := if dev == 1 then { h with group := v % 65536 } else { h with hubGroup := v % 65536 } }
    else s
  else if req == 0x42 then
    if v == 2 then s.hportReset n target
    else if v == 3 then s.hportBit target 2 (bit (s.hport target).stat 1)
    else s
  else if req == 0x43 then (if v == 3 then s.hportBit target 2 false else s)
  else if req == 0x44 then
    let port := v / 256 % 16
    { s with hub := { h with routes := if port == 0 then PMap.del h.routes (v % 256) else PMap.put h.routes (v % 256) port } }
  else s

def State.hctl (s : State) (dev : Nat) : HCtl := PMap.get s.hub.ctls dev {}
def State.setHctl (s : State) (dev : Nat) (c : HCtl) : State := { s with hub := { s.hub with ctls := PMap.put s.hub.ctls dev c } }

/-- Address of the hub (0) or of the device function (1). -/
def State.hubAddr (s : State) (dev : Nat) : Nat := if dev == 0 then s.hub.addr else s.hub.fnAddr

/-- Largest control payload. -/
def State.hubMax (s : State) (dev : Nat) : Nat :=
  let l := if dev == 0 then hubEp0 else leNat (s.load (s.imageAt 11) 1)
  if 6 ≤ l && l ≤ 14 then 2 ^ l else 64

/-- An STL (Table 03-5); its CODE is the device's own choice. -/
def State.sendStl (s : State) (n addr ep : Nat) (dirIn : Bool) : State :=
  s.bump.send n 0x42 addr (selOf ep dirIn) 0 [Config.freeByte s.draws 0]
/-- A NAK with its REASON. -/
def State.sendNak (s : State) (n addr ep : Nat) (dirIn : Bool) (reason : Nat) : State :=
  s.send n 0x41 addr (selOf ep dirIn) 0 (leBytes 1 reason)

/-- A token for endpoint 0 of `dev`: 0x22 SETUP, 0x20 IN, 0x21 OUT (R98). One whose KIND is not control draws STL (R121). -/
def State.hubTok (s : State) (n dev ty kind seq : Nat) : State :=
  let c := s.hctl dev
  let a := s.hubAddr dev
  if kind != 2 then s.sendStl n a 0 (ty == 0x20)
  else if ty == 0x22 then s.setHctl dev {}
  else if c.wait then s
  else if c.stall then s.sendStl n a 0 (ty == 0x20)
  else if ty == 0x20 then
    if c.stage == 1 && setupIn c.setup then
      let chunk := (c.data.drop c.sent).take (s.hubMax dev)
      let last := decide (c.data.length ≤ c.sent + chunk.length)
      (s.setHctl dev { c with seq := seq, chunk := chunk.length }).sendDat n a 0 (b2n last) seq 0 chunk true
    else (s.setHctl dev { c with stage := 2, seq := seq }).sendDat n a 0 0 seq 0 [] true
  else s

/-- A DAT for endpoint 0 of `dev`: the setup record, or the status packet of an IN transfer. -/
def State.hubDat (s : State) (n dev seq : Nat) (data : List (BitVec 8)) : State :=
  let c := s.hctl dev
  let a := s.hubAddr dev
  if c.wait then
    if data.length != 16 then s
    else
      let ans := s.hubAnswer n dev data
      let out := setupLen data != 0 && !(setupIn data)
      (s.setHctl dev { setup := data, stage := if setupLen data == 0 then 2 else 1, data := ans.getD [],
                       stall := ans.isNone || out, wait := false }).sendAck n a 0 false seq
  else if c.stall then s.sendStl n a 0 false
  else s.sendAck n a 0 false seq

/-- An ACK of what `dev` sent on endpoint 0. -/
def State.hubAck (s : State) (n dev seq : Nat) : State :=
  let c := s.hctl dev
  if c.wait || c.stall || seq != c.seq then s
  else if c.stage == 1 then
    let sent := c.sent + c.chunk
    s.setHctl dev { c with sent := sent, chunk := 0, seq := seq + 1, stage := if c.data.length ≤ sent then 2 else 1 }
  else (s.setHctl dev {}).hubEffect n dev c.setup

/-- A PING on a downstream port waits for a poll of the status endpoint (R523). -/
def State.hubPinged (s : State) : State := { s with hub := { s.hub with pinged := some (s.hub.pinged.getD s.now) } }

/-- A PING on a downstream port has drawn no poll within 1 ms: the hub sends a PING upstream on port `n`, with a NONCE of its own (R523). -/
def State.hubWakes (s : State) (n : Nat) : State :=
  match s.hub.pinged with
  | some t =>
    if t + ms 1 ≤ s.now && s.carries n then
      ({ s with hub := { s.hub with pinged := none } }.sendLnk n 0x08 0 (Config.freeNat s.draws % 2 ^ 32)).bump
    else s
  | none => s

/-- A status poll (R133, R135); a hub that has no configuration has no status endpoint (R121). -/
def State.hubPoll (s : State) (n kind seq credit : Nat) : State :=
  let s := { s with hub := { s.hub with pinged := none } }
  if s.hub.cfg == 0 then s.sendNak n s.hub.addr 1 true 3
  else if kind != 2 || seq != 0 || credit != 1 then s.sendStl n s.hub.addr 1 true
  else match [1, 2, 3, 4].find? fun p => (s.hport p).chg != 0 with
    | none => s.sendNak n s.hub.addr 1 true 1
    | some p =>
      let h := s.hport p
      ({ s with hub := { s.hub with told := some (p, h.chg) } }).send n 0x70 s.hub.addr p 0 (leBytes 2 h.stat ++ leBytes 2 h.chg)

/-- The ACK of a HUB packet clears the changes that it reported (R133). -/
def State.hubPollAck (s : State) : State :=
  match s.hub.told with
  | none => s
  | some (p, chg) =>
    let h := s.hport p
    let left := (List.range 6).foldl (fun c i => if bit chg i then clrBit c i else c) h.chg
    { s.setHport p { h with chg := left } with hub := { (s.setHport p { h with chg := left }).hub with told := none } }

/-! ### Endpoints of the device function (R154, R439) -/

def State.hep (s : State) (sel : Nat) : HEp := PMap.get s.hub.eps sel {}
def State.setHep (s : State) (sel : Nat) (e : HEp) : State := { s with hub := { s.hub with eps := PMap.put s.hub.eps sel e } }

/-- The device queue of endpoint `e`. -/
def State.epQueue (s : State) (n e : Nat) : Option Nat :=
  if e == 0 || !(s.b KHUB_HR_EPMAP_VALID 0 e) then none else s.wqFor (s.krpOwner n) (s.f KHUB_HR_EPMAP_QUEUE 0 e)

/-- What an endpoint answers where it cannot serve: 3 NOT_CONFIGURED, 2 NO_BUFFER, 1 NO_DATA, or its queue and descriptor. -/
def State.epReady (s : State) (n e : Nat) (dirIn : Bool) : Except Nat (Nat × Desc) :=
  if s.hub.fnCfg == 0 then .error 3
  else match s.epQueue n e with
    | none => .error 3
    | some q =>
      let none_ := if dirIn then 1 else 2
      let full := match s.bulkSheaf q with
        | some h => s.blocked h (s.wqOwner q)
        | none => false
      match (s.wq q).acc.find? fun d => d.phase != 2 && kIn d == dirIn && kEp d == e with
      | none => .error none_
      | some d =>
        if d.phase == 3 || full then .error 2
        else if d.phase == 0 && s.qb WQ_STAT_HALTED q then .error none_ else .ok (q, d)

/-- Packets of at most 16,384 bytes that a token's CREDIT and MAXLEN allow of `left` bytes: their sizes. -/
def cutPackets (left : Nat) : Nat → List Nat
  | 0 => []
  | k + 1 => if left ≤ 16384 then [left] else 16384 :: cutPackets (left - 16384) k

/-- Packets of the given sizes from SEQ on: header and payload of each. -/
def State.hubPackets (s : State) (n a ep seq frame flags : Nat) (final : Bool) :
    List (BitVec 8) → List Nat → List (List (BitVec 8) × List (BitVec 8))
  | _, [] => []
  | bs, k :: ks =>
    (mkHdr 0x30 a (selOf ep true) (s.f KRP_STAT_LVL n) (flags + b2n (final && ks.isEmpty))
        (leBytes 2 (seq % 1024) ++ leBytes 2 k ++ leBytes 4 frame), bs.take k) ::
      s.hubPackets n a ep (seq + 1) frame flags final (bs.drop k) ks

/-- Place packets on the wire one behind the other. -/
def State.wireAll (s : State) (n : Nat) (ps : List (List (BitVec 8) × List (BitVec 8))) : State :=
  ps.foldl (fun s p => s.wire n s.now p.1 p.2) s

/-- The bursts of the device function go on the wire packet by packet (R96). -/
def State.hubFlow (s : State) (n : Nat) : State :=
  match s.hub.eps.find? fun e => !e.2.rest.isEmpty with
  | none => s
  | some e =>
    if !(s.carries n) then s
    else
      let r := s.wireRest n e.2.rest
      r.1.setHep e.1 { r.1.hep e.1 with rest := r.2 }

/-- A FRM has come: the rest of a burst is withheld and keeps its sequence numbers (R96). -/
def State.hubWithhold (s : State) : State :=
  { s with hub := { s.hub with eps := s.hub.eps.map fun e =>
    (e.1, { e.2 with rest := [], sent := e.2.sent.take (e.2.sent.length - e.2.rest.length) }) } }

/-- The root acknowledges packets up to NEXT: their bytes have moved, and a transfer whose bytes have all moved completes. -/
def State.hubAcked (s : State) (n e next : Nat) : State :=
  let sel := selOf e true
  let x := s.hep sel
  let k := (next + 1024 - x.next) % 1024
  if x.sent.length < k || k == 0 then s
  else
    let s := s.setHep sel { x with next := next, sent := x.sent.drop k }
    match s.epReady n e true with
    | .error _ => s
    | .ok (q, d) =>
      let d := { d with moved := d.moved + (x.sent.take k).sum }
      let s := s.setDesc q d
      if kLen d ≤ d.moved then s.kpbDone q d 0x00 d.moved else s

/-- A token for endpoint `e` of the device function that is not served (R121): 3 NAK NOT_CONFIGURED where the configuration does not declare the
endpoint in its direction, 0 STL where it is halted or the token's KIND is not its own. -/
def State.epTurned (s : State) (sel kind : Nat) : Option Nat :=
  match s.fnEpKind sel with
  | none => some 3
  | some k => if k != kind || s.hub.halts.contains (256 + sel) then some 0 else none

/-- A TOK IN for endpoint `e` of the device function. -/
def State.hubEpIn (s : State) (n e kind seq credit maxlen frame : Nat) : State :=
  let a := s.hub.fnAddr
  let sel := selOf e true
  match s.epTurned sel kind with
  | some 0 => s.sendStl n a e true
  | some r => s.sendNak n a e true r
  | none =>
    let s := if kind == 0 then s.hubAcked n e seq else s
    match s.epReady n e true with
    | .error r => s.sendNak n a e true r
    | .ok (q, d) =>
      let most := min (kLen d - d.moved) maxlen
      let sizes := cutPackets most (max 1 (min credit 32))
      let len := sizes.sum
      match s.readV (s.wqOwner q) (kBuf d + d.moved) len with
      | .error x => (s.descFault n q d 0x02 x false).sendNak n a e true 2
      | .ok bs =>
        let final := decide (d.moved + len == kLen d)
        if kind == 1 then
          ((s.wireAll n (s.hubPackets n a e 0 frame 2 true bs sizes)).setDesc q { d with phase := 1 }).kpbDone q { d with moved := len } 0x00 len
        else
          let ps := s.hubPackets n a e seq 0 0 final bs sizes
          ((s.setDesc q { d with phase := 1 }).setHep sel { next := seq, sent := sizes, rest := ps.drop 1 }).wireAll n (ps.take 1)

/-- The service that a periodic endpoint `e` of the device function has received is over (R97, Table 06-7): SHORT where an index is missing or LAST
has not come. -/
def State.hubPerDone (s : State) (n e : Nat) (last : Bool) : State :=
  let sel := selOf e false
  let x := s.hep sel
  let s := s.setHep sel { x with left := 0, idx := 0, missing := false, crc := false }
  match s.epReady n e false with
  | .error _ => s
  | .ok (q, y) => s.bulkInDone q y (if x.missing || !last then 0x01 else if y.poison then 0x11 else if x.crc then 0x10 else 0x00)

/-- Periodic services of the device function that have begun and not ended when the next token or frame comes. -/
def State.hubPerCut (s : State) (n e : Nat) : State :=
  let x := s.hep (selOf e false)
  if x.periodic && x.left != 0 && x.nak == 0 then s.hubPerDone n e false else s

/-- A TOK OUT for endpoint `e` of the device function: the burst or service it announces. What the endpoint cannot take is answered with NAK after
the last packet (R95, R154). -/
def State.hubEpOut (s : State) (n e kind credit : Nat) : State :=
  let a := s.hub.fnAddr
  let sel := selOf e false
  let s := s.hubPerCut n e
  let start (nak : Nat) : State :=
    s.setHep sel { next := (s.hep sel).next, left := max 1 (min credit 32), periodic := kind == 1, nak := nak }
  match s.epTurned sel kind with
  | some 0 => (s.setHep sel { s.hep sel with left := 0 }).sendStl n a e false
  | some r => start r
  | none => match s.epReady n e false with
    | .error r => start r
    | .ok _ => start 0

/-- A burst of endpoint `e` has brought its last packet: BUR, whose CREDIT is the device's own choice, or the NAK that is due (R95). -/
def State.hubBurst (s : State) (n e : Nat) : State :=
  let x := s.hep (selOf e false)
  if x.left != 0 then s
  else if x.nak != 0 then
    (if x.periodic && x.nak != 3 then s else s.sendNak n s.hub.fnAddr e false x.nak)
  else if x.periodic then s
  else s.bump.sendBur n s.hub.fnAddr e false x.next (Config.freeNat s.draws % 33)

/-- The data of a DAT goes to the buffer that endpoint `e` has ready; the new state and whether it has been taken. -/
def State.hubStore (s : State) (n e : Nat) (p : Pkt) : State × Bool :=
  match s.epReady n e false with
  | .error _ => (s, false)
  | .ok (q, y) =>
    let data := p.data.take (kLen y - y.moved)
    match s.writeV (s.wqOwner q) (kBuf y + y.moved) data with
    | .error err => (s.descFault n q y 0x02 err true, false)
    | .ok s => (s.setDesc q { y with phase := 1, moved := y.moved + data.length,
                                     poison := y.poison || bit (hFlags p.hdr) 2 || decide (data.length < p.data.length) }, true)

/-- A packet of a periodic service (R97): its index, its data CRC, and the end of the service at LAST or at the last packet announced. -/
def State.hubPerDat (s : State) (n e : Nat) (p : Pkt) : State :=
  let sel := selOf e false
  let x := s.hep sel
  let last := bit (hFlags p.hdr) 0
  let s := s.setHep sel { x with left := x.left - 1, idx := hSeq p.hdr + 1, missing := x.missing || hSeq p.hdr != x.idx,
                                 crc := x.crc || !(pktDataOk p) }
  let r := s.hubStore n e p
  if !r.2 then r.1.setHep sel { r.1.hep sel with left := 0 }
  else if last || x.left == 1 then r.1.hubPerDone n e last else r.1

/-- A packet of a bulk burst (Table 03-8, R93, R95). -/
def State.hubBulkDat (s : State) (n e : Nat) (p : Pkt) : State :=
  let sel := selOf e false
  let x := s.hep sel
  let d := (hSeq p.hdr + 1024 - x.next) % 1024
  let ok := pktDataOk p
  let s := if ok && 1 ≤ d && d ≤ 31 && !x.gap then s.satF KRP_CNT_SEQ_COUNT n 0 1 else s
  if x.gap || !ok || d != 0 then (s.setHep sel { x with left := x.left - 1, gap := x.gap || (ok && decide (d ≤ 991)) }).hubBurst n e
  else
    let r := s.hubStore n e p
    if !r.2 then r.1.setHep sel { x with left := x.left - 1, gap := true, nak := if x.idx == 0 then 2 else 0 } |>.hubBurst n e
    else
      let s := r.1.setHep sel { x with left := x.left - 1, next := (x.next + 1) % 1024, idx := x.idx + 1 }
      let s := match s.epReady n e false with
        | .error _ => s
        | .ok (q, y) => if bit (hFlags p.hdr) 0 || decide (kLen y ≤ y.moved) then s.bulkInDone q y (if y.poison then 0x11 else 0x00) else s
      s.hubBurst n e

/-- A DAT for endpoint `e` of the device function: within a burst that a token has announced, or discarded (R95). -/
def State.hubEpDat (s : State) (n e : Nat) (p : Pkt) : State :=
  let x := s.hep (selOf e false)
  if x.left == 0 then s
  else if x.nak != 0 then (s.setHep (selOf e false) { x with left := x.left - 1 }).hubBurst n e
  else if x.periodic then s.hubPerDat n e p
  else s.hubBulkDat n e p

/-! ### TRG (R99) -/

/-- A TRG for the device function: it acts against the FRM received last, where that one's FRAME matches, if it is addressed or a member of a
group named. -/
def State.hubTrg (s : State) (h : List (BitVec 8)) : State :=
  let member := if bit (hFlags h) 0 then hAddr h == 255 && (leAt h 4 2 &&& s.hub.group) != 0 else true
  match s.hub.frm with
  | some (no, t) =>
    if member && no == leAt h 6 2 then { s with hub := { s.hub with fires := s.hub.fires ++ [(t + ns (hTail h), hSel h)] } } else s
  | none => s

/-- The ACTIONs whose time has come fire. -/
def State.hubFires (s : State) : State :=
  let go := s.hub.fires.filter fun f => decide (f.1 ≤ s.now)
  if go.isEmpty then s
  else go.foldl (fun s f => s.emit (.action f.2)) { s with hub := { s.hub with fires := s.hub.fires.filter fun f => !(decide (f.1 ≤ s.now)) } }

/-- A FRM for the device function: the frame number of its services, what TRG packets are held against, and the end of what the last frame left
unfinished. -/
def State.hubFrm (s : State) (n : Nat) (h : List (BitVec 8)) : State :=
  let s := (List.range 16).foldl (fun s e => s.hubPerCut n e) s.hubWithhold
  let s := s.setF KSCH_FRAME_NO_FRAME n 0 (leAt h 4 4)
  { s with hub := { s.hub with frm := some (leAt h 4 2, s.now) } }

/-! ### Forwarding (R130) -/

/-- Forward a packet to a downstream port that is ENABLED. -/
def State.hubForward (s : State) (n p : Nat) (pkt : Pkt) : State :=
  if p == 4 || !(s.hportOn p) then s
  else s.emit (.packet (n + p) (n + p) pkt.hdr pkt.data (if hType pkt.hdr == 0x30 then datTail pkt.data pkt.dcrc else []))

/-- A packet of a downstream port's own link: LNK is never forwarded (Table 03-3). -/
def State.hubLocal (s : State) (port ty sel : Nat) (body : List (BitVec 8)) : State :=
  s.emit (.packet port port (mkHdr ty 0 sel (s.f KRP_STAT_LVL (port / 4 * 4)) 0 body) [] [])

/-- A packet for the hub (0) or the device function (1). -/
def State.hubTake (s : State) (n dev : Nat) (p : Pkt) : State :=
  let h := p.hdr
  let ty := hType h
  let ep := hEp h
  let s := if ty == 0x30 && !(pktDataOk p) then s.satF KRP_CNT_DCRC_COUNT n 0 1 else s
  if ty == 0x50 then (if dev == 1 then s.hubTrg h else s)
  else if ep == 0 then
    if ty == 0x20 || ty == 0x21 || ty == 0x22 then s.hubTok n dev ty (hFlags h % 4) (hSeq h)
    else if ty == 0x30 then (if pktDataOk p then s.hubDat n dev (hSeq h) p.data else s)
    else if ty == 0x40 then s.hubAck n dev (hSeq h) else s
  else if dev == 0 then
    if ty == 0x20 && ep == 1 then s.hubPoll n (hFlags h % 4) (hSeq h) (hCredit h)
    else if ty == 0x40 && ep == 1 && hIn h then s.hubPollAck
    else if ty == 0x20 || ty == 0x21 then s.sendNak n s.hub.addr ep (ty == 0x20) 3
    else if ty == 0x22 then s.sendStl n s.hub.addr ep false else s
  else if ty == 0x20 then s.hubEpIn n ep (hFlags h % 4) (hSeq h) (hCredit h) (hTail h) (s.f KSCH_FRAME_NO_FRAME n)
  else if ty == 0x21 then s.hubEpOut n ep (hFlags h % 4) (hCredit h)
  else if ty == 0x22 then
    (if (s.fnEpKind (selOf ep false)).isSome then s.sendStl n s.hub.fnAddr ep false else s.sendNak n s.hub.fnAddr ep false 3)
  else if ty == 0x30 then s.hubEpDat n ep p
  else if ty == 0x43 && hIn h then s.hubAcked n ep (hSeq h)
  else s

/-- A packet that arrives on the upstream port of the hub-role quad at lane `n` (R130). -/
def State.hubDown (s : State) (n : Nat) (p : Pkt) : State :=
  let h := p.hdr
  let a := hAddr h
  let fn (s : State) : State := if s.hportOn 4 then s.hubTake n 1 p else s
  if hType h == 0x60 then s
  else if hType h == 0x10 || a == 255 then [1, 2, 3].foldl (fun s q => s.hubForward n q p)
    (if !(s.hportOn 4) then s else if hType h == 0x10 then s.hubFrm n h else if hType h == 0x50 then s.hubTrg h else s)
  else if a == s.hub.addr then s.hubTake n 0 p
  else if a == 0 then (if s.hub.last == 4 then (if s.hub.fnAddr == 0 then fn s else s) else s.hubForward n s.hub.last p)
  else match PMap.find s.hub.routes a with
    | some 4 => if a == s.hub.fnAddr then fn s else s
    | some q => s.hubForward n q p
    | none => s

/-- A packet that arrives on a downstream port goes upstream unchanged (R130). -/
def State.hubUp (s : State) (n : Nat) (p : Pkt) : State :=
  let up := n / 4 * 4
  if pktOk p && s.hportOn (n % 4) && hType p.hdr != 0x60 && s.carries up then s.wire up s.now p.hdr p.data p.dcrc else s

end Sys2Proof.Machine
end

