-- ==== Sys2Proof/Machine/KpbCmds.lean ====
section
/-! DEFINITION. The events of root ports: training and marker blocks, packets, link requests, timers, enumeration and port power
(chapters 3 and 4). -/
namespace Sys2Proof.Machine

/-! ### Blocks and link states -/

/-- Lane `lane` belongs to root port `n` and is served (R23, R115). -/
def State.laneOf (s : State) (n lane : Nat) : Bool :=
  s.live 0x30 n && decide (n ≤ lane) && decide (lane < n + krpLanes (s.offered n).2.1) &&
  !(bit (s.f SRDS_CTL_LANE_OFF (lane / 4)) (lane % 4)) && s.lstate n != 0 && (s.link n).idleEnd.isNone

/-- TS: on a root port, or on a downstream port of a quad in hub role. -/
def execTs (port lane : Nat) (ts : List (BitVec 8)) (s : State) : Res :=
  .next (if s.hubPort port then (if port == lane && !(bit (s.f SRDS_CTL_LANE_OFF (lane / 4)) (lane % 4)) then s.hportTs (port / 4 * 4) (port % 4) ts else s)
    else if s.laneOf port lane then ((s.tsIn port lane ts).serve port).enumTurn port else s)

/-- EIE: its lane goes idle; on lane 0 of an upstream port it starts the idle that resets KPB state, or the retrain of a rate step. -/
def execEie (port lane : Nat) (s : State) : Res :=
  .next (if s.laneOf port lane then
    let s := s.laneIdle lane
    if s.hubRole port && lane == port then
      (if (s.link port).stepWait.isSome then s.stepGo port
       else s.setLink port { s.link port with eieAt := some s.now }) else s
  else s)

/-- EIX: a lane leaves electrical idle; after 100 µs of it on lane 0 an upstream port has reset its KPB state (R125). -/
def execEix (port lane : Nat) (s : State) : Res :=
  .next (if s.laneOf port lane && lane == port then match (s.link port).eieAt with
    | none => s
    | some t =>
      let s := s.setLink port { s.link port with eieAt := none }
      if t + us 100 ≤ s.now then s.kpbReset 0 else s
  else s)

/-- WSW: the receiver stripes over the new width. -/
def execWsw (port width : Nat) (s : State) : Res :=
  .next (if s.carries port && width ≤ 2 then s.setLink port { s.link port with rxWidth := width } else s)

/-- FEC_UNCORRECTABLE: a pair of the lane that its code does not correct (`fecCorrects`, R80, R81); `run` is how many have now come in a
row. -/
def execFecUncorrectable (port lane run : Nat) (s : State) : Res :=
  .next (if s.laneOf port lane then
    let s := s.addF KRP_CNT_FEC_UNC_COUNT port 0 1
    if 3 ≤ run && s.carries port then (s.err KRP_ERR_UNC_BURST port).linkRecover port else s
  else s)

/-- BLOCK_LOCK_LOSS. -/
def execBlockLockLoss (port : Nat) (s : State) : Res :=
  .next (if s.hubPort port then s.hportSilent (port % 4) else if s.carries port then s.linkRecover port else s)

/-- PRESENT_TIMEOUT. -/
def execPresentTimeout (port : Nat) (s : State) : Res :=
  .next (if s.hubPort port then
      let h := s.hport (port % 4)
      if decide (h.lastTs + ms 1 ≤ s.now) && h.idle.isNone && !(bit h.stat 2) then s.hportSilent (port % 4) else s
    else if s.lstate port == 2 && decide ((s.link port).lastTs + ms 1 ≤ s.now) then s.linkTo port 1 else s)

/-- CONFIG_TIMEOUT. -/
def execConfigTimeout (port : Nat) (s : State) : Res :=
  .next (if s.hubPort port then s.hportTimeout (port % 4)
    else if s.lstate port == 3 && decide ((s.link port).since + ms 50 ≤ s.now) then s.configFailed port else s)

/-- RETRAIN_TIMEOUT. -/
def execRetrainTimeout (port : Nat) (s : State) : Res :=
  .next (if s.lstate port == 7 && decide ((s.link port).since + (s.link port).bound ≤ s.now) then s.linkReconfig port true else s)

/-! ### Packets that a root port receives (R85 to R98) -/

/-- A packet of type `ty` arrives on a root port: what `k` does with one that is taken, and then the next of the turn. A packet of
another type is no such event; in hub role the upstream port's packets are an event of their own. -/
def State.packetIn (s : State) (n : Nat) (p : Pkt) (ty : Nat) (k : State → State) : State :=
  if s.hubPort n then (if hType p.hdr == ty then s.hubUp n p else s)
  else if !(s.live 0x30 n) || s.hubRole n || (pktOk p && typeKnown (hType p.hdr) && hType p.hdr != ty) then s
  else
    let r := s.receive n p
    ((if r.2 then k r.1 else r.1).serve n).stepCheck n

/-- The step that a response of an address, endpoint and direction answers. -/
def State.stepFor (s : State) (n addr ep : Nat) (dirIn : Bool) : Option Step :=
  (s.sq n).steps.find? fun t => !t.idle && t.addr == addr && t.ep == ep && t.dirIn == dirIn

/-- A step of endpoint 0, in either direction of its stage. -/
def State.ctrlFor (s : State) (n addr : Nat) : Option Step :=
  (s.sq n).steps.find? fun t => !t.idle && t.addr == addr && t.ep == 0 && 3 ≤ t.kind

/-- The periodic service that a packet answers. -/
def State.svcFor (s : State) (n addr ep : Nat) : Option Svc :=
  (s.sq n).svc.filter fun v => eIn v.ent && !v.done && eAddr v.ent == addr && eEp v.ent == ep

/-- A periodic packet (R97, R218, R219). -/
def State.datPeriodic (s : State) (n : Nat) (p : Pkt) : State :=
  let h := p.hdr
  match (s.svcFor n (hAddr h) (hEp h)).filter fun _ => hIn h with
  | none => s.satF KSCH_CNT_STRAY_COUNT n 0 1
  | some v =>
    let i := hSeq h
    let last := bit (hFlags h) 0
    let v := { v with begun := true, crc := v.crc || !(pktDataOk p), poison := v.poison || bit (hFlags h) 2,
                      missing := v.missing || i != v.idx, idx := i + 1, last := v.last || last, data := v.data ++ p.data,
                      done := last || decide (svcPackets (eBytes v.ent) ≤ i + 1) }
    s.setSq n { s.sq n with svc := some v }

/-- A bulk IN burst ends with BUR (R94). -/
def State.burstEnd (s : State) (n : Nat) (t : Step) : State :=
  (s.dropStep n t).sendBur n t.addr t.ep true (s.bseq n t.addr t.ep true) 0

/-- The packet of a bulk IN burst (Table 03-8, R94, R439). -/
def State.datBulk (s : State) (n : Nat) (t : Step) (p : Pkt) : State :=
  let h := p.hdr
  let d := (hSeq h + 1024 - s.bseq n t.addr t.ep true) % 1024
  let s := s.count (bankQuad n) 0xC6 (n % 4) (some (s.krpOwner n))
  if 32 ≤ d && d ≤ 991 then
    let s := s.sendBur n t.addr t.ep true (s.bseq n t.addr t.ep true) 0
    s.attemptBad n t
  else if d != 0 then (if d ≤ 31 then s.satF KRP_CNT_SEQ_COUNT n 0 1 else s).burstEnd n t
  else match s.stepDesc t with
    | none => s.burstEnd n t
    | some x =>
      let data := p.data.take t.maxlen
      match s.writeV (s.wqOwner t.q) (kBuf x + x.moved) data with
      | .error e => (s.burstEnd n t).descFault n t.q x 0x02 e true
      | .ok s =>
        let x := { x with moved := x.moved + data.length,
                          poison := x.poison || bit (hFlags h) 2 || decide (t.maxlen < p.data.length) }
        let s := ((s.setBseq n t.addr t.ep true (hSeq h + 1)).setDesc t.q x).burstEnd n t
        if bit (hFlags h) 0 || decide (kLen x ≤ x.moved) then s.bulkInDone t.q x (if x.poison then 0x11 else 0x00) else s

/-- Keep the bytes of a control data stage where they belong. -/
def State.keepData (s : State) (n : Nat) (t : Step) (bs : List (BitVec 8)) (poison : Bool) : State :=
  if t.kind == 3 then match s.stepDesc t with
    | none => s
    | some d =>
      let places := (d.places.flatMap fun p => (List.range p.2.2).map fun i => p.1 + i)
      let s := ((places.drop t.sent).zip bs).foldl (fun s x => s.setByte x.1 x.2) s
      s.setDesc t.q { d with poison := d.poison || poison }
  else
    let tr := s.tree n
    if t.kind == 4 then s.setTree n { tr with enum := tr.enum.map fun e => { e with ctl := e.ctl.map fun c => { c with data := c.data ++ bs } } }
    else s

/-- A DAT of a control transfer (R98): the data stage IN, or the status stage. A packet received again is acknowledged again. -/
def State.datControl (s : State) (n : Nat) (t : Step) (p : Pkt) : State :=
  let h := p.hdr
  let poison := bit (hFlags h) 2
  if t.stage == 2 then (s.sendAck n t.addr 0 true (hSeq h)).stageDone n t
  else if (hSeq h + 1) % 1024 == t.seq then s.sendAck n t.addr 0 true (hSeq h)
  else if hSeq h != t.seq then s
  else
    let bs := p.data.take (setupLen t.setup - t.sent)
    let s := (s.sendAck n t.addr 0 true (hSeq h)).keepData n t bs poison
    if poison && t.kind != 3 then s.stepFail n t 0x11
    else
      let t' := { t with sent := t.sent + bs.length }
      if bit (hFlags h) 0 || decide (setupLen t.setup ≤ t'.sent) then
        (s.keepStage n t' t.stage t.seq).stageDone n t
      else s.stageMore n t { t' with seq := t.seq + 1 }

/-- A DAT that is taken: its data CRC first (R85). -/
def State.datIn (s : State) (n : Nat) (p : Pkt) : State :=
  let h := p.hdr
  let ok := pktDataOk p
  let s := if ok then s else s.satF KRP_CNT_DCRC_COUNT n 0 1
  if bit (hFlags h) 1 then s.datPeriodic n p
  else if !ok then s.chargeBad n
  else if hEp h == 0 then match s.ctrlFor n (hAddr h) with
    | some t => if t.dirIn && hIn h then s.datControl n t p else s
    | none => s
  else match s.stepFor n (hAddr h) (hEp h) true with
    | some t => if t.kind == 1 && hIn h then s.datBulk n t p else s
    | none => s

/-- DAT. -/
def execDat (port : Nat) (pkt : Pkt) (s : State) : Res := .next (s.packetIn port pkt 0x30 fun s => s.datIn port pkt)

/-- An ACK of a control stage that runs OUT. -/
def State.ackIn (s : State) (n : Nat) (h : List (BitVec 8)) : State :=
  match s.ctrlFor n (hAddr h) with
  | none => s
  | some t =>
    if t.dirIn || hIn h || hEp h != 0 || hSeq h != t.seq then s
    else if t.stage != 1 then s.stageDone n t
    else
      let t' := { t with sent := t.sent + t.maxlen }
      if setupLen t.setup ≤ t'.sent then (s.keepStage n t' t.stage t.seq).stageDone n t
      else s.stageMore n t { t' with seq := t.seq + 1 }

/-- ACK. -/
def execAck (port : Nat) (pkt : Pkt) (s : State) : Res := .next (s.packetIn port pkt 0x40 fun s => s.ackIn port pkt.hdr)

/-- The step that a handshake answers: endpoint 0 in any direction, a hub's status poll, a bulk endpoint. -/
def State.handFor (s : State) (n : Nat) (h : List (BitVec 8)) : Option Step :=
  if hEp h == 0 then s.ctrlFor n (hAddr h) else s.stepFor n (hAddr h) (hEp h) (hIn h)

/-- The periodic service that a handshake answers: an IN service that waits, or an OUT service that has sent its packets. -/
def State.svcHandFor (s : State) (n : Nat) (h : List (BitVec 8)) : Option Svc :=
  (s.sq n).svc.filter fun v => eAddr v.ent == hAddr h && eEp v.ent == hEp h && eIn v.ent == hIn h && (!(eIn v.ent) || !v.done)

/-- A handshake that answers neither a service nor a step is stray where the table names its endpoint (R218). -/
def State.strayHand (s : State) (n : Nat) (h : List (BitVec 8)) : State :=
  let t := (s.sq n).table
  if t.ents.any fun e => eValid e && eAddr e == hAddr h && eEp e == hEp h && eIn e == hIn h then s.satF KSCH_CNT_STRAY_COUNT n 0 1 else s

/-- A handshake gives a periodic service its end. -/
def State.svcHand (s : State) (n : Nat) (v : Svc) (hand : Nat) : State :=
  s.setSq n { s.sq n with svc := some { v with hand := some hand, begun := true, done := true } }

/-- A bulk step that a NAK puts off keeps in its descriptor the attempts it has made (R90, R91). -/
def State.keepTries (s : State) (t : Step) : State := match s.stepDesc t with
  | some d => s.setDesc t.q { d with tries := t.tries, bad := t.bad }
  | none => s

/-- A NAK ends the attempt without counting it (R91): the step stays as it is and is sent in a later turn. -/
def State.nakIn (s : State) (n : Nat) (h : List (BitVec 8)) : State :=
  let s := s.count (bankQuad n) 0xC7 (n % 4) (some (s.krpOwner n))
  match s.svcHandFor n h with
  | some v => if hArg h == 3 then s.svcHand n v 0x22 else if eIn v.ent then s.svcHand n v 1 else s
  | none => match s.handFor n h with
    | none => s.strayHand n h
    | some t =>
      if t.kind ≤ 2 then (((s.dropStep n t).putOff n t).keepTries t).wrrEnd (wrrKey 1 n)
      else if t.kind == 5 then
        let s := s.dropStep n t
        let tr := s.tree n
        let hub := PMap.get tr.hubs t.addr {}
        s.setTree n { tr with hubs := PMap.put tr.hubs t.addr { hub with due := false } }
      else
        let s := ((s.dropStep n t).putOff n t).keepStage n t t.stage t.seq t.tries t.bad
        if t.kind == 3 then s.wrrEnd (wrrKey 2 n) else s

/-- NAK. -/
def execNak (port : Nat) (pkt : Pkt) (s : State) : Res := .next (s.packetIn port pkt 0x41 fun s => s.nakIn port pkt.hdr)

/-- An STL (R91, Table 06-7). -/
def State.stlIn (s : State) (n : Nat) (h : List (BitVec 8)) : State :=
  match s.svcHandFor n h with
  | some v => s.svcHand n v 0x12
  | none => match s.handFor n h with
    | some t => s.stepFail n t 0x12
    | none => s.strayHand n h

/-- KPB_STL. -/
def execKpbStl (port : Nat) (pkt : Pkt) (s : State) : Res := .next (s.packetIn port pkt 0x42 fun s => s.stlIn port pkt.hdr)

/-- A BUR answers a bulk OUT burst (R95): the packets up to NEXT are acknowledged. -/
def State.burIn (s : State) (n : Nat) (h : List (BitVec 8)) : State :=
  match s.stepFor n (hAddr h) (hEp h) false with
  | none => s
  | some t =>
    if t.kind != 2 || hIn h then s
    else
      let k := (hSeq h + 1024 - t.seq) % 1024
      if t.credit < k then s.attemptBad n t
      else
        let s := if k == 0 then s.satF KRP_CNT_SEQ_COUNT n 0 1 else s
        let s := (s.dropStep n t).setBseq n t.addr t.ep false (hSeq h)
        let tr := s.tree n
        let s := s.setTree n { tr with credits := PMap.put tr.credits (epKey t.addr t.ep false) (hCredit h) }
        match s.stepDesc t with
        | none => s
        | some d =>
          let d := { d with moved := d.moved + min t.maxlen (k * s.pktMax n) }
          let s := s.setDesc t.q d
          if k != 0 && decide (kLen d ≤ d.moved) then s.kpbDone t.q d 0x00 d.moved else s

/-- BUR. -/
def execBur (port : Nat) (pkt : Pkt) (s : State) : Res := .next (s.packetIn port pkt 0x43 fun s => s.burIn port pkt.hdr)

/-- A HUB packet answers a status poll (R133, R134): it is acknowledged, and the hub is polled again at the next control turn. -/
def State.hubIn (s : State) (n : Nat) (h : List (BitVec 8)) : State :=
  match (s.sq n).steps.find? fun t => !t.idle && t.kind == 5 && t.addr == hAddr h with
  | none => s
  | some t =>
    let s := (s.dropStep n t).sendAck n t.addr 1 true 0
    let tr := s.tree n
    let hub := PMap.get tr.hubs t.addr {}
    let s := s.setTree n { tr with hubs := PMap.put tr.hubs t.addr { hub with due := true } }
    s.hubReport n t.addr (hSel h) (leAt h 4 2) (leAt h 6 2)

/-- HUB. -/
def execHub (port : Nat) (pkt : Pkt) (s : State) : Res := .next (s.packetIn port pkt 0x70 fun s => s.hubIn port pkt.hdr)

/-- A LNK packet of operation `op` arrives on a port that `k` allows. -/
def State.lnkIn (s : State) (n : Nat) (p : Pkt) (op : Nat) (k : State → State) : State :=
  if pktOk p && hType p.hdr == 0x60 && hSel p.hdr != op then s
  else s.packetIn n p 0x60 k

/-- PONG: half the round trip dates position samples (R165). -/
def execPong (port : Nat) (pkt : Pkt) (s : State) : Res :=
  .next (s.lnkIn port pkt 0x09 fun s =>
    match (s.link port).ping with
    | some (nonce, t) =>
      if hTail pkt.hdr == nonce then s.setLink port { s.link port with ping := none, rtt := s.now - t } else s
    | none => s)

/-- SHED_ACK. -/
def execShedAck (port : Nat) (pkt : Pkt) (s : State) : Res :=
  .next (s.lnkIn port pkt 0x02 fun s =>
    let l := s.link port
    if l.req == 1 && hArg pkt.hdr == l.reqArg then s.linkWidth port l.reqArg else s)

/-- WIDEN_ACK. -/
def execWidenAck (port : Nat) (pkt : Pkt) (s : State) : Res :=
  .next (s.lnkIn port pkt 0x04 fun s =>
    let l := s.link port
    if l.req == 3 && hArg pkt.hdr == l.reqArg then (s.setLink port { l with acked := true }).widenGo port else s)

/-- STEP_ACK: the step waits for its frame (Table 03-12). -/
def execStepAck (port : Nat) (pkt : Pkt) (s : State) : Res :=
  .next (s.lnkIn port pkt 0x06 fun s =>
    let l := s.link port
    if l.req == 5 && hArg pkt.hdr == l.reqArg then
      s.setLink port { l with req := 0, stepWait := some l.reqArg, stepAt := s.now } else s)

/-- REFUSE of a shed or of a step down (R114). -/
def execRefuse (port : Nat) (pkt : Pkt) (s : State) : Res :=
  .next (s.lnkIn port pkt 0x07 fun s =>
    let l := s.link port
    let until_ := s.now + s.dwell port
    if hArg pkt.hdr != l.req then s
    else if l.req == 1 then (s.setLink port { l with req := 0, noShed := until_ }).linkGo port
    else if l.req == 5 && decide (l.reqArg < l.tRate) then (s.setLink port { l with req := 0, noStep := until_ }).linkGo port
    else s)

/-- A request of operation `op` arrives on the upstream port of a hub-role quad. -/
def State.askedIn (s : State) (n : Nat) (p : Pkt) (op : Nat) (k : State → Nat → State) : State :=
  if !(s.live 0x30 n) || !(s.hubRole n) || (pktOk p && !(hType p.hdr == 0x60 && hSel p.hdr == op)) then s
  else
    let r := s.receive n p
    if r.2 then k r.1 (hArg p.hdr) else r.1

/-- SHED_REQ: the upstream port is x1 and has no narrower width, so it refuses (R114). -/
def execShedReq (port : Nat) (pkt : Pkt) (s : State) : Res :=
  .next (s.askedIn port pkt 0x01 fun s _ => s.sendLnk port 0x07 0x01 0)

/-- WIDEN_REQ is never refused. -/
def execWidenReq (port : Nat) (pkt : Pkt) (s : State) : Res :=
  .next (s.askedIn port pkt 0x03 fun s w => s.sendLnk port 0x04 w 0)

/-- STEP_REQ: the port follows the step that the other side then makes. -/
def execStepReq (port : Nat) (pkt : Pkt) (s : State) : Res :=
  .next (s.askedIn port pkt 0x05 fun s r =>
    (s.setLink port { s.link port with stepWait := some r, stepAt := s.now }).sendLnk port 0x06 r 0)

/-- HUB_ROLE_DOWNSTREAM_PACKET. -/
def execHubRoleDownstreamPacket (port : Nat) (pkt : Pkt) (s : State) : Res :=
  .next (if s.live 0x30 port && s.hubRole port then
    let r := s.receive port pkt
    if r.2 then r.1.hubDown port pkt else r.1
  else s)

/-! ### Timers and commands of a link -/

/-- A step has waited RSP_TMO. One that runs IN and that a boundary has cut was withheld by the device, and so was one that runs OUT by Zhoem
itself (R96, R224): the burst IN ends with its BUR, the others are sent again from where they stand, and none counts as an attempt. -/
def State.stepTimeout (s : State) (n : Nat) (t : Step) : State :=
  if t.cut && (t.dirIn || t.withheld) && !t.bad then
    (if t.kind == 1 then s.burstEnd n t else s.mapStep n (fun x => x == t) fun x => { x with idle := true, cut := false, withheld := false })
  else s.attemptFailed n t

/-- RESPONSE_TIMEOUT: the oldest step that waits has waited RSP_TMO. -/
def execResponseTimeout (port : Nat) (s : State) : Res :=
  .next (match (s.sq port).steps.find? fun t => !t.idle && t.rest.isEmpty with
    | some t =>
      if t.since + ns (10 * s.f KRP_TMO_RSP_TMO port) ≤ s.now then ((s.stepTimeout port t).serve port).stepCheck port else s
    | none => s)

/-- KRP_CMD_RETRAIN. -/
def execKrpCmdRetrain (fn port : Nat) (s : State) : Res :=
  .next (s.act fn 0x30 port false fun s => if s.carries port then s.linkRecover port else s)

/-- KRP_CMD.WIDEN: leave SHED or STEPPED now; autonomous changes may act again after DWELL (Table 03-16). -/
def State.linkWidenCmd (s : State) (n : Nat) : State :=
  let t := s.now + s.dwell n
  (s.setLink n { s.link n with noShed := t, noStep := t }).linkUp n

/-- KRP_CMD_WIDEN. -/
def execKrpCmdWiden (fn port : Nat) (s : State) : Res :=
  .next (s.act fn 0x30 port false fun s => s.linkWidenCmd port)

/-- KPB_UTIL_WINDOW: a window of 100 µs has ended; `corrected` FEC symbols were corrected since the last. -/
def execKpbUtilWindow (port corrected : Nat) (s : State) : Res :=
  .next (if s.live 0x30 port && decide ((s.link port).winAt + us 100 ≤ s.now) then
    let s := s.addF KRP_CNT_FEC_CORR_COUNT port 0 corrected
    let s := s.count (bankQuad port) 0xC2 (port % 4) (some (s.krpOwner port)) corrected
    if s.carries port then s.utilWindow port else s.setLink port { s.link port with winAt := s.now, txBlk := 0, rxBlk := 0 }
  else s)

/-- KPB_SHED_START (R109). -/
def execKpbShedStart (port : Nat) (s : State) : Res :=
  let l := s.link port
  let w := s.f KRP_STAT_WIDTH port
  .next (if s.b KRP_CTL_LPM_EN port && s.carries port && !(s.hubRole port) && s.lstate port != 6 && l.req == 0 && !l.want && !l.seed &&
      decide (s.f KRP_CTL_MIN_WIDTH port < w) && s.lowLong port && decide (l.noShed ≤ s.now) then s.linkAsk port 1 (w - 1)
    else s)

/-- KPB_STEP_DOWN_START (R111): the load admitted is under 40 % of the capacity at 0b01. -/
def execKpbStepDownStart (port : Nat) (s : State) : Res :=
  let l := s.link port
  let load := s.tableLoad port (xBlock 1 0) (s.sq port).table - s.frmTime port (xBlock 1 0)
  .next (if s.b KRP_CTL_LPM_EN port && s.lstate port == 4 && s.carries port && !(s.hubRole port) && l.req == 0 && l.stepWait.isNone && !l.want && !l.seed &&
      l.tRate == 2 && l.tWidth == 0 && decide (s.f KRP_CTL_MIN_RATE port ≤ 1) && s.lowLong port && decide (l.noStep ≤ s.now) &&
      decide (10 * load < 4 * xns (s.fMin port)) then s.linkStep port 1 false
    else s)

/-- KPB_WIDEN_START: the utilisation of 5 µs has reached UP_PCT. -/
def execKpbWidenStart (port : Nat) (s : State) : Res :=
  .next (if s.carries port && s.busy port then s.linkUp port else s)

/-- STEP_WAIT_LIMIT (R113). -/
def execStepWaitLimit (port : Nat) (s : State) : Res :=
  let l := s.link port
  .next (if l.stepSeed && l.stepWait.isSome && decide (l.stepAt + ms 100 ≤ s.now) then s.setLink port { l with stepForce := true } else s)

/-- PING_TIMER (R165): the NONCE is the sender's choice. -/
def execPingTimer (port : Nat) (s : State) : Res :=
  let l := s.link port
  let nonce := Config.freeNat s.draws % 2 ^ 32
  .next (if s.carries port && !(s.hubRole port) && decide (l.pingAt + sec 1 ≤ s.now) then
    ((s.setLink port { l with ping := some (nonce, s.now), pingAt := s.now }).bump).sendLnk port 0x08 0 nonce
  else s)

/-- DETECT after the idle of a port reset, with its TS blocks (R125). -/
def State.detectAgain (s : State) (n : Nat) : State := if s.lstate n == 1 then s.trainStart n else s.linkTo n 1

/-- PORT_RESET_IDLE_END. -/
def execPortResetIdleEnd (port : Nat) (s : State) : Res :=
  .next (match (s.link port).idleEnd with
    | some t => if t ≤ s.now then (s.setLink port { s.link port with idleEnd := none }).detectAgain port else s
    | none => s)

/-! ### Enumeration -/

/-- ENUM_DEBOUNCE_END (Table 04-4): port `hport` of hub `hub`, or the root port itself with hub 0. -/
def execEnumDebounceEnd (port hub hport : Nat) (s : State) : Res :=
  let p : TPort := { hub := hub, port := hport }
  let t := s.tree port
  .next (match t.queue.find? fun q => q.1 == p && !q.2.2 with
    | none => s
    | some q =>
      if s.now < q.2.1 + ms (s.f KHUB_CTL_DEBOUNCE) then s
      else if s.isReady port p then
        s.setTree port { t with queue := t.queue.map fun x => if x.1 == p then (x.1, x.2.1, true) else x }
      else s.setTree port { t with queue := t.queue.filter fun x => x.1 != p })

/-- ENUM_PORT_TURN. -/
def execEnumPortTurn (port : Nat) (s : State) : Res := .next ((s.enumTurn port).serve port)

/-- ENUM_WAIT_END. -/
def execEnumWaitEnd (port : Nat) (s : State) : Res :=
  .next (match (s.tree port).enum with
    | some e => match e.wait with
      | some t => if t ≤ s.now && (s.tree port).fid == 0 then (s.enumWaited port { e with wait := none }).serve port else s
      | none => s
    | none => s)

/-- ENUM_ATTEMPT_TIMEOUT: 100 ms for the attempt, and in step 3 of a root port 50 ms from the end of its idle (Table 04-4). The
spec gives this failure no status: it is a free value among the codes of Table 07-7. While a table fault parks the enumeration (R143) the
bound is not judged (DESIGN CHOICE, log entry 91). -/
def execEnumAttemptTimeout (port : Nat) (s : State) : Res :=
  .next (match (s.tree port).enum with
    | some e =>
      if 3 ≤ e.step && (s.tree port).fid == 0 && (decide (e.since + ms 100 ≤ s.now) ||
          (e.step == 3 && e.at_.hub == 0 && decide (e.since + us 200 + ms 50 ≤ s.now))) then
        let s := s.setSq port { s.sq port with steps := (s.sq port).steps.filter fun t => t.kind != 4 }
        ((s.bump).enumFail port e s.freeStatus).serve port
      else s
    | none => s)

/-- HUB_STATUS_POLL (R134): a hub that is configured goes on being polled where ENUM_EN is 0 (R139). -/
def execHubStatusPoll (port hub : Nat) (s : State) : Res :=
  let t := s.tree port
  .next (match PMap.find t.hubs hub with
    | some h =>
      if (s.ent port hub).state == 2 && decide (h.pollAt ≤ s.now) then
        let h := { h with due := true, pollAt := s.now + us (10 * s.f KHUB_CTL_STAT_POLL) }
        (s.setTree port { t with hubs := PMap.put t.hubs hub h }).serve port
      else s
    | none => s)

/-- A write of function `fn` to a register of root port `n` on KHUB: the manager, or the instance that holds the port and reaches
the page (R156, R454). -/
def State.actTree (s : State) (fn n : Nat) (k : State → State) : State :=
  if 95 < n || !(s.serves 0x32) then s
  else if fn == 0 && !(s.resetting 0) then k s
  else if s.resetting fn then s.refuse fn
  else if s.aliased fn 0x32 0 && s.holdsKrp fn n then k s else s.refuse fn

/-- A write of KHUB_TREE_BASE (R142): all 256 entries are written again. -/
def State.treeBase (s : State) (n v : Nat) : State :=
  let t := s.tree n
  let s := (s.unwait (s.krpOwner n) t.fid).setTree n { t with fid := 0, dirty := [] }
  let s := (s.setF KHUB_TREE_STAT_TABLE_FAULT 0 n 0).setF KHUB_TREE_BASE_ADDR 0 n v
  (s.tableWrite n (List.range 256)).enumTurn n

/-- KHUB_TREE_BASE_WRITE. -/
def execKhubTreeBaseWrite (fn port value : Nat) (s : State) : Res :=
  .next (s.actTree fn port fun s => if KHUB_TREE_BASE_ADDR.ok value then s.treeBase port value
    else s.errOn PAGE_ERR_RESERVED_ENC 0x32 0)

/-- A write of KHUB_TREE_ACK (R141): GONE entries up to its value become FREE without an event, and ports may have waited for one. -/
def State.treeAck (s : State) (n v : Nat) : State :=
  let s := s.setF KHUB_TREE_ACK_SEQ 0 n v
  let t := s.tree n
  (s.setTree n { t with ents := t.ents.map fun e =>
    if e.2.state == 3 && (e.2.seq == v || later v e.2.seq 32) then (e.1, { e.2 with state := 0 }) else e }).unstarve n

/-- KHUB_TREE_ACK_WRITE. -/
def execKhubTreeAckWrite (fn port value : Nat) (s : State) : Res :=
  .next (s.actTree fn port fun s => s.treeAck port (value % 2 ^ 32))

/-- A write of ENUM_EN (R136, R147): the step in progress runs to its end. -/
def State.enumEn (s : State) (n : Nat) (on : Bool) : State :=
  let s := s.setF KHUB_TREE_CTL_ENUM_EN 0 n (b2n on)
  let t := s.tree n
  let s := s.setTree n { t with enum := t.enum.map fun e => { e with stop := !on } }
  if on then s.enumTurn n else s

/-- ENUM_EN_WRITE. -/
def execEnumEnWrite (fn port : Nat) (on : Bool) (s : State) : Res :=
  .next (s.actTree fn port fun s => (s.enumEn port on).serve port)

/-- RESCAN: attached devices are detached, and every port of the tree that is ready is newly ready (Table 04-8). A port below the
root is ready anew once its hub is enumerated again. -/
def State.rescan (s : State) (n : Nat) : State :=
  let s := s.detach n {}
  if s.isReady n {} then s.portReady n {} else s

/-- RESCAN. -/
def execRescan (fn port : Nat) (s : State) : Res :=
  .next (s.actTree fn port fun s => s.rescan port)

/-! ### Port power (R148 to R151) -/

def State.pwr (s : State) (n : Nat) : PortPwr := PMap.get s.ppwr n {}
def State.setPwr (s : State) (n : Nat) (p : PortPwr) : State := { s with ppwr := PMap.put s.ppwr n p }

/-- Set PAGE of the switch of a port where the map gives one (R148). -/
def State.pmPage (s : State) (n : Nat) : State :=
  let page := s.f KHUB_PWR_MAP_PAGE 0 n
  if page != 0 then s.emit (.pmbus n 0x00 page) else s
/-- Write OPERATION to the switch of a port (R148). -/
def State.pmOperation (s : State) (n v : Nat) : State := (s.pmPage n).emit (.pmbus n 0x01 v)
/-- Read command `c` of the switch of a port (R148). -/
def State.pmRead (s : State) (n c : Nat) : State := (s.pmPage n).emit (.pmbusRead n c)

/-- Switching-ons in the last 10 ms. -/
def State.recentOn (s : State) : List Nat := s.staggered.filter fun t => decide (s.now < t + ms 10)

/-- The stagger allows port `n`: OPERATION 0x80 (Table 04-6). -/
def State.powerAllow (s : State) (n : Nat) : State :=
  if s.f KHUB_PWR_STAT_PSTATE 0 n == 1 && (s.pwr n).opAt.isNone && decide (s.recentOn.length < s.f KHUB_PMB_STAGGER) then
    ({ s with staggered := s.now :: s.recentOn }.setPwr n { s.pwr n with opAt := some s.now, onAt := s.now }).pmOperation n 0x80
  else s

/-- PWR_ON = 1 (Table 04-6). -/
def State.powerOn (s : State) (n : Nat) : State :=
  let s := s.setF KHUB_TREE_CTL_PWR_ON 0 n 1
  if !(s.b KHUB_PWR_MAP_FITTED 0 n) || s.f KHUB_PWR_STAT_PSTATE 0 n != 0 then s
  else (s.setF KHUB_PWR_STAT_PSTATE 0 n 1).setPwr n { s.pwr n with opAt := none }

/-- The link of a port whose power goes: EIE on every lane, its devices detached, and it waits in DETECT (R150). -/
def State.powerLost (s : State) (n flags : Nat) : State :=
  let s := s.markersAll n 0xF2 0
  let s := s.detach n {} flags
  if s.lstate n == 0 then s else s.linkTo n 1

/-- PWR_ON = 0 (R150). -/
def State.powerOff (s : State) (n : Nat) : State :=
  let s := (s.setF KHUB_TREE_CTL_PWR_ON 0 n 0).setF KHUB_PWR_STAT_OVERCURRENT 0 n 0
  if !(s.b KHUB_PWR_MAP_FITTED 0 n) then s
  else
    let s := (s.powerLost n 4).pmOperation n 0x00
    ((s.setF KHUB_PWR_STAT_PSTATE 0 n 0).setPwr n { s.pwr n with opAt := none }).nrgBreak n

/-- PORT_POWER_ON. -/
def execPortPowerOn (fn port : Nat) (s : State) : Res := .next (s.actTree fn port fun s => s.powerOn port)

/-- PORT_POWER_OFF. -/
def execPortPowerOff (fn port : Nat) (s : State) : Res := .next (s.actTree fn port fun s => s.powerOff port)

/-- POWER_STAGGER_ALLOWS. -/
def execPowerStaggerAllows (port : Nat) (s : State) : Res := .next (s.powerAllow port)

/-- POWER_GOOD (Table 04-6): a read of STATUS_WORD shows bit 11 at 0. -/
def execPowerGood (port : Nat) (s : State) : Res :=
  .next (if s.f KHUB_PWR_STAT_PSTATE 0 port == 1 && (s.pwr port).opAt.isSome then
    ((s.pmRead port 0x79).setF KHUB_PWR_STAT_PSTATE 0 port 2).setF KHUB_PWR_STAT_PG 0 port 1 else s)

/-- POWER_GOOD_TIMEOUT. -/
def execPowerGoodTimeout (port : Nat) (s : State) : Res :=
  .next (match (s.pwr port).opAt with
    | some t =>
      if s.f KHUB_PWR_STAT_PSTATE 0 port == 1 && decide (t + ms (s.f KHUB_PMB_PG_TMO) ≤ s.now) then
        ((s.pmOperation port 0x00).setF KHUB_PWR_STAT_PSTATE 0 port 3).err KHUB_ERR_PG_TIMEOUT 0
      else s
    | none => s)

/-- A switch reports an output overcurrent or fault (R151): bits 15, 14, 5 and 4 of STATUS_WORD (PRESUMED: PMBus 1.4). -/
def pmFault (status : Nat) : Bool := bit status 15 || bit status 14 || bit status 5 || bit status 4

/-- A switch reports an output overcurrent or fault: its port goes to FAULT, whatever its PSTATE (R151). A port that was off or in FAULT has no
link to take down. -/
def State.switchFault (s : State) (n status : Nat) : State :=
  if pmFault status then
    let st := s.f KHUB_PWR_STAT_PSTATE 0 n
    let s := ((s.setF KHUB_PWR_STAT_PSTATE 0 n 3).setF KHUB_PWR_STAT_OVERCURRENT 0 n 1).err KHUB_ERR_OVERCURRENT 0
    if st == 1 || st == 2 then s.powerLost n 2 else s.detach n {} 2
  else s

/-- PMB_ALERT: Zhoem reads the Alert Response Address of both segments, then STATUS_WORD of each switch that answers (log entry 36); the operands are
the switches that answer, by root port, with their STATUS_WORD, and whether PMB_ALERT_N is still asserted then. -/
def execPmbAlert (answers : List (Nat × Nat)) (still : Bool) (s : State) : Res :=
  .next (answers.foldl (fun s a =>
      if s.b KHUB_PWR_MAP_FITTED 0 a.1 && decide (a.1 < 96) then (s.pmRead a.1 0x79).switchFault a.1 a.2 else s)
    (((s.emit (.alertRead 0)).emit (.alertRead 1)).setF KHUB_PMB_STAT_ALERT 0 0 (b2n still)))

end Sys2Proof.Machine
end

