-- ==== Sys2Proof/Machine/SeqCmds.lean ====
section
/-! DEFINITION. The events of frame sequencers but for boundaries and the FRM: ends of services, control turns, admission of periodic tables
(chapter 6). -/
namespace Sys2Proof.Machine

/-- SERVICE_END: the service in progress has reached its end, or, where a response has begun and its data has stopped, the worst-case
time of R211 has passed. -/
def execServiceEnd (port : Nat) (s : State) : Res :=
  .next (match (s.sq port).svc with
    | none => s
    | some v =>
      let worst := s.svcTime port v.ent (s.rootNow port) * 65536 / 5376
      if v.done then (if eIn v.ent || decide (v.since ≤ s.now) then ((s.svcOver port).serve port).stepCheck port else s)
      else if v.begun && decide (v.since + worst ≤ s.now) then
        (((s.setSq port { s.sq port with svc := some { v with missing := true } }).svcOver port).serve port).stepCheck port
      else s)

/-- SERVICE_RESPONSE_TIMEOUT: one block time and TURN have passed since the token (R218). -/
def execServiceResponseTimeout (port : Nat) (s : State) : Res :=
  .next (match (s.sq port).svc with
    | none => s
    | some v =>
      let p := s.pathOf port (eAddr v.ent) (s.rootNow port)
      let wait := (p.1 + s.turnOf port p.2) * 65536 / 5376
      if !v.begun && eIn v.ent && decide (v.since + wait ≤ s.now) then
        (((s.setSq port { s.sq port with svc := some { v with missing := true } }).svcOver port).serve port).stepCheck port
      else s)

/-- CONTROL_TURN_TIMER: 125 µs since the control turn began, on a port whose sequencer does not run (R194). -/
def execControlTurnTimer (port : Nat) (s : State) : Res :=
  .next (if s.carries port && !(s.b KSCH_STAT_RUNNING port) && decide ((s.sq port).ctrlAt + us 125 ≤ s.now) then
    (s.setSq port { s.sq port with turn := 2, ctrl := 0, ctrlAt := s.now }).serve port
  else s)

/-! ### Admission (R205 to R214) -/

/-- A write of ADMIT: ignored while RUNNING is 1 (R213). -/
def State.admitGo (s : State) (n fn : Nat) : State :=
  if s.b KSCH_ADM_STAT_RUNNING n then s
  else (s.setF KSCH_ADM_STAT_RUNNING n 0 1).setSq n { s.sq n with candAt := s.now, admFn := fn }

/-- KSCH_CMD_ADMIT. -/
def execKschCmdAdmit (fn port : Nat) (s : State) : Res :=
  .next (s.act fn 0x31 port false fun s => s.admitGo port fn)

/-- The ring headers of a table's VALID entries, or the first entry whose header faults. -/
def State.readRings (s : State) : List Nat → Nat → Except (Nat × XErr) (List Nat)
  | [], _ => .ok []
  | e :: es, i =>
    if !(eValid e) then match s.readRings es (i + 1) with
      | .ok rs => .ok (0 :: rs)
      | .error x => .error x
    else match s.readV (eInst e) (eRing e) 32 with
      | .error x => .error (i, x)
      | .ok b => match s.readRings es (i + 1) with
        | .ok rs => .ok (leNat b :: rs)
        | .error x => .error x

/-- The bytes of a table as entries of 256 bits. -/
def entriesOf : List (BitVec 8) → Nat → List Nat
  | _, 0 => []
  | bs, k + 1 => leNat (bs.take 32) :: entriesOf (bs.drop 32) k

/-- The endpoint that an entry names is not a periodic one that carries BYTES, on a CONFIGURED device (Table 06-4). -/
def State.wrongEp (s : State) (n e : Nat) : Bool :=
  let d := s.ent n (eAddr e)
  d.state == 2 && !(d.eps.any fun x => x.1 == selOf (eEp e) (eIn e) && x.2.1 == 1 && decide (eBytes e ≤ x.2.2))

/-- An entry names what its instance, or the writer, does not hold (Table 06-4). -/
def State.notMine (s : State) (fn e : Nat) : Bool :=
  let i := eInst e
  decide (64 < i) || (fn != 0 && i != fn) || s.f SHF_SHARE_SLOTS (eOwner e) i == 0 || (s.cqFor i (eCq e)).isNone

/-- First place of a list at which `p` holds. -/
def firstAt (p : Nat → Nat → Bool) : List Nat → List Nat → Nat → Option Nat
  | e :: es, r :: rs, i => if p e r then some i else firstAt p es rs (i + 1)
  | _, _, _ => none

/-- Admission ends with RESULT, FAIL_ENTRY and TABLE_FAIL. -/
def State.admEnd (s : State) (n result entry : Nat) (table : Bool) : State :=
  let s := (s.setF KSCH_ADM_STAT_RUNNING n 0 0).setF KSCH_ADM_STAT_RESULT n 0 result
  (s.setF KSCH_ADM_STAT_FAIL_ENTRY n 0 entry).setF KSCH_ADM_STAT_TABLE_FAIL n 0 (b2n table)

/-- LOAD and CAP of a table, L in units of 10 ns rounded up; a load beyond 16 bits, which the spec does not cover, shows a free
value. -/
def State.admLoad (s : State) (n : Nat) (t : PerTable) : State :=
  let l := cdiv (s.tableLoad n (s.rootMin n) t) (xns 10)
  let s := s.setF KSCH_ADM_LOAD_CAP n 0 (s.fMin n * 8 / 100)
  if l < 65536 then s.setF KSCH_ADM_LOAD_LOAD n 0 l else (s.setF KSCH_ADM_LOAD_LOAD n 0 (Config.freeNat s.draws)).bump

/-- The checks of Table 06-4, in their order, and their outcome (R213). Work that must wait for Bus Master Enable or ATS waits. -/
def State.admission (s : State) (n : Nat) : State :=
  let k := s.f KSCH_CAND_LEN_LEN n
  match s.readV (s.krpOwner n) (s.f KSCH_CAND_BASE_ADDR n) (32 * k) with
  | .error x => if x.reason == 0 then s
      else (((s.admLoad n {}).setF KSCH_ADM_LOAD_LOAD n 0 (Config.freeNat s.draws)).bump).admEnd n 0x20 0 true
  | .ok bs =>
    let es := entriesOf bs k
    match s.readRings es 0 with
    | .error (i, x) => if x.reason == 0 then s else (s.admLoad n { ents := es }).admEnd n 0x20 i false
    | .ok rs =>
      let t : PerTable := { ents := es, rings := rs }
      let s := s.admLoad n t
      let clock := s.f KSCH_CTL_CLOCK n
      match firstAt (fun e r => eValid e && (entryMalformed e clock || ringMalformed e r || s.wrongEp n e)) es rs 0 with
      | some i => s.admEnd n 0x11 i false
      | none => match firstAt (fun e _ => eValid e && s.notMine (s.sq n).admFn e) es rs 0 with
        | some i => s.admEnd n 0x21 i false
        | none =>
          if s.tooMuch n (s.tableLoad n (s.rootMin n) t) then s.admEnd n 0x24 0 true
          else
            let s := (s.admEnd n 0x00 0 false).setSq n { s.sq n with cand := some t, candAt := s.now }
            s.setF KSCH_ADM_STAT_CAND_VALID n 0 (b2n (!(s.b KSCH_STAT_RUNNING n)))

/-- PER_NEED of a sheaf (R368): two slots for each TASK_EN entry that names it as OWNER, in tables in effect and in candidates, and three for
each root port whose lists it prepares. -/
def State.perNeed (s : State) (h : Nat) : Nat :=
  let own (t : PerTable) : Nat := (t.ents.filter fun e => eValid e && eTask e && eOwner e == h).length
  let ports := (List.range 96).filter fun n => !(s.absent 0x31 n) && s.f KSCH_CTL_LIST_SHEAF n == h
  (s.seqs.map fun x => 2 * (own (x.2.next.getD x.2.table) + (x.2.cand.map own).getD 0)).sum + 3 * ports.length

/-- Recompute PER_NEED of every sheaf, at each admission and each commit of a table (R368). -/
def State.perUpdate (s : State) : State :=
  s.each 64 fun s h =>
    let n := s.perNeed h
    let s := s.setF SHF_STAT_PER_NEED h 0 (min n 8191)
    if s.f SHF_CFG_PER_SLOTS h < n then s.err SHF_ERR_PER_SHORT h else s

/-- ADMISSION_DONE. -/
def execAdmissionDone (port : Nat) (s : State) : Res :=
  .next (if s.b KSCH_ADM_STAT_RUNNING port then (s.admission port).perUpdate else s)

/-- CAND_VALID: the candidate's lists for the next two frames exist. -/
def execCandValid (port : Nat) (s : State) : Res :=
  .next (if (s.sq port).cand.isSome && !(s.b KSCH_ADM_STAT_RUNNING port) then s.setF KSCH_ADM_STAT_CAND_VALID port 0 1 else s)

/-- KSCH_CMD_DROP_CAND. -/
def execKschCmdDropCand (fn port : Nat) (s : State) : Res :=
  .next (s.act fn 0x31 port false fun s => s.dropCand port)

/-- The commit of a table whose base and length are the candidate's (R209, R214): it waits for the next boundary of a sequencer that
runs. -/
def State.takeCand (s : State) (n : Nat) (c : PerTable) : State :=
  let q := s.sq n
  let gens := c.ents.map fun e => let d := s.ent n (eAddr e); if d.state == 2 then d.gen else 0
  let c := { c with gens := gens }
  (((s.setSq n { q with next := some c, portGone := false }).dropCand n).overload n).perUpdate

end Sys2Proof.Machine
end

