-- ==== Sys2Proof/Machine/Ether.lean ====
section
/-! DEFINITION. Ethernet frames: the parse of Table 09-6, checksums, flow keys and hashes, one-step timestamps, MACsec (chapters 9
and 10). Frames are byte lists without preamble and FCS. -/
namespace Sys2Proof.Machine

/-! ### Big-endian fields -/

/-- The number that `bs` spells, first byte highest. -/
def beNat (bs : List (BitVec 8)) : Nat := bs.foldl (fun x b => 256 * x + b.toNat) 0
def beBytes (n x : Nat) : List (BitVec 8) := (leBytes n x).reverse
/-- Field of `n` bytes at `pos`, in network order. -/
def beAt (bs : List (BitVec 8)) (pos n : Nat) : Nat := beNat ((bs.drop pos).take n)

/-! ### Parse (R316) -/

/-- One Ethernet, IP and transport header run: offset of the network header and 4 or 6 (0 none), offset of the transport header, the
protocol reached, whether a transport header was found, transport bytes that the IP length gives, whether R317 lets its checksum be
computed, whether an extension or transport header is cut off where the parse ends, and the offset past the tags. -/
structure Layers where
  l2 : Nat := 14
  ety : Nat := 0
  l3 : Nat := 0
  ver : Nat := 0
  l4 : Nat := 0
  proto : Nat := 0
  found : Bool := false
  len : Nat := 0
  sum : Bool := false
  cut : Bool := false
deriving DecidableEq, Repr

/-- Skip up to two VLAN tags from the EtherType at `off`; `lim` is where the parse ends. -/
def skipTags (bs : List (BitVec 8)) (tpid lim : Nat) : Nat → Nat → Nat
  | 0, off => off
  | k + 1, off =>
    let t := beAt bs off 2
    if (t == 0x8100 || t == 0x88A8 || (tpid != 0 && t == tpid)) && off + 6 ≤ lim then skipTags bs tpid lim k (off + 4) else off

/-- IPv6 extension headers: at most three of 0, 43 and 60. The answer: offset, protocol, whether a Routing header has Segments Left, and
whether a header is cut off. -/
def skipExts (bs : List (BitVec 8)) (lim : Nat) : Nat → Nat → Nat → Bool → Nat × Nat × Bool × Bool
  | 0, off, p, r => (off, p, r, false)
  | k + 1, off, p, r =>
    let n := (beAt bs (off + 1) 1 + 1) * 8
    if !(p == 0 || p == 43 || p == 60) then (off, p, r, false)
    else if off + n ≤ lim then skipExts bs lim k (off + n) (beAt bs off 1) (r || (p == 43 && beAt bs (off + 3) 1 != 0))
    else (off, p, r, true)

/-- The transport header of protocol `p` at `off` lies wholly before `lim`: 8 bytes of UDP, and of TCP what its Data Offset says, at least
20. -/
def l4Whole (bs : List (BitVec 8)) (p off lim : Nat) : Bool :=
  if p == 6 then decide (off + max 20 (4 * (beAt bs (off + 12) 1 / 16)) ≤ lim) else decide (off + 8 ≤ lim)

/-- Steps 1 to 5 of Table 09-6 for the frame that starts at `base`. -/
def layersAt (bs : List (BitVec 8)) (tpid base : Nat) : Layers :=
  let lim := min 256 bs.length
  if lim < base + 14 then {}
  else
    let o := skipTags bs tpid lim 2 (base + 12)
    let ety := beAt bs o 2
    let l3 := o + 2
    let L : Layers := { l2 := l3, ety := ety }
    if ety == 0x0800 && l3 + 20 ≤ lim then
      let ihl := beAt bs l3 1 % 16
      let total := beAt bs (l3 + 2) 2
      let frag := beAt bs (l3 + 6) 2 % 2 ^ 14 != 0
      let proto := beAt bs (l3 + 9) 1
      let l4 := l3 + 4 * ihl
      if ihl < 5 || lim < l4 then L
      else
        let known := proto == 6 || proto == 17
        let whole := l4Whole bs proto l4 lim
        { L with l3 := l3, ver := 4, l4 := l4, proto := proto, found := known && whole, cut := known && !whole,
                 len := total - 4 * ihl, sum := !frag && decide (4 * ihl ≤ total) && decide (l3 + total ≤ bs.length) }
    else if ety == 0x86DD && l3 + 40 ≤ lim then
      let x := skipExts bs lim 3 (l3 + 40) (beAt bs (l3 + 6) 1) false
      let plen := beAt bs (l3 + 4) 2
      let ext := x.1 - (l3 + 40)
      let known := x.2.1 == 6 || x.2.1 == 17
      let whole := l4Whole bs x.2.1 x.1 lim
      { L with l3 := l3, ver := 6, l4 := x.1, proto := x.2.1, found := known && whole, cut := x.2.2.2 || (known && !whole),
               len := plen - ext, sum := !x.2.2.1 && decide (ext ≤ plen) && decide (l3 + 40 + plen ≤ bs.length) }
    else L

/-- Step 6: where the inner frame of a tunnel starts. -/
def innerAt (bs : List (BitVec 8)) (L : Layers) (vxlan geneve : Nat) : Option Nat :=
  let lim := min 256 bs.length
  if !L.found || L.proto != 17 then none
  else
    let port := beAt bs (L.l4 + 2) 2
    let h := L.l4 + 8
    if vxlan != 0 && port == vxlan && h + 8 ≤ lim then some (h + 8)
    else if geneve != 0 && port == geneve && h + 8 ≤ lim && beAt bs (h + 2) 2 == 0x6558 then
      let n := 8 + 4 * (beAt bs h 1 % 64)
      if h + n ≤ lim then some (h + n) else none
    else none

/-- The outer and inner layers of a frame on port `n`. -/
def State.layers (s : State) (n : Nat) (bs : List (BitVec 8)) : Layers × Option Layers :=
  let L := layersAt bs (s.f EMAC_TPID_TPID n) 0
  (L, (innerAt bs L (s.f EMAC_TUN_VXLAN_PORT n) (s.f EMAC_TUN_GENEVE_PORT n)).map (layersAt bs (s.f EMAC_TPID_TPID n)))

/-! ### Checksums (R317 to R319) -/

/-- Ones' complement sum of 16-bit words. -/
def onesSum : List (BitVec 8) → Nat → Nat
  | a :: b :: r, x => onesSum r (x + 256 * a.toNat + b.toNat)
  | [a], x => x + 256 * a.toNat
  | [], x => x
/-- Folded to 16 bits. -/
def fold16 (x : Nat) : Nat :=
  let y := x % 65536 + x / 65536
  let z := y % 65536 + y / 65536
  z % 65536 + z / 65536
/-- The checksum of a sum. -/
def csum (x : Nat) : Nat := 65535 - fold16 x

/-- Sum of the header of an IPv4 packet, checksum field included. -/
def ip4Sum (bs : List (BitVec 8)) (L : Layers) : Nat :=
  onesSum ((bs.drop L.l3).take (4 * (beAt bs L.l3 1 % 16))) 0

/-- Offset of the checksum in the transport header. -/
def Layers.sumAt (L : Layers) : Nat := L.l4 + (if L.proto == 6 then 16 else 6)

/-- Source and destination addresses of a network header. -/
def Layers.src (L : Layers) (bs : List (BitVec 8)) : List (BitVec 8) :=
  if L.ver == 4 then (bs.drop (L.l3 + 12)).take 4 else (bs.drop (L.l3 + 8)).take 16
def Layers.dst (L : Layers) (bs : List (BitVec 8)) : List (BitVec 8) :=
  if L.ver == 4 then (bs.drop (L.l3 + 16)).take 4 else (bs.drop (L.l3 + 24)).take 16

/-- Sum of pseudo-header and transport bytes, checksum field included. -/
def l4Sum (bs : List (BitVec 8)) (L : Layers) : Nat :=
  onesSum ((bs.drop L.l4).take L.len) (onesSum (L.src bs ++ L.dst bs) (L.proto + L.len % 65536 + L.len / 65536))

/-- Write the IPv4 header checksum of a layer; the answer says whether it was skipped. -/
def putIp4 (bs : List (BitVec 8)) (L : Layers) : List (BitVec 8) × Bool :=
  if L.ver != 4 then (bs, true)
  else
    let z := overlay bs (L.l3 + 10) (leBytes 2 0)
    (overlay z (L.l3 + 10) (beBytes 2 (csum (ip4Sum z L))), false)

/-- Write the transport checksum of a layer. -/
def putL4 (bs : List (BitVec 8)) (L : Layers) : List (BitVec 8) × Bool :=
  if !L.found || !L.sum then (bs, true)
  else
    let z := overlay bs L.sumAt (leBytes 2 0)
    let c := csum (l4Sum z L)
    (overlay z L.sumAt (beBytes 2 (if L.proto == 17 && c == 0 then 0xFFFF else c)), false)

/-- The checksums that bits [3:0] of a descriptor's byte 38 request, inner ones first (R318). -/
def State.putSums (s : State) (n : Nat) (bs : List (BitVec 8)) (req : Nat) : List (BitVec 8) × Bool :=
  let (L, inner) := s.layers n bs
  let I := inner.getD {}
  let step (on : Bool) (f : List (BitVec 8) → Layers → List (BitVec 8) × Bool) (l : Layers) (a : List (BitVec 8) × Bool) :=
    if on then let r := f a.1 l; (r.1, a.2 || r.2) else a
  let a := step (bit req 2) putIp4 I (bs, false)
  let a := step (bit req 3) putL4 I a
  let a := step (bit req 0) putIp4 L a
  step (bit req 1) putL4 L a

/-- Result of a received checksum: 0 not checked, 1 good, 2 bad (Table 09-5). -/
def ip4Check (bs : List (BitVec 8)) (L : Layers) : Nat := if L.ver != 4 then 0 else if fold16 (ip4Sum bs L) == 0xFFFF then 1 else 2
def l4Check (bs : List (BitVec 8)) (L : Layers) : Nat :=
  if !L.found || !L.sum || (L.proto == 17 && beAt bs L.sumAt 2 == 0) then 0 else if fold16 (l4Sum bs L) == 0xFFFF then 1 else 2

/-- Bytes 18 and 19 of a receive completion but for VLAN_STRIPPED, MACSEC and TS_VALID. -/
def State.rxInfo (s : State) (n : Nat) (bs : List (BitVec 8)) : Nat × Nat :=
  let (L, inner) := s.layers n bs
  let l4 := if L.ver == 0 || L.cut then 0 else if L.found && L.proto == 6 then 1 else if L.found && L.proto == 17 then 2 else 3
  let I := inner.getD {}
  (8 * b2n inner.isSome + 16 * b2n (L.ver == 6) + 32 * l4,
   ip4Check bs L + 4 * l4Check bs L + 16 * ip4Check bs I + 64 * l4Check bs I)

/-! ### Hashes -/

/-- The IEEE 802.3 CRC-32 register, reflected, before the final complement. -/
def fcsBit (c : Nat) : Nat := if c % 2 == 1 then (c / 2) ^^^ 0xEDB88320 else c / 2
def fcsByte (c : Nat) (b : BitVec 8) : Nat :=
  fcsBit (fcsBit (fcsBit (fcsBit (fcsBit (fcsBit (fcsBit (fcsBit (c ^^^ b.toNat))))))))
def fcsReg (bs : List (BitVec 8)) : Nat := bs.foldl fcsByte 0xFFFFFFFF
/-- A frame as it leaves: seven preamble bytes, the SFD, the frame, and its FCS (R301). -/
def wireFrame (bs : List (BitVec 8)) : List (BitVec 8) := List.replicate 7 0x55#8 ++ [0xD5#8] ++ bs ++ leBytes 4 (0xFFFFFFFF - fcsReg bs)

/-- Bit index of a group address: bits [31:23] of the CRC of its bytes, most significant bit of the polynomial form first (R330). -/
def hashBit (dst : List (BitVec 8)) : Nat :=
  (List.range 9).foldl (fun x i => 2 * x + b2n (bit (fcsReg dst) i)) 0

/-- Bits of a byte string, most significant first. -/
def bitsOf (bs : List (BitVec 8)) : List Bool := bs.flatMap fun b => (List.range 8).map fun i => bit b.toNat (7 - i)

/-- The spreading hash (R336): `key` is the 320-bit key as a number whose most significant bit is the first. -/
def spreadHash (key : Nat) (input : List (BitVec 8)) : Nat :=
  ((bitsOf input).foldl (fun (x : Nat × Nat) b => (x.1 + 1, if b then x.2 ^^^ bits key (288 - x.1) 32 else x.2)) (0, 0)).2

/-- A spreading key by its number (R341): 320 bits from the DRBG. -/
def spreadKey (k : Nat) : Nat := beNat ((List.range 40).map fun i => Config.drbg k i)
/-- The number of port `n`'s key. Every port starts with a key of its own. -/
def State.keyOf (s : State) (n : Nat) : Nat :=
  let k := (PMap.get s.emacs n {}).keyNo
  if k == 0 then 2 ^ 64 + n else k

/-! ### Flow keys (R333, Table 10-2) -/

/-- The flow key of a frame: a number in the layout of a steering load record, with VALID, RXQ and DROP zero, and the hash input. -/
def State.flowKey (s : State) (n : Nat) (bs : List (BitVec 8)) : Option (Nat × List (BitVec 8)) :=
  let (L, inner) := s.layers n bs
  let useIn := s.b ESTR_CTL_INNER n && inner.isSome
  let K := if useIn then inner.getD {} else L
  if K.ver == 0 then none
  else
    let ports := K.found && K.sum
    let sp := if ports then beAt bs K.l4 2 else 0
    let dp := if ports then beAt bs (K.l4 + 2) 2 else 0
    let pad (x : List (BitVec 8)) := (x ++ leBytes 16 0).take 16
    some (leNat (pad (K.src bs) ++ pad (K.dst bs) ++ leBytes 2 sp ++ leBytes 2 dp ++ leBytes 1 K.proto ++
                 leBytes 1 (b2n (K.ver == 6) + 2 * b2n useIn) ++ leBytes 1 n),
          K.src bs ++ K.dst bs ++ beBytes 2 sp ++ beBytes 2 dp)

/-! ### One-step timestamps (R351, R352) -/

/-- Offset of the PTP header for an ENCAP of a descriptor, with 44 bytes inside the first 256. -/
def State.ptpAt (s : State) (n : Nat) (bs : List (BitVec 8)) (encap : Nat) : Option Nat :=
  let L := (s.layers n bs).1
  let lim := min 256 bs.length
  let o := if encap == 0 then (if L.ety == 0x88F7 then some L.l2 else none)
    else if L.found && L.proto == 17 && L.ver == (if encap == 1 then 4 else 6) then some (L.l4 + 8) else none
  o.filter fun o => decide (o + 44 ≤ lim)

/-- The update of a frame at egress time `e` (1/65,536 ns): OP 1 OTS, 2 RES. -/
def ptpUpdate (bs : List (BitVec 8)) (o op e : Nat) : List (BitVec 8) :=
  let corr := beAt bs (o + 8) 8
  let sns := e % sec 1
  if op == 1 then
    let bs := overlay bs (o + 34) (beBytes 6 (e / sec 1) ++ beBytes 4 (sns / 65536))
    overlay bs (o + 8) (beBytes 8 (corr + sns % 65536))
  else
    let i := beAt bs (o + 16) 4
    let d := (sns / 65536 + 1000000000 - i) % 1000000000
    overlay (overlay bs (o + 8) (beBytes 8 (corr + d * 65536 + sns % 65536))) (o + 16) (leBytes 4 0)

/-! ### MACsec (R355 to R362) -/

def State.emac (s : State) (n : Nat) : Emac := PMap.get s.emacs n {}
def State.setEmac (s : State) (n : Nat) (e : Emac) : State := { s with emacs := PMap.put s.emacs n e }
/-- Association `k` of port `n`. -/
def State.secAt (s : State) (n k : Nat) : SecAssoc := PMap.get (s.emac n).secs k {}
def State.setSec (s : State) (n k : Nat) (a : SecAssoc) : State :=
  s.setEmac n { s.emac n with secs := PMap.put (s.emac n).secs k a }

/-- Nonce of a frame: SCI and PN, or for XPN the SSCI and PN exclusive or the salt (IEEE 802.1AE). -/
def secNonce (cipher : Nat) (a : SecAssoc) (sci pn : Nat) : Nat :=
  if cipher < 2 then sci * 2 ^ 32 + pn % 2 ^ 32 else (a.ssci * 2 ^ 64 + pn) ^^^ a.salt

/-- Protect a frame with association `k` of channel `c` and packet number `pn` (IEEE 802.1AE): SecTAG after the addresses, the data
encrypted where CONF is 1, and the ICV. -/
def State.protect (s : State) (n c k pn : Nat) (bs : List (BitVec 8)) : List (BitVec 8) :=
  let cipher := s.f MSEC_TXSC_CTL_CIPHER n c
  let sci := s.f MSEC_TXSC_SCI_SCI n c
  let inc := s.b MSEC_TXSC_CTL_INCLUDE_SCI n c
  let conf := s.b MSEC_TXSC_CTL_CONF n c
  let data := bs.drop 12
  let tci := s.f MSEC_TXSC_CTL_ENC_AN n c + 12 * b2n conf + (if inc then 32 else 64)
  let tag := beBytes 2 0x88E5 ++ beBytes 1 tci ++ beBytes 1 (if data.length < 48 then data.length else 0) ++ beBytes 4 pn ++
    (if inc then beBytes 8 sci else [])
  let a := s.secAt n k
  let nonce := secNonce cipher a sci pn
  let head := bs.take 12 ++ tag
  if conf then head ++ Config.gcmSeal cipher a.key nonce head data
  else head ++ data ++ Config.gcmSeal cipher a.key nonce (head ++ data) []

/-- The receive channel of a SecTAG (R360). -/
def State.secChannel (s : State) (n : Nat) (bs : List (BitVec 8)) : Option Nat :=
  let sci := if bit (beAt bs 14 1) 5 then beAt bs 20 8 else beAt bs 6 6 * 65536 + 1
  (List.range 4).find? fun c => s.b MSEC_RXSC_CTL_VALID n c && s.f MSEC_RXSC_SCI_SCI n c == sci

/-- The 64-bit PN that a frame's 32 bits stand for, from the lowest acceptable PN (XPN recovery of IEEE 802.1AE). -/
def xpn (low pn32 : Nat) : Nat :=
  let hi := low / 2 ^ 32
  if bit low 31 && pn32 < 2 ^ 31 then (hi + 1) * 2 ^ 32 + pn32 else hi * 2 ^ 32 + pn32

/-- Outcome of stage 3 (Table 10-4): the frame to go on with, whether it was verified, and its status; none where it is discarded. -/
def State.secIn (s : State) (n : Nat) (bs : List (BitVec 8)) : State × Option (List (BitVec 8) × Bool × Nat) :=
  let v := s.f MSEC_CTL_VALIDATE n
  let strict := v == 2
  let miss (F : Fld) : State × Option (List (BitVec 8) × Bool × Nat) :=
    (s.addF F n 0 1, if strict then none else some (bs, false, 0x11))
  if !(s.b MSEC_CTL_ENABLE n) || v == 0 then (s, some (bs, false, 0))
  else if beAt bs 12 2 != 0x88E5 then
    (s.addF MSEC_CNT_RX_UNTAGGED_COUNT n 0 1, if strict then none else some (bs, false, 0))
  else
    let tci := beAt bs 14 1
    let k := 16 + tci % 4 + 4 * (s.secChannel n bs).getD 0
    match s.secChannel n bs with
    | none => miss MSEC_CNT_RX_NOSCI_COUNT
    | some c =>
      if !(bit (s.f MSEC_SA_USE_IN_USE n) k) then miss MSEC_CNT_RX_NOSCI_COUNT
      else
        let cipher := s.f MSEC_RXSC_CTL_CIPHER n c
        let a := s.secAt n k
        let sci := s.f MSEC_RXSC_SCI_SCI n c
        let tag := 20 + (if bit tci 5 then 8 else 0)
        let pn32 := beAt bs 16 4
        let pn := if cipher < 2 then pn32 else xpn a.low pn32
        let enc := bit tci 3
        let body := bs.drop tag
        let nonce := secNonce cipher a sci pn
        let plain := if enc then Config.gcmOpen cipher a.key nonce (bs.take tag) body
          else (Config.gcmOpen cipher a.key nonce (bs.take (bs.length - 16)) (bs.drop (bs.length - 16))).map fun _ =>
            body.take (body.length - 16)
        match plain with
        | none =>
          let r := miss MSEC_CNT_RX_INVALID_COUNT
          (r.1.count (bankCrypto n) 0x202 0 (some (s.emacOwner n)), r.2)
        | some p =>
          if s.b MSEC_RXSC_CTL_REPLAY_EN n c && decide (pn < a.low) then miss MSEC_CNT_RX_LATE_COUNT
          else
            let next := max (s.f MSEC_SA_PN_PN n k) (pn + 1)
            let s := ((s.count (bankCrypto n) 0x201 0 (some (s.emacOwner n))).addF MSEC_CNT_RX_OK_COUNT n 0 1).setF MSEC_SA_PN_PN n k next
            let s := s.setSec n k { a with low := max a.low (next - s.f MSEC_RXSC_WIN_WINDOW n c) }
            (s, some (bs.take 12 ++ p, true, 0))

end Sys2Proof.Machine
end

