-- ==== Sys2Proof/Machine/EtherTx.lean ====
section
/-! DEFINITION. Ethernet transmit: fetching, classes and buckets, one-step timestamps, protection, completions; control frames that a port
itself sends (chapters 9 and 10). -/
namespace Sys2Proof.Machine

/-! ### Utilisation windows (R108, R322) -/

/-- U in thousandths below which a side may shed: SHED_PCT of the next narrower width, as a share of the current one. -/
def State.shedBelow (s : State) (n : Nat) : Nat := 10 * s.f EMAC_LSX_SHED_PCT n / 2

/-- Bring the utilisation window of port `n` up to date. -/
def State.utilRoll (s : State) (n : Nat) : State :=
  let e := s.emac n
  let w := s.utilWin
  if e.win == w then s
  else
    let u := max e.txBits e.rxBits * 1000 / s.emacCap n (s.emacUse n)
    let busy := if s.shedBelow n ≤ u then us 100 * (e.win + 1) else e.busyAt
    s.setEmac n { e with win := w, txBits := 0, rxBits := 0, lastU := if e.win + 1 == w then min 1023 u else 0, busyAt := busy }

/-- Frame bytes are carried. -/
def State.utilAdd (s : State) (n tx rx : Nat) : State :=
  let s := s.utilRoll n
  let e := s.emac n
  let recent := (s.now, 8 * tx, 8 * rx) :: e.recent.filter fun r => decide (s.now < r.1 + us 5)
  s.setEmac n { e with txBits := e.txBits + 8 * tx, rxBits := e.rxBits + 8 * rx, recent := recent }

/-! ### Frames of the port's own -/

/-- Queue a control or LSX frame for the next frame start point, padded to 60 bytes. -/
def State.ctlFrame (s : State) (n : Nat) (dst ety : Nat) (body : List (BitVec 8)) : State :=
  let f := beBytes 6 dst ++ beBytes 6 (s.f EMAC_ADDR_ADDR n) ++ beBytes 2 ety ++ body
  s.setEmac n { s.emac n with ctl := (s.emac n).ctl ++ [(f ++ leBytes 46 0).take 60] }

/-- An LSX frame (Table 09-7). -/
def State.lsxFrame (s : State) (n op arg nonce : Nat) : State :=
  s.ctlFrame n 0x0180C200000E 0x88B5 (beBytes 2 0x4C51 ++ leBytes 1 1 ++ leBytes 1 op ++ leBytes 1 arg ++ leBytes 1 0 ++ leBytes 4 nonce)

/-- A frame of `len` bytes with its FCS has been sent. -/
def State.txCount (s : State) (n len : Nat) : State :=
  let s := (s.addF EMAC_CNT_TX_FRAMES_COUNT n 0 1).addF EMAC_CNT_TX_BYTES_COUNT n 0 len
  let s := s.count (bankQuad n) 0x102 (n % 4) (some (s.emacOwner n))
  (s.count (bankQuad n) 0x103 (n % 4) (some (s.emacOwner n)) len).utilAdd n len 0

/-! ### Descriptors (R304, R305, R351, R352, R356) -/

/-- Port and class that a queue is bound to. -/
def State.txPort (s : State) (q : Nat) : Nat := s.q WQ_BIND_TARGET q % 128
def State.txClass (s : State) (q : Nat) : Nat := bits (s.q WQ_BIND_TARGET q) 8 3
/-- Transmit queues of a port. -/
def State.txQueues (s : State) (n : Nat) : List Nat := s.boundTo 0x3 fun b => b % 128 == n

/-- Bytes of a descriptor's segments, tag included. -/
def txLen (b : List (BitVec 8)) : Nat :=
  leAt b 32 2 % 2 ^ 15 + leAt b 34 2 % 2 ^ 15 + leAt b 36 2 % 2 ^ 15 + 4 * b2n (bit (leAt b 38 1) 4)

/-- Overhead of a descriptor's protection. -/
def State.txOver (s : State) (n : Nat) (b : List (BitVec 8)) : Nat :=
  let m := leAt b 39 1
  if bit m 7 then (if s.b MSEC_TXSC_CTL_INCLUDE_SCI n (m % 4) then 32 else 24) else 0

/-- A descriptor that sends nothing because of its body (R305). -/
def State.txMalformed (s : State) (n : Nat) (b : List (BitVec 8)) : Bool :=
  let p := leAt b 42 1
  dOpcode b != 1 || leAt b 1 1 / 4 != 0 || decide (leAt b 32 2 % 2 ^ 15 < 14) || decide (s.f EMAC_MTU_MTU n < txLen b + s.txOver n b + 4) ||
  bits (leAt b 38 1) 6 2 != 0 || bits (leAt b 39 1) 2 5 != 0 || bits p 4 4 != 0 || p % 4 == 3 || bits p 2 2 == 3 ||
  leAt b 43 5 != 0 || leAt b 56 8 != 0

/-- The frame that a descriptor's segments give, with its tag. -/
def txAssemble (b segs : List (BitVec 8)) : List (BitVec 8) :=
  if bit (leAt b 38 1) 4 then segs.take 12 ++ beBytes 2 0x8100 ++ beBytes 2 (leAt b 40 2) ++ segs.drop 12 else segs

/-- A one-step descriptor that sends nothing (R352). -/
def State.ptpBad (s : State) (n : Nat) (b frame : List (BitVec 8)) : Bool :=
  let p := leAt b 42 1
  if p % 4 == 0 then false
  else match s.ptpAt n frame (p / 4) with
    | none => true
    | some o => (p % 4 == 2 && decide (1000000000 ≤ beAt frame (o + 16) 4)) || (p / 4 == 2 && !(bit (leAt b 38 1) 1))

/-- The three segments of a descriptor. -/
def State.txSegments (s : State) (i : Nat) (b : List (BitVec 8)) : Except XErr (List (BitVec 8)) :=
  match s.readV i (leAt b 8 8) (leAt b 32 2 % 2 ^ 15) with
  | .error e => .error e
  | .ok x => match s.readV i (leAt b 16 8) (leAt b 34 2 % 2 ^ 15) with
    | .error e => .error e
    | .ok y => match s.readV i (leAt b 24 8) (leAt b 36 2 % 2 ^ 15) with
      | .error e => .error e
      | .ok z => .ok (x ++ y ++ z)

def State.addFrame (s : State) (n : Nat) (f : TxFrame) : State :=
  s.setEmac n { s.emac n with frames := (s.emac n).frames ++ [f] }
def State.dropFrame (s : State) (n q idx : Nat) : State :=
  s.setEmac n { s.emac n with frames := (s.emac n).frames.filter fun f => !(f.q == q && f.idx == idx) }
def State.frameOf (s : State) (n q idx : Nat) : Option TxFrame := (s.emac n).frames.find? fun f => f.q == q && f.idx == idx

/-- Descriptors at the head of queue `q` that send nothing complete, in order (R306). -/
def State.txSettle (s : State) (n q : Nat) : Nat → State
  | 0 => s
  | fuel + 1 => match (s.wq q).acc with
    | [] => s
    | d :: _ => match (s.frameOf n q d.idx).bind fun f => f.fail with
      | some st => ((s.dropFrame n q d.idx).descDone q d st 0).txSettle n q fuel
      | none => s

/-- Settle a queue whose head may have changed. -/
def State.txHead (s : State) (n q : Nat) : State := s.txSettle n q ((s.wq q).acc.length + 1)

/-- The queue parks on a fault of descriptor `d` (R303, Table 13-5). -/
def State.txPark (s : State) (n q : Nat) (d : Desc) (e : XErr) (wr : Bool) : State :=
  if e.reason == 0 then s else (s.descFault n q d 0x04 e wr).setQ WQ_STAT_PARKED q 1

/-- Fetch the frame of descriptor `d` (R303). -/
def State.txFetch (s : State) (n q : Nat) (d : Desc) : State :=
  let b := d.bytes
  if s.txMalformed n b then ((s.err EMAC_ERR_TX_DESC_ERR n).addFrame n { q := q, idx := d.idx, fail := some 0x11 }).txHead n q
  else match s.txSegments (s.wqOwner q) b with
    | .error e => s.txPark n q d e false
    | .ok segs =>
      let f := txAssemble b segs
      if s.ptpBad n b f then (s.addFrame n { q := q, idx := d.idx, fail := some 0x11 }).txHead n q
      else (s.setDesc q { d with phase := 1 }).addFrame n { q := q, idx := d.idx, bytes := f }

/-- Descriptor `d` of queue `q` sends nothing and completes with a status in its turn (R306). -/
def State.txFail (s : State) (n q : Nat) (d : Desc) (status : Nat) : State :=
  (((s.dropFrame n q d.idx).setDesc q { d with phase := 5, fid := 0 }).addFrame n { q := q, idx := d.idx, fail := some status }).txHead n q

/-- With DOWN_DROP, accepted descriptors complete as NOT_READY while the link is down, those of them that wait on a fault too; one whose first
byte has left does not (R300). -/
def State.txDown (s : State) (n : Nat) : State :=
  if s.b EMAC_STAT_LINK_UP n || !(s.b EMAC_CTL_DOWN_DROP n) then s
  else (s.txQueues n).foldl (fun (s : State) q => (s.wq q).acc.foldl (fun (s : State) d =>
      if (s.emac n).flight.any (fun f => f.q == q && f.idx == d.idx) || (s.frameOf n q d.idx).any (fun f => f.sent || f.fail.isSome) then s
      else
        let s := if d.phase == 3 then (s.unwait (s.wqOwner q) d.fid).setQ WQ_STAT_PARKED q 0 else s
        (s.addF EMAC_CNT_TX_DOWN_DROP_COUNT n 0 1).txFail n q d 0x22) s) s

/-- The descriptor of queue `q` that TX_FRAME_FETCHED fetches next; a halt lets none start (R264). -/
def State.txNext (s : State) (n q : Nat) : Option Desc :=
  if s.qb WQ_STAT_PARKED q || s.qb WQ_STAT_HALTED q then none
  else (s.wq q).acc.find? fun d => d.phase == 0 && (s.frameOf n q d.idx).isNone

/-! ### Classes (R307, R308, R345) -/

/-- One bit in a bucket. RATE x 10 Mbit/s is RATE bits in 100 ns, and time runs in 1/65,536 ns, so that a bucket refills by RATE of its units
in each unit of time. -/
def bucketBit : Nat := 100 * 65536
/-- What a class may hold at most. -/
def State.bucketCap (s : State) (n c : Nat) : Int := s.f EMAC_TC_RATE_BURST n c * 2048 * bucketBit
/-- A class's bucket now, in units of which `bucketBit` are one bit (R308). -/
def State.bucket (s : State) (n c : Nat) : Int :=
  match PMap.find (s.emac n).buckets c with
  | none => s.bucketCap n c
  | some (x, t) => min (s.bucketCap n c) (x + (s.f EMAC_TC_RATE_RATE n c * (s.now - t) : Nat))
/-- Charge a class for a frame of `len` bytes. -/
def State.charge (s : State) (n c len : Nat) : State :=
  if s.f EMAC_TC_RATE_RATE n c == 0 then s
  else s.setEmac n { s.emac n with buckets := PMap.put (s.emac n).buckets c (s.bucket n c - (8 * (len + 20) * bucketBit : Nat), s.now) }

/-- A class is paused by the partner. -/
def State.paused (s : State) (n c : Nat) : Bool :=
  bit (s.f EFLT_FC_STAT_TX_PAUSED n) c && decide (s.now < PMap.get (s.emac n).pauses c 0)

/-- Queue `q` has the frame of its head ready. -/
def State.txReady (s : State) (n q : Nat) : Option (Desc × TxFrame) :=
  match (s.wq q).acc with
  | [] => none
  | d :: _ => ((s.frameOf n q d.idx).filter fun f => f.fail.isNone && !f.sent).map fun f => (d, f)

/-- The class, queue and round robin that send next. -/
def State.txPick (s : State) (n : Nat) : Option (Nat × Nat × Wrr) :=
  ((List.range 8).reverse.findSome? fun c =>
    if s.paused n c || (s.f EMAC_TC_RATE_RATE n c != 0 && decide (s.bucket n c < 0)) then none
    else
      let qs := (s.txQueues n).filter fun q => s.txClass q == c && (s.txReady n q).isSome
      (s.wrrPick (wrrKey 3 (n * 8 + c)) qs).map fun r => (c, r.1, r.2))

/-! ### Protection on transmit (R356 to R358, R362, R458) -/

/-- An instance's queue may send on channel `c` of port `n`. -/
def State.secMine (s : State) (i n c : Nat) : Bool :=
  i == 0 || s.holdsEmac i n || (List.range 4).any fun k =>
    s.b INST_MSEC_VALID i k && s.f INST_MSEC_EMAC i k == n && bit (s.f INST_MSEC_SC_MASK i k) c

/-- The status that keeps a descriptor from being sent, if any. -/
def State.secRefuse (s : State) (n q sel : Nat) : Option Nat :=
  let c := sel % 4
  let k := 4 * c + s.f MSEC_TXSC_CTL_ENC_AN n c
  if !(bit sel 7) then (if s.b MSEC_CTL_TX_REQUIRE n then some 0x21 else none)
  else if !(s.b MSEC_CTL_ENABLE n) || s.f MSEC_TXSC_SCI_SCI n c == 0 || !(s.secMine (s.wqOwner q) n c) ||
      !(bit (s.f MSEC_SA_USE_IN_USE n) k) then some 0x21
  else if bit (s.f MSEC_TX_EXH_EXHAUSTED n) k then some 0x25
  else none

/-- Use the next PN of the association that channel `c` encrypts with: never 0, and the last one once (R357). -/
def State.takePn (s : State) (n c : Nat) : Nat × State :=
  let k := 4 * c + s.f MSEC_TXSC_CTL_ENC_AN n c
  let last := if s.f MSEC_TXSC_CTL_CIPHER n c < 2 then 2 ^ 32 - 1 else 2 ^ 64 - 1
  let pn := max 1 (min last (s.f MSEC_SA_PN_PN n k))
  let a := s.secAt n k
  let s := if decide (s.f MSEC_TXSC_THRESH_PN n c < pn) && !a.told then
      ((s.setSec n k { a with told := true }).err MSEC_ERR_PN_THRESH n).post 0x7 n else s
  (pn, if pn == last then
      (s.setF MSEC_TX_EXH_EXHAUSTED n 0 (setBit (s.f MSEC_TX_EXH_EXHAUSTED n) k)).err MSEC_ERR_PN_EXHAUSTED n
    else s.setF MSEC_SA_PN_PN n k (pn + 1))

/-- The frame of a descriptor as its first byte leaves: timestamp, checksums, padding (R305, R318, R351, R352). The answer: bytes, and
flags 1 and 2 of Table 09-3. -/
def State.txBuild (s : State) (n : Nat) (b f : List (BitVec 8)) : List (BitVec 8) × Bool × Bool :=
  let p := leAt b 42 1
  let req := leAt b 38 1
  let f := match s.ptpAt n f (p / 4) with
    | some o =>
      if p % 4 == 0 then f
      else
        let f := ptpUpdate f o (p % 4) s.devTime
        if p / 4 == 1 && !(bit req 1) then overlay f (s.layers n f).1.sumAt (leBytes 2 0) else f
    | none => f
  let r := s.putSums n f (req % 16)
  (r.1 ++ leBytes (60 - r.1.length) 0, r.2, decide (r.1.length < 60))

/-- An LSX frame. -/
def isLsx (f : List (BitVec 8)) : Bool := beAt f 0 6 == 0x0180C200000E && beAt f 12 2 == 0x88B5 && beAt f 14 2 == 0x4C51

/-- A SHED_ACK or WIDEN_ACK: the answer that brings a width switch about (Table 09-8). -/
def isLsxAck (f : List (BitVec 8)) : Bool := isLsx f && (beAt f 17 1 == 3 || beAt f 17 1 == 5)

/-- Put a frame in transmission. -/
def State.setFlight (s : State) (n : Nat) (f : TxFrame) : State := s.setEmac n { s.emac n with flight := some f }

/-- The frame of a descriptor as it leaves now, protected where asked, with what its completion and its record will say (R303 to R311,
R355): a resend takes its time and its PN anew and is not counted again (R503). -/
def State.txMake (s : State) (n : Nat) (d : Desc) (f : TxFrame) (counts : Bool) : State × List (BitVec 8) × TxFrame :=
  let sel := leAt d.bytes 39 1
  let x := s.txBuild n d.bytes f.bytes
  let sc := sel % 4
  let k := 4 * sc + s.f MSEC_TXSC_CTL_ENC_AN n sc
  let (out, s) := if bit sel 7 then
      let (pn, s') := s.takePn n sc
      (s.protect n sc k pn x.1,
       if counts then
         (s'.count (bankCrypto n) 0x200 0 (some (s.wqOwner f.q))).addF (if s.b MSEC_TXSC_CTL_CONF n sc then MSEC_CNT_TX_ENCRYPTED_COUNT else MSEC_CNT_TX_PROTECTED_COUNT) n 0 1
       else s')
    else (x.1, s)
  let ts := bit (leAt d.bytes 38 1) 5
  let time := time96 s.devTime
  let body := leBytes 4 (b2n ts + 2 * b2n x.2.1 + 4 * b2n x.2.2) ++ leBytes 8 (if ts then time else 0)
  let rec_ := (leBytes 12 time ++ s.snapshot (s.f EMAC_CTL_SNAP_PREF n) ++ leBytes 11 0)
  (s, out, { f with body := body, len := out.length + 4, record := rec_ })

/-- The frame in transmission is ended as errored and sent again from its first byte, ahead of everything that follows it (R503). -/
def State.txResend (s : State) (n : Nat) : State :=
  match (s.emac n).flight with
  | none => s
  | some f => match (s.wq f.q).acc.find? fun d => d.idx == f.idx with
    | none => s
    | some d =>
      let (s, out, f') := s.txMake n d f false
      (s.emit (.frame n (wireFrame out))).setFlight n f'

/-- A frame starts on port `n` (R307): control and LSX frames first; during a width switch only the LSX answer that brought it about (Table
09-8), and none where ENABLE = 0 is to take the link down (R300). TX_FRAME_START is a point at which a frame can start: the idle of R301 has
passed by then. -/
def State.txStart (s : State) (n : Nat) : State :=
  let e := s.emac n
  let switching := s.f EMAC_STAT_LSX_STATE n == 2
  if !(s.b EMAC_STAT_LINK_UP n) || s.b EMAC_STAT_REMOTE_FAULT n || e.flight.isSome || e.closing then s
  else match e.ctl.find? fun c => !switching || isLsxAck c with
    | some c =>
      let s := ((s.setEmac n { e with ctl := e.ctl.erase c }).emit (.frame n (wireFrame c))).txCount n (c.length + 4)
      if beAt c 12 2 == 0x8808 then s.addF EFLT_CNT_PAUSE_TX_COUNT n 0 1 else s
    | none => match (if switching then none else s.txPick n) with
      | none => s
      | some (c, q, w) => match s.txReady n q with
        | none => s
        | some (d, f) =>
          let sel := leAt d.bytes 39 1
          let s := s.wrrServe (wrrKey 3 (n * 8 + c)) q w
          match s.secRefuse n q sel with
          | some st =>
            let s := if st == 0x25 then s.addF MSEC_CNT_TX_EXHAUSTED_COUNT n 0 1 else s
            ((s.dropFrame n q d.idx).descDone q d st 0).txHead n q
          | none =>
            let (s, out, f') := s.txMake n d f true
            ((s.charge n c (out.length + 4)).emit (.frame n (wireFrame out))).setFlight n f'

/-- Complete a descriptor whose frame has left: its record first (R309). -/
def State.txDone (s : State) (n q : Nat) (d : Desc) (f : TxFrame) : State :=
  let fin (s : State) : State := ((s.dropFrame n q d.idx).descDone q d 0x00 f.len f.body).txHead n q
  let addr := leAt d.bytes 48 8
  if addr == 0 then fin s
  else match s.writeV (s.wqOwner q) addr f.record with
    | .ok s => fin s
    | .error e =>
      let s := (s.dropFrame n q d.idx).addFrame n { f with sent := true }
      s.txPark n q d e true

/-- The last byte of the frame in transmission leaves. -/
def State.txEnd (s : State) (n : Nat) : State :=
  match (s.emac n).flight with
  | none => s
  | some f =>
    let s := (s.setEmac n { s.emac n with flight := none }).txCount n f.len
    let s := s.addF EMAC_CNT_TC_COUNT n (s.txClass f.q) 1
    match (s.wq f.q).acc.find? fun d => d.idx == f.idx with
    | some d => s.txDone n f.q d f
    | none => s.dropFrame n f.q f.idx

end Sys2Proof.Machine
end

