-- ==== Sys2Proof/Machine/EtherRx.lean ====
section
/-! DEFINITION. Ethernet receive: pauses, the address, VLAN and steering stages, the receive share, delivery to buffers and tasks, drains
(chapters 9 and 10). -/
namespace Sys2Proof.Machine

/-! ### Pauses received (R344, R345) -/

/-- `q` quanta of 512 bit times of the full-width speed (R325). -/
def State.quanta (s : State) (n q : Nat) : Nat := q * 512 * 65536 / emacRate (s.f EMAC_CFG_TYPE n)

/-- Pause class `c` for a number of quanta; 0 ends its pause. -/
def State.pauseClass (s : State) (n c q : Nat) : State :=
  let e := s.emac n
  let st := s.f EFLT_FC_STAT_TX_PAUSED n
  if q == 0 then (s.setEmac n { e with pauses := PMap.del e.pauses c }).setF EFLT_FC_STAT_TX_PAUSED n 0 (clrBit st c)
  else (s.setEmac n { e with pauses := PMap.put e.pauses c (s.now + s.quanta n q) }).setF EFLT_FC_STAT_TX_PAUSED n 0 (setBit st c)

/-- A control frame of a kind that MODE does not allow, or of another opcode. -/
def State.ctrlDrop (s : State) (n : Nat) : State := s.addF EFLT_CNT_CTRL_DROP_COUNT n 0 1
/-- A control frame that is taken. -/
def State.ctrlTake (s : State) (n : Nat) : State :=
  (s.addF EFLT_CNT_CTRL_COUNT n 0 1).count (bankQuad n) 0x104 (n % 4) (some (s.emacOwner n))

/-- A PAUSE frame. -/
def State.pauseIn (s : State) (n q : Nat) : State :=
  if s.f EFLT_FC_CTL_MODE n != 1 then s.ctrlDrop n
  else
    let s := s.ctrlTake n
    if s.b EFLT_FC_CTL_RX_EN n then s.each 8 fun s c => s.pauseClass n c q else s

/-- A PFC frame: class-enable vector and times. -/
def State.pfcIn (s : State) (n vec : Nat) (times : List Nat) : State :=
  if s.f EFLT_FC_CTL_MODE n != 2 then s.ctrlDrop n
  else
    let s := s.ctrlTake n
    if s.b EFLT_FC_CTL_RX_EN n then s.each 8 fun s c => if bit vec c then s.pauseClass n c (times.getD c 0) else s else s

/-! ### Pauses sent (R346 to R348) -/

/-- Bytes held in the receive share. -/
def State.heldBytes (s : State) (n : Nat) : Nat := ((s.emac n).held.map fun f => f.cost).sum

/-- Priorities asserted because a sheaf's ready list is full. -/
def State.bpBits (s : State) (n : Nat) : Nat :=
  (List.range 8).foldl (fun x p =>
    if s.b ESTR_RXQ_TASK_EN n p && s.blocked (s.f ESTR_RXQ_SHEAF n p) (s.f ESTR_RXQ_INST n p) then
      x ||| (s.f ESTR_RXQ_BP_MASK n p &&& s.f EFLT_FC_CTL_PFC_EN n) else x) 0

/-- The set to be asserted now: bit 0 alone under PAUSE. -/
def State.wantAsserted (s : State) (n : Nat) : Nat :=
  let total := s.heldBytes n
  let xoff := 256 * s.f EFLT_FC_MARK_XOFF n
  let old := s.f EFLT_FC_STAT_ASSERTED n
  if !(s.b EFLT_FC_CTL_TX_EN n) then 0
  else if s.f EFLT_FC_CTL_MODE n == 1 then
    (if xoff ≤ total then 1 else if total ≤ 256 * s.f EFLT_FC_MARK_XON n then 0 else old)
  else if s.f EFLT_FC_CTL_MODE n == 2 then
    (List.range 8).foldl (fun x p =>
      if bit (s.f EFLT_FC_CTL_PFC_EN n) p &&
          ((decide (xoff ≤ total) && (s.emac n).held.any fun f => f.prio == p) || bit (s.f EFLT_FC_STAT_BP n) p)
      then setBit x p else x) 0
  else 0

/-- Send a pause frame for the priorities in `vec`, of which those in `on` are asserted. -/
def State.pauseSend (s : State) (n vec on : Nat) : State :=
  let quanta := s.f EFLT_FC_CTL_QUANTA n
  let s := s.setEmac n { s.emac n with resendAt := s.now + s.quanta n quanta / 2 }
  if s.f EFLT_FC_CTL_MODE n == 2 then
    s.ctlFrame n 0x0180C2000001 0x8808 (beBytes 2 0x0101 ++ beBytes 2 vec ++
      (List.range 8).flatMap fun p => beBytes 2 (if bit on p then quanta else 0))
  else s.ctlFrame n 0x0180C2000001 0x8808 (beBytes 2 0x0001 ++ beBytes 2 (if on != 0 then quanta else 0))

/-- Bring the pauses that a port asserts up to date. -/
def State.pauseUpdate (s : State) (n : Nat) : State :=
  let s := s.setF EFLT_FC_STAT_BP n 0 (s.bpBits n)
  let old := s.f EFLT_FC_STAT_ASSERTED n
  let new := s.wantAsserted n
  if old == new then s else (s.setF EFLT_FC_STAT_ASSERTED n 0 new).pauseSend n (old ||| new) new

/-! ### Address and VLAN stages (R330 to R332) -/

/-- An exact-match entry for a destination (R331). -/
def State.emHit (s : State) (n dst : Nat) : Option Nat :=
  let hit (e : Nat × Nat) : Bool := bit e.2 56 && e.2 % 2 ^ 48 == dst
  match s.em.find? fun e => hit e && !(bit e.2 55) && bits e.2 48 7 == n with
  | some e => some e.2
  | none => (s.em.find? fun e => hit e && bit e.2 55).map (·.2)

/-- The queue mask that the address stage gives (R330); 0 discards. -/
def State.addrMask (s : State) (n : Nat) (bs : List (BitVec 8)) : Nat :=
  let dst := beAt bs 0 6
  match s.emHit n dst with
  | some e => if bit e 57 then 0 else bits e 64 8
  | none =>
    if dst == s.f EMAC_ADDR_ADDR n then s.f EFLT_QMASK_OWN_MASK n
    else if dst == 2 ^ 48 - 1 && s.b EFLT_CTL_BCAST_EN n then s.f EFLT_QMASK_BCAST_MASK n
    else if dst / 16 == 0x0180C200000 && s.b EFLT_CTL_LL_EN n then s.f EFLT_QMASK_LL_MASK n
    else if bit (beAt bs 0 1) 0 && dst != 2 ^ 48 - 1 && dst / 16 != 0x0180C200000 && s.b EFLT_CTL_MHASH_EN n &&
        (let h := hashBit (bs.take 6); bit (s.f EFLT_MHASH_BITS n (h / 64)) (h % 64)) then s.f EFLT_QMASK_MCAST_MASK n
    else if s.b EFLT_CTL_PROMISC n then s.f EFLT_QMASK_PROMISC_MASK n
    else 0

/-- The outermost tag with TPID 0x8100 or 0x88A8: its TCI. A tag of the TPID `other` may stand before it. -/
def outerTag (bs : List (BitVec 8)) (other : Nat) : Option Nat :=
  let plain (at_ : Nat) : Bool := beAt bs at_ 2 == 0x8100 || beAt bs at_ 2 == 0x88A8
  if plain 12 then some (beAt bs 14 2)
  else if other != 0 && beAt bs 12 2 == other && plain 16 then some (beAt bs 18 2) else none

/-- The VLAN stage passes a frame (R332). -/
def State.vlanOk (s : State) (n : Nat) (bs : List (BitVec 8)) : Bool :=
  if !(s.b EFLT_CTL_VLAN_EN n) then true
  else
    let vid := ((outerTag bs (s.f EMAC_TPID_TPID n)).getD 0) % 4096
    if vid == 0 then s.b EFLT_CTL_UNTAGGED_EN n else bit (s.f EFLT_VLAN_BITS n (vid / 64)) (vid % 64)

/-! ### Steering (R334, R335) -/

/-- Bank `b`. -/
def State.bank (s : State) (b : Nat) : List (Nat × Nat) := if b == 0 then s.steer.bank0 else s.steer.bank1
/-- Entry `j` of ESTR_IND. -/
def State.indEntry (s : State) (n j : Nat) : Nat := s.f ESTR_IND_ENTRIES n (j / 16) / 2 ^ (4 * (j % 16)) % 8
/-- The set bits of a mask. -/
def maskBits (m : Nat) : List Nat := (List.range 8).filter fun i => bit m i

/-- Where a frame with mask `m` is spread under key number `k` (R335). -/
def State.spreadTo (s : State) (n m k : Nat) (input : Option (List (BitVec 8))) : Nat :=
  let qs := maskBits m
  if qs.length == 1 then qs.headD 0
  else match input with
    | none => if bit m (s.f ESTR_CTL_DEF_RXQ n) then s.f ESTR_CTL_DEF_RXQ n else qs.headD 0
    | some x =>
      let h := spreadHash (spreadKey k) x
      let q := s.indEntry n (h % 128)
      if bit m q then q else qs.getD (h % qs.length) 0

/-- A lookup: 0 discarded, 1 hit, 2 hit outside the mask, 3 miss, 4 no flow key; with the queue. -/
def State.steerTo (s : State) (n m bank k : Nat) (fk : Option (Nat × List (BitVec 8))) : Nat × Nat :=
  match fk with
  | none => (4, s.spreadTo n m k none)
  | some (key, input) => match PMap.find (s.bank bank) key with
    | some v => if bit v 3 then (0, 0) else if bit m (v % 8) then (1, v % 8) else (2, s.spreadTo n m k (some input))
    | none => (3, s.spreadTo n m k (some input))

/-! ### Delivery (R311 to R314, R337, R443) -/

/-- Buffers of a supply queue that a frame of `len` bytes fills; none where it has too few. -/
def takeBuffers (ds : List Desc) (bs : List (BitVec 8)) : Option (List (Desc × List (BitVec 8))) :=
  match ds with
  | [] => none
  | d :: rest =>
    let size := leAt d.bytes 16 2 % 2 ^ 15
    if bs.length ≤ size then some [(d, bs)]
    else (takeBuffers rest (bs.drop size)).map fun r => (d, bs.take size) :: r

/-- Supply queues of receive queue `p`. -/
def State.rxQueues (s : State) (n p : Nat) : List Nat := s.boundTo 0x4 fun b => b % 128 == n && bits b 8 3 == p

/-- A receive completion (Table 09-5). -/
def State.rxCpl (s : State) (q p : Nat) (d : Desc) (f : RxFrame) (status len : Nat) (more : Bool) (spillAt : Option Nat) : Cpl :=
  let own := if more then leBytes 6 0 ++ leBytes 8 0
    else f.info ++ leBytes 8 (match spillAt with
      | some o => o
      | none => f.time.getD 0)
  { status := status, ty := 0x03, resv := true,
    body := leBytes 2 (dTag d.bytes) ++ leBytes 2 (s.wqLocal q + 1024 * p + 8192 * b2n more) ++ leBytes 4 (dHseq d.bytes) ++
            leBytes 2 len ++ own }

/-- The completion of a buffer that is returned unused (R314, Table 09-5). -/
def State.rxReturn (s : State) (q : Nat) (d : Desc) (status : Nat) : Cpl :=
  { status := status, ty := 0x03, resv := true,
    body := leBytes 2 (dTag d.bytes) ++ leBytes 2 (s.wqLocal q + 1024 * bits (s.q WQ_BIND_TARGET q) 8 3) ++ leBytes 4 (dHseq d.bytes) }

/-- A buffer of queue `q` is returned unused. -/
def State.rxUnused (s : State) (q : Nat) (d : Desc) (status : Nat) : State :=
  let w := s.wq q
  let s := (s.setWq q { w with acc := w.acc.filter fun x => x.idx != d.idx }).wqShow q
  (s.cpl d.cq (s.rxReturn q d status)).rsyShow (s.wqOwner q)

/-- Refused buffer descriptors at the front of queue `q` complete, in order (R310, R312). -/
def State.rxSettleN (s : State) (q : Nat) : Nat → State
  | 0 => s
  | fuel + 1 => match (s.wq q).acc with
    | [] => s
    | d :: _ => match d.fail with
      | some st => (s.descDone q d st 0).rxSettleN q fuel
      | none => s
def State.rxSettle (s : State) (q : Nat) : State := s.rxSettleN q ((s.wq q).acc.length + 1)

/-- Land the parts of a frame; the first error, if any, with what has landed. -/
def State.land (s : State) (i : Nat) : List (Desc × List (BitVec 8)) → State × Option XErr
  | [] => (s, none)
  | (d, bs) :: rest => match s.writeV i (leAt d.bytes 8 8) bs with
    | .ok s => s.land i rest
    | .error e => (s, some e)

/-- The completions of a frame's buffers. -/
def State.rxCpls (s : State) (q p : Nat) (f : RxFrame) (status : Nat) (lens : Bool) (spillAt : Option Nat) :
    List (Desc × List (BitVec 8)) → List (Nat × Cpl)
  | [] => []
  | [(d, bs)] => [(d.cq, s.rxCpl q p d f status (if lens then bs.length else 0) false spillAt)]
  | (d, bs) :: rest => (d.cq, s.rxCpl q p d f 0 (if lens then bs.length else 0) true none) :: State.rxCpls s q p f status lens spillAt rest

/-- Deliver a frame to receive queue `p`: none where it must wait. -/
def State.deliver (s : State) (n : Nat) (f : RxFrame) : Option State :=
  let p := f.rxq
  let inst := s.f ESTR_RXQ_INST n p
  let task := s.b ESTR_RXQ_TASK_EN n p
  let h := s.f ESTR_RXQ_SHEAF n p
  let all := s.rxQueues n p
  let fits (q : Nat) : Bool := s.wqOwner q == inst && (takeBuffers ((s.wq q).acc.filter fun d => d.phase == 0) f.bytes).isSome
  if (task && s.blocked h inst) || s.closed inst then none
  else match s.wrrPick (wrrKey 4 (n * 8 + p)) (all.filter fits) with
    | none => none
    | some (q, w) =>
      let parts := (takeBuffers ((s.wq q).acc.filter fun d => d.phase == 0) f.bytes).getD []
      let go (s : State) (cs : List (Nat × Cpl)) : State :=
        let x := s.wq q
        let s := (s.setWq q { x with acc := x.acc.filter fun d => !(parts.any fun b => b.1.idx == d.idx) }).wqShow q
        let s := (s.wrrServe (wrrKey 4 (n * 8 + p)) q w).addF EMAC_CNT_RXQ_COUNT n p 1
        let last := (cs.getLast?.map fun c => c.2).getD {}
        if task then
          let r := s.taskCreate { sheaf := h, inst := inst, src := 1, hook := 0, prio := s.f SHF_PRIO_RX_PRIO h, q := q,
                                  dl := .time (f.dev + us (s.f SHF_DL_EV_DL_US h)), stream := streamKey 2 (n * 8 + p), own := cs,
                                  data := leBytes 1 last.status ++ leBytes 1 3 ++ (List.range 6).map (Config.freeByte s.draws) ++ last.body }
          r.1.bump.rxSettle q
        else ((cs.foldl (fun (s : State) c => s.cpl c.1 c.2) s).rsyShow inst).rxSettle q
      match s.land inst parts with
      | (s', none) => some (go s' (s.rxCpls q p f f.status true none parts))
      | (s', some e) =>
        if e.reason == 0 then none
        else
          let (fid, s') := s'.takeFid inst
          let rec_ (s : State) (full : Bool) : State := s.faultNoWait (dieOf n) inst 0x05 e true n p full fid
          if s.b ESTR_RXQ_FAULT_POL n p then some (go (rec_ s' false) (s.rxCpls q p f 0x20 false none parts))
          else match s'.spill inst 0x05 fid n e.va 0 f.bytes with
            | none => some (go ((rec_ s' true).err DLOG_ERR_SPILL_FULL inst) (s.rxCpls q p f 0x20 false none parts))
            | some (o, s'') => some (go (rec_ s'' false) (s.rxCpls q p f 0x02 false (some o) parts))

/-- A moved frame may go on: no frame from before the boundary is left for its old queue (R343). -/
def State.movedMay (s : State) (n : Nat) (f : RxFrame) : Bool :=
  match f.moved, (s.emac n).drain with
  | some q, some d => !((s.emac n).held.any fun x => x.pre && x.rxq == q) &&
      !(d.tasks.any fun t => t.2.2 == q && s.tasks.any fun x => x.sheaf == t.1 && x.seq == t.2.1)
  | _, _ => true

/-- Deliver what the receive share holds and can now deliver, in order within each queue. -/
def State.drainHeld (s : State) (n : Nat) (stuck : List Nat) : List RxFrame → State
  | [] => s
  | f :: rest =>
    if stuck.contains f.rxq || !(s.movedMay n f) then s.drainHeld n (f.rxq :: stuck) rest
    else match s.deliver n f with
      | some s' => (s'.setEmac n { s'.emac n with held := (s'.emac n).held.erase f }).drainHeld n stuck rest
      | none => s.drainHeld n (f.rxq :: stuck) rest

/-- Deliver what port `n` holds, and bring its pauses up to date. -/
def State.rxDrain (s : State) (n : Nat) : State := (s.drainHeld n [] (s.emac n).held).pauseUpdate n

/-- Deliver what any port holds. -/
def State.rxDrainAll (s : State) : State :=
  s.emacs.foldl (fun (s : State) e => if e.2.held.isEmpty && s.f EFLT_FC_STAT_BP e.1 == 0 then s else s.rxDrain e.1) s

/-- Supply queues of another instance bound to a receive queue (R337). -/
def State.rxMixed (s : State) (n p : Nat) : State :=
  if (s.rxQueues n p).any fun q => s.wqOwner q != s.f ESTR_RXQ_INST n p then s.err ESTR_ERR_RXQ_MIXED n else s

/-- Stage 6: deliver at once, hold, or discard (R313, R346). -/
def State.admitFrame (s : State) (n : Nat) (f : RxFrame) : State :=
  let s := s.rxMixed n f.rxq
  let wait := ((s.emac n).held.any fun x => x.rxq == f.rxq) || !(s.movedMay n f)
  let hold (s : State) : State :=
    if s.heldBytes n + f.cost ≤ 4096 * s.f EFLT_RXSHARE_UNITS n then
      (s.setEmac n { s.emac n with held := (s.emac n).held ++ [f] }).count (bankQuad n) 0x107 (n % 4) (some (s.emacOwner n))
    else s.addF EMAC_CNT_RX_NO_BUF_COUNT n 0 1
  (if wait then hold s
   else match s.deliver n f with
    | some s => s
    | none => hold s).pauseUpdate n

/-! ### The stages (R329) -/

/-- PTP frames of R350. -/
def State.isPtp (s : State) (n : Nat) (bs : List (BitVec 8)) : Bool :=
  let L := (s.layers n bs).1
  L.ety == 0x88F7 || (L.found && L.proto == 17 && (beAt bs (L.l4 + 2) 2 == 319 || beAt bs (L.l4 + 2) 2 == 320))

/-- Stages 2 to 6 for a frame received at device time `dev` (1/65,536 ns). -/
def State.rxStages (s : State) (n : Nat) (raw : List (BitVec 8)) (dev : Nat) : State :=
  let m := s.addrMask n raw
  if m == 0 then s.addF EFLT_CNT_ADDR_DROP_COUNT n 0 1
  else match s.secIn n raw with
    | (s, none) => s
    | (s, some (bs, secured, status)) =>
      if !(s.vlanOk n bs) then s.addF EFLT_CNT_VLAN_DROP_COUNT n 0 1
      else
        let fk := s.flowKey n bs
        let bank := s.f ESTR_BANK_SEL_ACTIVE 96
        let r := s.steerTo n m bank (s.keyOf n) fk
        let len := raw.length + 4
        let s := if r.1 == 1 then s.addF ESTR_CNT_HIT_COUNT n 0 1 else if r.1 == 2 then s.addF ESTR_CNT_DENIED_COUNT n 0 1 else s
        let s := if r.1 == 2 || r.1 == 3 then
            (s.addF ESTR_CNT_MISS_COUNT n 0 1).count (bankQuad n) 0x106 (n % 4) (some (s.emacOwner n)) else s
        if r.1 == 0 then s.addF ESTR_CNT_DROP_COUNT n 0 1
        else
          let spread := r.1 != 1
          let s := if spread then s.addF ESTR_CNT_SPREAD_BYTES n r.2 len else s
          let e := s.emac n
          let s := if spread then s.setEmac n { e with spread := PMap.put e.spread r.2 (PMap.get e.spread r.2 0 + len) } else s
          let moved := match e.drain with
            | none => none
            | some d => let o := s.steerTo n m d.bank d.key fk; if o.1 != 0 && o.2 != r.2 then some o.2 else none
          let ts := s.f EFLT_CTL_RX_TS n == 2 || (s.f EFLT_CTL_RX_TS n == 1 && s.isPtp n bs)
          let strip := s.b EMAC_CTL_VLAN_STRIP n && beAt bs 12 2 == 0x8100
          let i := s.rxInfo n bs
          let out := if strip then bs.take 12 ++ bs.drop 16 else bs
          let prio := match outerTag raw (s.f EMAC_TPID_TPID n) with
            | some t => t / 8192
            | none => s.f EFLT_FC_CTL_UNTAG_PRIO n
          let fr : RxFrame := {
            bytes := out, rxq := r.2, prio := prio, cost := raw.length, dev := dev, status := status, moved := moved,
            time := if ts then some (time96 dev) else none,
            info := leBytes 1 (b2n strip + 2 * b2n secured + 4 * b2n ts + i.1) ++ leBytes 1 i.2 ++
                    leBytes 2 (if strip then beAt bs 14 2 else 0) ++ leBytes 2 out.length }
          s.admitFrame n fr

/-! ### Drains and keys (R341 to R343) -/

/-- Start a drain on port `n` from the bank and key that were in force. -/
def State.drainStart (s : State) (n bank key : Nat) : State :=
  let e := s.emac n
  let ts := (s.tasks.filter fun t => t.src == 1 && t.stream / 2 ^ 24 == 2 && t.stream % 2 ^ 24 / 8 == n).map fun t =>
    (t.sheaf, t.seq, t.stream % 8)
  let busy := !e.held.isEmpty || !ts.isEmpty
  if !busy then s
  else
    let s := s.setEmac n { e with drain := some { bank := bank, key := key, at_ := s.now, tasks := ts }, held := e.held.map fun f => { f with pre := true } }
    s.setF ESTR_STAT_DRAINING n 0 1

/-- Frames from before the boundary are left. -/
def State.preLeft (s : State) (n : Nat) : Bool :=
  match (s.emac n).drain with
  | none => false
  | some d => ((s.emac n).held.any fun f => f.pre) ||
      d.tasks.any fun t => s.tasks.any fun x => x.sheaf == t.1 && x.seq == t.2.1

/-- The drain of port `n` ends: at the limit, moved frames still waiting break order. -/
def State.drainEnd (s : State) (n : Nat) : State :=
  let e := s.emac n
  let late := (e.held.filter fun f => f.moved.isSome && !(s.movedMay n f)).length
  let s := s.satF ESTR_CNT_ORDER_BREAK_COUNT n 0 late
  let s := s.setEmac n { e with drain := none, held := e.held.map fun f => { f with pre := false, moved := none } }
  (s.setF ESTR_STAT_DRAINING n 0 0).rxDrain n

/-- A new spreading key for port `n` at an epoch boundary. -/
def State.newKey (s : State) (n : Nat) (imbalance : Bool) : State :=
  let old := s.keyOf n
  let s := s.drainStart n (s.f ESTR_BANK_SEL_ACTIVE 96) old
  let s := (s.setEmac n { s.emac n with keyNo := s.draws + 1, rekey := false, imbRekey := false }).bump
  let s := (s.addF ESTR_STAT_KEY_GEN n 0 1).addF ESTR_CNT_REKEY_COUNT n 0 1
  let s := if s.b DEV_SERVICE_ENTROPY_READY then s.setF ESTR_STAT_PROVISIONAL n 0 0 else s
  if imbalance then
    (s.setEmac n { s.emac n with above := none }).setF ESTR_STAT_BACKOFF n 0 (min 7 (s.f ESTR_STAT_BACKOFF n + 1)) else s

/-- The re-keys due at an epoch boundary: those asked for, and every provisional key once entropy is ready; while the DRBG is starved new
draws wait (R602). -/
def State.epochKeys (s : State) : State :=
  s.each 96 fun s n =>
    let e := s.emac n
    if e.drain.isNone && ((e.rekey && !(s.b RNG_STAT_STARVED)) || (s.b ESTR_STAT_PROVISIONAL n && s.b DEV_SERVICE_ENTROPY_READY)) && s.live 0x42 n then
      s.newKey n e.imbRekey else s

end Sys2Proof.Machine
end

