-- ==== Sys2Proof/Machine/EtherCmds.lean ====
section
/-! DEFINITION. The commands and events of the Ethernet ports: links, lane shedding, pauses, steering banks, keys, wake stores, MACsec keys
(chapters 9 and 10). -/
namespace Sys2Proof.Machine

/-! ### Frames sent -/

def execTxFrameFetched (q : Nat) (s : State) : Res :=
  let n := s.txPort q
  if s.q WQ_CFG_TYPE q != 3 || !(s.b EMAC_STAT_LINK_UP n || !(s.b EMAC_CTL_DOWN_DROP n)) then .next s
  else match s.txNext n q with
    | some d => .next (s.txFetch n q d)
    | none => .next s

def execTxFrameStart (port : Nat) (s : State) : Res := .next (s.txStart port)

/-! ### Link (R298 to R300) -/

/-- Lane code of the full width of a port's TYPE. -/
def State.fullCode (s : State) (n : Nat) : Nat :=
  let l := emacLanes (s.f EMAC_CFG_TYPE n)
  if l == 8 then 3 else if l == 4 then 2 else if l == 2 then 1 else 0

/-- The link comes up, or its remote fault changes while it is up. -/
def State.emacUp (s : State) (n : Nat) (remote : Bool) : State :=
  let s := s.setF EMAC_STAT_REMOTE_FAULT n 0 (b2n remote)
  if s.b EMAC_STAT_LINK_UP n then s
  else
    let an := s.b EMAC_CFG_AN_EN n && s.f EMAC_CFG_MEDIUM n != 2
    let s := (s.setF EMAC_STAT_LINK_UP n 0 1).setF EMAC_STAT_FEC_LOCK n 0 1
    let s := (s.setF EMAC_STAT_AN_DONE n 0 (b2n an)).setF EMAC_STAT_LOCAL_FAULT n 0 0
    let s := (s.setF EMAC_STAT_LANES n 0 (s.fullCode n)).setF EMAC_STAT_LSX_STATE n 0 0
    s.setEmac n { s.emac n with busyAt := s.now, helloOut := 0, req := 0, noShed := 0, ackOut := false, ackIn := false, widening := false }

/-- The link goes down; `receiving` says that it cuts a frame that arrives. -/
def State.emacDown (s : State) (n : Nat) (local_ remote receiving : Bool) : State :=
  if !(s.b EMAC_STAT_LINK_UP n) then s
  else
    let s := (s.satF EMAC_CNT_LINK_COUNT n 0 1).err EMAC_ERR_LINK_DOWN n
    let s := (s.setF EMAC_STAT_LINK_UP n 0 0).setF EMAC_STAT_FEC_LOCK n 0 0
    let s := (s.setF EMAC_STAT_AN_DONE n 0 0).setF EMAC_STAT_LANES n 0 0
    let s := (s.setF EMAC_STAT_LOCAL_FAULT n 0 (b2n local_)).setF EMAC_STAT_REMOTE_FAULT n 0 (b2n remote)
    let s := (s.setF EMAC_STAT_PARTNER_ZHOEM n 0 0).setF EMAC_STAT_LEADER n 0 0
    let s := (s.setF EMAC_STAT_LSX_STATE n 0 0).setEmac n { s.emac n with ctl := [], req := 0, ackOut := false, ackIn := false, widening := false }
    let s := if receiving then s.addF EMAC_CNT_RX_FCS_COUNT n 0 1 else s
    s.txDown n

/-- The link goes down for the port's own sake: whether a frame is being received then is not the command's to say. -/
def State.emacDrop (s : State) (n : Nat) : State :=
  if s.b EMAC_STAT_LINK_UP n then (s.emacDown n false false (Config.choice s.draws)).bump else s

/-- ENABLE = 0: the frame in transmission ends first (R300). -/
def State.emacOff (s : State) (n : Nat) : State :=
  if (s.emac n).flight.isSome && s.b EMAC_STAT_LINK_UP n then s.setEmac n { s.emac n with closing := true } else s.emacDrop n

/-- TX_FRAME_END: the last byte of the frame in transmission leaves, and a link that was to go down then does. -/
def execTxFrameEnd (port : Nat) (s : State) : Res :=
  let s := s.txEnd port
  .next ((if (s.emac port).closing then (s.setEmac port { s.emac port with closing := false }).emacDrop port else s).txDown port)

def execEmacLinkUp (port : Nat) (remote : Bool) (s : State) : Res :=
  let seedling := s.f DEV_SERVICE_SERVICE == 1 && s.f EMAC_CFG_TYPE port != 1
  if s.live 0x40 port && s.b EMAC_CTL_ENABLE port && !seedling then .next (s.emacUp port remote) else .next s

def execEmacLinkDown (port : Nat) (local_ remote receiving : Bool) (s : State) : Res := .next (s.emacDown port local_ remote receiving)

def execEmacCmdRetrain (fn port : Nat) (s : State) : Res :=
  .next (s.act fn 0x40 port false fun s => s.emacDrop port)

/-! ### Lane shedding (R320 to R326) -/

/-- A received control or LSX frame of 64 bytes is counted. -/
def State.rxOwn (s : State) (n : Nat) : State :=
  let s := (s.addF EMAC_CNT_RX_FRAMES_COUNT n 0 1).addF EMAC_CNT_RX_BYTES_COUNT n 0 64
  let s := s.count (bankQuad n) 0x100 (n % 4) (some (s.emacOwner n))
  (s.count (bankQuad n) 0x101 (n % 4) (some (s.emacOwner n)) 64).utilAdd n 0 64

/-- LPM_EN as the port treats it (R321, R326). -/
def State.lpmOn (s : State) (n : Nat) : Bool :=
  s.b EMAC_LSX_LPM_EN n && !(s.emac n).lpmDead && s.b EMAC_STAT_PARTNER_ZHOEM n

def State.lsxDwell (s : State) (n : Nat) : Nat := us (100 * s.f EMAC_LSX_DWELL n)

/-- A NONCE of the port's own choosing. -/
def State.nonce (s : State) : Nat := Config.freeNat s.draws % 2 ^ 32

/-- Send a request and remember it. -/
def State.lsxAsk (s : State) (n op arg : Nat) : State :=
  let s' := s.lsxFrame n op arg s.nonce
  (s'.setEmac n { s'.emac n with req := op, reqArg := arg, reqNonce := s.nonce, reqAt := s.now }).bump

/-- The PCS is to switch to width code `w` at the next alignment marker. -/
def State.lsxSwitch (s : State) (n w : Nat) : State :=
  (s.setF EMAC_STAT_LSX_STATE n 0 2).setEmac n { s.emac n with target := w, req := 0, ackOut := false, ackIn := false }

/-- A shed port asks to widen by one step (R323). -/
def State.emacWiden (s : State) (n : Nat) : State :=
  let w := s.f EMAC_STAT_LANES n
  if s.b EMAC_STAT_LINK_UP n && decide (w < s.fullCode n) && s.f EMAC_STAT_LSX_STATE n != 2 && (s.emac n).req != 4 then
    let s := s.lsxAsk n 4 (w + 1)
    s.setEmac n { s.emac n with widening := true }
  else s

/-- U has reached UP_PCT within the last 5 µs. -/
def State.lsxHot (s : State) (n : Nat) : Bool :=
  let r := (s.emac n).recent.filter fun r => decide (s.now < r.1 + us 5)
  let bits_ := max (r.map fun x => x.2.1).sum (r.map fun x => x.2.2).sum
  decide (s.f EMAC_LSX_UP_PCT n * s.emacCap n (s.emacUse n) ≤ bits_ * 2000)

def execEmacCmdWiden (fn port : Nat) (s : State) : Res := .next (s.act fn 0x40 port false fun s => s.emacWiden port)

def State.lsxHello (s : State) (n addr arg : Nat) : State :=
  let s := (s.setF EMAC_STAT_PARTNER_ZHOEM n 0 1).setF EMAC_STAT_LEADER n 0 (b2n (decide (s.f EMAC_ADDR_ADDR n < addr)))
  s.setEmac n { s.emac n with helloIn := s.now, partner := addr, partnerLpm := bit arg 7, partnerMin := arg % 4 }

/-- A SHED_REQ at the follower. Where the two addresses are equal there is no leader and the port never sheds: it refuses (R321). -/
def State.lsxShedReq (s : State) (n arg nonce : Nat) : State :=
  if s.b EMAC_STAT_LEADER n || s.f EMAC_STAT_LSX_STATE n == 2 then s
  else if s.lpmOn n && (s.emac n).partner != s.f EMAC_ADDR_ADDR n && arg + 1 == s.f EMAC_STAT_LANES n && decide (s.f EMAC_LSX_MIN_LANES n ≤ arg) then
    (s.lsxFrame n 3 arg nonce).lsxSwitch n arg
  else s.lsxFrame n 6 2 nonce

def State.lsxShedAck (s : State) (n arg nonce : Nat) : State :=
  let e := s.emac n
  if e.req == 2 && e.reqNonce == nonce && e.reqArg == arg then
    let s := s.lsxSwitch n arg
    s.setEmac n { s.emac n with widening := false }
  else s

def State.lsxWidenReq (s : State) (n arg nonce : Nat) : State :=
  let w := s.f EMAC_STAT_LANES n
  if s.f EMAC_STAT_LSX_STATE n == 2 || arg != w + 1 || !(decide (w < s.fullCode n)) then s
  else if s.b EMAC_STAT_LEADER n then s.emacWiden n
  else
    let s := s.lsxFrame n 5 arg nonce
    let s := s.setEmac n { s.emac n with ackOut := true, widening := true, reqAt := s.now }
    if (s.emac n).ackIn then s.lsxSwitch n arg else s

def State.lsxWidenAck (s : State) (n arg nonce : Nat) : State :=
  let w := s.f EMAC_STAT_LANES n
  let e := s.emac n
  if s.f EMAC_STAT_LSX_STATE n == 2 || arg != w + 1 || !(decide (w < s.fullCode n)) || !(e.req == 4 || e.ackOut) then s
  else
    let s := s.setEmac n { e with ackIn := true }
    let s := if s.b EMAC_STAT_LEADER n && !e.ackOut then
        let s := s.lsxFrame n 5 arg nonce
        s.setEmac n { s.emac n with ackOut := true }
      else s
    if (s.emac n).ackOut then s.lsxSwitch n arg else s

def State.lsxRefuse (s : State) (n arg nonce : Nat) : State :=
  let e := s.emac n
  if e.req == 2 && e.reqNonce == nonce && arg == 2 then
    s.setEmac n { e with req := 0, noShed := s.now + s.lsxDwell n }
  else s

/-- An LSX frame that arrives and is of level 1 (R320). -/
def State.lsxIn (s : State) (n op addr arg nonce : Nat) : State :=
  if op == 1 then s.lsxHello n addr arg
  else if op == 2 then s.lsxShedReq n arg nonce
  else if op == 3 then s.lsxShedAck n arg nonce
  else if op == 4 then s.lsxWidenReq n arg nonce
  else if op == 5 then s.lsxWidenAck n arg nonce
  else if op == 6 then s.lsxRefuse n arg nonce
  else s

/-- A received frame of the port's own is counted and handed on; in SLEEP it is discarded before every stage (R353). -/
def State.ownFrame (s : State) (n : Nat) (k : State → State) : Res :=
  .next (if !(s.b EMAC_STAT_LINK_UP n) then s
    else if s.f PWR_STAT_STATE == 2 then (s.rxOwn n).addF EFLT_CNT_SLEEP_DROP_COUNT n 0 1
    else k (s.rxOwn n))

/-- A received LSX frame, consumed and handed on. -/
def State.ownIn (s : State) (n : Nat) (k : State → State) : Res := s.ownFrame n fun s => k (s.ctrlTake n)

def execHello (port addr arg nonce : Nat) (s : State) : Res := s.ownIn port fun s => s.lsxIn port 1 addr arg nonce

def execHelloTimer (port : Nat) (s : State) : Res :=
  let e := s.emac port
  if s.b EMAC_STAT_LINK_UP port && decide (0 < s.fullCode port) && (e.helloOut == 0 || decide (e.helloOut + sec 1 ≤ s.now)) then
    let arg := 128 * b2n (s.b EMAC_LSX_LPM_EN port && !e.lpmDead) + s.f EMAC_LSX_MIN_LANES port
    let s' := s.lsxFrame port 1 arg s.nonce
    .next (s'.setEmac port { s'.emac port with helloOut := s.now }).bump
  else .next s

def execHelloAbsence (port : Nat) (s : State) : Res :=
  if s.b EMAC_STAT_PARTNER_ZHOEM port && decide ((s.emac port).helloIn + sec 3 ≤ s.now) then
    .next ((s.setF EMAC_STAT_PARTNER_ZHOEM port 0 0).setF EMAC_STAT_LEADER port 0 0)
  else .next s

def execLsxShedReq (port arg nonce : Nat) (s : State) : Res := s.ownIn port fun s => s.lsxIn port 2 0 arg nonce
def execLsxShedAck (port arg nonce : Nat) (s : State) : Res := s.ownIn port fun s => s.lsxIn port 3 0 arg nonce
def execLsxWidenReq (port arg nonce : Nat) (s : State) : Res := s.ownIn port fun s => s.lsxIn port 4 0 arg nonce
def execLsxWidenAck (port arg nonce : Nat) (s : State) : Res := s.ownIn port fun s => s.lsxIn port 5 0 arg nonce
def execLsxRefuse (port arg nonce : Nat) (s : State) : Res := s.ownIn port fun s => s.lsxIn port 6 0 arg nonce

def execLsxShedStart (port : Nat) (s : State) : Res :=
  let s := if s.b EMAC_STAT_LINK_UP port then s.utilRoll port else s
  let e := s.emac port
  let w := s.f EMAC_STAT_LANES port
  let ok := s.b EMAC_STAT_LINK_UP port && s.b EMAC_STAT_LEADER port && s.lpmOn port && e.partnerLpm && decide (0 < w) &&
    decide (s.f EMAC_LSX_MIN_LANES port < w) && decide (e.partnerMin < w) && s.f EMAC_STAT_LSX_STATE port != 2 && e.req == 0 &&
    decide (e.noShed ≤ s.now) && decide (e.busyAt + s.lsxDwell port ≤ s.now)
  .next (if ok then s.lsxAsk port 2 (w - 1) else s)

def execLsxWidenStart (port : Nat) (s : State) : Res :=
  let due := s.lsxHot port || !(s.b EMAC_LSX_LPM_EN port) || decide (s.f EMAC_STAT_LANES port < s.f EMAC_LSX_MIN_LANES port) ||
    (s.emac port).widening
  .next (if due then s.emacWiden port else s)

def execLsxAnswerTimeout (port : Nat) (s : State) : Res :=
  let e := s.emac port
  if e.req == 2 && decide (e.reqAt + us 10 ≤ s.now) then
    .next (s.setEmac port { e with req := 0, noShed := s.now + s.lsxDwell port })
  else .next s

/-- The PCS may switch: no frame is in transmission and no LSX answer waits. -/
def execLsxSwitch (port : Nat) (s : State) : Res :=
  let e := s.emac port
  if s.f EMAC_STAT_LSX_STATE port == 2 && e.flight.isNone && !(e.ctl.any isLsxAck) && s.f EMAC_STAT_LANES port != e.target then
    let s := s.utilRoll port
    .next ((s.setF EMAC_STAT_LANES port 0 e.target).setEmac port { s.emac port with swAt := s.now, recent := [] })
  else .next s

/-- The width that a port switches to is in use and its receivers realign. -/
def State.realigning (s : State) (n : Nat) : Bool := s.f EMAC_STAT_LSX_STATE n == 2 && s.f EMAC_STAT_LANES n == (s.emac n).target

def execLsxRealigned (port : Nat) (s : State) : Res :=
  if s.realigning port then
    let full := s.f EMAC_STAT_LANES port == s.fullCode port
    let s := (s.setF EMAC_STAT_LSX_STATE port 0 (b2n !full)).satF EMAC_CNT_LSX_COUNT port 0 1
    let w := (s.emac port).widening && !full
    let s := s.setEmac port { s.emac port with busyAt := s.now, widening := w }
    .next (if w && s.b EMAC_STAT_LEADER port then s.emacWiden port else s)
  else .next s

/-- A width change has passed its bound: a widen 60 µs from its request, a shed 20 µs from its switch (Table 09-8, R326). -/
def State.lsxLate (s : State) (n : Nat) : Bool :=
  let e := s.emac n
  if e.widening && (s.f EMAC_STAT_LSX_STATE n == 2 || e.req == 4 || e.ackOut) then decide (e.reqAt + us 60 ≤ s.now)
  else s.realigning n && decide (e.swAt + us 20 ≤ s.now)

def execLsxRealignFail (port : Nat) (s : State) : Res :=
  if s.lsxLate port then
    let s := (s.emacDrop port).err EMAC_ERR_LSX_FAIL port
    .next (s.setEmac port { s.emac port with lpmDead := true })
  else .next s

/-! ### Pauses (R344 to R347) -/

def execPauseFrame (port quanta : Nat) (s : State) : Res :=
  s.ownFrame port fun s => s.pauseIn port (quanta % 2 ^ 16)

def execPfcFrame (port vec : Nat) (times : List Nat) (s : State) : Res :=
  s.ownFrame port fun s => s.pfcIn port (vec % 256) (times.map fun t => t % 2 ^ 16)

def execPauseTimerExpiry (port cls : Nat) (s : State) : Res :=
  match PMap.find (s.emac port).pauses cls with
  | some t => .next (if t ≤ s.now then s.pauseClass port cls 0 else s)
  | none => .next s

def execPauseResend (port : Nat) (s : State) : Res :=
  let on := s.f EFLT_FC_STAT_ASSERTED port
  .next (if on != 0 && decide ((s.emac port).resendAt ≤ s.now) then s.pauseSend port on on else s)

/-! ### Steering banks (R338, R339) -/

/-- A write of ESTR_LOAD_CMD: command 1 CLEAR, 2 COPY, 3 LOAD. -/
def State.steerCmd (s : State) (k : Nat) : State :=
  if s.b ESTR_LOAD_STAT_RUNNING 96 then s
  else if (List.range 96).any fun n => s.b ESTR_STAT_DRAINING n then s.setF ESTR_LOAD_STAT_RESULT 96 0 0x24
  else
    let s := { s with steer := { s.steer with cmd := k } }
    ((s.setF ESTR_LOAD_STAT_RUNNING 96 0 1).setF ESTR_LOAD_STAT_UNPLACED 96 0 0).setF ESTR_LOAD_STAT_FIRST_BAD 96 0 0

def execEstrLoadCmdClear (fn : Nat) (s : State) : Res := .next (s.act fn 0x42 96 true fun s => s.steerCmd 1)
def execEstrLoadCmdCopy (fn : Nat) (s : State) : Res := .next (s.act fn 0x42 96 true fun s => s.steerCmd 2)
def execEstrLoadCmdLoad (fn : Nat) (s : State) : Res := .next (s.act fn 0x42 96 true fun s => s.steerCmd 3)

/-- Replace the inactive bank and its count. -/
def State.setInactive (s : State) (b : List (Nat × Nat)) : State :=
  if s.f ESTR_BANK_SEL_ACTIVE 96 == 0 then
    { s with steer := { s.steer with bank1 := b } }.setF ESTR_BANK_CNT_B1 96 0 b.length
  else { s with steer := { s.steer with bank0 := b } }.setF ESTR_BANK_CNT_B0 96 0 b.length

def State.inactive (s : State) : List (Nat × Nat) := s.bank (1 - s.f ESTR_BANK_SEL_ACTIVE 96)

/-- A steering command ends. -/
def State.steerEnd (s : State) (result bad : Nat) : State :=
  let s := { s with steer := { s.steer with cmd := 0 } }
  ((s.setF ESTR_LOAD_STAT_RUNNING 96 0 0).setF ESTR_LOAD_STAT_RESULT 96 0 result).setF ESTR_LOAD_STAT_FIRST_BAD 96 0 bad

/-- A load record that breaks Table 10-2. -/
def steerBad (r : List (BitVec 8)) : Bool :=
  decide (8 ≤ leAt r 37 1) || decide (96 ≤ leAt r 38 1) || decide (16 ≤ leAt r 39 1) || leAt r 40 8 != 0 ||
    (!(bit (leAt r 37 1) 0) && (leAt r 4 12 != 0 || leAt r 20 12 != 0))

/-- The key of a load record, in the form of `State.flowKey`. -/
def steerKey (r : List (BitVec 8)) : Nat := leNat (overlay (r.take 39) 37 (leBytes 1 (leAt r 37 1 % 4)))

/-- Apply one record; a new entry needs a place, which the bank's key decides. -/
def State.steerApply (s : State) (r : List (BitVec 8)) : State :=
  let b := s.inactive
  let k := steerKey r
  if !(bit (leAt r 37 1) 2) then s.setInactive (PMap.del b k)
  else if (PMap.find b k).isSome then s.setInactive (PMap.put b k (leAt r 39 1))
  else
    let placed := decide (b.length < 262144) && Config.choice s.draws
    let s := s.bump
    if placed then s.setInactive (PMap.put b k (leAt r 39 1)) else s.addF ESTR_LOAD_STAT_UNPLACED 96 0 1

/-- Apply the records from number `k` on. -/
def State.steerLoad (s : State) (k : Nat) : Nat → State
  | 0 => s.steerEnd 0 0
  | left + 1 => match s.readV 0 (s.f ESTR_LOAD_ADDR_ADDR 96 + 48 * k) 48 with
    | .error e => if e.reason == 0 then s else (s.useUp 0 e).steerEnd 0x20 k
    | .ok r => if steerBad r then s.steerEnd 0x11 k else (s.steerApply r).steerLoad (k + 1) left

def execSteeringCommandDone (s : State) : Res :=
  if !(s.b ESTR_LOAD_STAT_RUNNING 96) then .next s
  else if s.steer.cmd == 1 then
    (if s.b DEV_SERVICE_ENTROPY_READY then .next ((s.setInactive []).bump.steerEnd 0 0) else .next s)
  else if s.steer.cmd == 2 then .next ((s.setInactive (s.bank (s.f ESTR_BANK_SEL_ACTIVE 96))).steerEnd 0 0)
  else .next ((s.setF ESTR_LOAD_STAT_UNPLACED 96 0 0).steerLoad 0 (s.f ESTR_LOAD_LEN_LEN 96))

/-! ### Re-keying and drains (R341 to R343) -/

def execEstrCmdRekey (fn port : Nat) (s : State) : Res :=
  .next (s.act fn 0x42 port true fun s => { s.setEmac port { s.emac port with rekey := true } with epochReq := true })

/-- The 100 ms spreading window of port `n` ends. -/
def State.imbWindow (s : State) (n : Nat) : State :=
  let e := s.emac n
  let names (q : Nat) : Nat := ((List.range 128).filter fun j => s.indEntry n j == q).length
  let qs := (List.range 8).filter fun q => names q != 0
  let total := (qs.map fun q => PMap.get e.spread q 0).sum
  let start := e.impAt
  let s := s.setEmac n { e with spread := [], impAt := s.now }
  if total < s.f ESTR_IMB_MIN n * 1250000 || qs.length < 2 then s
  else
    let above := qs.any fun q => decide (s.f ESTR_IMB_THRESH n * total * names q < PMap.get e.spread q 0 * 128 * 16)
    let s := s.setF ESTR_STAT_IMB_ABOVE n 0 (b2n above)
    if above then
      let from_ := e.above.getD start
      let s := s.setEmac n { s.emac n with above := some from_, below := none }
      if from_ + sec (s.f ESTR_IMB_HOLD n * 2 ^ s.f ESTR_STAT_BACKOFF n) ≤ s.now then
        let s := { s with epochReq := true }
        s.setEmac n { s.emac n with rekey := true, imbRekey := true }
      else s
    else
      let from_ := e.below.getD start
      let s := s.setEmac n { s.emac n with above := none, below := some from_ }
      if from_ + sec (s.f ESTR_IMB_HOLD n) ≤ s.now then s.setF ESTR_STAT_BACKOFF n 0 0 else s

def execImbalanceWindow (port : Nat) (s : State) : Res :=
  if s.live 0x42 port && decide ((s.emac port).impAt + ms 100 ≤ s.now) then .next (s.imbWindow port) else .next s

def execSteeringDrainEnd (port : Nat) (s : State) : Res :=
  match (s.emac port).drain with
  | some d => .next (if decide (d.at_ + ms 1 ≤ s.now) || !(s.preLeft port) then s.drainEnd port else s)
  | none => .next s

/-! ### Wake stores and MACsec keys (R354, R359) -/

def execEfltWakeCmdLoad (fn port : Nat) (s : State) : Res :=
  .next (s.act fn 0x41 port false fun s => s.setEmac port { s.emac port with wakeLoad := true })

def execWakeLoadDone (port : Nat) (s : State) : Res :=
  let e := s.emac port
  if !e.wakeLoad then .next s
  else match s.readV (s.emacOwner port) (s.f EFLT_WAKE_BASE_ADDR port) 5120 with
    | .ok bs =>
      let recs := (List.range 32).map fun i => (bs.drop (160 * i)).take 160
      let s := s.setEmac port { e with wakeLoad := false, wake := recs }
      .next ((s.setF EFLT_WAKE_STAT_LOADED port 0 1).setF EFLT_WAKE_STAT_LOAD_RESULT port 0 0)
    | .error x =>
      if x.reason == 0 then .next s
      else
        let s := s.useUp (s.emacOwner port) x
        let s := s.setEmac port { s.emac port with wakeLoad := false, wake := [] }
        let s := (s.setF EFLT_WAKE_STAT_LOADED port 0 0).setF EFLT_WAKE_STAT_LOAD_RESULT port 0 0x20
        .next (s.err EFLT_ERR_WAKE_LOAD_FAIL port)

/-- The staging registers read zero after a LOAD. -/
def State.msecClear (s : State) (n : Nat) : State :=
  let s := s.each 4 fun s i => s.setF MSEC_KEY_SAK_KEY n i 0
  ((s.setF MSEC_KEY_SALT_SALT n 0 0).setF MSEC_KEY_PN_PN n 0 0).setF MSEC_KEY_SSCI_SSCI n 0 0

/-- MSEC_KEY_CMD with LOAD: `v` holds DIR, SC and AN. -/
def State.msecLoad (s : State) (n v : Nat) : State :=
  let k := 16 * bits v 1 1 + 4 * bits v 2 2 + bits v 4 2
  if bit (s.f MSEC_SA_USE_IN_USE n) k then (s.msecClear n).err MSEC_ERR_KEY_BUSY n
  else
    let key := (List.range 4).foldl (fun x i => x + s.f MSEC_KEY_SAK_KEY n i * 2 ^ (64 * i)) 0
    let pn := s.f MSEC_KEY_PN_PN n
    let a : SecAssoc := { key := key, salt := s.f MSEC_KEY_SALT_SALT n, ssci := s.f MSEC_KEY_SSCI_SSCI n, low := pn }
    let s := (s.setSec n k a).setF MSEC_SA_PN_PN n k pn
    let s := s.setF MSEC_SA_KEYED_KEYED n 0 (setBit (s.f MSEC_SA_KEYED_KEYED n) k)
    let s := if k < 16 then s.setF MSEC_TX_EXH_EXHAUSTED n 0 (clrBit (s.f MSEC_TX_EXH_EXHAUSTED n) k) else s
    s.msecClear n

def execMsecKeyCmdLoad (fn port value : Nat) (s : State) : Res :=
  .next (s.act fn 0x44 port false fun s => if bit value 0 then s.msecLoad port value else s)

end Sys2Proof.Machine
end

