-- ==== Sys2Proof/Machine/QueueCmds.lean ====
section
/-! DEFINITION. The commands and events of submission queues and completion rings, but for acceptance (chapter 7). -/
namespace Sys2Proof.Machine

/-- Die of queue or ring `q`'s queue engine. -/
def queueDie (q : Nat) : Nat := Config.queueStook q / 4 % 2

/-! ### Doorbells (R247 to R253) -/

/-- The push window of queue `q` is emptied (R250). -/
def State.pushEmpty (s : State) (q : Nat) : State := s.setWq q { s.wq q with push := [] }

/-- Entry `k` of the push window, where all its eight words have been written (R250). -/
def WqSt.pushed (w : WqSt) (k : Nat) : Option (List (BitVec 8)) :=
  let ws := (List.range 8).map fun j => PMap.find w.push (8 * k + j)
  if ws.all Option.isSome then some (ws.flatMap fun x => leBytes 8 (x.getD 0)) else none

/-- An accepted doorbell is counted (Table 18-2); pacing that follows the queue is taken up. -/
def State.dbTaken (s : State) (q : Nat) : State :=
  ((s.count (bankDma (Config.queueStook q % 8)) 0x283 0 (some (s.wqOwner q))).wqShow q).paceQueues

/-- A TAIL doorbell with INDEX `n` (R248, R250, R252). -/
def State.dbTail (s : State) (q n : Nat) : State :=
  let h := s.head q
  let t := s.tail q
  if diff16 n h ≤ s.wqSize q && diff16 n t ≤ diff16 n h then
    let d := diff16 n t
    let w := s.wq q
    let taken := (List.range (min d 7)).foldl (fun m k => match w.pushed k with
      | some b => PMap.put m ((t + k) % 65536) b
      | none => m) w.taken
    ((s.setWq q { w with taken := taken, stop := none, push := [] }).setQ WQ_IDX_TAIL q n).dbTaken q
  else if diff16 t n < s.wqSize q then s.pushEmpty q
  else (s.pushEmpty q).dbErr q

/-- An INVALIDATE doorbell with FROM `f` (R252). A stop that stands earlier stays. -/
def State.dbInvalidate (s : State) (q f : Nat) : State :=
  let h := s.head q
  let t := s.tail q
  if diff16 t h < diff16 f h then (s.pushEmpty q).dbErr q
  else
    let w := s.wq q
    let stop := match w.stop with
      | some x => if diff16 x h < diff16 f h then x else f
      | none => f
    let before (m : List (Nat × List (BitVec 8))) := m.filter fun e => diff16 e.1 h < diff16 f h
    (s.setWq q { w with cached := before w.cached, taken := before w.taken, stop := some stop, push := [] }).dbTaken q

/-- A doorbell by function `fn` at BAR2 slot `slot` (R247, R248, Table 07-4). A slot outside the function's grant and an instance in
RESETTING refuse it (R460, R458). -/
def State.doorbell (s : State) (fn slot value : Nat) : State :=
  match s.slotQ fn slot with
  | none => s.refuse fn
  | some q =>
    let op := bits value 30 2
    if s.resetting fn then s.refuse fn
    else if bits value 16 10 != slot || 2 ≤ op then (s.pushEmpty q).dbErr q
    else if !(s.qb WQ_CFG_ENABLE q) then (s.pushEmpty q).dbErr q
    else if op == 0 then s.dbTail q (value % 65536) else s.dbInvalidate q (value % 65536)

/-- A write of `size` bytes at the start of a BAR2 slot: only a single aligned 4-byte write is a doorbell (R247). One that crosses into the
next slot, and one to a slot without a granted queue, is refused whatever its size (R608). -/
def State.slotWrite (s : State) (fn slot value size : Nat) : State :=
  if 0x200 < size || s.resetting fn || (s.slotQ fn slot).isNone then s.refuse fn
  else if size == 4 then s.doorbell fn slot value else s

/-- DOORBELL_TAIL: a write of a TAIL doorbell. -/
def execDoorbellTail (fn slot value size : Nat) (s : State) : Res := .next (s.slotWrite fn slot (value % 2 ^ 30) size)

/-- DOORBELL_INVALIDATE (R252). -/
def execDoorbellInvalidate (fn slot value size : Nat) (s : State) : Res :=
  .next (s.slotWrite fn slot (value % 2 ^ 30 + 2 ^ 30) size)

/-- A write of the push window is naturally aligned, 8 to 64 bytes long and inside one entry (R250). -/
def pushOk (offset n : Nat) : Bool :=
  (n == 8 || n == 16 || n == 32 || n == 64) && offset % n == 0 && decide (0x40 ≤ offset) && decide (offset + n ≤ 0x200)

/-- PUSH_WINDOW_WRITE (R250). A write that crosses into the next slot is refused whole (R608). -/
def execPushWindowWrite (fn slot offset : Nat) (bytes : List (BitVec 8)) (s : State) : Res :=
  .next <| match s.slotQ fn slot with
  | none => s.refuse fn
  | some q =>
    if s.resetting fn || 0x200 < offset + bytes.length then s.refuse fn
    else if !(pushOk offset bytes.length) then s
    else
      let w := s.wq q
      let k := (offset - 0x40) / 8
      s.setWq q { w with push := (List.range (bytes.length / 8)).foldl (fun m j => PMap.put m (k + j) (leAt bytes (8 * j) 8)) w.push }

/-- Index `i` of queue `q` is announced, not accepted, and before the fetch stop (R252). -/
def State.fetchable (s : State) (q i : Nat) : Bool :=
  let h := s.head q
  decide (i < 65536) && decide (diff16 i h < diff16 (s.tail q) h) &&
  (match (s.wq q).stop with
    | some x => decide (diff16 i h < diff16 x h)
    | none => true)

/-- The fetched copies with room for one more of index `i`: at most 16 are held; the head's takes the place of the one farthest from it, which is
read again later (R252). -/
def WqSt.room (w : WqSt) (h i : Nat) : Option (List (Nat × List (BitVec 8))) :=
  if w.cached.length < 16 then some w.cached
  else if i == h then
    let far := w.cached.foldl (fun m e => max m (diff16 e.1 h)) 0
    some ((w.cached.filter fun e => diff16 e.1 h != far).take 15)
  else none

/-- DESCRIPTOR_FETCH: the slot of an announced index is read and its copy held, at most 16 (R252); a fault parks the queue (R263), and with
it a DMA channel that is at its boundary (R291). -/
def execDescriptorFetch (queue index : Nat) (s : State) : Res :=
  .next <|
    let w := s.wq queue
    let i := s.wqOwner queue
    if !(s.qb WQ_CFG_ENABLE queue) || s.qb WQ_STAT_PARKED queue || !(s.fetchable queue index) || (w.copy index).isSome then s
    else match w.room (s.head queue) index with
    | none => s
    | some held => match s.readV i (s.q WQ_BASE_ADDR queue + 64 * (index % s.wqSize queue)) 64 with
      | .ok b => ((s.bump).setWq queue { w with cached := PMap.put held index b }).wqShow queue
      | .error e =>
        if e.reason == 0 then s
        else
          let r := s.faultWait (queueDie queue) i 0x07 e false (s.wqLocal queue) index queue
          let s := (r.2.setWq queue { r.2.wq queue with fid := r.1 }).setQ WQ_STAT_PARKED queue 1
          if s.q WQ_CFG_TYPE queue == 5 then s.dmaWake (s.q WQ_BIND_TARGET queue % 512) else s

/-! ### Cutting descriptors short (R265, R267) -/

/-- Squash one accepted descriptor of queue `q`, started or not. A frame in transmission leaves all the same. -/
def State.cutDesc (s : State) (q : Nat) (d : Desc) : State :=
  let ty := s.q WQ_CFG_TYPE q
  let i := s.wqOwner q
  if ty == 1 || ty == 2 then
    let n := s.q WQ_BIND_TARGET q % 128
    let s := s.setSq n { s.sq n with steps := (s.sq n).steps.filter fun t => !((t.kind ≤ 3) && t.q == q && t.idx == d.idx) }
    ({ s.unwait i d.fid with refusals := s.refusals.filter fun r => !(r.kind == 2 && r.ref == descRef q d.idx) }).descDone q d 0x23 d.moved
  else if ty == 3 then
    let n := s.txPort q
    let s := (s.unwait i d.fid).dropFrame n q d.idx
    let s := { s with tasks := s.tasks.filter fun t => !(t.src == 3 && t.q == q && t.idx == d.idx) }
    (if d.phase == 3 then s.setQ WQ_STAT_PARKED q 0 else s).descDone q d 0x23 0
  else if ty == 5 then
    let c := s.q WQ_BIND_TARGET q % 512
    match (s.dma c).cur with
    | some x =>
      if x.src == 1 && x.q == q && x.idx == d.idx then
        (if s.f DMA_STAT_STATE c == 6 then s.dmaEndParked c 0x23
         else
          let k := s.f DMA_CURSOR_UNITS c
          s.dmaReport c x 0x23 ((dmaBody x.bytes).bytesOf k) k)
      else s.descDone q d 0x23 0
    | none => s.descDone q d 0x23 0
  else if ty == 6 then
    match s.tasks.find? fun t => t.src == 5 && t.q == q && t.idx == d.idx with
    | some t => s.taskAbort t 0x23 0 false
    | none => s.descDone q d 0x23 0
  else if ty == 4 then s.rxUnused q d 0x23
  else s.descDone q d 0x23 0

/-- The target of queue `q` takes up work that it now finds: a root port or a DMA channel. -/
def State.wqKick (s : State) (q : Nat) : State :=
  let ty := s.q WQ_CFG_TYPE q
  if ty == 1 || ty == 2 then s.serve (s.q WQ_BIND_TARGET q % 128)
  else if ty == 5 then s.dmaWake (s.q WQ_BIND_TARGET q % 512)
  else s

/-- Squash the accepted descriptors of queue `q` of which `p` holds; a root port goes on with what is left. -/
def State.cut (s : State) (q : Nat) (p : Desc → Bool) : State :=
  match (s.wq q).acc.filter p with
  | [] => s
  | ds =>
    let s := ds.foldl (fun (s : State) d => if (s.wq q).acc.any fun x => x.idx == d.idx then s.cutDesc q d else s) s
    if s.q WQ_CFG_TYPE q == 5 then s else if s.q WQ_CFG_TYPE q == 4 then s.rxSettle q else s.wqKick q

/-- The descriptor fetch on whose fault queue `q` is parked is withdrawn. -/
def State.unparkFetch (s : State) (q : Nat) : State :=
  let w := s.wq q
  if w.fid == 0 then s
  else
    let s := ((s.unwait (s.wqOwner q) w.fid).setWq q { w with fid := 0 }).setQ WQ_STAT_PARKED q 0
    if s.q WQ_CFG_TYPE q == 5 then s.dmaUnpark (s.q WQ_BIND_TARGET q % 512) else s

/-- An accepted descriptor has not started: neither its frame was fetched nor its task dispatched. -/
def State.unstarted (s : State) (q : Nat) (d : Desc) : Bool :=
  d.phase == 0 && (if s.q WQ_CFG_TYPE q == 6 then !(s.tasks.any fun t => t.src == 5 && t.q == q && t.idx == d.idx && t.started) else true)

/-! ### WQ_CFG, WQ_CMD, WQ_RSY_CTL -/

/-- ENABLE changes from 0 to 1 (R240). Descriptors that still run from before keep their own place. -/
def State.wqOn (s : State) (q : Nat) : State :=
  let s := ((s.setQ WQ_CFG_ENABLE q 1).setQ WQ_IDX_HEAD q 0).setQ WQ_IDX_TAIL q 0
  (s.setQ WQ_HSEQ_HSEQ q 0).setWq q { s.wq q with cached := [], taken := [], push := [], stop := none, fresh := true, gen := (s.wq q).gen + 1 }
    |>.wqShow q

/-- ENABLE changes from 1 to 0 (R265): what has not started is squashed, what has runs to its end. -/
def State.wqOff (s : State) (q : Nat) : State :=
  let s := ((s.setQ WQ_CFG_ENABLE q 0).unparkFetch q).cut q fun d => s.unstarted q d
  (s.setWq q { s.wq q with cached := [], taken := [], push := [], stop := none }).wqShow q

/-- A write of WQ_CFG of device queue `q` (Table 07-10). -/
def State.wqCfgWrite (s : State) (fn q v : Nat) : State :=
  let u := q / 64
  let o := WQ_CFG_ENABLE.off + 48 * (q % 64)
  if s.encOk 0x58 u o 4 v then
    let was := s.qb WQ_CFG_ENABLE q
    let s := s.writePage fn 0x58 u o 4 v
    if !was && bit v 31 then s.wqOn q else if was && !(bit v 31) then s.wqOff q else s
  else s.errOn PAGE_ERR_RESERVED_ENC 0x58 u

/-- A write that function `fn` makes to its queue, or ring, `k`: nothing lies at an index beyond its grant (R65), and a function that
resets is refused (R463). -/
def State.onWq (s : State) (fn k : Nat) (f : State → Nat → State) : State :=
  if !(s.serves 0x58) then s
  else if s.resetting fn then s.refuse fn
  else match s.wqFor fn k with
    | some q => f s q
    | none => s
def State.onCq (s : State) (fn k : Nat) (f : State → Nat → State) : State :=
  if !(s.serves 0x59) then s
  else if s.resetting fn then s.refuse fn
  else match s.cqFor fn k with
    | some c => f s c
    | none => s

/-- WQ_ENABLE: a write of WQ_CFG with ENABLE 1 (R240). -/
def execWqEnable (fn queue value : Nat) (s : State) : Res :=
  .next (s.onWq fn queue fun s q => s.wqCfgWrite fn q (setBit (value % 2 ^ 32) 31))

/-- WQ_DISABLE: a write of WQ_CFG with ENABLE 0 (R265). -/
def execWqDisable (fn queue value : Nat) (s : State) : Res :=
  .next (s.onWq fn queue fun s q => s.wqCfgWrite fn q (clrBit (value % 2 ^ 32) 31))

/-- RESUME (R265). -/
def State.wqResume (s : State) (q : Nat) : State := (s.setQ WQ_STAT_HALTED q 0).wqKick q

/-- ABORT (R265): every accepted and every announced descriptor is squashed, QUIET or not, and HEAD becomes TAIL. -/
def State.wqAbort (s : State) (q : Nat) : State :=
  let s := (s.unparkFetch q).cut q fun _ => true
  let n := diff16 (s.tail q) (s.head q)
  let s := (s.squashWaiting q (s.head q) n).setQ WQ_IDX_HEAD q (s.tail q)
  (((s.setWq q { s.wq q with cached := [], taken := [], stop := none }).setQ WQ_STAT_HALTED q 0).wqShow q).paceQueues

/-- WQ_CMD_RESUME (R265). -/
def execWqCmdResume (fn queue : Nat) (s : State) : Res := .next (s.onWq fn queue State.wqResume)

/-- WQ_CMD_ABORT (R265). -/
def execWqCmdAbort (fn queue : Nat) (s : State) : Res := .next (s.onWq fn queue State.wqAbort)

/-- Device queues that instance `i` owns and that have been used. -/
def State.queuesOf (s : State) (i : Nat) : List Nat := (s.wqs.map (·.1)).filter fun q => s.wqOwner q == i
/-- Device rings that instance `i` owns and that have been used. -/
def State.ringsOf (s : State) (i : Nat) : List Nat := (s.cqs.map (·.1)).filter fun c => s.cqOwner c == i

/-- QUIESCED of an instance is set or cleared (R267). -/
def State.quiesce (s : State) (i v : Nat) : State := (s.setF WQ_RSY_STAT_QUIESCED i 0 v).rsyShow i

/-- SQUASH (R267). -/
def State.rsySquash (s : State) (i : Nat) : State :=
  ((s.queuesOf i).foldl (fun (s : State) q => s.cut q fun _ => true) s).rsyShow i

/-- WQ_RSY_CTL_QUIESCE (R267). -/
def execWqRsyCtlQuiesce (fn inst : Nat) (s : State) : Res :=
  .next (if 64 < inst then s else s.actOwn fn inst fun s => s.quiesce inst 1)

/-- WQ_RSY_CTL_RESUME (R267). -/
def execWqRsyCtlResume (fn inst : Nat) (s : State) : Res :=
  .next (if 64 < inst then s else s.actOwn fn inst fun s => s.quiesce inst 0)

/-- WQ_RSY_CTL_SQUASH (R267). -/
def execWqRsyCtlSquash (fn inst : Nat) (s : State) : Res :=
  .next (if 64 < inst then s else s.actOwn fn inst fun s => s.rsySquash inst)

/-! ### Completion rings -/

/-- ENABLE changes from 0 to 1 (R257, R261). -/
def State.cqOn (s : State) (c : Nat) : State :=
  let s := ((s.setQ CQ_CFG_ENABLE c 1).setQ CQ_HEAD_COUNT c 0).setQ CQ_TAIL_COUNT c 0
  ((s.setQ CQ_LOST_COUNT c 0).setCq c {}).cqShow c

/-- ENABLE changes from 1 to 0: completions held for the ring are dropped and counted (R261). -/
def State.cqOff (s : State) (c : Nat) : State :=
  let x := s.cq c
  let resv := (x.held.filter Cpl.resv).length
  let s := ((s.unwait (s.cqOwner c) x.fid).setQ CQ_CFG_ENABLE c 0).setQ CQ_STAT_PARKED c 0
  let s := s.setQ CQ_LOST_COUNT c (min (s.q CQ_LOST_COUNT c + x.held.length) (2 ^ 32 - 1))
  (((s.setQ CQ_STAT_RESERVED_SLOTS c (s.q CQ_STAT_RESERVED_SLOTS c - resv)).setCq c { x with held := [], fid := 0 }).cqShow c).rsyShow
    (s.cqOwner c)

/-- A write of CQ_CFG of device ring `c` (Table 07-12). -/
def State.cqCfgWrite (s : State) (fn c v : Nat) : State :=
  let u := c / 64
  let o := CQ_CFG_ENABLE.off + 32 * (c % 64)
  if s.encOk 0x59 u o 4 v then
    let was := s.qb CQ_CFG_ENABLE c
    let s := s.writePage fn 0x59 u o 4 v
    if !was && bit v 31 then s.cqOn c else if was && !(bit v 31) then s.cqOff c else s.cqEvent c
  else s.errOn PAGE_ERR_RESERVED_ENC 0x59 u

/-- CQ_ENABLE: a write of CQ_CFG with ENABLE 1 (R257). -/
def execCqEnable (fn ring value : Nat) (s : State) : Res :=
  .next (s.onCq fn ring fun s c => s.cqCfgWrite fn c (setBit (value % 2 ^ 32) 31))

/-- A write of CQ_HEAD (R260, R261). -/
def State.cqHead (s : State) (c v : Nat) : State :=
  let old := s.q CQ_HEAD_COUNT c
  if !(later v old 32) || s.cqSize c < diff32 (s.q CQ_TAIL_COUNT c) v then s.setQ CQ_STAT_HEAD_ERR c 1
  else
    let x := s.cq c
    (((s.setQ CQ_HEAD_COUNT c v).setCq c { x with times := x.times.drop (diff32 v old) }).cqFlush c).paceQueues

/-- CQ_HEAD_WRITE (R261). -/
def execCqHeadWrite (fn ring value : Nat) (s : State) : Res := .next (s.onCq fn ring fun s c => s.cqHead c (value % 2 ^ 32))

/-- CQ_ARM (R262). -/
def execCqArm (fn ring : Nat) (s : State) : Res := .next (s.onCq fn ring fun s c => (s.setQ CQ_STAT_ARMED c 1).cqEvent c)

/-- COALESCE_TIMEOUT: the oldest pending entry has reached COAL_US (R262). -/
def execCoalesceTimeout (ring : Nat) (s : State) : Res := .next (if ring < 16384 then s.cqEvent ring else s)

end Sys2Proof.Machine
end

