-- ==== Sys2Proof/Machine/Resume.lean ====
section
/-! DEFINITION. The commands and events of translation: walks, ATS and page requests, invalidations, answers to faults, the fault
queue, the spill area and the dirty log (chapter 13). -/
namespace Sys2Proof.Machine

/-! ### Answers to faults (R437, R438) -/

/-- The port whose turns serve queue `q` goes on. -/
def State.serveOf (s : State) (q : Nat) : State :=
  let n := s.q WQ_BIND_TARGET q % 128
  if s.hubRole n then s else s.serve n

/-- A KPB descriptor's fault is answered (R439, R440, Table 13-5). -/
def State.answerKpb (s : State) (w : Waiter) (abort : Bool) : State :=
  let q := w.ref % 16384
  match s.refDesc w.ref with
  | none => s
  | some d =>
    if abort then (s.descDone q d 0x20 d.moved).serveOf q
    else (s.setDesc q { d with phase := (if d.moved != 0 || d.stage != 0 then 1 else 0), fid := 0 }).serveOf q

/-- A transmit descriptor's fault is answered (Table 13-5): the frame is fetched again, or its record written again. -/
def State.answerTx (s : State) (w : Waiter) (abort : Bool) : State :=
  let q := w.ref % 16384
  let n := s.txPort q
  let s := s.setQ WQ_STAT_PARKED q 0
  match s.refDesc w.ref with
  | none => s
  | some d =>
    if abort then ((s.dropFrame n q d.idx).descDone q d 0x20 0).txHead n q
    else
      let d' := { d with phase := 0, fid := 0 }
      let s := s.setDesc q d'
      match s.frameOf n q d.idx with
      | some f => if f.sent then s.txDone n q d' f else s
      | none => s

/-- A channel's fault is answered (Table 13-5, R292): ABORT of a writeback acts as RETRY. -/
def State.answerDma (s : State) (c : Nat) (abort : Bool) : State :=
  if s.f DMA_STAT_STATE c != 6 then s
  else if abort && s.f DMA_STAT_PARK_AT c != 2 then s.dmaEndParked c 0x20 else s.dmaRetry c

/-- The task that is suspended on this fault, or stalled on its place by it, may go on. -/
def State.answerTask (s : State) (w : Waiter) (abort : Bool) : State :=
  match s.tasks.find? fun t => t.inst == w.inst && t.fid == w.fid && t.fid != 0 with
  | none => s
  | some t =>
    let t := { t with fid := 0, unresolved := t.unresolved || (abort && w.kind == 9) }
    (s.setTask (if t.phase == 3 then { t with phase := 2 } else t)).tskShow t.sheaf

/-- A stream operation's fault is answered (R409, R411, Table 13-5). -/
def State.answerOp (s : State) (w : Waiter) (abort : Bool) : State :=
  let s := s.answerTask w abort
  match s.ops.find? fun o => o.id == w.ref with
  | none => s
  | some o =>
    let s := s.setOp { o with phase := 0, fid := 0 }
    if o.kind == 0 then s.answerDma o.chan abort else if abort then s.opEnd o.id 0x20 else s

/-- A pacing read's fault is answered (R288, Table 13-5). -/
def State.answerPace (s : State) (c : Nat) (abort : Bool) : State :=
  let s := s.setDma c { s.dma c with paceFid := 0, paceKick := abort }
  let st := s.f DMA_STAT_STATE c
  if st == 1 || st == 3 || st == 4 then s.dmaBoundary c else s.pace c

/-- A device-table write's fault is answered (R142, R143). -/
def State.answerTable (s : State) (n : Nat) (abort : Bool) : State :=
  if abort then s.treeBase n 0
  else
    let s := (s.setTree n { s.tree n with fid := 0 }).setF KHUB_TREE_STAT_TABLE_FAULT 0 n 0
    ((s.tableFlush n (s.tree n).dirty).enumTurn n).serve n

/-- The work that waits on `w` continues, or ends, as Table 13-5 states. -/
def State.answer (s : State) (w : Waiter) (abort : Bool) : State :=
  let s := s.unwait w.inst w.fid
  match w.kind with
  | 2 => s.answerKpb w abort
  | 3 => s.answerKpb w abort
  | 4 => s.answerTx w abort
  | 6 => s.answerDma w.ref abort
  | 7 =>
    let q := w.ref
    let s := (s.setWq q { s.wq q with fid := 0 }).setQ WQ_STAT_PARKED q 0
    let s := if abort then s.halt q 0x20 else s
    if s.q WQ_CFG_TYPE q == 5 then s.dmaUnpark (s.q WQ_BIND_TARGET q % 512) else s
  | 8 => ((s.setCq w.ref { s.cq w.ref with fid := 0 }).setQ CQ_STAT_PARKED w.ref 0).cqFlush w.ref
  | 9 => s.answerTask w abort
  | 10 => s.answerOp w abort
  | 11 => s.answerPace w.ref abort
  | 12 => s.answerTable w.ref abort
  | _ => s

/-- The waiting fault of FID `fid` whose record has been written (R437). -/
def State.waiting (s : State) (i fid : Nat) : Option Waiter :=
  s.waiters.find? fun w => w.inst == i && w.fid == fid && w.recSt == 2

/-- RETRY or ABORT of one FID (R437). -/
def State.resume (s : State) (i fid : Nat) (abort : Bool) : State := match s.waiting i fid with
  | some w => s.answer w abort
  | none => s

/-- RETRY_ALL (R437). -/
def State.resumeAll (s : State) (i : Nat) : State :=
  ((s.waiters.filter fun w => w.inst == i && w.recSt == 2).map Waiter.fid).foldl (fun s fid => s.resume i fid false) s

/-- A write of DLOG_RESUME (Table 13-11). -/
def State.resumeWrite (s : State) (i action fid : Nat) : State :=
  if action == 0 then s.resume i fid false else if action == 1 then s.resume i fid true
  else if action == 2 then s.resumeAll i else s.errOn PAGE_ERR_RESERVED_ENC 0x19 i

/-- DLOG_RESUME_RETRY (R437). -/
def execDlogResumeRetry (fn inst fid : Nat) (s : State) : Res :=
  .next (s.act fn 0x19 inst false fun s => s.resumeWrite inst 0 (fid % 65536))

/-- DLOG_RESUME_ABORT (R437). -/
def execDlogResumeAbort (fn inst fid : Nat) (s : State) : Res :=
  .next (s.act fn 0x19 inst false fun s => s.resumeWrite inst 1 (fid % 65536))

/-- DLOG_RESUME_RETRY_ALL (R437). -/
def execDlogResumeRetryAll (fn inst : Nat) (s : State) : Res :=
  .next (s.act fn 0x19 inst false fun s => s.resumeWrite inst 2 0)

/-! ### Walks, ATS, page requests (R427 to R431, R613) -/

/-- A die's second-level cache takes an entry (R430): 65,536 entries, of which DTU_L2_MAX x 256 at most for one instance, whose least recently used
one it replaces; entries stand in order of last use, newest first. Which entry goes from a full cache is otherwise left open: the oldest. -/
def State.tlbAdd (s : State) (t : TlbEnt) : State :=
  let rest := s.tlb.filter fun e => !(e.die == t.die && e.inst == t.inst && e.va == t.va && e.size == t.size)
  let mine := rest.filter fun e => e.die == t.die && e.inst == t.inst
  let all := rest.filter fun e => e.die == t.die
  let old := if s.f DTU_L2_MAX_UNITS t.die t.inst * 256 ≤ mine.length then mine.getLast?
    else if 65536 ≤ all.length then all.getLast? else none
  { s with tlb := t :: (match old with
      | some e => rest.erase e
      | none => rest) }

/-- A hit makes an entry the most recently used one. -/
def State.tlbHit (s : State) (die i va : Nat) : State :=
  match s.tlb.find? fun e => e.die == die && e.inst == i && decide (e.va ≤ va) && decide (va < e.va + e.size) with
  | some e => { s with tlb := e :: s.tlb.erase e }
  | none => s

/-- WALK_COMPLETE: a walk for an access of instance `inst` ends: its leaf is cached, or the access that asked meets the first reason
that applies (R613); a walk that faults is not cached (R431). `hostErr` is the level whose table read the host answered with an error. -/
def execWalkComplete (die inst vaddr : Nat) (write : Bool) (hostErr : Nat) (s : State) : Res :=
  .next <|
    if !(s.b DLOG_ROOT_VALID inst) || 1 < die then s
    else
      let s := ((s.addF DTU_CNT_L1_MISS_COUNT die 0 1).count (97 + die) 0x141 s.dtuSub (some inst)).count (bankStook (4 * die + s.dtuSub)) 0x83 0
        (some inst)
      if (s.tlb.any fun e => e.die == die && e.inst == inst && decide (e.va ≤ vaddr) && decide (vaddr < e.va + e.size)) && hostErr == 0 then
        (s.tlbHit die inst vaddr).bump
      else
        let s := (s.addF DTU_CNT_L2_MISS_COUNT die 0 1).count (97 + die) 0x142 s.dtuSub (some inst)
        let reads (s : State) (n : Nat) : State :=
          ((s.addF DTU_CNT_WALK_READ_COUNT die 0 n).count (97 + die) 0x143 s.dtuSub (some inst) n).bump
        match s.walkRoot inst vaddr hostErr with
        | .error e =>
          let s := reads s (if e.reason == 4 || e.reason == 0 then 4 - e.level else 5 - e.level)
          if e.reason == 6 then { s with tabErrs := s.tabErrs ++ [(inst, vaddr / 4096, e.level)] } else s
        | .ok (l, size, level) =>
          let s := reads s (5 - level)
          let t : TlbEnt := { die := die, inst := inst, va := vaddr / size * size, size := size, leaf := l }
          match s.placeOf inst vaddr write l size with
          | .error e => if e.reason == 0 || e.reason == 7 then s.tlbAdd t else s
          | .ok _ => s.tlbAdd t

/-- ATS_COMPLETION: the answer to an ATS Translation Request for untranslated page `page`, which access type `write` asked (R427). -/
def execAtsCompletion (die inst page out : Nat) (rd wr write : Bool) (s : State) : Res :=
  .next <|
    if !(s.b DLOG_ICTL_ATS_EN inst && (s.fn inst).atsEnable) || 1 < die then s
    else
      let s := s.addF DTU_CNT_ATS_REQ_COUNT die 0 1
      let a : AtsEnt := { inst := inst, page := page, out := out, rd := rd, wr := wr, noRd := !write && !rd, noWr := write && !wr }
      { s with ats := a :: s.ats.filter fun x => !(x.inst == inst && x.page == page) }

/-- Mark the held stores of an instance of whose pieces `p` holds: virtual address, host address and length (R433). -/
def State.markStores (s : State) (i : Nat) (p : Nat → Option Nat → Nat → Bool) : State :=
  let hit (va : Nat) (ps : List (Nat × Option Nat × Nat)) : Bool :=
    ((ps.foldl (fun (a : Nat × Bool) x => (a.1 + x.2.2, a.2 || p a.1 x.2.1 x.2.2)) (va, false)).2)
  let mark (h : Held) : Held := match h with
    | .store a b ps m => .store a b ps (m || hit a ps)
    | h => h
  { s with tasks := s.tasks.map fun t => if t.inst == i then { t with held := t.held.map mark } else t }

/-- ATS_INVALIDATE_REQUEST (R427): every covered result goes; a store that is held with one translates again at its commit. -/
def execAtsInvalidateRequest (inst page count tag : Nat) (s : State) : Res :=
  .next <|
    let hit (x : Nat) : Bool := decide (page ≤ x) && decide (x < page + count)
    let s := (s.addF DTU_CNT_ATS_INV_COUNT 0 0 1).addF DTU_CNT_ATS_INV_COUNT 1 0 1
    let s := { s with ats := s.ats.filter fun a => !(a.inst == inst && hit a.page) }
    let s := s.markStores inst fun _ h _ => match h with
      | some x => hit (x / 4096)
      | none => false
    s.setXst inst { s.xst inst with atsInvs := (s.xst inst).atsInvs ++ [tag] }

/-- A control transfer of instance `i` holds translations of its buffer (R440). -/
def State.holdsPlaces (s : State) (i : Nat) : Bool :=
  (s.queuesOf i).any fun q => (s.wq q).acc.any fun d => !d.places.isEmpty && d.phase == 1

/-- ATS_INVALIDATE_COMPLETION: sent once no access uses a removed result (R427). -/
def execAtsInvalidateCompletion (inst tag : Nat) (s : State) : Res :=
  .next <|
    let x := s.xst inst
    if !(x.atsInvs.contains tag) || s.holdsPlaces inst then s
    else (s.setXst inst { x with atsInvs := x.atsInvs.erase tag }).emit (.atsDone inst tag)

/-- A page request of waiter `w` failed: an ordinary fault with REASON PRI_FAILED (R428). -/
def State.priFail (s : State) (w : Waiter) : State :=
  let w' := { w with reason := 8, level := 0, hostTable := false, recSt := 1, time := time96 s.devTime }
  let s := { s with waiters := s.waiters.map fun (x : Waiter) => if x.inst == w.inst && x.fid == w.fid then w' else x }
  (((s.countFault w.inst w.die).bump).count (97 + w.die) 0x144 s.dtuSub (some w.inst)).fqFlush w.inst

/-- The oldest work of an instance that waits on a page request of group index `g`. -/
def State.asking (s : State) (i : Nat) (p : Waiter → Bool) : Option Waiter :=
  s.waiters.find? fun w => w.inst == i && w.recSt == 0 && p w

/-- PRI_RESPONSE: code 0 is Success (R428). -/
def execPriResponse (inst group code : Nat) (s : State) : Res :=
  .next <| match s.asking inst fun w => w.fid % 512 == group with
  | none => s
  | some w => if code == 0 then s.answer w false else s.priFail w

/-- PRI_TIMEOUT: no response within PRI_TMO (R428). -/
def execPriTimeout (inst fid : Nat) (s : State) : Res :=
  .next <| match s.asking inst fun w => w.fid == fid with
  | none => s
  | some w => if w.since + ms (10 * s.f DTU_CTL_PRI_TMO w.die) ≤ s.now then s.priFail w else s

/-! ### Invalidation (R432, R433) -/

/-- Page `x` lies in the range of an invalidation. -/
def invHits (va count x : Nat) : Bool := count == 0 || (decide (va ≤ x) && decide (x < va + count))

/-- An invalidation of instance `i`: COUNT pages from page `va` (R432, R433). -/
def State.dlogInv (s : State) (i va count : Nat) : State :=
  let n := (s.f DLOG_IST_INV_REQ i + 1) % 65536
  let s := s.setF DLOG_IST_INV_REQ i 0 n
  let s := (s.addF DTU_CNT_INV_COUNT 0 0 1).addF DTU_CNT_INV_COUNT 1 0 1
  let inside (t : TlbEnt) : Bool :=
    t.inst == i && (count == 0 || (decide (t.va / 4096 < va + count) && decide (va < (t.va + t.size) / 4096)))
  let s := { s with tlb := s.tlb.filter fun t => !(inside t) }
  let s := if count == 0 then { s with ats := s.ats.filter fun a => a.inst != i } else s
  let s := s.markStores i fun a _ _ => invHits va count (a / 4096)
  s.setXst i { s.xst i with invs := (s.xst i).invs ++ [{ num := n, va := va, count := count, at_ := s.now }] }

/-- DLOG_INV: a write of the register (R432). -/
def execDlogInv (fn inst value : Nat) (s : State) : Res :=
  .next (s.act fn 0x19 inst false fun s => s.dlogInv inst (bits value 12 36) (bits value 52 12))

/-- INVALIDATION_DONE: the oldest invalidation of the instance completes (R432). -/
def execInvalidationDone (inst : Nat) (s : State) : Res :=
  .next <| match (s.xst inst).invs with
  | [] => s
  | r :: rest =>
    if s.holdsPlaces inst then s
    else (s.setXst inst { s.xst inst with invs := rest }).setF DLOG_IST_INV_DONE inst 0 r.num

/-! ### Fault queue, spill area, dirty log -/

/-- A write of DLOG_FQ_HEAD (R436). -/
def State.fqHead (s : State) (i v : Nat) : State :=
  let old := s.f DLOG_FQ_HEAD_COUNT i
  if later v old 32 && !(later v (s.f DLOG_FQ_TAIL_COUNT i) 32) then (s.setF DLOG_FQ_HEAD_COUNT i 0 v).fqFlush i
  else s.err DLOG_ERR_FQ_ERR i

/-- DLOG_FQ_HEAD_WRITE (R436). -/
def execDlogFqHeadWrite (fn inst value : Nat) (s : State) : Res :=
  .next (s.act fn 0x19 inst false fun s => s.fqHead inst (value % 2 ^ 32))

/-- A write of DLOG_SPILL_TAIL (R444). -/
def State.spillTail (s : State) (i v : Nat) : State :=
  let old := s.f DLOG_SPILL_TAIL_UNITS i
  if later v old 32 && !(later v (s.f DLOG_SPILL_HEAD_UNITS i) 32) then s.setF DLOG_SPILL_TAIL_UNITS i 0 v
  else s.err DLOG_ERR_SPILL_ERR i

/-- DLOG_SPILL_TAIL_WRITE (R444). -/
def execDlogSpillTailWrite (fn inst value : Nat) (s : State) : Res :=
  .next (s.act fn 0x19 inst false fun s => s.spillTail inst (value % 2 ^ 32))

/-- DIRTY_LOG_FLUSH_DONE: the bitmap made inactive is whole (R449). -/
def execDirtyLogFlushDone (inst : Nat) (s : State) : Res :=
  .next <| match (s.xst inst).flushOf with
  | none => s
  | some e => ((s.setXst inst { s.xst inst with flushOf := none }).setF DLOG_LOG_FLUSH_EPOCH inst 0 e).setF DLOG_LOG_STAT_FLUSHING inst 0 0

end Sys2Proof.Machine
end

