-- ==== Sys2Proof/Machine/Inst.lean ====
section
/-! DEFINITION. The commands and events of instances: life cycle, reset, freeze, save and restore, mailbox (chapter 14). -/
namespace Sys2Proof.Machine

/-! ### Mailbox (R467 to R470) -/

def State.mbx (s : State) (i : Nat) : Mbx := PMap.get s.mbxs i {}

/-- The mailbox registers of one view: its unit, what it has sent, what it is to take, its last SEQ. -/
def State.mbxView (s : State) (u : Nat) (tx rx : List (List (BitVec 8))) (seq : Nat) : State :=
  let s := (s.setF MBX_STAT_TX_USED u 0 tx.length).setF MBX_STAT_RX_PENDING u 0 rx.length
  let s := (s.setF MBX_TX_SEQ_SEQ u 0 seq).setF MBX_RX_SEQ_SEQ u 0 (leAt (rx.headD []) 0 4)
  s.setF MBX_RX_DATA u 0 (leNat (rx.headD []))

/-- Put the mailbox of instance `i`; both views show it. -/
def State.setMbx (s : State) (i : Nat) (m : Mbx) : State :=
  let s := { s with mbxs := PMap.put s.mbxs i m }
  (s.mbxView i m.toInst m.toMgr m.seqMgr).mbxView (128 + i) m.toMgr m.toInst m.seqInst

/-- The next SEQ of a direction: it skips 0 (R467). -/
def nextSeq (n : Nat) : Nat := if n + 1 ≥ 2 ^ 32 then 1 else n + 1

/-- A message with its SEQ and its LEN of at most 240 (R467, R468). -/
def stamp (m : List (BitVec 8)) (seq : Nat) : List (BitVec 8) :=
  overlay (overlay m 0 (leBytes 4 seq)) 10 (leBytes 2 (min 240 (leAt m 10 2)))

/-- Add a message to a direction and raise the receiver's event (R467, Table 15-1). -/
def State.mbxPush (s : State) (i : Nat) (toMgr : Bool) (m : List (BitVec 8)) : State :=
  let x := s.mbx i
  let s :=
    if toMgr then
      let n := nextSeq x.seqInst
      s.setMbx i { x with toMgr := x.toMgr ++ [stamp m n], seqInst := n, headMgr := if x.toMgr.isEmpty then s.now else x.headMgr }
    else
      let n := nextSeq x.seqMgr
      s.setMbx i { x with toInst := x.toInst ++ [stamp m n], seqMgr := n, headInst := if x.toInst.isEmpty then s.now else x.headInst }
  s.post 0x9 (i + (if toMgr then 128 else 0))

/-- A notice from Zhoem (R469): sent, or waiting for a slot, merged with one of its kind that waits. -/
def State.notice (s : State) (i : Nat) (toMgr : Bool) (ty : Nat) (body : List (BitVec 8)) : State :=
  if i == 0 || 64 < i then s
  else
    let m := leBytes 8 0 ++ leBytes 2 ty ++ leBytes 2 body.length ++ leBytes 4 1 ++ (body ++ leBytes 240 0).take 240
    let x := s.mbx i
    let other (w : List (BitVec 8)) : Bool := leAt w 8 2 != ty
    if (if toMgr then x.toMgr else x.toInst).length < 16 then s.mbxPush i toMgr m
    else if toMgr then s.setMbx i { x with waitMgr := x.waitMgr.filter other ++ [m] }
    else s.setMbx i { x with waitInst := x.waitInst.filter other ++ [m] }

/-- SEND by the side whose view is unit `u` (R467). -/
def State.mbxSend (s : State) (i : Nat) (toMgr : Bool) : State :=
  let u := if toMgr then 128 + i else i
  let x := s.mbx i
  if 16 ≤ (if toMgr then x.toMgr else x.toInst).length then s.setF MBX_STAT_FULL u 0 1
  else s.mbxPush i toMgr (leBytes 256 (s.f MBX_TX_DATA u))

/-- TAKE: the head slot is freed; a notice that waits for the slot is sent (R467, R469). -/
def State.mbxTake (s : State) (i : Nat) (toMgr : Bool) : State :=
  let x := s.mbx i
  if toMgr then
    let s := s.setMbx i { x with toMgr := x.toMgr.drop 1, headMgr := s.now, waitMgr := if x.toMgr.isEmpty then x.waitMgr else x.waitMgr.drop 1 }
    match x.waitMgr with
    | m :: _ => if x.toMgr.isEmpty then s else s.mbxPush i true m
    | [] => s
  else
    let s := s.setMbx i { x with toInst := x.toInst.drop 1, headInst := s.now, waitInst := if x.toInst.isEmpty then x.waitInst else x.waitInst.drop 1 }
    match x.waitInst with
    | m :: _ => if x.toInst.isEmpty then s else s.mbxPush i false m
    | [] => s

/-- Instance `i` has a mailbox. -/
def hasMbx (i : Nat) : Bool := decide (1 ≤ i) && decide (i ≤ 64)

/-- MBX_CMD_SEND: by the manager toward instance `inst`, or by the instance toward the manager (R467). -/
def execMbxCmdSend (fn inst : Nat) (s : State) : Res :=
  .next (if hasMbx inst then s.actOwn fn inst fun s => s.mbxSend inst (fn == inst) else s)

/-- MBX_CMD_TAKE (R467). -/
def execMbxCmdTake (fn inst : Nat) (s : State) : Res :=
  .next (if hasMbx inst then s.actOwn fn inst fun s => s.mbxTake inst (fn != inst) else s)

/-- MBX_TIMEOUT: the oldest message of a direction has stayed untaken for TMO_MS (R470). -/
def execMbxTimeout (inst : Nat) (toMgr : Bool) (s : State) : Res :=
  .next <|
    let x := s.mbx inst
    let q := if toMgr then x.toMgr else x.toInst
    let since := if toMgr then x.headMgr else x.headInst
    if hasMbx inst && !q.isEmpty && decide (since + ms (s.f MBX_CTL_TMO_MS inst) ≤ s.now) then
      (s.setF MBX_STAT_TIMEOUT (if toMgr then 128 + inst else inst) 0 1).post 0x9 (inst + (if toMgr then 0 else 128))
    else s

/-! ### What belongs to an instance -/

/-- Root ports, Ethernet ports and channels that are granted to instance `i`. -/
def State.krpsOf (s : State) (i : Nat) : List Nat := (List.range 96).filter fun n => s.krpOwner n == i
def State.emacsOf (s : State) (i : Nat) : List Nat := (List.range 96).filter fun n => s.emacOwner n == i
def State.chansOf (s : State) (i : Nat) : List Nat := (List.range 512).filter fun c => s.dmaOwner c == i

/-- Pages that instance `i` owns and that hold a shadow or committed values (R459): none for instance 0's device-wide blocks. -/
def State.pagesOf (s : State) (i : Nat) : List (Nat × Nat) :=
  (0x19, i) :: (if i == 0 then [] else
    ((s.krpsOf i).flatMap fun n => [(0x30, n), (0x31, n)]) ++
    ((s.emacsOf i).flatMap fun n => [(0x40, n), (0x41, n), (0x42, n), (0x44, n)]))

/-- A reset reaches a page (R54): its pending commit is cancelled and its shadow emptied. -/
def State.discardShadow (s : State) (blk u : Nat) : State :=
  let dirty := s.shadowDirty blk u
  let s := { s with cmts := PMap.del s.cmts (pageOf blk u), shadow := s.shadow.filter fun e => !(inPage blk u e.1) }
  if dirty then s.errOn PAGE_ERR_SHADOW_DISCARDED blk u else s

/-- Registers of a page take their reset values. -/
def State.clearPage (s : State) (blk u : Nat) : State := { s with regs := s.regs.filter fun e => !(inPage blk u e.1) }

/-- The periodic entries of instance `i` are suspended (R464). -/
def State.suspendEntries (s : State) (i : Nat) : State :=
  let mark (t : PerTable) : PerTable :=
    { t with susp := ((List.range t.ents.length).filter fun k => eInst (t.ent k) == i || t.susp.contains k) }
  { s with seqs := s.seqs.map fun e => (e.1, { e.2 with table := mark e.2.table, next := e.2.next.map mark }) }

/-! ### Commands (R452, Table 14-1) -/

/-- The command of instance `i` ends with a status. -/
def State.cmdEnd (s : State) (i status : Nat) : State :=
  ((s.setInst i { s.inst i with cmd := 0 }).setF INST_CMD_STAT_RUNNING i 0 0).setF INST_CMD_STAT_RESULT i 0 status

/-- A command that the present state does not allow: RESULT is NOT_READY and nothing else changes (R452). -/
def State.cmdRefuse (s : State) (i : Nat) : State := s.setF INST_CMD_STAT_RESULT i 0 0x22

/-- A command that takes time has begun. -/
def State.cmdStart (s : State) (i cmd : Nat) : State :=
  (s.setInst i { s.inst i with cmd := cmd }).setF INST_CMD_STAT_RUNNING i 0 1

/-- Channels that a freeze has stopped go on, and held frames are released. -/
def State.unfreeze (s : State) (i : Nat) : State :=
  let cs := (s.inst i).frozenChans
  let s := s.setInst i { s.inst i with frozenChans := [], freezeAt := none }
  (cs.foldl State.dmaGo s).rxDrainAll

/-- Waiting work of an instance that resets ends as SQUASHED; its records are discarded (Table 13-7, Table 14-3). -/
def State.squashWaiter (s : State) (w : Waiter) : State :=
  let s := s.unwait w.inst w.fid
  if w.kind == 2 || w.kind == 3 || w.kind == 4 then
    match s.refDesc w.ref with
    | some d => s.cutDesc (w.ref % 16384) d
    | none => s
  else if w.kind == 6 then s.dmaEndParked w.ref 0x23
  else if w.kind == 7 then
    let s := (s.setWq w.ref { s.wq w.ref with fid := 0 }).setQ WQ_STAT_PARKED w.ref 0
    if s.q WQ_CFG_TYPE w.ref == 5 then s.dmaUnpark (s.q WQ_BIND_TARGET w.ref % 512) else s
  else if w.kind == 8 then (s.setCq w.ref { s.cq w.ref with fid := 0 }).setQ CQ_STAT_PARKED w.ref 0
  else if w.kind == 11 then s.setDma w.ref { s.dma w.ref with paceFid := 0 }
  else if w.kind == 12 then
    (s.setTree w.ref { s.tree w.ref with fid := 0, dirty := [] }).setF KHUB_TREE_STAT_TABLE_FAULT 0 w.ref 0
  else s

/-- Steps 1 and 2 of a reset (Table 14-3): acceptance stops, unstarted work is squashed, tasks are aborted. -/
def State.resetStart (s : State) (i : Nat) (endReady destroy : Bool) : State :=
  let x := s.inst i
  if x.resetAt.isSome then s.setInst i { x with endReady := x.endReady || endReady, destroyAfter := x.destroyAfter || destroy }
  else
    let s := if x.cmd == 3 || x.cmd == 5 || x.cmd == 6 then s.cmdEnd i 0x23 else s
    let s := s.setInst i { s.inst i with resetAt := some s.now, cut := false, endReady := endReady, destroyAfter := destroy,
                                         freezeAt := none, frozenChans := [] }
    let s := if i == 0 then s.each 64 fun s j => s.setF MBX_STAT_PEER_RESET (129 + j) 0 1
      else (s.setF INST_STAT_STATE i 0 3).setF MBX_STAT_PEER_RESET i 0 1
    let s := (s.queuesOf i).foldl (fun (s : State) q => s.cut q fun d => s.unstarted q d) s
    let s := (s.tasks.filter fun t => t.inst == i).foldl (fun (s : State) t => s.taskAbort t 0x23 0 true) s
    let s := (s.waiters.filter fun w => w.inst == i).foldl State.squashWaiter s
    s.suspendEntries i

/-- INST_CMD_START: READY to RUNNING. -/
def State.instStart (s : State) (i : Nat) : State :=
  if s.instState i == 1 && (s.inst i).cmd == 0 && i != 0 then (s.setF INST_STAT_STATE i 0 2).cmdEnd i 0 else s.cmdRefuse i

/-- RESET, from RUNNING or FROZEN; one that meets a reset under way is merged into it (Table 14-4). -/
def State.instReset (s : State) (i : Nat) : State :=
  if i == 0 then s.cmdRefuse i
  else if s.resetting i then s.resetStart i false false
  else if s.instState i == 2 || s.instState i == 4 then (s.resetStart i false false).cmdStart i 2
  else s.cmdRefuse i

/-- FREEZE (R471): acceptance stops, periodic entries are suspended, channels stop at their boundaries. -/
def State.instFreeze (s : State) (i : Nat) : State :=
  if i == 0 || s.instState i != 2 || (s.inst i).cmd != 0 then s.cmdRefuse i
  else
    let cs := (s.chansOf i).filter fun c => s.b DMA_CTL_ENABLE c && !(s.b DMA_STAT_STOP_PENDING c)
    let s := (s.setInst i { s.inst i with freezeAt := some s.now, frozenChans := cs }).cmdStart i 3
    (cs.foldl State.dmaStop s).suspendEntries i

/-- THAW (R472). -/
def State.instThaw (s : State) (i : Nat) : State :=
  if i == 0 || s.instState i != 4 || (s.inst i).cmd != 0 then s.cmdRefuse i
  else ((s.setF INST_STAT_STATE i 0 2).unfreeze i).cmdEnd i 0

/-- SAVE, of a FROZEN instance; RESTORE, into a READY one (R473). -/
def State.instImage (s : State) (i cmd : Nat) : State :=
  if i == 0 || s.instState i != (if cmd == 5 then 4 else 1) || (s.inst i).cmd != 0 then s.cmdRefuse i else s.cmdStart i cmd

/-- DESTROY: the reset runs, and the grant is released after it (R452, Table 14-4). -/
def State.instDestroy (s : State) (i : Nat) : State :=
  if i == 0 || s.instState i == 0 then s.cmdRefuse i else (s.resetStart i false true).cmdStart i 7

/-- INST_CMD is written (Table 14-9). -/
def State.instCmd (s : State) (i cmd : Nat) : State :=
  match cmd with
  | 1 => s.instStart i
  | 2 => s.instReset i
  | 3 => s.instFreeze i
  | 4 => s.instThaw i
  | 5 => s.instImage i 5
  | 6 => s.instImage i 6
  | 7 => s.instDestroy i
  | _ => s.errOn PAGE_ERR_RESERVED_ENC 0x60 i

/-- INST_CMD_START (R452). -/
def execInstCmdStart (fn inst : Nat) (s : State) : Res := .next (s.act fn 0x60 inst true fun s => s.instCmd inst 1)
/-- INST_CMD_RESET (R463). -/
def execInstCmdReset (fn inst : Nat) (s : State) : Res := .next (s.act fn 0x60 inst true fun s => s.instCmd inst 2)
/-- INST_CMD_FREEZE (R471). -/
def execInstCmdFreeze (fn inst : Nat) (s : State) : Res := .next (s.act fn 0x60 inst true fun s => s.instCmd inst 3)
/-- INST_CMD_THAW (R472). -/
def execInstCmdThaw (fn inst : Nat) (s : State) : Res := .next (s.act fn 0x60 inst true fun s => s.instCmd inst 4)
/-- INST_CMD_SAVE (R473). -/
def execInstCmdSave (fn inst : Nat) (s : State) : Res := .next (s.act fn 0x60 inst true fun s => s.instCmd inst 5)
/-- INST_CMD_RESTORE (R473). -/
def execInstCmdRestore (fn inst : Nat) (s : State) : Res := .next (s.act fn 0x60 inst true fun s => s.instCmd inst 6)
/-- INST_CMD_DESTROY (R452). -/
def execInstCmdDestroy (fn inst : Nat) (s : State) : Res := .next (s.act fn 0x60 inst true fun s => s.instCmd inst 7)

/-! ### Host events -/

/-- FLR of an instance's function (R463). A FREE instance has nothing to reset. -/
def execFlr (inst : Nat) (s : State) : Res :=
  .next (if 64 < inst || s.instState inst == 0 then s else s.resetStart inst false false)

/-- VF_ENABLE_CLEAR: the reset ends in READY (R463). -/
def execVfEnableClear (inst : Nat) (s : State) : Res :=
  .next <|
    if !(hasMbx inst) then s
    else
      let s := ({ s with fns := PMap.put s.fns inst { s.fn inst with vfEnable := false } }).setF INST_STAT_VF_ENABLED inst 0 0
      if s.instState inst == 0 then s else s.resetStart inst true false

/-- Work of an instance that waited only for Bus Master Enable is tried again (R453). -/
def State.busMaster (s : State) (i : Nat) : State :=
  let s := (s.msixFlush i).fqFlush i
  let s := (s.ringsOf i).foldl State.cqFlush s
  let s := (s.krpsOf i).foldl (fun (s : State) n => if (s.tree n).dirty.isEmpty || (s.tree n).fid != 0 then s else s.tableFlush n (s.tree n).dirty) s
  s.rxDrainAll

/-- BUS_MASTER_ENABLE_CHANGE (R453). -/
def execBusMasterEnableChange (inst : Nat) (on : Bool) (s : State) : Res :=
  .next <|
    let s := { s with fns := PMap.put s.fns inst { s.fn inst with bme := on } }
    if on then s.busMaster inst else s

/-! ### Reset (Tables 14-3 and 14-4) -/

/-- The descriptor that a channel of a ring runs is cut at its cursor. -/
def State.cutChan (s : State) (c : Nat) : State :=
  match (s.dma c).cur with
  | some d =>
    if d.src == 1 then s
    else if s.f DMA_STAT_STATE c == 6 then s.dmaEndParked c 0x23
    else
      let k := s.f DMA_CURSOR_UNITS c
      s.dmaReport c d 0x23 ((dmaBody d.bytes).bytesOf k) k
  | none => s

/-- INST_RESET_CUT: what still runs 2 ms after the trigger is cut (step 4). -/
def execInstResetCut (inst : Nat) (s : State) : Res :=
  .next <| match (s.inst inst).resetAt with
  | none => s
  | some t =>
    if s.now < t + ms 2 then s
    else
      let s := (s.chansOf inst).foldl State.cutChan (s.rsySquash inst)
      s.setInst inst { s.inst inst with cut := true }

/-- Nothing of instance `i` runs (step 5). -/
def State.nothingRuns (s : State) (i : Nat) : Bool :=
  (s.queuesOf i).all (fun q => (s.wq q).acc.isEmpty) && !(s.tasks.any fun t => t.inst == i) && !(s.ops.any fun o => o.inst == i) &&
  !(s.waiters.any fun w => w.inst == i) &&
  (s.chansOf i).all (fun c => s.f DMA_STAT_STATE c != 2 && s.f DMA_STAT_STATE c != 6)

/-- A queue of the instance after its reset: ENABLE 0, counts 0 (R465). -/
def State.wqReset (s : State) (q : Nat) : State :=
  let s := [WQ_CFG_ENABLE, WQ_IDX_HEAD, WQ_IDX_TAIL, WQ_HSEQ_HSEQ, WQ_CNT_DB_ERRS, WQ_STAT_HALTED, WQ_STAT_HALT_STATUS,
    WQ_STAT_PARKED, WQ_STAT_SEQ_ERR, WQ_STAT_DB_ERR].foldl (fun (s : State) F => s.setQ F q 0) s
  ({ s with wqs := PMap.del s.wqs q }).wqShow q

/-- A ring of the instance after its reset. -/
def State.cqReset (s : State) (c : Nat) : State :=
  let s := [CQ_CFG_ENABLE, CQ_HEAD_COUNT, CQ_TAIL_COUNT, CQ_LOST_COUNT, CQ_STAT_RESERVED_SLOTS, CQ_STAT_PARKED, CQ_STAT_ARMED,
    CQ_STAT_HEAD_ERR, CQ_STAT_OVERFLOW].foldl (fun (s : State) F => s.setQ F c 0) s
  ({ s with cqs := PMap.del s.cqs c }).cqShow c

/-- DLOG fields that a reset and an image reach: all but the manager-only ones and what shows the dirty log (R465, R473). -/
def dlogFlds : List Fld := (layoutDLOG.flatMap fun e => e.flds).filter fun F => !F.mgr && !(0x84 ≤ F.off && F.off < 0xB0) &&
  F != DLOG_SPILL_SIZE_UNITS

/-- The DLOG page after the reset of its instance (R465, Table 13-7). -/
def State.dlogReset (s : State) (i : Nat) : State :=
  let x := s.xst i
  let s := dlogFlds.foldl (fun (s : State) F => { s with regs := PMap.del s.regs (F.addr i 0) }) s
  s.setXst i { dirtyPend := x.dirtyPend, flushOf := x.flushOf, atsInvs := x.atsInvs }

/-- Every register of a grant returns to its reset value (R452). -/
def State.releaseGrant (s : State) (i : Nat) : State :=
  let keep := [INST_STAT_RESETS, INST_STAT_VF_ENABLED, INST_STAT_STATE, INST_REFUSED_COUNT, INST_CMD_STAT_RUNNING, INST_CMD_STAT_RESULT,
    INST_IMG_ADDR_ADDR].map fun F => F.addr i 0
  let s := { s with regs := s.regs.filter fun e => !(inPage 0x60 i e.1) || keep.contains e.1 || e.1 < INST_CTL_PORT.addr i 0 - 16 }
  s.setF DLOG_SPILL_SIZE_UNITS i 0 (s.f INST_MEM_SPILL i * 16384)

/-- INST_RESET_DRAINED: steps 5 and 6 (Table 14-3, R465). The end of DESTROY releases the whole grant, so it unbinds the instance's origins
as a grant commit that removes them does (R478, log entry 96). -/
def execInstResetDrained (inst : Nat) (s : State) : Res :=
  .next <|
    let x := s.inst inst
    if x.resetAt.isNone || !(s.nothingRuns inst) then s
    else
      let s := (s.dlogInv inst 0 0).irqReset inst
      let s := (s.pagesOf inst).foldl (fun (s : State) p => s.discardShadow p.1 p.2) s
      let s := { s with latch := PMap.del s.latch inst }
      let chans := s.chansOf inst
      let s := (s.queuesOf inst).foldl State.wqReset s
      let s := (s.ringsOf inst).foldl State.cqReset s
      let s := if inst == 0 then s else chans.foldl (fun (s : State) c => ({ s with dmas := PMap.del s.dmas c }).clearPage 0x50 c) s
      let s := s.dlogReset inst
      let s := if inst == 0 then s else s.setMbx inst {}
      let s := (s.clearPage 0x05 (64 + inst)).clearPage 0x05 (129 + inst)
      let s := (((s.setF WQ_RSY_HSEQ inst 0 0).setF WQ_RSY_DSEQ inst 0 0).setF WQ_RSY_STAT_QUIESCED inst 0 0).rsyShow inst
      let s := if inst == 0 then s else (s.krpsOf inst).foldl (fun (s : State) n => s.treeBase n 0) s
      let s := s.addF INST_STAT_RESETS inst 0 1
      let s := s.setInst inst { s.inst inst with resetAt := none, cut := false, endReady := false, destroyAfter := false }
      let s := if x.cmd == 2 || x.cmd == 7 then s.cmdEnd inst 0 else s
      if inst == 0 then s.irqEval
      else
        let s := s.notice inst true 0x0002 []
        let s := s.setF INST_STAT_STATE inst 0 (if x.destroyAfter then 0 else if x.endReady || !(s.fn inst).vfEnable then 1 else 2)
        if x.destroyAfter then (s.releaseGrant inst).unbindLost.irqMode else s.irqEval

/-! ### Freeze (R471) -/

/-- Instance `i` is drained: DRAINED in the sense of R267, no work on a fault, no task. -/
def State.drained (s : State) (i : Nat) : Bool :=
  (s.queuesOf i).all (fun q => (s.wq q).acc.isEmpty) &&
  !((s.ringsOf i).any fun c => !(s.cq c).held.isEmpty && !(s.qb CQ_STAT_FULL c)) &&
  !(s.waiters.any fun w => w.inst == i) && !(s.tasks.any fun t => t.inst == i) &&
  (s.chansOf i).all (fun c => s.f DMA_STAT_STATE c == 0 || s.f DMA_STAT_STATE c == 5)

/-- FREEZE_DRAINED: within 2 ms (R471). -/
def execFreezeDrained (inst : Nat) (s : State) : Res :=
  .next <| match (s.inst inst).freezeAt with
  | none => s
  | some t =>
    if s.drained inst && decide (s.now ≤ t + ms 2) then
      ((s.setInst inst { s.inst inst with freezeAt := none }).setF INST_STAT_STATE inst 0 4).cmdEnd inst 0
    else s

/-- FREEZE_TIMEOUT (R471). -/
def execFreezeTimeout (inst : Nat) (s : State) : Res :=
  .next <| match (s.inst inst).freezeAt with
  | none => s
  | some t => if t + ms 2 < s.now then (s.unfreeze inst).cmdEnd inst 0x24 else s

/-! ### Save and restore (R473) -/

/-- Bit address of the first register of WQ entry `q` and of CQ entry `c`. -/
def wqBitAt (q : Nat) : Nat := (0x58 * 2 ^ 20 + q / 64 * 2 ^ 12 + 0x100 + q % 64 * 48) * 8
def cqBitAt (c : Nat) : Nat := (0x59 * 2 ^ 20 + c / 64 * 2 ^ 12 + 0x100 + c % 64 * 32) * 8

/-- Register fields in `n` bits from `lo` on, by distance. -/
def State.regsIn (s : State) (lo n : Nat) : List (Nat × Nat) :=
  (s.regs.filter fun e => decide (lo ≤ e.1) && decide (e.1 < lo + n)).map fun e => (e.1 - lo, e.2)
/-- Put register fields at `lo`. -/
def State.putRegs (s : State) (lo : Nat) (fs : List (Nat × Nat)) : State :=
  { s with regs := fs.foldl (fun r e => PMap.put r (lo + e.1) e.2) s.regs }

/-- Bindings of a queue, which an image does not hold: TYPE, WQ_BIND, WQ_SCHED. -/
def isBinding (k : Nat) : Bool := k == 80 || (96 ≤ k && k < 160)

/-- Device numbers of the local queues, rings and channels of instance `i`. -/
def rangeAll (rs : List (Nat × Nat)) : List Nat := rs.flatMap fun r => (List.range r.2).map fun k => r.1 + k
/-- The shares of an instance, stook by stook. -/
def State.sbufsOf (s : State) (i : Nat) : List Nat := (List.range 8).map fun k => s.f INST_SBUF_UNITS i k

/-- The content of an image of instance `i` (R473). -/
def State.saved (s : State) (i : Nat) : Saved :=
  let cells (lo n : Nat) : List (Nat × BitVec 8) :=
    (s.mem.filter fun c => decide (lo ≤ c.1) && decide (c.1 < lo + n)).map fun c => (c.1 - lo, c.2)
  { queues := (rangeAll (s.wqRanges i)).map fun q => ((s.regsIn (wqBitAt q) 384).filter fun e => !(isBinding e.1), s.wq q)
    rings := (rangeAll (s.cqRanges i)).map fun c => (s.regsIn (cqBitAt c) 256, s.cq c)
    chans := (s.chansOf i).map fun c => (s.regsIn (pageLo 0x50 c) 32768, s.dma c)
    dlog := dlogFlds.map fun F => (F.addr 0 0, s.f F i)
    xl := s.xst i
    mbx := s.mbx i
    hseq := s.f WQ_RSY_HSEQ i
    dseq := s.f WQ_RSY_DSEQ i
    mem := cells (devAt i 0) (s.devBytes i)
    sbuf := (List.range 8).flatMap fun k => (cells (sbufAt i k 0) (s.sbufBytes i k)).map fun c => (k, c.1, c.2)
    dev := s.f INST_MEM_DEV i
    sbufs := s.sbufsOf i
    frozen := (List.range (s.chansOf i).length).filter fun k => (s.inst i).frozenChans.contains ((s.chansOf i).getD k 512) }

/-- The bytes of a grant's shape over which SHAPE_CRC runs: counts of queues, rings and channels, DEV, SBUF. -/
def shapeBytes (x : Saved) : List (BitVec 8) :=
  leBytes 4 x.queues.length ++ leBytes 4 x.rings.length ++ leBytes 4 x.chans.length ++ leBytes 4 x.dev ++ x.sbufs.flatMap (leBytes 4)

/-- The image: the header of Table 14-7 and the opaque content. -/
def imageBytes (x : Saved) : List (BitVec 8) :=
  let body := Config.imageSeal x
  leBytes 2 0x494D ++ leBytes 2 1 ++ leBytes 4 (crc32c (shapeBytes x)) ++ leBytes 8 (64 + body.length) ++ leBytes 8 (x.dev * 2 ^ 21) ++
  leBytes 4 (crc32c body) ++ leBytes 36 0 ++ body

/-- SAVE_DONE: the image is written in the manager's space (R473); the command goes on while a translation must be waited for. -/
def execSaveDone (inst : Nat) (s : State) : Res :=
  .next <|
    if (s.inst inst).cmd != 5 then s
    else match s.writeV 0 (s.f INST_IMG_ADDR_ADDR inst) (imageBytes (s.saved inst)) with
      | .ok s => s.cmdEnd inst 0
      | .error e => if e.reason == 0 then s else (s.useUp 0 e).cmdEnd inst 0x20

/-- The image's grant has the shape of instance `i`'s (R473). -/
def State.sameShape (s : State) (i : Nat) (x : Saved) : Bool :=
  (rangeAll (s.wqRanges i)).length == x.queues.length && (rangeAll (s.cqRanges i)).length == x.rings.length &&
  (s.chansOf i).length == x.chans.length && decide (x.dev ≤ s.f INST_MEM_DEV i) && s.sbufsOf i == x.sbufs

/-- Take over the content of an image. -/
def State.restore (s : State) (i : Nat) (x : Saved) : State :=
  let s := ((rangeAll (s.wqRanges i)).zip x.queues).foldl (fun (s : State) e => (s.putRegs (wqBitAt e.1) e.2.1).setWq e.1 e.2.2) s
  let s := ((rangeAll (s.cqRanges i)).zip x.rings).foldl (fun (s : State) e => (s.putRegs (cqBitAt e.1) e.2.1).setCq e.1 e.2.2) s
  let s := ((s.chansOf i).zip x.chans).foldl (fun (s : State) e => (s.putRegs (pageLo 0x50 e.1) e.2.1).setDma e.1 e.2.2) s
  let s := (dlogFlds.zip x.dlog).foldl (fun (s : State) e => s.setF e.1 i 0 e.2.2) s
  let s := ((s.setXst i x.xl).setMbx i x.mbx).setF WQ_RSY_HSEQ i 0 x.hseq
  let s := s.setF WQ_RSY_DSEQ i 0 x.dseq
  let s := s.setInst i { s.inst i with frozenChans := x.frozen.map fun k => (s.chansOf i).getD k 512 }
  let s := x.mem.foldl (fun (s : State) c => s.setByte (devAt i c.1) c.2) s
  x.sbuf.foldl (fun (s : State) c => s.setByte (sbufAt i c.1 c.2.1) c.2.2) s

/-- What RESTORE reads, if it is an image with a right header and CRC. -/
def State.imageAt? (s : State) (va : Nat) : Except XErr (Option Saved) :=
  match s.readV 0 va 64 with
  | .error e => .error e
  | .ok h =>
    let n := leAt h 8 8
    if leAt h 0 2 != 0x494D || leAt h 2 1 != 1 || n < 64 then .ok none
    else match s.readV 0 (va + 64) (n - 64) with
      | .error e => .error e
      | .ok body => .ok (if crc32c body == leAt h 24 4 then Config.imageOpen body else none)

/-- RESTORE_DONE: into FROZEN, or PROTOCOL_ERROR and READY (R473). -/
def execRestoreDone (inst : Nat) (s : State) : Res :=
  .next <|
    if (s.inst inst).cmd != 6 then s
    else match s.imageAt? (s.f INST_IMG_ADDR_ADDR inst) with
      | .error e => if e.reason == 0 then s else (s.useUp 0 e).cmdEnd inst 0x20
      | .ok none => s.cmdEnd inst 0x11
      | .ok (some x) =>
        if s.sameShape inst x then ((s.restore inst x).setF INST_STAT_STATE inst 0 4).cmdEnd inst 0 else s.cmdEnd inst 0x11

end Sys2Proof.Machine
end

