-- ==== Sys2Proof/Machine/Reserve.lean ====
section
/-! DEFINITION. Reserve capacity, wear and fault containment: takeover, retirement, winnowing and their records (chapter 16). -/
namespace Sys2Proof.Machine

/-! ### Counts of Table 16-1 -/

/-- Reserve pages left of stack `u` (R21). -/
def memRsv (u : Nat) : Fld :=
  if u == 0 then DEV_MEM_RSV01_M0 else if u == 1 then DEV_MEM_RSV01_M1 else if u == 2 then DEV_MEM_RSV23_M2 else DEV_MEM_RSV23_M3

/-- Spare translation-cache banks: of stook `u` for `u` below 8, of the second level of die `u - 8` above (Table 16-1). -/
def State.banksLeft (s : State) (u : Nat) : Nat := PMap.get s.rsv.banks u (if u < 8 then 1 else 2)

/-- Reserve left in the scope of a unit (Table 16-1). The spare rows of an array are four. -/
def State.rsvLeft (s : State) (kind u : Nat) : Nat :=
  if kind == 1 then s.f SHF_STAT_RESERVE_LEFT u
  else if kind == 2 then s.f PWR_DOM_STAT_PHASE_RSV (1 + u)
  else if kind == 3 then PMap.get s.rsv.rows u 4
  else if kind == 4 then s.f (memRsv u)
  else if kind == 5 then bits (s.f SAGE_RSV_SLICES) (3 * (u / 6)) 3
  else if kind == 6 then bits (s.f SAGE_RSV_CRYPTO) (2 * u) 2
  else if kind == 7 then s.banksLeft u
  else if kind == 8 then s.f SAGE_RSV_TRNG
  else if kind == 9 then s.f SAGE_RSV_SAGE_PAIR
  else if kind == 10 then popcount 2 (s.f SAGE_RSV_LINKS) - 1
  else 0

/-- One reserve unit of a scope leaves the reserve: the counts of Table 16-1 fall. -/
def State.rsvUse (s : State) (kind u : Nat) : State :=
  let n := s.rsvLeft kind u - 1
  if kind == 1 then
    (s.setF SHF_STAT_RESERVE_LEFT u 0 n).setF STK_STAT_RESERVE_LEFT (u / 8) 0 (s.f STK_STAT_RESERVE_LEFT (u / 8) - 1)
  else if kind == 2 then s.setF PWR_DOM_STAT_PHASE_RSV (1 + u) 0 n
  else if kind == 3 then
    { s with rsv := { s.rsv with rows := PMap.put s.rsv.rows u n } }.setF SAGE_RSV_SRAM_ROWS 0 0 (s.f SAGE_RSV_SRAM_ROWS - 1)
  else if kind == 4 then s.setF (memRsv u) 0 0 n
  else if kind == 5 then s.setF SAGE_RSV_SLICES 0 0 (setBits (s.f SAGE_RSV_SLICES) (3 * (u / 6)) 3 n)
  else if kind == 6 then s.setF SAGE_RSV_CRYPTO 0 0 (setBits (s.f SAGE_RSV_CRYPTO) (2 * u) 2 n)
  else if kind == 7 then
    let die := if u < 8 then u / 4 else u - 8
    { s with rsv := { s.rsv with banks := PMap.put s.rsv.banks u n } }.setF DTU_STAT_RSV_BANKS die 0 (s.f DTU_STAT_RSV_BANKS die - 1)
  else if kind == 8 then s.setF SAGE_RSV_TRNG 0 0 0
  else if kind == 9 then s.setF SAGE_RSV_SAGE_PAIR 0 0 0
  else if kind == 10 then s.setF SAGE_RSV_LINKS 0 0 (clrBit (s.f SAGE_RSV_LINKS) (u % 2))
  else s

/-- A unit returns to the reserve from repair (R501): the count rises. -/
def State.rsvReturn (s : State) (kind u : Nat) : State :=
  let n := s.rsvLeft kind u + 1
  if kind == 1 then
    (s.setF SHF_STAT_RESERVE_LEFT u 0 n).setF STK_STAT_RESERVE_LEFT (u / 8) 0 (s.f STK_STAT_RESERVE_LEFT (u / 8) + 1)
  else if kind == 2 then s.setF PWR_DOM_STAT_PHASE_RSV (1 + u) 0 n
  else if kind == 3 then
    { s with rsv := { s.rsv with rows := PMap.put s.rsv.rows u n } }.setF SAGE_RSV_SRAM_ROWS 0 0 (s.f SAGE_RSV_SRAM_ROWS + 1)
  else if kind == 4 then s.setF (memRsv u) 0 0 n
  else if kind == 5 then s.setF SAGE_RSV_SLICES 0 0 (setBits (s.f SAGE_RSV_SLICES) (3 * (u / 6)) 3 n)
  else if kind == 6 then s.setF SAGE_RSV_CRYPTO 0 0 (setBits (s.f SAGE_RSV_CRYPTO) (2 * u) 2 n)
  else if kind == 7 then
    let die := if u < 8 then u / 4 else u - 8
    { s with rsv := { s.rsv with banks := PMap.put s.rsv.banks u n } }.setF DTU_STAT_RSV_BANKS die 0 (s.f DTU_STAT_RSV_BANKS die + 1)
  else if kind == 8 then s.setF SAGE_RSV_TRNG 0 0 1
  else if kind == 9 then s.setF SAGE_RSV_SAGE_PAIR 0 0 1
  else if kind == 10 then s.setF SAGE_RSV_LINKS 0 0 (setBit (s.f SAGE_RSV_LINKS) (u % 2))
  else s

/-- A unit of the domain has been loaded from golden state: a new generation number (R507), the next one. -/
def State.newGen (s : State) (d : Nat) : State := if 1 ≤ d && d ≤ 50 then s.addF PWR_DOM_GEN_GEN d 0 1 else s

/-- Write a reserve record (R510, Tables 16-6 and 16-7). -/
def State.rsvRecord (s : State) (code : Nat) (w : Worn) (cause : Nat) : State :=
  s.glnReserve code w.kind w.dom w.unit (s.f PWR_DOM_GEN_GEN w.dom) (s.rsvLeft w.kind w.unit) cause

/-- The units that a nomination or a fault of kind 1 to 11 may name. -/
def wornOk (kind dom u : Nat) : Bool :=
  1 ≤ kind && kind ≤ 11 && 1 ≤ dom && dom ≤ 50 &&
  (if kind == 1 then decide (u < 64) else if kind == 2 then decide (u < 8) else if kind == 4 then decide (u < 4)
   else if kind == 5 then decide (u < 24) else if kind == 6 || kind == 10 then decide (u < 2)
   else if kind == 7 then decide (u < 10) else true)

/-- BLK_ERR.RSV_EXHAUSTED of a stack on the DEV page (R21). -/
def State.memSpent (s : State) (u : Nat) : State :=
  s.setF (hd PAGE_ERR_WORD 0x01) 0 0 (setBit (s.f (hd PAGE_ERR_WORD 0x01)) (DEV_ERR_RSV_EXHAUSTED.lo + u))

/-- Two reports concern one unit. -/
def Worn.same (a b : Worn) : Bool := a.kind == b.kind && a.unit == b.unit && a.place == b.place

/-- A unit has no reserve left: RESERVE_EXHAUSTED, once for each unit (R497, R506). -/
def State.rsvExhausted (s : State) (w : Worn) (cause : Nat) : State :=
  if s.rsv.told.contains (w.kind, w.unit, w.place) then s
  else
    let s := { s with rsv := { s.rsv with told := s.rsv.told ++ [(w.kind, w.unit, w.place)] } }
    let s := if w.kind == 2 then s.err PWRD_ERR_PHASE_EXHAUSTED (1 + w.unit)
             else if w.kind == 4 then s.memSpent w.unit else s
    s.rsvRecord 0xF3 w cause

/-- Nominate a unit for retirement (R497): it stays in service; where no reserve is left, one RESERVE_EXHAUSTED record tells. -/
def State.nominate (s : State) (w : Worn) : State :=
  if s.rsvLeft w.kind w.unit == 0 then s.rsvExhausted w w.cause
  else if s.rsv.noms.any w.same then s
  else { s with rsv := { s.rsv with noms := s.rsv.noms ++ [w] } }

/-- The pages of a unit that is fenced with no unit to take over (R494, R506): a quad's, a MACsec block's, the RNG page. -/
def wornPages (kind u : Nat) : List Nat :=
  if kind == 5 then
    pageOf 0x70 u :: ([0x30, 0x31, 0x40, 0x41, 0x42].flatMap fun blk => (List.range 4).map fun j => pageOf blk (4 * u + j))
  else []

/-- A quad loses its slice with nothing to take over: its links go down (R106, R299, R506). -/
def State.quadDown (s : State) (q : Nat) : State :=
  s.each 4 fun s j =>
    let n := 4 * q + j
    if s.quadMode q == 1 then (if s.lstate n == 0 || s.krpCovered n || s.hubPort n then s else s.linkTo n 1)
    else if s.quadMode q == 2 then (s.emacDown n true false (Config.choice s.draws)).bump
    else s

/-- The slice of quad `q` fails while a spare one is to take over: what its ports have on the wire is ended as errored (R503). -/
def State.quadCut (s : State) (q : Nat) : State :=
  s.each 4 fun s j =>
    let n := 4 * q + j
    if s.quadMode q == 1 then s.wireCut n else if (s.emac n).flight.isSome then s.emit (.errored true n) else s

/-- A unit is fenced for good and nothing takes over (R506). -/
def State.rsvLost (s : State) (w : Worn) : State :=
  let s := { s with fenced := s.fenced ++ (wornPages w.kind w.unit).filter fun p => !(s.fenced.contains p) }
  let s := if w.kind == 5 then s.quadDown w.unit else s
  s.rsvExhausted w w.cause

/-- Mark a unit failed in the repair map (R501). -/
def State.markFailed (s : State) (kind u place : Nat) : State :=
  let rest := s.rsv.failed.filter fun f => !(f.kind == kind && f.unit == u && f.place == place)
  { s with rsv := { s.rsv with failed := rest ++ [{ kind := kind, unit := u, place := place, boot := s.boot.number }] } }

/-- A takeover may run: the reserve units have been winnowed (R599). -/
def State.rsvServes (s : State) : Bool := s.f DEV_SERVICE_SERVICE == 2

/-- A permanent fault (R502, R506): the unit is fenced and a takeover starts, or waits until full service; with no reserve left the
unit is lost. A stook's rail runs on the other phases, a sheaf on the other places, meanwhile (R506, R528): that a sheaf offers 15 places from the
failure of a tiller to TAKEOVER_RESUME, a reserve tiller being left, is a DESIGN CHOICE (log entry 66): R506 gives 15 where no reserve is left. -/
def State.fault (s : State) (w : Worn) : State :=
  let s := { s with rsv := { s.rsv with noms := s.rsv.noms.filter fun x => !(x.same w) } }
  let s := s.markFailed w.kind w.unit w.place
  let s := if w.kind == 1 then { s with placesOut := PMap.put s.placesOut w.unit (min 16 (PMap.get s.placesOut w.unit 0 + 1)) }
           else if w.kind == 2 then
             ({ s with power := { s.power with limited := s.power.limited.filter (fun k => k != w.unit) ++ [w.unit] } }.setF
                PWR_DOM_STAT_PHASES_OK (1 + w.unit) 0 (s.f PWR_DOM_STAT_PHASES_OK (1 + w.unit) - 1)).satF
                PWR_DOM_CNT_PHASE_THR_COUNT (1 + w.unit) 0 1
           else s
  let waiting : Nat := (s.rsv.takes.filter fun x => x.kind == w.kind && s.rsvLeft x.kind x.unit != 0 && x.unit == w.unit).length
  if s.rsvLeft w.kind w.unit ≤ waiting then s.rsvLost w
  else
    let s := { s with rsv := { s.rsv with takes := s.rsv.takes ++ [{ w with at_ := s.now }] } }
    if s.rsvServes then (if w.kind == 5 then s.quadCut w.unit else s)
    else
      let s := { s with fenced := s.fenced ++ (wornPages w.kind w.unit).filter fun p => !(s.fenced.contains p) }
      if w.kind == 5 then s.quadDown w.unit else s

/-- What comes into service with a reserve unit: the slice that serves the quad, the pair of Sage cores, an empty cache bank, the other
die-to-die link, the place of a sheaf, the phase of a rail. -/
def State.rsvIn (s : State) (w : Worn) (fenced : Bool) : State :=
  let s := s.rsvUse w.kind w.unit
  let pages := wornPages w.kind w.unit
  let s := { s with fenced := s.fenced.filter fun p => !(pages.contains p) }
  let s :=
    if w.kind == 1 && fenced then { s with placesOut := PMap.put s.placesOut w.unit (PMap.get s.placesOut w.unit 0 - 1) }
    else if w.kind == 2 then
      (let s := { s with power := { s.power with limited := s.power.limited.filter fun k => k != w.unit } }
       if fenced then s.addF PWR_DOM_STAT_PHASES_OK (1 + w.unit) 0 1 else s)
    else if w.kind == 5 then
      (let s := s.setF SRDS_STAT_RESERVE_SLICE w.unit 0 1
       if fenced then s.each 4 fun s j => (s.txResend (4 * w.unit + j)).wireAgain (4 * w.unit + j) w.at_ else s)
    else if w.kind == 7 && fenced then { s.bump with tlb := s.tlb.filter fun e => e.die != (if w.unit < 8 then w.unit / 4 else w.unit - 8) || Config.choice (s.draws + e.va / 4096) }
    else if w.kind == 8 then
      (let free := (List.range 4).filter fun k => bit s.boot.trng k && !(bit (s.f RNG_STAT_SRC_OK) k)
       match free with
       | k :: _ => s.setF RNG_STAT_SRC_OK 0 0 (setBit (s.f RNG_STAT_SRC_OK) k)
       | [] => s)
    else if w.kind == 9 then s.setF SAGE_STAT_PAIR 0 0 1
    else s
  s.newGen w.dom

/-! ### Commands -/

/-- Transients and corrections of a unit kept within the time they count for: one hour, or 24 hours for an SRAM row (Table 16-2). -/
def State.transOf (s : State) (w : Worn) : List Worn :=
  let span := if w.kind == 3 || w.kind == 4 then sec 86400 else sec 3600
  s.rsv.trans.filter fun x => !(x.same w) || w.kind == 4 || decide (s.now < x.at_ + span)

/-- A transient fault or a correction (R496, R497, R21): the one repeats the work and leaves a CHECK_REPEAT record; a row's fourth
correction within 24 hours, a page's second, a TRNG source's intermittent health-test failure and a unit's third transient within the hour
nominate it. -/
def State.transient (s : State) (w : Worn) : State :=
  let s := { s with rsv := { s.rsv with trans := s.transOf w ++ [{ w with at_ := s.now }] } }
  let n : Nat := (s.rsv.trans.filter fun x => x.same w).length
  let most : Nat := if w.kind == 3 then 4 else if w.kind == 4 then 2 else if w.kind == 8 then 1 else 3
  let s := if w.kind == 3 || w.kind == 4 then s else s.rsvRecord 0xF4 w 1
  if n < most then s
  else
    let s := { s with rsv := { s.rsv with trans := s.rsv.trans.filter fun x => !(x.same w) } }
    s.nominate { w with cause := if w.kind == 3 || w.kind == 4 then 3 else if w.kind == 8 then 6 else 4, at_ := s.now }

/-- A TRNG source fails a health test for good: it goes out of service and the reserve one is to come in (R601, Table 16-4). -/
def State.trngFail (s : State) (source : Nat) : State :=
  let s := (s.satF RNG_STAT_HEALTH_FAILS 0 0 1).err RNG_ERR_HEALTH 0
  let s := { s with boot := { s.boot with trng := clrBit s.boot.trng source } }
  let w : Worn := { kind := 8, dom := 45, unit := 0, place := source, cause := 6 }
  if bit (s.f RNG_STAT_SRC_OK) source then (s.setF RNG_STAT_SRC_OK 0 0 (clrBit (s.f RNG_STAT_SRC_OK) source)).fault w
  else (s.rsvUse 8 0).markFailed 8 0 source

/-- A block goes on with one copy, unchecked (R495); a lost pseudo-channel leaves the same record for its stack (R511). -/
def State.degrade (s : State) (w : Worn) (key : Nat) : State :=
  if s.rsv.degraded.contains key then s
  else { s with rsv := { s.rsv with degraded := s.rsv.degraded ++ [key] } }.rsvRecord 0xF6 w 1

/-- The lines of stack `u` are lost (R19): each byte that lies on it holds a free value. Stook buffers are not device memory. -/
def State.stackLost (s : State) (u : Nat) : State :=
  let gone := s.mem.filter fun (c : Host.Cell) => decide (2 ^ 70 ≤ c.1) && c.1 / 2 ^ 70 != 2 && Config.stackOf c.1 % 4 == u
  (gone.foldl (fun (s : State) c => s.setByte c.1 (Config.freeByte s.draws c.1)) s).bump

/-- The loss of a pseudo-channel loses no data and leaves a DEGRADED record for its stack (R19, R511); that of the whole stack, or of one more
pseudo-channel, for which R19 promises nothing, loses the stack's lines. -/
def State.channelLost (s : State) (w : Worn) (whole : Bool) : State :=
  let key := 2 ^ 40 + 2 ^ 20 * w.dom + w.unit % 2 ^ 20
  let before := s.rsv.degraded.filter fun k => k / 2 ^ 20 == 2 ^ 20 + w.dom
  let t := if before.isEmpty then s.degrade { w with kind := 4, unit := w.dom - 37 } key
    else if before.contains key then s else { s with rsv := { s.rsv with degraded := s.rsv.degraded ++ [key] } }
  if whole || before.any (fun k => k != key) then t.stackLost (w.dom - 37) else t

/-- FAULT_DETECT: a check fails in a unit in service (R494, R496, R502, R511). A memory page whose line had to be reconstructed is retired
as R21 says; kind 11 with a memory stack's domain is the loss of pseudo-channel `unit`, or with `place` other than 0 of the whole stack. -/
def execFaultDetect (kind dom unit place : Nat) (transient : Bool) (s : State) : Res :=
  .next <|
    let w : Worn := { kind := kind, dom := dom, unit := unit, place := place, cause := 1 }
    if !(wornOk kind dom unit) || !(s.domOn dom) || s.boot.phase == 0 then s
    else if kind == 8 && (3 < place || !(bit s.boot.trng place)) then s
    else if transient then (if kind == 3 && dom ≤ 8 then s.count (bankStook (dom - 1)) 0x82 0 none
      else if kind == 4 then s.count (bankStack unit) 0x1C2 0 none else if kind == 8 then (s.satF RNG_STAT_HEALTH_FAILS 0 0 1).err RNG_ERR_HEALTH 0 else s).transient w
    else if kind == 8 then s.trngFail place
    else if kind == 4 then s.nominate { w with cause := 3, at_ := s.now }
    else if kind == 11 then
      (if 37 ≤ dom && dom ≤ 40 then s.channelLost w (place != 0) else s.degrade w unit)
    else s.fault w

/-- DUAL_COPY_MISMATCH: both copies reload the last checkpoint and repeat, which changes nothing; the third mismatch in one block within 1
ms is a permanent fault (R495). -/
def execDualCopyMismatch (blk unit : Nat) (s : State) : Res :=
  .next <|
    let key := pageOf blk unit
    let d := domainOf blk unit
    if !(unitListed blk unit) || !(s.domOn d) || s.boot.phase == 0 || s.rsv.degraded.contains key then s
    else
      let old := s.rsv.mism.filter fun x => decide (s.now < x.2 + ms 1)
      let s := { s with rsv := { s.rsv with mism := old ++ [(key, s.now)] } }
      if (old.filter fun x => x.1 == key).length < 2 then s
      else
        ({ s with rsv := { s.rsv with mism := s.rsv.mism.filter fun x => x.1 != key } }).degrade
          { kind := 11, dom := d, unit := blk * 4096 + unit } key

/-- Steps 2 to 4 of Table 16-3 for the first fenced unit of a kind and scope. A phase leaves no record: the throttle count is its only
trace (Table 16-4). -/
def State.takeover (s : State) (kind u : Nat) : State :=
  match s.rsv.takes.find? fun w => w.kind == kind && w.unit == u with
  | none => s
  | some w =>
    if !(s.rsvServes) then s
    else
      let s := { s with rsv := { s.rsv with takes := s.rsv.takes.erase w } }
      if s.rsvLeft kind u == 0 then s.rsvLost w
      else if kind == 2 then s.rsvIn w true
      else (s.rsvIn w true).rsvRecord 0xF0 w w.cause

/-- TAKEOVER_RESUME: the reserve unit is ready and work resumes on it (R502). -/
def execTakeoverResume (kind unit : Nat) (s : State) : Res := .next (s.takeover kind unit)

/-- RETIRE: a nominated unit reaches a quiet point (R498). -/
def execRetire (kind unit : Nat) (s : State) : Res :=
  .next <| match s.rsv.noms.find? fun w => w.kind == kind && w.unit == unit with
  | none => s
  | some w =>
    if !(s.rsvServes) then s
    else if s.rsvLeft kind unit == 0 then
      ({ s with rsv := { s.rsv with noms := s.rsv.noms.erase w } }).rsvExhausted w w.cause
    else
      let s := ({ s with rsv := { s.rsv with noms := s.rsv.noms.erase w } }).rsvIn w false
      let s := s.rsvRecord 0xF1 w w.cause
      if kind == 4 && s.rsvLeft 4 unit == 0 then s.memSpent unit else s

/-- AGEING_SAMPLE: every 10 s, the units whose oscillator has slowed by 5 % or more are nominated (Table 16-2): kind, domain, unit and
place. -/
def execAgeingSample (slow : List (Nat × Nat × Nat × Nat)) (s : State) : Res :=
  .next <| if s.boot.phase == 0 || s.now < s.rsv.ageAt + sec 10 then s
  else
    let s := { s with rsv := { s.rsv with ageAt := s.now } }
    slow.foldl (fun (s : State) x =>
      if (x.1 == 1 || x.1 == 5 || x.1 == 6 || x.1 == 9) && wornOk x.1 x.2.1 x.2.2.1 && s.domOn x.2.1 then
        s.nominate { kind := x.1, dom := x.2.1, unit := x.2.2.1, place := x.2.2.2, cause := 2, at_ := s.now }
      else s) s

/-- PHASE_CURRENT_SAMPLE: every 1 ms; a phase whose share stays outside ±25 % of the mean for 1 s is nominated (Table 16-2). -/
def execPhaseCurrentSample (outside : List (Nat × Nat)) (s : State) : Res :=
  .next <| if s.boot.phase == 0 || s.now < s.rsv.phaseAt + ms 1 then s
  else
    let since (k p : Nat) : Nat := ((s.rsv.phaseOut.find? fun x => x.1 == k && x.2.1 == p).map fun x => x.2.2).getD s.now
    let out := (outside.filter fun x => decide (x.1 < 8) && decide (x.2 < 14)).map fun x => (x.1, x.2, since x.1 x.2)
    let s := { s with rsv := { s.rsv with phaseAt := s.now, phaseOut := out } }
    out.foldl (fun (s : State) x =>
      if x.2.2 + sec 1 ≤ s.now then s.nominate { kind := 2, dom := 1 + x.1, unit := x.1, place := x.2.1, cause := 5, at_ := s.now }
      else s) s

/-- WINNOW_TIMER: WINNOW_H hours have passed since the last winnowing (R499). -/
def execWinnowTimer (s : State) : Res :=
  .next <| if !(s.rsvServes) || s.now < s.rsv.winnowAt + sec (3600 * s.f SAGE_WINNOW_WINNOW_H) then s
  else { s with rsv := { s.rsv with winnowAt := s.now, winnowing := true } }

/-- WINNOW_DONE: a unit's winnowing ends (R499, R501): in a start-up, or after a WINNOW_TIMER. A reserve unit that fails is marked failed;
a failed unit that passes at three consecutive start-ups rejoins the reserve. -/
def execWinnowDone (kind unit place : Nat) (passed : Bool) (s : State) : Res :=
  .next <|
    let starting := s.boot.phase == 3
    let dom := if kind == 1 then 1 + unit / 8 else if kind == 2 then 1 + unit else if kind == 4 then 37 + unit
               else if kind == 5 then 9 + unit else if kind == 6 then 41 + unit
               else if kind == 7 then (if unit < 8 then 1 + unit else 35 + unit) else if kind == 10 then 49 + unit else 45
    let w : Worn := { kind := kind, dom := dom, unit := unit, place := place, cause := 7 }
    if !(wornOk kind dom unit) || !(starting || s.rsv.winnowing) then s
    else match s.rsv.failed.find? fun f => f.kind == kind && f.unit == unit && f.place == place with
      | some f =>
        if !starting || f.boot == s.boot.number then s
        else
          let rest := s.rsv.failed.erase f
          let n := if passed then (if f.boot + 1 == s.boot.number || f.passes == 0 then f.passes + 1 else 1) else 0
          if 3 ≤ n then ({ s with rsv := { s.rsv with failed := rest } }).rsvReturn kind unit
          else { s with rsv := { s.rsv with failed := rest ++ [{ f with passes := n, boot := s.boot.number }] } }
      | none =>
        if passed || s.rsvLeft kind unit == 0 then s
        else ((s.rsvUse kind unit).markFailed kind unit place).rsvRecord 0xF2 w 7

/-- TILLER_FAILURE: the tiller that holds a task fails (R381, R502, R506): the task replays from its last checkpoint, and a reserve tiller
is to take the place over. -/
def execTillerFailure (sheaf seq : Nat) (s : State) : Res :=
  .next <| match s.taskOf sheaf seq with
  | none => s
  | some t =>
    if t.phase != 1 then s
    else
      let place := s.draws
      (s.fault { kind := 1, dom := 1 + sheaf / 8, unit := sheaf, place := place, cause := 1 }).bump.replay t

end Sys2Proof.Machine
end

