-- ==== Sys2Proof/Machine/Host.lean ====
section
/-! DEFINITION. Host ports: their links and the reset that PERST_N, or a commit of HOST_CTL, brings (chapter 20). -/
namespace Sys2Proof.Machine

/-- The lead host port (R588). -/
def State.leadPort (s : State) : Nat := s.f DEV_STRAPS_LEAD_HOST

/-- The link that presents the port's function is up. -/
def State.hostUp (s : State) (p : Nat) : Bool :=
  if s.b HOST_CTL_ACTIVE p && s.b HOST_CTL_SPLIT p then s.b HOST_STAT_LINK_B_UP p else s.b HOST_STAT_LINK_A_UP p

/-- The links of host port `p` go down: a link-down event where the active one was up (Table 20-14). -/
def State.hostDown (s : State) (p : Nat) : State :=
  let s := if s.hostUp p then (s.satF HOST_CNT_DOWN_COUNT p 0 1).err HOST_ERR_LINK_DOWN p else s
  let s := ((s.setF HOST_STAT_LINK_A_UP p 0 0).setF HOST_STAT_LINK_B_UP p 0 0).setF HOST_STAT_FLIT p 0 0
  (s.setF HOST_STAT_SPEED p 0 0).setF HOST_STAT_WIDTH p 0 0

/-- The reset of a host port's functions (R589): its links go down and each instance whose PORT it is is reset to end in READY; with the
lead port the manager's function is reset as well. -/
def State.hostReset (s : State) (p : Nat) : State :=
  let s := s.hostDown p
  let s := s.each 65 fun s i => if i != 0 && s.f INST_CTL_PORT i == p && s.instState i != 0 then s.resetStart i true false else s
  if s.leadPort == p then s.resetStart 0 false false else s

end Sys2Proof.Machine
end

