-- ==== Sys2Proof/Machine/Chain.lean ====
section
/-! DEFINITION. The Drueg chain port: frames, walks, levels (chapter 19). What a WAKE does is left to its caller. -/
namespace Sys2Proof.Machine

/-- Type of a chain frame (Table 19-2). -/
def cType (f : List (BitVec 8)) : Nat := leAt f 3 1
def cDst (f : List (BitVec 8)) : Nat := leAt f 0 1
def cLvl (f : List (BitVec 8)) : Nat := leAt f 2 1
def cLen (f : List (BitVec 8)) : Nat := leAt f 4 1
/-- Payload byte `k` of a chain frame. -/
def cArg (f : List (BitVec 8)) (k : Nat) : Nat := leAt f (8 + k) 1

/-- A received frame is whole: LEN is at most 64 and its CRC holds (R564). -/
def chainOk (f : List (BitVec 8)) : Bool :=
  decide (12 ≤ f.length) && decide (cLen f ≤ 64) && f.length == 12 + cLen f &&
  leAt f (8 + cLen f) 4 == crc32c (f.take (8 + cLen f))

/-- TYPE values of Table 19-2: base frames, and MSG with the level-gated types. -/
def chainBase (ty : Nat) : Bool := 1 ≤ ty && ty ≤ 5
def chainGated (ty : Nat) : Bool := ty == 0x10 || (0x40 ≤ ty && ty ≤ 0x7F)

/-- Time that a frame of `n` bytes, CRC included, occupies the pair (R562, R564). -/
def chainTime (n : Nat) : Nat := ns (800 * (3 + n))

def State.isHead (s : State) : Bool := s.b DEV_STRAPS_DCH_HEAD
def State.chainAddr (s : State) : Nat := s.f DCH_STAT_ADDR
def State.setChain (s : State) (c : Chain) : State := { s with chain := c }

/-- The effective level: the lower of LVL_OWN and LVL_CAP (R566). -/
def State.effLvl (s : State) : Nat := min (s.f DCH_STAT_LVL_OWN) (s.f DCH_CTL_LVL_CAP)

/-! ### Sending -/

/-- Send the frames that wait on one pair, once the frame or beat being sent has ended; 2 µs without transitions follow a frame (R562, R563,
R574). -/
def State.chainPump (s : State) (up : Bool) : State :=
  let c := s.chain
  match (if up then c.upQ else c.downQ) with
  | [] => s
  | f :: fs =>
    if s.now < (if up then c.upEnd else c.downEnd) then s
    else
      let t := s.now + chainTime f.length
      let c := if up then { c with upQ := fs, upEnd := t + us 2, upTx := t } else { c with downQ := fs, downEnd := t + us 2, downTx := t }
      (s.setChain c).emit (.chain up f)

/-- Put a frame on one pair: it is sent at once, or waits for the frame being sent (R563, R574). -/
def State.chainPut (s : State) (up : Bool) (f : List (BitVec 8)) : State :=
  let c := s.chain
  (s.setChain (if up then { c with upQ := c.upQ ++ [f] } else { c with downQ := c.downQ ++ [f] })).chainPump up

/-- Pass a received frame on, bit by bit (R565). -/
def State.chainPass (s : State) (up : Bool) (f : List (BitVec 8)) : State := s.chainPut up f

/-- A frame of this unit: header, payload, CRC (Table 19-1). SEQ counts for every frame. -/
def State.chainSend (s : State) (up : Bool) (dst lvl ty : Nat) (payload : List (BitVec 8)) : State :=
  let h := leBytes 1 dst ++ leBytes 1 s.chainAddr ++ leBytes 1 lvl ++ leBytes 1 ty ++ leBytes 1 payload.length ++
    leBytes 1 s.chain.seq ++ leBytes 2 0
  let f := h ++ payload
  ({ s with chain := { s.chain with seq := (s.chain.seq + 1) % 256 } }).chainPut up (f ++ leBytes 4 (crc32c f))

/-- An address lies upstream: it is lower than the unit's own. For a unit past the end of the chain every address does (R566). -/
def State.chainUp (s : State) (dst : Nat) : Bool :=
  if s.chainAddr == 0 then !(s.isHead) else decide (dst < s.chainAddr)

/-- Send toward an address; 0xFF goes in both directions, as one frame with one SEQ (R565). -/
def State.chainTo (s : State) (dst lvl ty : Nat) (payload : List (BitVec 8)) : State :=
  if dst == 0xFF then
    let q := s.chain.seq
    let s := s.chainSend true dst lvl ty payload
    ({ s with chain := { s.chain with seq := q } }).chainSend false dst lvl ty payload
  else s.chainSend (s.chainUp dst) dst lvl ty payload

/-! ### Walks (R566 to R569) -/

/-- Take an address. -/
def State.takeAddr (s : State) (a : Nat) : State :=
  { s.setF DCH_STAT_ADDR 0 0 a with chain := { s.chain with hadAddr := s.chain.hadAddr || a != 0 } }

/-- The type of a frame is above level `l`: MSG is of level 1, and the image states the level of the gated types (R571). -/
def State.typeAbove (s : State) (l : Nat) (f : List (BitVec 8)) : Bool :=
  (cType f == 0x10 && l == 0) || (0x40 ≤ cType f && !(Config.typeAllowed (s.f SAGE_IMG_VER_VERSION) (cType f) l))

/-- A frame of this unit that waits is sent at the chain level `l` (R571). -/
def State.frameAt (s : State) (l : Nat) (f : List (BitVec 8)) : List (BitVec 8) :=
  if chainGated (cType f) && leAt f 1 1 == s.chainAddr then
    let h := f.take 2 ++ leBytes 1 l ++ (f.drop 3).take (f.length - 7)
    h ++ leBytes 4 (crc32c h)
  else f

/-- Apply a chain level (R571): where it is lower, frames of types above it that wait are discarded; for 1 ms frames of the old level are
accepted. -/
def State.applyLvl (s : State) (l : Nat) : State :=
  let old := s.f DCH_STAT_LVL
  let bad (f : List (BitVec 8)) : Bool := decide (l < old) && s.typeAbove l f
  let keep (q : List (List (BitVec 8))) : List (List (BitVec 8)) := (q.filter fun f => !(bad f)).map (s.frameAt l)
  let c := s.chain
  let n := ((c.upQ ++ c.downQ).filter bad).length
  let t := { s.setF DCH_STAT_LVL 0 0 l with
    chain := { c with lvlAt := some s.now, lvlOld := old, upQ := keep c.upQ, downQ := keep c.downQ } }
  if n == 0 then t else (t.satF DCH_CNT_LVL_COUNT 0 0 n).err DCH_ERR_LVL_DROP 0

/-- The walk under way ends: a further one runs where a trigger came meanwhile. `go` starts it. -/
def State.walkOver (s : State) (go : State → State) : State :=
  let again := s.chain.again
  let s := { s.setF DCH_STAT_WALKING 0 0 0 with chain := { s.chain with walkAt := none, again := false } }
  if again then go s else s

/-- The head has the result of a walk: COUNT, and the chain level, which it broadcasts (R566, R571). -/
def State.walkResult (s : State) (count lvl : Nat) (overflow : Bool) : State :=
  let s := if count < s.f DCH_STAT_COUNT then s.err DCH_ERR_CHAIN_BREAK 0 else s
  let s := (s.setF DCH_STAT_COUNT 0 0 count).setF DCH_STAT_OVERFLOW 0 0 (b2n overflow)
  (s.chainSend false 0xFF 0 0x03 (leBytes 1 lvl)).applyLvl lvl

/-- The head starts a walk (R566): alone on the chain it is the last unit as well. -/
def State.walkGo (s : State) : State :=
  let s := s.takeAddr 1
  if !(s.b DCH_STAT_DOWN_LINK) then s.walkResult 1 s.effLvl false
  else
    let s := { s.setF DCH_STAT_WALKING 0 0 1 with chain := { s.chain with walkAt := some s.now } }
    s.chainSend false 0 0 0x01 (leBytes 1 1 ++ leBytes 1 s.effLvl)

/-- A trigger of a walk (R567): ignored on a unit that is not the head; during a walk one further walk follows. -/
def State.walkStart (s : State) : State :=
  if !(s.isHead) then s
  else if s.chain.walkAt.isSome then { s with chain := { s.chain with again := true } }
  else s.walkGo

/-- Send JOIN upstream (R567). At the head there is no one to send it to, and the trigger is its own. -/
def State.join (s : State) : State :=
  if s.isHead then s else s.chainSend true 1 0 0x04 []

/-- WALK from upstream (R566, R569). -/
def State.walkIn (s : State) (f : List (BitVec 8)) : State :=
  if s.isHead then s.err DCH_ERR_TWO_HEADS 0
  else
    let a := cArg f 0 + 1
    let lvl := min (cArg f 1) s.effLvl
    if 32 < a then
      let s := (s.takeAddr 0).setF DCH_STAT_OVERFLOW 0 0 1
      s.chainSend true 1 0 0x02 (leBytes 1 32 ++ leBytes 1 lvl ++ leBytes 1 1)
    else
      let s := (s.takeAddr a).setF DCH_STAT_OVERFLOW 0 0 0
      if s.b DCH_STAT_DOWN_LINK then s.chainSend false 0 0 0x01 (leBytes 1 a ++ leBytes 1 lvl)
      else s.chainSend true 1 0 0x02 (leBytes 1 a ++ leBytes 1 lvl ++ leBytes 1 0)

/-- WALK_END at the head (R566). -/
def State.walkEndIn (s : State) (f : List (BitVec 8)) : State :=
  if s.chain.walkAt.isNone then s
  else (s.walkResult (cArg f 0) (cArg f 1) (bit (cArg f 2) 0)).walkOver State.walkGo

/-! ### Receiving (R564, R565, R571, R574) -/

/-- What the page shows of the receive queue. -/
def State.rxShow (s : State) : State :=
  let q := s.chain.rx
  (s.setF DCH_RX_STAT_PENDING 0 0 q.length).setF DCH_RX_DATA 0 0 (match q with
    | [] => 0
    | f :: _ => leNat (f.take (f.length - 4)))

/-- A MSG or level-gated frame for this unit (R574). -/
def State.msgIn (s : State) (f : List (BitVec 8)) : State :=
  if 8 ≤ s.chain.rx.length then s.satF DCH_CNT_RX_DROP_COUNT 0 0 1
  else (({ s with chain := { s.chain with rx := s.chain.rx ++ [f] } }).rxShow).err DCH_ERR_RX_MSG 0

/-- The level of a frame is acceptable: 0, the chain level or, for 1 ms after a new one was applied, the old one (R571). -/
def State.lvlOk (s : State) (f : List (BitVec 8)) : Bool :=
  cLvl f == 0 || cLvl f == s.f DCH_STAT_LVL || (cLvl f == s.chain.lvlOld && s.chain.lvlAt.any fun t => decide (s.now < t + ms 1))

/-- A received frame; `wake` is what a WAKE taken by the unit does. -/
def State.chainIn (s : State) (fromUp : Bool) (f : List (BitVec 8)) (wake : State → State) : State :=
  let s := { s with chain := (if fromUp then { s.chain with upRx := s.now } else { s.chain with downRx := s.now }) }
  let ty := cType f
  if !(chainOk f) then s.satF DCH_CNT_CRC_COUNT 0 0 1
  else if !(chainBase ty || chainGated ty) || !(s.lvlOk f) then s.satF DCH_CNT_LVL_COUNT 0 0 1
  else if ty == 0x01 then (if fromUp then s.walkIn f else s)
  else
    let a := s.chainAddr
    let mine := cDst f == 0xFF || (a != 0 && cDst f == a) || (s.isHead && cDst f == 1)
    let pass := !(mine && cDst f != 0xFF) && s.b (if fromUp then DCH_STAT_DOWN_LINK else DCH_STAT_UP_LINK)
    let s := if pass then s.chainPass (!fromUp) f else s
    if !mine then s
    else if ty == 0x02 then (if s.isHead then s.walkEndIn f else s)
    else if ty == 0x03 then s.applyLvl (cArg f 0 % 16)
    else if ty == 0x04 then s.walkStart
    else if ty == 0x05 then wake s
    else s.msgIn f

/-- A commit of LVL_CAP, or a new image, changes the effective level: JOIN (R567, R572). -/
def State.lvlChanged (s : State) (old : Nat) : State :=
  if s.effLvl == old then s else if s.isHead then s.walkStart else s.join

/-- Drain both pairs (for the passage of time). -/
def State.chainTick (s : State) : State := (s.chainPump true).chainPump false

end Sys2Proof.Machine
end

