-- ==== Sys2Proof/Machine/Commit.lean ====
section
/-! DEFINITION. Commits of register pages (chapter 2) and what each block does at one: the checks that keep or clamp fields, and the
effects of the values that come into force. -/
namespace Sys2Proof.Machine

/-- Give a field another value in the shadow: the one that the commit applies. -/
def State.reshadow (s : State) (F : Fld) (u i v : Nat) : State := { s with shadow := PMap.put s.shadow (F.addr u i) (v % 2 ^ F.w) }

/-- Keep fields of a page, given with their entries, at their old values. -/
def State.keep (s : State) (u : Nat) (fs : List (Fld × Nat)) : State := fs.foldl (fun (s : State) x => s.unshadow x.1 u x.2) s

/-- One of the fields is in the shadow. -/
def State.holds (s : State) (u : Nat) (fs : List (Fld × Nat)) : Bool := fs.any fun x => (s.shadowed x.1 u x.2).isSome

/-- One of the fields would change. -/
def State.changes (s : State) (u : Nat) (fs : List (Fld × Nat)) : Bool := fs.any fun x => s.willChange x.1 u x.2

/-- Entry 0 of each field, or entries 0 to `n - 1`. -/
def ones (fs : List Fld) : List (Fld × Nat) := fs.map fun F => (F, 0)
def arrays (n : Nat) (fs : List Fld) : List (Fld × Nat) := fs.flatMap fun F => (List.range n).map fun i => (F, i)

/-- A committed field differs from what it was. -/
def State.moved (s old : State) (F : Fld) (u : Nat) (i : Nat := 0) : Bool := s.f F u i != old.f F u i

/-! ### Quads and KPB ports (R23, R115 to R117) -/

/-- Quad `q` is in hub role: its HUB_ROLE with MODE 0b01 (Table 03-14). -/
def State.hubQuad (s : State) (q : Nat) : Bool := s.b SRDS_CTL_HUB_ROLE q && s.quadMode q == 1

/-- A KRP or EMAC page of quad `q` is enabled, or the EMAC page of an 800G port that takes in its lanes (R24, R115). -/
def State.quadBusy (s : State) (q : Nat) : Bool :=
  ((List.range 4).any fun k => s.b KRP_CTL_ENABLE (4 * q + k) || s.b EMAC_CTL_ENABLE (4 * q + k)) ||
  (q % 2 == 1 && s.b EMAC_CTL_ENABLE (4 * (q - 1)) && s.f EMAC_CFG_TYPE (4 * (q - 1)) == 6 && s.quadMode (q - 1) == 2)

/-- R115: each of the two cases sets its bit. HUB_ROLE is applied only with MODE 0b01 (Table 03-14). -/
def State.vetSrds (s : State) (q : Nat) : State :=
  let fs := ones [SRDS_CTL_MODE, SRDS_CTL_HUB_ROLE]
  let s := if s.nextVal SRDS_CTL_MODE q != 1 && s.nextVal SRDS_CTL_HUB_ROLE q == 1 then s.reshadow SRDS_CTL_HUB_ROLE q 0 0 else s
  let taken := s.nextVal SRDS_CTL_HUB_ROLE q == 1 && !(s.hubQuad q) && (List.range 24).any fun k => k != q && s.hubQuad k
  let s := if s.changes q fs && s.quadBusy q then (s.keep q fs).err SRDS_ERR_MODE_BUSY q else s
  if taken then (if s.nextVal SRDS_CTL_HUB_ROLE q == 1 then s.reshadow SRDS_CTL_HUB_ROLE q 0 0 else s).err SRDS_ERR_HUB_TAKEN q else s

/-- KHUB_HR_STAT names the quad in hub role. -/
def State.hubShow (s : State) : State :=
  let q := (List.range 24).find? s.hubQuad
  (s.setF KHUB_HR_STAT_ACTIVE 0 0 (b2n q.isSome)).setF KHUB_HR_STAT_QUAD 0 0 (q.getD 0)

/-- A quad whose mode or role changes starts with no hub state. -/
def State.afterSrds (s old : State) (q : Nat) : State :=
  if s.moved old SRDS_CTL_HUB_ROLE q || s.moved old SRDS_CTL_MODE q then { s.hubShow with hub := {} } else s

/-- The widest width code that R23 and the lanes in use allow port `n`. -/
def State.widthAllowed (s : State) (n : Nat) : Nat :=
  let on (k : Nat) : Bool := s.b KRP_CTL_ENABLE (n + k)
  if n % 2 == 1 || on 1 then 0 else if n % 4 != 0 || on 2 || on 3 then 1 else 2

/-- Apply at most `most` of a field, with CLAMPED where that is less than committed. -/
def State.clamp (s : State) (F E : Fld) (u most : Nat) : State :=
  if most < s.nextVal F u then (s.reshadow F u 0 most).err E u else s

/-- R116. -/
def State.vetKrp (s : State) (n : Nat) : State :=
  let s := s.clamp KRP_CTL_WIDTH_MAX KRP_ERR_CLAMPED n (s.widthAllowed n)
  let s := s.clamp KRP_CTL_MIN_WIDTH KRP_ERR_CLAMPED n (s.nextVal KRP_CTL_WIDTH_MAX n)
  s.clamp KRP_CTL_MIN_RATE KRP_ERR_CLAMPED n (s.nextVal KRP_CTL_RATE_MAX n)

/-- R117, R153, R229, R610. -/
def State.afterKrp (s old : State) (n : Nat) : State :=
  let s := if s.moved old KRP_CTL_ENABLE n then s.linkEnable n (s.b KRP_CTL_ENABLE n) else s
  let s := if 5 ≤ s.lstate n && s.lstate n ≤ 7 then
      (let below := decide (s.f KRP_STAT_WIDTH n < s.f KRP_CTL_MIN_WIDTH n) || decide (s.f KRP_STAT_RATE n < s.f KRP_CTL_MIN_RATE n)
       if below || (s.moved old KRP_CTL_LPM_EN n && !(s.b KRP_CTL_LPM_EN n)) then s.linkUp n else s)
    else s
  let s := if s.hubRole n && s.moved old KRP_CTL_UP_READY n then (s.hportBit 4 1 (s.b KRP_CTL_UP_READY n)).upUnready n else s
  let s := if decide (4 ≤ s.lstate n) then s.belowMin n else s
  (s.overload n).seqUpdate n

/-! ### Sequencers (R209, R214, R215, R236) -/

/-- The table fields name the candidate. -/
def State.namesCand (s : State) (n : Nat) : Bool :=
  s.b KSCH_ADM_STAT_CAND_VALID n && s.nextVal KSCH_TBL_BASE_ADDR n == s.f KSCH_CAND_BASE_ADDR n &&
  s.nextVal KSCH_TBL_LEN_LEN n == s.f KSCH_CAND_LEN_LEN n

def State.vetKsch (s : State) (n : Nat) : State :=
  let s := if s.nextVal KSCH_CTL_CLOCK n == 1 then s else s.clamp KSCH_FLEN_MIN KSCH_ERR_CLAMPED n (s.nextVal KSCH_FLEN_MAX n)
  let fs := ones [KSCH_TBL_BASE_ADDR, KSCH_TBL_LEN_LEN]
  if !(s.holds n fs) then s
  else if s.nextVal KSCH_TBL_LEN_LEN n == 0 || s.namesCand n then s
  else (s.keep n fs).err KSCH_ERR_NOT_ADMITTED n

def State.afterKsch (s old : State) (n : Nat) (tbl : Bool) : State :=
  let s :=
    if !tbl then s
    else if old.namesCand n then (match (s.sq n).cand with
      | some c => s.takeCand n c
      | none => s)
    else ((s.setSq n { s.sq n with next := some {}, portGone := false }).overload n).perUpdate
  let s := (s.overload n).seqUpdate n
  if s.moved old KSCH_CTL_ENABLE n && !(s.b KSCH_CTL_ENABLE n) then s.abandonFrame n else s

/-! ### References, compare units, pins, time (R157, R168, R179, R180, R192, R186, R189) -/

/-- A reference goes on from its whole count, with fraction and velocity 0, under another source or input (R157). -/
def State.handover (s old : State) (p : Nat) : State :=
  let whole : Int := Int.fdiv (old.position p) 65536
  let quad := s.f PREF_CTL_SRC p == 1
  let d := s.draws
  let lv (k : Nat) : Bool := if quad then Config.choice (d + k) else false
  let s := { s with draws := if quad then d + 3 else d }
  let s := (s.setPref p { lvA := lv 0, lvB := lv 1, lvZ := lv 2, lo := whole, hi := whole, stillAt := s.now,
                          homing := s.f PREF_CTL_INDEX_MODE p == 2, hostRate := (s.pref p).hostRate }).place p (whole * 65536)
  let s := if s.f PREF_CTL_SRC p == 4 then s.setF PREF_STAT_DIR p 0 0 else s
  let s := [PREF_STAT_STANDSTILL, PREF_STAT_STUCK_A, PREF_STAT_STUCK_B, PREF_STAT_INDEX_MISSING, PREF_STAT_SRC_LOST,
    PREF_STAT_HOMED].foldl (fun (s : State) F => s.setF F p 0 0) (s.reliable p)
  let s := s.settleUnits p
  s.seqs.foldl (fun (s : State) e => if (s.sq e.1).pref == p then s.setSq e.1 { s.sq e.1 with prev := s.position p, far := none } else s) s

def State.afterPref (s old : State) (p : Nat) : State :=
  let s := { s with pcus := (old.noticeMotion p).pcus, seqs := (old.noticeMotion p).seqs }
  let src := s.f PREF_CTL_SRC p
  if s.moved old PREF_CTL_SRC p || (src == 1 && s.moved old PREF_CTL_QIN p) then s.handover old p
  else
    let s := if src == 4 && s.moved old PREF_TIME_DIV_NS p then s.place p (old.position p) else s
    if s.moved old PREF_CTL_INDEX_MODE p && s.f PREF_CTL_INDEX_MODE p == 2 then s.setPref p { s.pref p with homing := true } else s

def State.vetPcu (s : State) (u : Nat) : State :=
  if s.nextVal PCU_CTL_MODE u == 1 && s.nextVal PCU_CTL_DIR u == 3 && s.nextVal PCU_INTERVAL_STEP u != 0 then
    (s.keep u (ones [PCU_CTL_DIR, PCU_INTERVAL_STEP])).errOn PAGE_ERR_RESERVED_ENC 0x21 u
  else s

def State.afterPcu (s old : State) (u : Nat) : State :=
  let moved (fs : List Fld) : Bool := fs.any fun F => s.moved old F u
  let s' := if moved [PCU_CTL_MODE, PCU_CTL_PREF] then s.abandonPos u else s
  if !(s'.b PCU_STAT_ARMED u) then s'
  else if s'.f PCU_CTL_MODE u == 0 then s'.disarm u
  else if moved [PCU_CTL_MODE, PCU_CTL_PREF, PCU_TGT_TGT, PCU_TGT_SEC_SEC, PCU_INTERVAL_STEP] then s'.loadTarget u
  else s'

/-- R192. Pin actions placed before stay placed. -/
def State.afterTrg (s old : State) (t : Nat) : State :=
  let start := s.b TRG_CTL_OE t && s.moved old TRG_CTL_OE t
  if start then (s.setPin t { s.pin t with level := false, pulse := none }).drivePin t
  else if s.moved old TRG_CTL_ACTIVE_LOW t && (s.pin t).active then
    (s.setPin t { level := false, pulse := none, lastEnd := if (s.pin t).pulse.isSome then some s.now else (s.pin t).lastEnd }).drivePin t
  else s.drivePin t

/-- A change of discipline ends what REF had under way; PPS_OUT waits for the next whole second (R185, R186, R189). -/
def State.afterTime (s old : State) : State :=
  let s := if s.moved old TIME_CTL_PPS_OUT_EN 0 then { s with tm := { s.tm with ppsSec := s.devTime / sec 1 } } else s
  if s.moved old TIME_CTL_MODE 0 then
    (({ s with tm := { s.tm with good := 0, slew := 0, acc := 0 } }).setF TIME_STAT_LOCKED 0 0 0).setF TIME_STAT_HOLDOVER 0 0 0
  else s

/-! ### Ethernet (R296, R300, R346, R361, R340, R358) -/

/-- Lane signalling of a port type: 25.78125 GBd NRZ, 26.5625 GBd PAM4, 53.125 GBd PAM4 (Table 09-1). -/
def emacSignal (ty : Nat) : Nat := min ty 3

/-- Table 09-1 lists the medium and the FEC for the type. -/
def emacMedium (ty medium fec : Nat) : Bool :=
  if ty == 1 then medium != 1 && fec ≤ 1 else if ty == 2 then medium != 1 && fec == 2 else fec == 2

/-- First lanes that a type allows (Table 09-1). -/
def emacFirst (ty n : Nat) : Bool := if ty == 4 then n % 2 == 0 else if ty == 5 then n % 4 == 0 else if ty == 6 then n % 8 == 0 else true

def State.vetEmac (s : State) (n : Nat) : State :=
  let fs := ones [EMAC_CFG_TYPE, EMAC_CFG_MEDIUM, EMAC_CFG_FEC, EMAC_CFG_AN_EN]
  let ty := s.nextVal EMAC_CFG_TYPE n
  let others := (List.range 4).map (fun k => n / 4 * 4 + k) |>.filter fun m => m != n
  let mixed := others.any fun m => s.b EMAC_CTL_ENABLE m && emacSignal (s.f EMAC_CFG_TYPE m) != emacSignal ty
  let taken := (List.range (emacLanes ty)).any fun k => k != 0 && s.b EMAC_CTL_ENABLE (n + k)
  let bad := mixed || taken || !(emacFirst ty n) || (ty == 6 && s.quadMode (n / 4 + 1) != 2) ||
    !(emacMedium ty (s.nextVal EMAC_CFG_MEDIUM n) (s.nextVal EMAC_CFG_FEC n)) ||
    (s.changes n fs && s.nextVal EMAC_CTL_ENABLE n == 1)
  if s.holds n fs && bad then (s.keep n fs).err EMAC_ERR_CFG_CONFLICT n else s

def State.afterEmac (s old : State) (n : Nat) : State :=
  let s := if s.moved old EMAC_CTL_ENABLE n && !(s.b EMAC_CTL_ENABLE n) then s.emacOff n else s
  let s := if s.moved old EMAC_CTL_DOWN_DROP n then s.txDown n else s
  let s := s.each 8 fun s c =>
    if s.moved old EMAC_TC_RATE_RATE n c || s.moved old EMAC_TC_RATE_BURST n c then
      s.setEmac n { s.emac n with buckets := PMap.put (s.emac n).buckets c (s.bucketCap n c, s.now) } else s
  let s := if s.b EMAC_LSX_LPM_EN n && s.moved old EMAC_LSX_LPM_EN n then s.setEmac n { s.emac n with lpmDead := false } else s
  let off := !(s.b EMAC_LSX_LPM_EN n) && s.moved old EMAC_LSX_LPM_EN n
  if off || decide (s.f EMAC_STAT_LANES n < s.f EMAC_LSX_MIN_LANES n) then (if s.b EMAC_STAT_LINK_UP n then s.emacWiden n else s) else s

/-- Units of 4 KiB that the MACs of stook `k`'s quads hold as receive shares, with `n` at `units`. -/
def State.rxShares (s : State) (k n units : Nat) : Nat :=
  ((List.range 12).map fun j => let m := 12 * k + j
    if m == n then units else if s.absent 0x41 m then 0 else s.f EFLT_RXSHARE_UNITS m).sum

/-- Units of 4 KiB that instances hold of stook `k`'s buffer. -/
def State.instShares (s : State) (k : Nat) : Nat := ((List.range 65).map fun i => s.f INST_SBUF_UNITS i k).sum

def State.vetEflt (s : State) (n : Nat) : State :=
  let awake := ((List.range 96).filter fun m => m != n && s.b EFLT_CTL_WAKE_EN m && !(s.absent 0x41 m)).length
  let s := if s.nextVal EFLT_CTL_WAKE_EN n == 1 && !(s.b EFLT_CTL_WAKE_EN n) && decide (4 ≤ awake) then
      (s.unshadow EFLT_CTL_WAKE_EN n).err EFLT_ERR_WAKE_REFUSED n else s
  let fs := ones [EFLT_RXSHARE_UNITS, EFLT_FC_MARK_XOFF, EFLT_FC_MARK_XON]
  if !(s.holds n fs) then s
  else
    let units := s.nextVal EFLT_RXSHARE_UNITS n
    let all := s.rxShares (n / 12) n units
    let over_ := decide (2048 < all) || decide (2560 < all + s.instShares (n / 12)) || decide (units * 4096 < 2 * s.f EMAC_MTU_MTU n)
    let xoff := s.nextVal EFLT_FC_MARK_XOFF n
    let mark := decide (xoff ≤ s.nextVal EFLT_FC_MARK_XON n) || decide (units * 4096 < xoff * 256)
    let s := if over_ || mark then s.keep n fs else s
    let s := if over_ then s.err EFLT_ERR_SHARE_OVER n else s
    if mark then s.err EFLT_ERR_MARK_BAD n else s

/-- EM_DATA as one word (R361). -/
def State.emWord (s : State) : Nat :=
  [EFLT_EM_DATA_RXQ_MASK, EFLT_EM_DATA_ACTION, EFLT_EM_DATA_VALID, EFLT_EM_DATA_ANY_PORT, EFLT_EM_DATA_PORT, EFLT_EM_DATA_ADDR].foldl
    (fun x F => x + s.f F 96 * 2 ^ F.lo) 0

def State.afterEflt (s : State) (n : Nat) : State :=
  if n == 96 then { s with em := PMap.putD 0 s.em (s.f EFLT_EM_SEL_INDEX 96) s.emWord } else s.pauseUpdate n

def State.vetEstr (s : State) (n point : Nat) : State :=
  if n != 96 || !(s.willChange ESTR_BANK_SEL_ACTIVE 96) then s
  else
    let busy := s.b ESTR_LOAD_STAT_RUNNING 96 || (List.range 96).any fun m => s.b ESTR_STAT_DRAINING m
    let s' := if point == 1 || busy then s.unshadow ESTR_BANK_SEL_ACTIVE 96 else s
    let s' := if point == 1 then s'.err ESTR_ERR_SWAP_NOW 96 else s'
    if busy then s'.err ESTR_ERR_SWAP_BUSY 96 else s'

def State.afterEstr (s old : State) (n : Nat) : State :=
  if n == 96 then
    (if s.moved old ESTR_BANK_SEL_ACTIVE 96 then
      (s.emacs.map (·.1)).foldl (fun (s : State) m =>
        if (s.emac m).drain.isSome then s else s.drainStart m (old.f ESTR_BANK_SEL_ACTIVE 96) (old.keyOf m)) s
    else s)
  else (s.each 8 fun s p => if s.moved old ESTR_RXQ_INST n p then s.rxMixed n p else s).rxDrain n

def State.vetMsec (s : State) (n : Nat) : State :=
  s.each 4 fun s c =>
    let k := 4 * c + s.nextVal MSEC_TXSC_CTL_ENC_AN n c
    if s.willChange MSEC_TXSC_CTL_ENC_AN n c &&
        (!(bit (s.nextVal MSEC_SA_USE_IN_USE n) k) || bit (s.f MSEC_TX_EXH_EXHAUSTED n) k) then
      (s.unshadow MSEC_TXSC_CTL_ENC_AN n c).err MSEC_ERR_AN_REFUSED n else s

/-- A new threshold has not been passed yet (R357). -/
def State.afterMsec (s old : State) (n : Nat) : State :=
  s.each 4 fun s c => if s.moved old MSEC_TXSC_THRESH_PN n c then
    s.each 4 fun s a => s.setSec n (4 * c + a) { s.secAt n (4 * c + a) with told := false } else s

/-! ### Stooks and sheaves (R384, R387, R429) -/

def State.vetStk (s : State) (k : Nat) : State :=
  let fs := (List.range 65).map fun i => (STK_TC_RSV_ENTRIES, i)
  if decide (192 < ((List.range 65).map fun i => s.nextVal STK_TC_RSV_ENTRIES k i).sum) && s.holds k fs then
    (s.keep k fs).err STK_ERR_RSV_OVER k else s

def State.vetShf (s : State) (h : Nat) : State :=
  let s := s.each 4 fun s k =>
    let fs := [(SHF_HOOK_VALID, k), (SHF_HOOK_SLOT, k), (SHF_HOOK_INST, k)]
    let slot := s.nextVal SHF_HOOK_SLOT h k
    let mine := match PMap.find s.progs (h * 32 + slot) with
      | some p => p.inst == s.nextVal SHF_HOOK_INST h k
      | none => false
    if s.holds h fs && s.nextVal SHF_HOOK_VALID h k == 1 && !(mine && decide (16 ≤ slot)) then
      (s.reshadow SHF_HOOK_VALID h k 0).err SHF_ERR_HOOK_BAD h else s
  let fs := arrays 65 [SHF_SHARE_PRIO_MAX, SHF_SHARE_WEIGHT, SHF_SHARE_BURST, SHF_SHARE_MIN_TILLERS, SHF_SHARE_SLOTS] ++
    ones [SHF_CFG_PER_SLOTS, SHF_CFG_STREAM_ORDER, SHF_CFG_PREEMPT_EN, SHF_CFG_POLICY]
  let mins := ((List.range 65).map fun i => s.nextVal SHF_SHARE_MIN_TILLERS h i).sum
  if s.holds h fs && (decide (15 < mins) || decide (4096 < s.nextVal SHF_CFG_PER_SLOTS h)) then (s.keep h fs).err SHF_ERR_SHARE_OVER h
  else s

/-- The level that SHF_PRIO gives a task by its source (Table 11-1). -/
def State.srcPrio (s : State) (h : Nat) (t : Task) : Nat :=
  if t.src == 0 then s.f SHF_PRIO_PER_PRIO h else if t.src == 1 then s.f SHF_PRIO_RX_PRIO h else if t.src == 2 then s.f SHF_PRIO_BULK_PRIO h
  else if t.src == 3 then s.f SHF_PRIO_TX_PRIO h else if t.src == 4 then s.f SHF_PRIO_EV_PRIO h else t.prio

/-- The deadline of a task under new deadline fields (R370, Table 11-1). -/
def State.srcDl (s old : State) (h : Nat) (t : Task) : Deadline :=
  let k : Int := (s.f SHF_DL_PER_DL_FRAMES h : Int) - old.f SHF_DL_PER_DL_FRAMES h
  let q := s.sq (t.stream % 2 ^ 24 / 4096)
  if t.src == 0 then (match t.dl with
    | .time x => .time ((x : Int) + k * q.longest).toNat
    | .pos p x => .pos p (x + k * q.pitch)
    | .none => .none)
  else if t.src ≤ 4 then (match t.dl with
    | .time x => .time (x + us (s.f SHF_DL_EV_DL_US h) - us (old.f SHF_DL_EV_DL_US h))
    | d => d)
  else t.dl

/-- A commit of the order and its fields acts on ready tasks too (R370). -/
def State.afterShf (s old : State) (h : Nat) : State :=
  let ts := s.tasks.map fun t => if t.sheaf == h && (t.phase == 0 || t.phase == 2) then
    { t with prio := s.srcPrio h t, dl := s.srcDl old h t } else t
  ({ s with tasks := ts }).tskShow h

/-! ### Translation (R435, R448 to R450) -/

def State.vetDlog (s : State) (i point : Nat) : State :=
  let s := if s.willChange DLOG_LOG_CTL_ACTIVE i && point == 1 then (s.unshadow DLOG_LOG_CTL_ACTIVE i).err DLOG_ERR_SWAP_NOW i else s
  let fs := ones [DLOG_FQ_BASE_ADDR, DLOG_FQ_BASE_HOST, DLOG_FQ_BASE_VALID]
  if s.changes i fs && s.f DLOG_FQ_STAT_WAITING i != 0 then (s.keep i fs).err DLOG_ERR_FQ_ERR i else s

def State.afterDlog (s old : State) (i : Nat) : State :=
  let moved (fs : List Fld) : Bool := fs.any fun F => s.moved old F i
  let inv := moved [DLOG_ROOT_ADDR, DLOG_ROOT_HOST, DLOG_ROOT_VALID, DLOG_ICTL_PRI_EN, DLOG_ICTL_ATS_EN, DLOG_ICTL_PASID_EN,
    DLOG_ICTL_PASID, DLOG_SPILL_VA_VA, DLOG_SPILL_VA_VALID]
  let fresh := s.moved old DLOG_FQ_BASE_VALID i && s.b DLOG_FQ_BASE_VALID i
  let swap := s.moved old DLOG_LOG_CTL_ACTIVE i
  let s := if inv then s.dlogInv i 0 0 else s
  let s := if fresh then
      ((s.setF DLOG_FQ_HEAD_COUNT i 0 0).setF DLOG_FQ_TAIL_COUNT i 0 0).setXst i { s.xst i with fqCount := 0 } else s
  let s := s.fqFlush i
  if swap then (s.setXst i { s.xst i with flushOf := some (s.f DEV_EPOCH_EPOCH) }).setF DLOG_LOG_STAT_FLUSHING i 0 1 else s

/-! ### Grants (R454 to R458, R64, R541) -/

/-- The grant fields of an INST page. -/
def grantFlds : List (Fld × Nat) :=
  ones [INST_CTL_PORT, INST_CTL_VF, INST_MEM_SPILL, INST_MEM_DEV, INST_IRQ_SOURCES, INST_KRP_MAP_BITS, INST_EMAC_MAP_BITS] ++
  arrays 4 [INST_WQ_RANGE_COUNT, INST_WQ_RANGE_FIRST, INST_CQ_RANGE_COUNT, INST_CQ_RANGE_FIRST, INST_GLN_MAP_BITS,
    INST_MSEC_VALID, INST_MSEC_SC_MASK, INST_MSEC_EMAC] ++
  arrays 8 [INST_SBUF_UNITS, INST_DMA_MAP_BITS] ++
  arrays 32 [INST_KSTREAM_VALID, INST_KSTREAM_EP_OUT, INST_KSTREAM_EP_IN, INST_KSTREAM_ADDR, INST_KSTREAM_CTRL, INST_KSTREAM_ROOT]

def aliasFlds : List (Fld × Nat) := (List.range 208).map fun k => (INST_ALIAS, k)

/-- The state as the commit of instance `i`'s shadow would leave its registers. -/
def State.wouldBe (s : State) (i : Nat) : State :=
  let es := s.shadow.filter fun e => inPage 0x60 i e.1
  { s with regs := es.foldl (fun m e => PMap.put m e.1 e.2) s.regs }

/-- Two ranges of device numbers meet. -/
def meets (a b : Nat × Nat) : Bool := a.2 != 0 && b.2 != 0 && decide (a.1 < b.1 + b.2) && decide (b.1 < a.1 + a.2)

/-- Some range of one list meets one of another. -/
def meetsAny (xs ys : List (Nat × Nat)) : Bool := xs.any fun a => ys.any fun b => meets a b

/-- Ranges of one instance that meet each other. -/
def selfMeets : List (Nat × Nat) → Bool
  | [] => false
  | a :: rest => (rest.any fun b => meets a b) || selfMeets rest

/-- A stream grant: ROOT, ADDR, CTRL, EP_IN and EP_OUT of each VALID entry. -/
def State.streams (s : State) (i : Nat) : List (Nat × Nat × Nat × Nat × Nat) :=
  ((List.range 32).filter fun k => s.b INST_KSTREAM_VALID i k).map fun k =>
    (s.f INST_KSTREAM_ROOT i k, s.f INST_KSTREAM_ADDR i k, s.f INST_KSTREAM_CTRL i k, s.f INST_KSTREAM_EP_IN i k, s.f INST_KSTREAM_EP_OUT i k)

/-- Channels granted on ports: port and mask of each VALID INST_MSEC entry. -/
def State.secGrants (s : State) (i : Nat) : List (Nat × Nat) :=
  ((List.range 4).filter fun k => s.b INST_MSEC_VALID i k).map fun k => (s.f INST_MSEC_EMAC i k, s.f INST_MSEC_SC_MASK i k)

/-- An exclusive resource of instance `i`'s new grant is another's (R454, R455). -/
def State.grantConflict (s : State) (i : Nat) : Bool :=
  let w := s.wouldBe i
  let wq := w.wqRanges i
  let cq := w.cqRanges i
  let st := w.streams i
  let ms := w.secGrants i
  let maps (F : Fld) (n j : Nat) : Bool := (List.range n).any fun k => w.f F i k &&& w.f F j k != 0
  selfMeets wq || selfMeets cq || bits (w.f INST_GLN_MAP_BITS i 3) 48 8 != 0 ||
  (st.any fun x => w.krpOwner x.1 != 0) ||
  ((List.range 65).any fun j => j != 0 && j != i && (
    meetsAny wq (w.wqRanges j) || meetsAny cq (w.cqRanges j) || maps INST_DMA_MAP_BITS 8 j || maps INST_KRP_MAP_BITS 1 j ||
    maps INST_EMAC_MAP_BITS 1 j || maps INST_GLN_MAP_BITS 4 j ||
    (i != 0 && w.instState j != 0 && w.f INST_CTL_PORT i == w.f INST_CTL_PORT j && w.f INST_CTL_VF i == w.f INST_CTL_VF j) ||
    ((w.streams j).any fun y => w.holdsKrp i y.1 || st.any fun x => x.1 == y.1 && x.2.1 == y.2.1 &&
      (x.2.2.1 * y.2.2.1 == 1 || x.2.2.2.1 &&& y.2.2.2.1 != 0 || x.2.2.2.2 &&& y.2.2.2.2 != 0)) ||
    ((w.secGrants j).any fun y => w.holdsEmac i y.1 || ms.any fun x => x.1 == y.1 && x.2 &&& y.2 != 0) ||
    (ms.any fun x => w.holdsEmac j x.1)))

/-- A pool, a limit, or the pages that the stacks can still grant are exceeded (Table 14-2, R21, R456). On which stack a grant of the
instance pool lies the spec does not say: all granted units count against the stacks that still have reserve, 10,240 units each (DESIGN
CHOICE, log entry 82). -/
def State.grantShort (s : State) (i : Nat) : Bool :=
  let w := s.wouldBe i
  let long (rs : List (Nat × Nat)) : Bool :=
    (rs.any fun r => r.2 != 0 && decide (16384 < r.1 + r.2)) || decide (1024 < (rs.map (·.2)).sum)
  let dev := ((List.range 65).map fun j => w.f INST_MEM_DEV j).sum
  let pools := ((List.range 4).filter fun k => s.rsvLeft 4 k != 0).length
  long (w.wqRanges i) || long (w.cqRanges i) || decide (40960 < dev) ||
  (decide (s.f INST_MEM_DEV i < w.f INST_MEM_DEV i) && decide (10240 * pools < dev)) ||
  decide (512 < ((List.range 65).map fun j => w.f INST_MEM_SPILL j).sum) ||
  ((List.range 8).any fun k => decide (1536 < w.instShares k) || decide (2560 < w.instShares k + w.rxShares k 96 0))

/-- Accepted descriptors of instance `i` that name a stream of `x`: KPB bulk or control. -/
def State.streamUsed (s : State) (i : Nat) (x : Nat × Nat × Nat × Nat × Nat) : Bool :=
  (s.queuesOf i).any fun q =>
    let ty := s.q WQ_CFG_TYPE q
    (ty == 1 || ty == 2) && bits (s.q WQ_BIND_TARGET q) 0 7 == x.1 && (s.wq q).acc.any fun d => kAddr d == x.2.1 &&
      (if ty == 2 then x.2.2.1 == 1 else bit (if kIn d then x.2.2.2.1 else x.2.2.2.2) (kEp d))

/-- The new grant removes what is in use (R455). -/
def State.grantBusy (s : State) (i : Nat) : Bool :=
  let w := s.wouldBe i
  let gone (p : State → Nat → Bool) (n : Nat) : Bool := p s n && !(p w n)
  let less (F : Fld) (k : Nat) : Bool := decide (w.f F i k < s.f F i k)
  ((s.queuesOf i).any fun q => w.wqOwner q != i && (s.qb WQ_CFG_ENABLE q || !(s.qb WQ_STAT_IDLE q))) ||
  ((s.ringsOf i).any fun c => w.cqOwner c != i && (s.qb CQ_CFG_ENABLE c || !(s.cq c).held.isEmpty)) ||
  ((List.range 512).any fun c => gone (fun s c => s.holdsDma i c) c && s.b DMA_CTL_ENABLE c) ||
  ((List.range 96).any fun n => gone (fun s n => s.holdsKrp i n) n && s.b KRP_CTL_ENABLE n) ||
  ((List.range 96).any fun n => gone (fun s n => s.holdsEmac i n) n && s.b EMAC_CTL_ENABLE n) ||
  ((s.streams i).any fun x => !((w.streams i).contains x) && s.streamUsed i x) ||
  (s.instState i != 1 && (less INST_MEM_DEV 0 || less INST_MEM_SPILL 0 || (List.range 8).any fun k => less INST_SBUF_UNITS k))

def State.vetInst (s : State) (i : Nat) : State :=
  let a := s.grantConflict i
  let b := s.grantShort i
  let c := s.grantBusy i
  let s :=
    if !(s.holds i grantFlds) then s
    else
      let s := if a || b || c then s.keep i grantFlds else s
      let s := if a then s.err INST_ERR_GRANT_CONFLICT i else s
      let s := if b then s.err INST_ERR_GRANT_SHORT i else s
      if c then s.err INST_ERR_GRANT_BUSY i else s
  let w := s.wouldBe i
  if (s.holds i aliasFlds || s.holds i grantFlds) && (List.range 208).any (fun k => !(w.aliasOk i (w.f INST_ALIAS i k))) then
    (s.keep i aliasFlds).err INST_ERR_ALIAS_BAD i else s

/-- A grant commit: READY from FREE, the spill area's size, bindings of what is gone, GRANT_CHANGED (R452, R442, R478, R469). -/
def State.afterInst (s old : State) (i : Nat) : State :=
  if !(old.holds i grantFlds) then (if old.holds i aliasFlds then s.unbindLost else s)
  else if i == 0 then
    (if s.moved old INST_MEM_SPILL 0 then s.setF DLOG_SPILL_SIZE_UNITS 0 0 (s.f INST_MEM_SPILL 0 * 16384) else s)
  else
    let changed := grantFlds.any fun x => s.moved old x.1 i x.2
    let s := if s.instState i == 0 then (s.setF INST_STAT_STATE i 0 1).irqMode else s
    if !changed then s.unbindLost
    else ((s.setF DLOG_SPILL_SIZE_UNITS i 0 (s.f INST_MEM_SPILL i * 16384)).unbindLost).notice i false 3 []

/-! ### Power, energy, Gleaner, chain, host ports -/

/-- Two VALID points of the tariff table share a SECOND (R540). -/
def twice : List Nat → Bool
  | [] => false
  | x :: xs => xs.contains x || twice xs

def State.vetPwr (s : State) (u : Nat) : State :=
  let fs := arrays 8 [PWR_TOD_VALID, PWR_TOD_BAND, PWR_TOD_SECOND]
  let secs := ((List.range 8).filter fun k => s.nextVal PWR_TOD_VALID 0 k == 1).map fun k => s.nextVal PWR_TOD_SECOND 0 k
  if u == 0 && twice secs && s.holds 0 fs then (s.keep 0 fs).err PWR_ERR_TOD_BAD 0 else s

/-- A band that software has set holds on; otherwise a new table or a new BOOT_BAND gives the band (R535). -/
def State.afterPwr (s old : State) (u : Nat) : State :=
  if u != 0 then s
  else
    let s := if s.moved old PWR_DMD_MINUTES 0 || s.moved old PWR_TOD_OFFSET_SEC 0 then s.nrgEarly s.devTime s.devTime else s
    if s.power.held && s.b TIME_STAT_SET_ONCE then s
    else s.tariff s.devTime

def State.afterNrg (s old : State) (n : Nat) : State :=
  if !(s.moved old NRG_CTL_EN n) then s
  else if s.b NRG_CTL_EN n then s.nrgTurn n s.devTime true
  else s.nrgBreak n

/-- The shadow holds fields of the selected code. -/
def glnFlds : List (Fld × Nat) :=
  ones [GLN_CODE_CFG_VALID, GLN_CODE_CFG_EV_EN, GLN_CODE_CFG_KIND, GLN_CODE_CFG_PREF, GLN_CODE_CFG_SRC, GLN_CODE_RATE_PERIOD_US,
    GLN_CODE_RATE_BURST] ++ arrays 12 [GLN_CODE_WSEL_VALID, GLN_CODE_WSEL_OFFSET]

/-- Code fields go to the code that CODE_SEL then names (R552, R553, R557); the bucket is full after a commit of its rate. -/
def State.vetGln (s : State) : State :=
  if !(s.holds 0 glnFlds) then s
  else
    let k := s.nextVal GLN_CODE_SEL_CODE 0
    let c := s.glnCode k
    let v (F : Fld) (d : Nat) : Nat := (s.shadowed F 0 0).getD d
    let rate := s.holds 0 (ones [GLN_CODE_RATE_PERIOD_US, GLN_CODE_RATE_BURST])
    let burst := v GLN_CODE_RATE_BURST c.burst
    let sel (j : Nat) : Option (Nat × Nat) :=
      let old := PMap.find c.wsel j
      let valid := (s.shadowed GLN_CODE_WSEL_VALID 0 j).getD (b2n old.isSome)
      if valid == 1 then some (j, (s.shadowed GLN_CODE_WSEL_OFFSET 0 j).getD (old.getD 0)) else none
    let n : GlnCode := { c with
      valid := v GLN_CODE_CFG_VALID (b2n c.valid) == 1
      evEn := v GLN_CODE_CFG_EV_EN (b2n c.evEn) == 1
      kind := v GLN_CODE_CFG_KIND c.kind
      pref := v GLN_CODE_CFG_PREF c.pref
      src := v GLN_CODE_CFG_SRC c.src
      period := v GLN_CODE_RATE_PERIOD_US c.period
      burst := burst
      wsel := (List.range 12).filterMap sel
      tokens := if rate then burst else c.tokens
      tokenAt := if rate then s.now else c.tokenAt }
    let owner := s.glnOwner k
    let bad := (decide (0xF0 ≤ k) && decide (k ≤ 0xF7)) || (n.kind == 1 && owner != 0 && (s.src n.src).inst != owner) ||
      (n.kind == 2 && decide (pmcCounters (n.src % 256) ≤ bits n.src 8 4))
    let s := s.keep 0 glnFlds
    if bad then s.err GLN_ERR_CODE_BAD 0 else s.setGln k n

/-- R605: a change of the links of a host port waits for its instances, but on the lead port. -/
def State.vetHost (s : State) (p : Nat) : State :=
  let fs := ones [HOST_CTL_SPLIT, HOST_CTL_ACTIVE, HOST_CTL_CLK_MODE]
  let busy := (List.range 65).any fun i => i != 0 && s.f INST_CTL_PORT i == p && decide (2 ≤ s.instState i)
  if s.changes p fs && busy && p != s.leadPort then (s.keep p fs).err HOST_ERR_ACTIVE_BUSY p else s

def State.afterHost (s old : State) (p : Nat) : State :=
  if [HOST_CTL_SPLIT, HOST_CTL_ACTIVE, HOST_CTL_CLK_MODE].any fun F => s.moved old F p then s.hostReset p else s

/-- A timer that was stopped starts at the commit (R70). PERIOD committed to 0 and then to a value again before the one further boundary under
the old period does not start it: that boundary still comes first (DESIGN CHOICE, log entry 83). -/
def State.afterDev (s old : State) : State :=
  if s.moved old DEV_EPOCH_PERIOD_PERIOD 0 && s.epochPer == 0 && old.f DEV_EPOCH_PERIOD_PERIOD == 0 then
    { s with epochPer := s.f DEV_EPOCH_PERIOD_PERIOD, timerAt := s.now } else s

/-! ### The commit -/

/-- What a commit at POINT `point` keeps, clamps or refuses. -/
def State.vet (s : State) (blk u point : Nat) : State :=
  if blk == 0x70 then s.vetSrds u else if blk == 0x30 then s.vetKrp u else if blk == 0x31 then s.vetKsch u
  else if blk == 0x21 then s.vetPcu u else if blk == 0x40 then s.vetEmac u
  else if blk == 0x41 then (if u == 96 then s else s.vetEflt u)
  else if blk == 0x42 then s.vetEstr u point else if blk == 0x44 then s.vetMsec u
  else if blk == 0x10 then s.vetStk u else if blk == 0x11 then s.vetShf u else if blk == 0x19 then s.vetDlog u point
  else if blk == 0x60 then s.vetInst u else if blk == 0x03 then s.vetPwr u else if blk == 0x06 then s.vetGln
  else if blk == 0x71 then s.vetHost u else s

/-- What follows from a commit; `old` is the state before it, its shadow vetted. -/
def State.after (s old : State) (blk u : Nat) : State :=
  if blk == 0x70 then s.afterSrds old u else if blk == 0x30 then s.afterKrp old u
  else if blk == 0x31 then s.afterKsch old u (old.holds u (ones [KSCH_TBL_BASE_ADDR, KSCH_TBL_LEN_LEN]))
  else if blk == 0x20 then s.afterPref old u else if blk == 0x21 then s.afterPcu old u
  else if blk == 0x23 then s.afterTrg old u else if blk == 0x24 then s.afterTime old
  else if blk == 0x40 then s.afterEmac old u else if blk == 0x41 then s.afterEflt u
  else if blk == 0x42 then s.afterEstr old u else if blk == 0x44 then s.afterMsec old u
  else if blk == 0x11 then s.afterShf old u else if blk == 0x19 then s.afterDlog old u
  else if blk == 0x60 then s.afterInst old u else if blk == 0x03 then s.afterPwr old u
  else if blk == 0x04 then s.afterNrg old u
  else if blk == 0x06 then s.setF GLN_STAT_DEFAULT 0 0 (1 - s.f GLN_RING_VALID)
  else if blk == 0x09 then s.lvlChanged old.effLvl
  else if blk == 0x71 then s.afterHost old u else if blk == 0x01 then s.afterDev old else s

/-- A commit applies on page (`blk`, `u`) at point code `point` (R46). -/
def State.applyPage (s : State) (blk u point : Nat) : State :=
  let old := s.vet blk u point
  let es := old.shadow.filter fun e => inPage blk u e.1
  let s := { old with regs := es.foldl (fun m (e : Nat × Nat) => PMap.put m e.1 e.2) old.regs
                      shadow := old.shadow.filter fun e => !(inPage blk u e.1)
                      cmts := PMap.del old.cmts (pageOf blk u) }
  let s := (s.addF (hd PAGE_EPOCH_COMMIT_SEQ blk) u 0 1).setF (hd PAGE_EPOCH_EPOCH blk) u 0 (s.f DEV_EPOCH_EPOCH)
  let s := s.after old blk u
  if s.b (hd PAGE_CTL_COMMIT_EV_EN blk) u then s.post 2 (pageType blk u * 256 + pageUnit u) else s

/-- The commits pending for a point of code `point` with argument `arg` that apply at it (R51): of those armed by its instant `at_`, all
where one was armed `lead` or more before it, and otherwise all or none. -/
def State.group (s : State) (point arg lead at_ : Nat) : State :=
  let hit (e : Nat × Armed) : Bool := e.2.point == point && e.2.arg == arg && decide (e.2.armedAt ≤ at_)
  let g := s.cmts.filter hit
  let intime := g.any fun e => decide (e.2.armedAt + lead ≤ at_)
  let go := intime || Config.choice s.draws
  if g.isEmpty then s
  else
    let s := if intime then s else s.bump
    if !go then s
    else g.foldl (fun (s : State) e => s.applyPage (e.1 / 4096) (e.1 % 4096) point) { s with cmts := s.cmts.filter fun e => !(hit e) }

/-- An epoch boundary (R57, R58, R70): re-keys due, DEV_EPOCH, and every EPOCH commit armed `lead` before it, with the swaps. -/
def State.epochWith (s : State) (lead : Nat) : State :=
  let s := s.epochKeys
  let s := { (s.addF DEV_EPOCH_EPOCH 0 0 1) with epochAt := s.now, timerAt := s.now, epochReq := false }
  let s := s.group 3 0 lead s.now
  { s with epochPer := s.f DEV_EPOCH_PERIOD_PERIOD }

/-- An epoch boundary. -/
def State.epochBoundary (s : State) : State := s.epochWith (ns 250)
/-- The boundary that an entry forces, which applies every pending EPOCH commit (R55). -/
def State.epochForced (s : State) : State := s.epochWith 0

/-- A boundary may not come yet (R57). -/
def State.epochEarly (s : State) : Bool := decide (s.now < s.epochAt + us 10) && s.f DEV_EPOCH_EPOCH != 0

end Sys2Proof.Machine
end

