-- ==== Sys2Proof/Machine/PcuCmds.lean ====
section
/-! DEFINITION. Firings of compare units and boundaries of frame sequencers, with the commits that apply at them (chapters 5 and 6). -/
namespace Sys2Proof.Machine

/-! ### Firings (R178 to R184) -/

/-- The task of a firing of unit `u` at crossing instant `c`, with the snapshot of that instant (R184, R190, Tables 11-1, 11-2 and
11-4). -/
def State.fireTask (s : State) (u : Nat) (c : Int) (snap : List (BitVec 8)) : State :=
  if !(s.b PCU_CTL_TASK_EN u) then s
  else
    let h := s.f PCU_TASK_SHEAF u
    let at_ := ((s.devTime : Int) + (c - s.now)).toNat
    let data := leBytes 2 (s.f PCU_TASK_TAG u) ++ leBytes 2 u ++ leBytes 12 (time96 at_) ++ snap
    let r := s.taskCreate { sheaf := h, inst := 0, src := 4, hook := 3, prio := s.f SHF_PRIO_EV_PRIO h,
                            dl := .time (at_ + us (s.f SHF_DL_EV_DL_US h)), data := data }
    if r.2 then r.1 else (s.satF TSK_CNT_LOST_COUNT h 0 1).err TSK_ERR_TASK_LOST h

/-- Unit `u` has reached its next target: motion crossed it before, or has crossed it now. -/
def State.reached (s : State) (u : Nat) : Bool :=
  s.b PCU_STAT_ARMED u && ((s.pcu u).due || s.reaches u (s.pcu u).next)

/-- One firing of a unit that has reached its target: whether it is to disarm. -/
def State.fireNow (s : State) (u : Nat) : State × Bool :=
  let p := s.pcu u
  let c : Int := if p.due then p.dueAt else s.crossingAt u
  let snap := if p.due then p.snap else s.snapshotAt (s.f PCU_CTL_PREF u) c.toNat
  let s := (s.setPcu u { p with due := false }).fireTask u c snap
  let s := s.count 109 0x242 (if s.f PCU_CTL_MODE u == 1 then s.f PCU_CTL_PREF u else 8) none
  s.fireOnce u c

/-- The firings of unit `u` at this instant, one for each target crossed, at most `k` (R179). -/
def State.fires (s : State) (u : Nat) : Nat → State × Bool
  | 0 => (s, false)
  | k + 1 =>
    if s.reached u then
      let r := s.fireNow u
      if r.2 then r else r.1.fires u k
    else (s, false)

/-- What follows unit `u`'s firings at one instant, `at_`: targets that a jump has passed since are passed over (R177), the unit disarms where
it is done, the POSITION commits that wait for it apply, and those that wait for a unit that has disarmed are abandoned (R53, R180). -/
def State.fired (s : State) (u : Nat) (done : Bool) (at_ : Nat) : State :=
  let r := if done then (s, true) else s.skipOver u (s.pcu u).skip
  let s := r.1
  let done := r.2
  let c := s.pcu u
  let s := s.setPcu u { c with prev := s.pcuNow u, far := s.pcuNow u, skip := 0, due := c.due && !done, trgSent := c.trgSent && !done }
  let s := if done then s.setF PCU_STAT_ARMED u 0 0 else s
  let s := s.group 4 u (ns 100) at_
  if done then s.abandonPos u else s

/-- Elapsed time of the firing that is due at unit `u`: that of its crossing. -/
def State.firesAt (s : State) (u : Nat) : Nat := if (s.pcu u).due then (s.pcu u).dueAt else s.now

/-- Most targets of unit `u` that its motion can have reached. -/
def State.mostTargets (s : State) (u : Nat) : Nat := s.targetsIn u (max (s.pcuNow u - (s.pcu u).prev).natAbs ((s.pcu u).far - (s.pcu u).prev).natAbs) + 1

/-- PCU_FIRE. -/
def execPcuFire (unit : Nat) (s : State) : Res :=
  .next (if s.live 0x21 unit && s.reached unit then
    (let r := s.fires unit (s.mostTargets unit)
     r.1.fired unit r.2 (s.firesAt unit))
  else s)

/-! ### Host moves (R167, R612) -/

/-- The unit of some whose reached target comes first in the direction of motion. -/
def State.firstUnit (s : State) (back : Bool) (units : List Nat) : Option Nat :=
  (units.filter s.reached).foldl (fun (m : Option Nat) u => match m with
    | none => some u
    | some v =>
      let a := (s.pcu u).next
      let b := (s.pcu v).next
      if (if back then decide (b < a) else decide (a < b)) then some u else some v) none

/-- Fire the units that a move has crossed, in target order, at most `k` firings; the units that have fired, and those to disarm. -/
def State.moveFires (s : State) (back : Bool) (units : List Nat) : Nat → List Nat → List Nat → State × List Nat × List Nat
  | 0, f, d => (s, f, d)
  | k + 1, f, d =>
    match s.firstUnit back (units.filter fun u => !(d.contains u)) with
    | none => (s, f, d)
    | some u =>
      let r := s.fireNow u
      r.1.moveFires back units k (if f.contains u then f else f ++ [u]) (if r.2 then d ++ [u] else d)

/-- A write of PREF_HOST_MOVE (R167). -/
def State.hostMove (s : State) (p v : Nat) : State :=
  if s.f PREF_CTL_SRC p != 3 then s
  else
    let s := s.noticeMotion p
    let old := s.position p
    let new := sgn (v % 2 ^ 64) 64
    let rate := (s.pref p).hostRate
    let s := s.place p new
    let s := s.setPref p { s.pref p with rate := rate }
    let s := if new == old then s else s.setF PREF_STAT_DIR p 0 (b2n (decide (new < old)))
    let units := s.unitsOn 1 p
    let most := (units.map s.mostTargets).sum
    let r := s.moveFires (decide (new < old)) units most [] []
    let s := if rate != 0 then r.1.setF PREF_STAT_DIR p 0 (b2n (decide (rate < 0))) else r.1
    (r.2.1.foldl (fun (s : State) u => s.fired u (r.2.2.contains u) s.now) s).moveUnits p

/-- PREF_HOST_MOVE. -/
def execPrefHostMove (fn ref value : Nat) (s : State) : Res := .next (s.act fn 0x20 ref false fun s => s.hostMove ref value)

/-! ### Boundaries (R196 to R202, R215) -/

/-- The check of R199, made at every boundary: whether the port follows its own endpoint. -/
def State.loopCheck (s : State) (n : Nat) : State :=
  if s.prefLoop n then
    (if s.b KSCH_STAT_PREF_LOOP n then s else (s.setF KSCH_STAT_PREF_LOOP n 0 1).err KSCH_ERR_PREF_LOOP n)
  else s.setF KSCH_STAT_PREF_LOOP n 0 0

/-- One boundary with the FRAME commits that apply at it; where these stop the sequencer, there is no frame. -/
def State.boundary (s : State) (n : Nat) (filler time rev : Bool) (pos : Option Int) (at_ : Nat) : State :=
  let r := s.boundaryFirst n at_
  let s := r.1.group 2 n (ns 250) at_
  if !(s.b KSCH_STAT_RUNNING n) then s
  else
    let s := s.boundaryRest n filler time rev r.2 pos at_
    let s := if (s.link n).stepForce then s.stepGo n else s
    s.serve n

/-- Elapsed time at which reference `p` reached `x` (R181). -/
def State.reachedAt (s : State) (p : Nat) (x : Int) : Nat :=
  let r := s.pref p
  let v := s.velocity p
  if s.f PREF_CTL_SRC p == 4 then ((s.now : Int) - (s.position p - x) * s.f PREF_TIME_DIV_NS p).toNat
  else
    let d := x - r.base
    if v == 0 || (0 < v && d ≤ 0) || (v < 0 && 0 ≤ d) then min r.at_ s.now
    else min s.now ((r.at_ : Int) + d * (65536 * 1000000000) / v).toNat

/-- POSITION_BOUNDARY: the first multiple of PITCH that the clocking reference has crossed. -/
def execPositionBoundary (port : Nat) (s : State) : Res :=
  .next <| if !(s.b KSCH_STAT_RUNNING port) || (s.sq port).clock != 0 then s
  else
    let p := (s.sq port).pref
    match s.crossing port with
    | none => s.lookedTo port (s.position p)
    | some (m, rev) =>
      let q := s.sq port
      let s := (s.setSq port { q with hwm := if rev then q.hwm else some m }).lookedTo port m
      let s := s.loopCheck port
      if s.b KSCH_STAT_PREF_LOOP port then s else s.boundary port false false rev (some m) (s.reachedAt p m)

/-- TIME_BOUNDARY. -/
def execTimeBoundary (port : Nat) (s : State) : Res :=
  let q := s.sq port
  let due := match q.lastBnd with
    | some t => t + q.longest
    | none => q.startAt
  .next (if s.b KSCH_STAT_RUNNING port && q.clock == 1 && due ≤ s.now then (s.loopCheck port).boundary port false true false none due else s)

/-- FILLER_BOUNDARY: FLEN.MAX has passed since the last FRM, or since the start, with no boundary. -/
def execFillerBoundary (port : Nat) (s : State) : Res :=
  let q := s.sq port
  let due := max (q.lastFrm.getD q.startAt) q.startAt + q.longest
  let quiet := q.held.isNone && (match q.lastBnd with
    | some t => decide (t ≤ q.lastFrm.getD t)
    | none => true)
  .next (if s.b KSCH_STAT_RUNNING port && q.clock == 0 && quiet && due ≤ s.now then
    (s.loopCheck port).boundary port true false false none due else s)

/-- FRM_DEPART: the conditions of R203 hold. -/
def execFrmDepart (port : Nat) (s : State) : Res :=
  .next (if s.frmMay port then (((s.frmLeave port).frameSamples port).serve port).stepCheck port else s)

end Sys2Proof.Machine
end

