-- ==== Sys2Proof/Machine/Accept.lean ====
section
/-! DEFINITION. DESCRIPTOR_ACCEPT: the conditions of acceptance, and what each type of queue does with the descriptor (R241 to R246, R305,
R310, R365). -/
namespace Sys2Proof.Machine

/-- Bytes `a` to `b - 1` of a descriptor are zero. -/
def zeroAt (b : List (BitVec 8)) (at_ n : Nat) : Bool := leAt b at_ n == 0

/-- A KPB bulk descriptor is malformed (Table 07-3, R244). -/
def bulkBad (b : List (BitVec 8)) : Bool :=
  let a := leAt b 8 1
  let e := leAt b 9 1
  dOpcode b != 1 || leAt b 1 1 / 4 != 0 || a == 0 || a == 255 || e / 16 == 0 || e % 8 != 0 || !(zeroAt b 10 2) || !(zeroAt b 15 1) ||
  !(zeroAt b 24 40)

/-- A bulk IN descriptor asks for no bytes (R244). -/
def bulkEmpty (b : List (BitVec 8)) : Bool := bit (leAt b 9 1) 3 && leAt b 12 3 == 0

/-- A KPB control descriptor is malformed (Table 07-3). -/
def ctrlBad (b : List (BitVec 8)) : Bool :=
  dOpcode b != 1 || leAt b 1 1 / 4 != 0 || leAt b 8 1 == 255 || !(zeroAt b 9 7) || !(zeroAt b 40 24)

/-- A receive buffer descriptor is malformed (R310). -/
def bufferBad (b : List (BitVec 8)) : Bool :=
  let size := leAt b 16 2
  dOpcode b != 1 || leAt b 1 1 / 4 != 0 || leAt b 8 8 % 64 != 0 || decide (size < 256) || decide (16384 < size) || size % 64 != 0 ||
  !(zeroAt b 18 46)

/-- A task descriptor is malformed (Table 11-3). -/
def taskBad (b : List (BitVec 8)) : Bool :=
  let k := leAt b 10 1
  let kind := k % 4
  dOpcode b != 1 || leAt b 1 1 / 4 != 0 || decide (leAt b 8 1 < 16) || decide (31 < leAt b 8 1) || decide (15 < leAt b 9 1) ||
  kind == 3 || bits k 2 2 != 0 || bit k 7 || (kind != 2 && k / 16 != 0) || !(zeroAt b 11 1) || (kind == 0 && !(zeroAt b 12 12)) ||
  (kind == 2 && !(zeroAt b 20 4))

/-- The stream of a KPB descriptor is granted to instance `i` (R246, R457). -/
def State.mayStream (s : State) (i n : Nat) (ctrl : Bool) (b : List (BitVec 8)) : Bool :=
  s.krpOwner n == i || (s.krpOwner n == 0 && (s.streams i).any fun x => x.1 == n && x.2.1 == leAt b 8 1 &&
    (if ctrl then x.2.2.1 == 1
     else bit (if bit (leAt b 9 1) 3 then x.2.2.2.1 else x.2.2.2.2) (leAt b 9 1 / 16)))

/-- What a KPB descriptor comes to at acceptance: none where it is to be served (R244 to R246). -/
def State.kpbRefusal (s : State) (q : Nat) (b : List (BitVec 8)) : Option Nat :=
  let i := s.wqOwner q
  let n := s.q WQ_BIND_TARGET q % 128
  let ctrl := s.q WQ_CFG_TYPE q == 2
  let a := leAt b 8 1
  if !(s.mayStream i n ctrl b) then some 0x21
  else if (if ctrl then ctrlBad b else bulkBad b || bulkEmpty b) then some 0x11
  else if s.hubRole n then none
  else if ctrl && a == 0 then (if s.b KHUB_TREE_CTL_ENUM_EN 0 n then some 0x21 else none)
  else if (s.ent n a).there then none else some 0x22

/-- What a task descriptor comes to at acceptance: none where it is to make a task (R365). -/
def State.taskRefusal (s : State) (h i : Nat) (b : List (BitVec 8)) : Option Nat :=
  if taskBad b then some 0x11
  else match PMap.find s.progs (h * 32 + leAt b 8 1) with
    | none => some 0x21
    | some p => if p.inst != i then some 0x21 else if p.image.isEmpty then some 0x22 else none

/-- Two descriptors of a KPB queue name the same stream (R255). -/
def sameStream (ty : Nat) (a b : List (BitVec 8)) : Bool :=
  leAt a 8 1 == leAt b 8 1 && (ty == 2 || leAt a 9 1 / 8 == leAt b 9 1 / 8)

/-- The sheaf whose SHF_TXHOOK names queue `q`. -/
def State.txHook (s : State) (q : Nat) : Option Nat :=
  (List.range 64).find? fun h => (List.range 8).any fun k => s.b SHF_TXHOOK_VALID h k && s.f SHF_TXHOOK_QUEUE h k == q

/-- The HSEQ of a descriptor is not later than that of the one accepted before it (R243). -/
def State.seqBad (s : State) (q : Nat) (b : List (BitVec 8)) : Bool := !(s.wq q).fresh && !(later (dHseq b) (s.wq q).prev 32)

/-- The status with which a descriptor is done with at once, if any: R243 first. -/
def State.acceptStatus (s : State) (q : Nat) (b : List (BitVec 8)) : Option Nat :=
  let ty := s.q WQ_CFG_TYPE q
  if s.seqBad q b then some 0x11
  else if ty == 1 || ty == 2 then s.kpbRefusal q b
  else if ty == 4 then (if bufferBad b then some 0x11 else none)
  else if ty == 6 then s.taskRefusal (s.q WQ_BIND_TARGET q % 64) (s.wqOwner q) b
  else none

/-- Every earlier descriptor of queue `q` has finished, and its completion is written (R255). -/
def State.allWritten (s : State) (q : Nat) : Bool :=
  let mine (c : Cpl) : Bool := c.ty != 2 && leAt c.body 2 2 % 1024 == s.wqLocal q
  (s.wq q).acc.isEmpty && !((s.cq (s.wqRing q)).held.any mine) &&
  !(s.tasks.any fun t => t.own.any fun o => o.1 == s.wqRing q && mine o.2)

/-- The descriptor at HEAD of queue `q` may be accepted now (R241, R252, R373): its copy, where it may. -/
def State.acceptable (s : State) (q : Nat) : Option (List (BitVec 8)) :=
  let i := s.wqOwner q
  let ty := s.q WQ_CFG_TYPE q
  let h := s.head q
  let w := s.wq q
  let stopped := match w.stop with
    | some x => x == h
    | none => false
  if !(s.qb WQ_CFG_ENABLE q) || s.qb WQ_STAT_HALTED q || s.qb WQ_STAT_PARKED q || s.b WQ_RSY_STAT_QUIESCED i || s.closed i ||
      h == s.tail q || stopped || s.cqFree (s.wqRing q) == 0 || ty == 0 then none
  else match w.copy h with
    | none => none
    | some b =>
      let blocked := if ty == 6 then s.blocked (s.q WQ_BIND_TARGET q % 64) i else match (if ty == 3 then s.txHook q else none) with
        | some h => s.blocked h i
        | none => false
      let order := (ty == 1 || ty == 2) && (s.acceptStatus q b).isSome && w.acc.any fun d => sameStream ty d.bytes b
      if (dFence b && !(s.allWritten q)) || blocked || order then none else some b

/-- Task queues bound to the sheaf of queue `q` take turns (R254): whether it is this one's, with the round robin. -/
def State.taskTurn (s : State) (q : Nat) : Option (State) :=
  let h := s.q WQ_BIND_TARGET q % 64
  let ready := (s.boundTo 6 fun b => b % 64 == h).filter fun x => (s.acceptable x).isSome
  match s.wrrPick (wrrKey 6 h) ready with
  | some (x, w) => if x == q then some (s.wrrServe (wrrKey 6 h) q w) else none
  | none => none

/-- What an accepted descriptor starts. -/
def State.acted (s : State) (q : Nat) (d : Desc) : State :=
  let ty := s.q WQ_CFG_TYPE q
  let i := s.wqOwner q
  let t := s.q WQ_BIND_TARGET q
  if ty == 1 || ty == 2 then s.serve (t % 128)
  else if ty == 3 then (match s.txHook q with
    | some h =>
      let task : Task := { sheaf := h, inst := i, src := 3, hook := 1, prio := s.f SHF_PRIO_TX_PRIO h, q := q, idx := d.idx,
                           dl := .time (s.devTime + us (s.f SHF_DL_EV_DL_US h)), stream := streamKey 4 q,
                           data := (d.bytes.drop 8).take 48 }
      ((s.setDesc q { d with phase := 4 }).taskCreate task).1.txDown (t % 128)
    | none => s.txDown (t % 128))
  else if ty == 4 then s.rxDrain (t % 128)
  else if ty == 5 then s.dmaWake (t % 512)
  else if ty == 6 then
    let h := t % 64
    let k := leAt d.bytes 10 1
    let dl : Deadline := if k % 4 == 1 then .time (ofTime96 (leAt d.bytes 12 12))
      else if k % 4 == 2 then .pos (bits k 4 3) (sgn (leAt d.bytes 12 8) 64) else .none
    (s.taskCreate { sheaf := h, inst := i, src := 5, hook := 0xFF, prio := min (leAt d.bytes 9 1) (s.f SHF_SHARE_PRIO_MAX h i), q := q,
                    idx := d.idx, dl := dl, prog := leAt d.bytes 8 1, stream := streamKey 5 q, data := d.bytes.drop 24 }).1
  else s

/-- Queue `q` accepts its head descriptor, of bytes `b` (R241, R243). One that is done with at once completes in the order of its queue where the
queue's chapter asks for it (R306, R312); an IN descriptor without bytes halts its queue (R244, R264). -/
def State.accept (s : State) (q : Nat) (b : List (BitVec 8)) : State :=
  let w := s.wq q
  let c := s.wqRing q
  let i := s.wqOwner q
  let h := s.head q
  let st := s.acceptStatus q b
  let seqBad := s.seqBad q b
  let d : Desc := { idx := w.gen * 65536 + h, bytes := b, cq := c, at_ := s.now }
  let s := s.setWq q { w with cached := PMap.del w.cached h, taken := PMap.del w.taken h, fresh := false, prev := dHseq b, acc := w.acc ++ [d] }
  let s := (s.setQ WQ_IDX_HEAD q ((h + 1) % 65536)).setQ CQ_STAT_RESERVED_SLOTS c (s.q CQ_STAT_RESERVED_SLOTS c + 1)
  let s := if seqBad then s.setQ WQ_STAT_SEQ_ERR q 1 else s.setQ WQ_HSEQ_HSEQ q (dHseq b)
  let s := s.setF WQ_RSY_HSEQ i 0 (dHseq b)
  let s := ((s.wqShow q).cqShow c).rsyShow i
  match st with
  | none => s.acted q d
  | some 0x21 => ((s.setDesc q { d with phase := 2 }).refuse i).refuseLater i 2 (descRef q d.idx)
  | some x =>
    let ty := s.q WQ_CFG_TYPE q
    if ty == 3 then s.txFail (s.q WQ_BIND_TARGET q % 128) q d x
    else if ty == 4 then (s.setDesc q { d with phase := 5, fail := some x }).rxSettle q
    else if !seqBad && ty == 1 && !(bulkBad b) && bulkEmpty b then s.kpbDone q d x 0
    else s.descDone q d x 0

/-- DESCRIPTOR_ACCEPT. HEAD moves: pacing that follows the queue is taken up (Table 08-7). -/
def execDescriptorAccept (queue : Nat) (s : State) : Res :=
  .next <| if 16384 ≤ queue then s
  else match s.acceptable queue with
    | none => s
    | some b =>
      if s.q WQ_CFG_TYPE queue == 6 then (match s.taskTurn queue with
        | some s => (s.accept queue b).paceQueues
        | none => s)
      else (s.accept queue b).paceQueues

end Sys2Proof.Machine
end

