-- ==== Sys2Proof/Machine/Power.lean ====
section
/-! DEFINITION. Device states: entry, exit, OFF, the drain, wake sources, telemetry (chapter 17). Entry and exit take no time of their own
beside the time that the commands' sender lets pass. -/
namespace Sys2Proof.Machine

/-! ### Telemetry (R151, R152) -/

/-- The switch of port `n` is read: it is fitted, its PSTATE is not OFF, and Sage is on (R152, R533). -/
def State.telemeters (s : State) (n : Nat) : Bool :=
  decide (n < 96) && s.b KHUB_PWR_MAP_FITTED 0 n && s.f KHUB_PWR_STAT_PSTATE 0 n != 0 && s.domReady 45

/-- The reads of one reading: STATUS_WORD and READ_PIN (R148, R152). -/
def State.pmReading (s : State) (n : Nat) : State := (s.pmRead n 0x79).pmRead n 0x97

/-- One reading of the switch of port `n` (R152, R533): STATUS_WORD and PIN in units of 10 mW, or a read that failed, which has been repeated
once (R148, log entry 36). A segment that answers is not at fault any more. -/
def State.telemetry (s : State) (n status pin : Nat) (ok : Bool) : State :=
  if !(s.telemeters n) then s
  else
    let p := s.pwr n
    let s := if ok then s.pmReading n else (s.pmReading n).pmReading n
    let s := if p.polled == 0 then s else s.setF KHUB_PMB_STAT_EFF_POLL 0 0 (min 255 ((s.now - p.polled) / ms 1))
    if ok then
      let s := (s.setPwr n { p with polled := s.now, fails := 0 }).setF KHUB_PWR_STAT_PIN 0 n pin
      let s := s.setF (if s.b KHUB_PWR_MAP_SEG 0 n then KHUB_PMB_STAT_SEG1_FAULT else KHUB_PMB_STAT_SEG0_FAULT) 0 0 0
      let s := (s.setF KHUB_PWR_STAT_TELEMETRY_STALE 0 n 0).setF KHUB_PWR_STAT_PG 0 n (b2n !(bit status 11))
      ((s.nrgEstimate n false).nrgSample n (pin % 2 ^ 16)).switchFault n status
    else
      let k := p.fails + 1
      let s := s.setPwr n { p with polled := s.now, fails := k }
      if k < 3 then s else ((s.setF KHUB_PWR_STAT_TELEMETRY_STALE 0 n 1).nrgEstimate n true).nrgMissed n

/-! ### Domains (R512, R513, R526) -/

/-- Quads that stay on in SLEEP: those of listening root ports and of MACs with WAKE_EN (Table 17-2). -/
def State.keepsQuad (s : State) (q : Nat) : Bool :=
  (List.range 4).any fun j =>
    let n := 4 * q + j
    (s.quadMode q == 1 && bit (s.f PWR_LISTEN_KRP) n && !(s.absent 0x30 n)) ||
    (s.quadMode q == 2 && s.b EFLT_CTL_WAKE_EN n && !(s.absent 0x40 n))

/-- Domain `d` stays on in device state `st`: the always-on domain, and in SLEEP Sage, the memory stacks and the quads that listen. -/
def State.keepsDom (s : State) (st d : Nat) : Bool :=
  d == 46 || (st == 2 && (d == 45 || (37 ≤ d && d ≤ 40) || (9 ≤ d && d ≤ 32 && s.keepsQuad (d - 9))))

/-- Keys and seeds of a domain that comes up with nothing kept are drawn from the DRBG where entropy is ready, and are provisional before
(R341, R550). -/
def State.keysDrawn (s : State) (d : Nat) : State :=
  if !(s.b DEV_SERVICE_ENTROPY_READY) then s
  else if d == 48 then s.setF PMC_S_STAT_PROVISIONAL 0 0 0
  else if 9 ≤ d && d ≤ 32 then s.each 4 fun s j => s.setF ESTR_STAT_PROVISIONAL (4 * (d - 9) + j) 0 0
  else s

/-- A domain comes up (Table 17-6): golden state has been loaded, and it has a new generation number. -/
def State.domUp (s : State) (d : Nat) : State := ((s.setF PWR_DOM_STAT_DSTATE d 0 3).newGen d).keysDrawn d

/-- Pages that lie in domain `d`. -/
def domPages (d : Nat) : List (Nat × Nat) :=
  blockUnits.flatMap fun x => ((List.range (x.2.2 + 1 - x.2.1)).map fun k => (x.1, x.2.1 + k)).filter fun p => domainOf p.1 p.2 == d

/-- Functions whose instance holds something in domain `d`, the manager among them. -/
def State.domHolders (s : State) (d : Nat) : List Nat :=
  (List.range 65).filter fun i => i != 0 && s.instState i != 0 &&
    ((9 ≤ d && d ≤ 32 && (List.range 4).any fun j => s.holdsKrp i (4 * (d - 9) + j) || s.holdsEmac i (4 * (d - 9) + j)) ||
     (1 ≤ d && d ≤ 8 && ((List.range 8).any (fun j => s.f SHF_SHARE_SLOTS (8 * (d - 1) + j) i != 0) ||
       s.f INST_SBUF_UNITS i (d - 1) != 0)) ||
     (33 ≤ d && d ≤ 36 && s.f INST_CTL_PORT i == d - 33) || (37 ≤ d && d ≤ 44 && s.f INST_MEM_DEV i != 0) || d == 47 || d == 48)

/-- The parts of the units of domain `d` that no register shows return to their first state. -/
def State.domForget (s : State) (d : Nat) : State :=
  let lanes (n : Nat) : Bool := n / 4 + 9 == d
  let sheaves (h : Nat) : Bool := h / 8 + 1 == d
  let s := { s with
    links := s.links.filter fun (x : Nat × Link) => !(lanes x.1)
    seqs := s.seqs.filter fun (x : Nat × SeqSt) => !(lanes x.1)
    trees := s.trees.filter fun (x : Nat × Tree) => !(lanes x.1)
    emacs := s.emacs.filter fun (x : Nat × Emac) => !(lanes x.1)
    progs := s.progs.filter fun (x : Nat × Prog) => !(sheaves (x.1 / 32))
    loads := s.loads.filter fun (x : Nat × (Nat × Nat × Nat)) => !(sheaves x.1)
    taskSeq := s.taskSeq.filter fun (x : Nat × Nat) => !(sheaves x.1)
    sampleCnt := s.sampleCnt.filter fun (x : Nat × Nat) => !(sheaves x.1) }
  if d == 47 then { s with prefs := [], pcus := [], pins := [], pinQ := [], tm := {} }
  else if d == 43 || d == 44 then { s with tlb := s.tlb.filter fun e => e.die != d - 43, ats := [] }
  else s

/-- A cold restart of domain `d` (R508): every page at its reset values, a new generation number, the notices and the record. At an exit no
work is held in the domain. KIND, UNIT and LEFT of the record are free: no table gives them for a domain; so is the mailbox in which the manager's notice goes. -/
def State.coldRestart (s : State) (d : Nat) : State :=
  let holders := s.domHolders d
  let s := (domPages d).foldl (fun (s : State) p =>
    let dirty := s.shadowDirty p.1 p.2
    let s := ({ s with cmts := PMap.del s.cmts (pageOf p.1 p.2), shadow := s.shadow.filter fun e => !(inPage p.1 p.2 e.1) }).clearPage p.1 p.2
    if dirty then s.errOn PAGE_ERR_SHADOW_DISCARDED p.1 p.2 else s) s
  let s := (((s.domForget d).newGen d).keysDrawn d).err PWRD_ERR_COLD_RESTART d
  let body := leBytes 2 d ++ leBytes 2 0 ++ leBytes 4 (s.f PWR_DOM_GEN_GEN d)
  let s := holders.foldl (fun (s : State) i => s.notice i false 0x0001 body) s
  let s := (s.notice (Config.freeNat s.draws % 64 + 1) true 0x0001 body).bump
  let v (k m : Nat) : Nat := Config.freeNat (s.draws + k) % m
  ((s.glnReserve 0xF5 (v 0 256) d (v 1 (2 ^ 32)) (s.f PWR_DOM_GEN_GEN d) (v 2 256) 8).bump.bump).bump

/-- The counters of the banks of domain `d` have kept no value: they hold 0 with EN at 0 (R546). -/
def State.pmcLose (s : State) (d : Nat) : State :=
  s.each 256 fun s b =>
    if b == 0 || domainOf 0x07 b != d then s
    else s.each (pmcCounters b) fun s c => (s.setF PMC_CNT_COUNT b c 0).setF PMC_EVSEL_EN b c 0

/-- The domain comes back from retention: where its CRC fails it is cold-restarted (R508, R522). -/
def State.domBack (s : State) (d : Nat) : State :=
  if s.f PWR_DOM_STAT_DSTATE d != 1 then s
  else
    let bad := Config.retentionLost s.draws d
    let s := (s.bump.setF PWR_DOM_STAT_DSTATE d 0 3).pmcLose d
    if bad then s.coldRestart d else s.newGen d

/-! ### The drain (R516) -/

/-- The state of acceptance of every instance, as WQ_RSY_CTL does it. -/
def State.quiesceAll (s : State) (v : Nat) : State := s.each 65 fun s i => s.quiesce i v

/-- The drain holds: every instance is DRAINED, no task exists, and no work waits on a fault (R516). -/
def State.drainHolds (s : State) : Bool :=
  let s := s.each 65 fun s i => s.rsyShow i
  ((List.range 65).all fun i => s.b WQ_RSY_STAT_DRAINED i) && s.tasks.isEmpty && s.waiters.isEmpty

/-- The drain is given up: acceptance resumes, a source that acted is discarded (R516, R521). -/
def State.drainEnd_ (s : State) (status : Nat) : State :=
  let s := { s with power := { s.power with target := none, reload := false, wake := none } }
  (s.quiesceAll 0).setF PWR_STAT_RESULT 0 0 status

/-- A drain toward state `st` starts. -/
def State.drainTo (s : State) (st : Nat) (reload : Bool) : State :=
  { s.quiesceAll 1 with power := { s.power with target := some st, reload := reload, drainAt := s.now, wake := none } }

/-- A write of PWR_CMD.STATE (R515). A command during a drain ends with BUSY as one during entry does. -/
def State.pwrCmd (s : State) (st : Nat) : State :=
  let now := s.f PWR_STAT_STATE
  let ends (s : State) (status : Nat) : State := s.setF PWR_STAT_RESULT 0 0 status
  if 4 < st then s.errOn PAGE_ERR_RESERVED_ENC 0x03 0
  else if s.b PWR_STAT_ENTERING || s.power.target.isSome then ends s 0x24
  else if s.f DEV_SERVICE_SERVICE != 2 || 1 < now || st == now then ends s 0x22
  else if st == 0 then (if s.wakeOn 6 then ends (s.wakeIdle 6 0 0) 0 else ends s 0x22)
  else if st == 1 then ends (s.setF PWR_STAT_STATE 0 0 1) 0
  else s.drainTo st false

/-! ### Entry (Table 17-3) -/

/-- Step 2 for one quad: EIE on every lane, KPB links to DISABLED, Ethernet links down. -/
def State.quadOff (s : State) (q : Nat) : State :=
  s.each 4 fun s j =>
    let n := 4 * q + j
    if s.absent 0x30 n && s.absent 0x40 n then s
    else if s.quadMode q == 1 then s.linkEnable n false
    else s.emacDrop n

/-- The levels of INT_N follow the state: released in SLEEP, DSLEEP and OFF, driven as the requests stand otherwise (Table 17-5). -/
def State.intPins (s : State) (driven : Bool) : State :=
  [0, 1].foldl (fun (s : State) k => if s.irqReq.contains (195 + k) then s.emit (.intN k driven) else s) s

/-- Registers that stay in OFF: the PWR, NRG and DCH pages, GLN_SEQ and the Gleaner's other always-on fields, and the strap fields (R513). -/
def keptInOff (k : Nat) : Bool :=
  let blk := k / 8 / 2 ^ 20
  blk == 0x03 || blk == 0x04 || blk == 0x09 || k == GLN_SEQ_SEQ.addr 0 0 || k == DEV_STRAPS_DCH_HEAD.addr 0 0 ||
  k == DEV_STRAPS_LEAD_HOST.addr 0 0 || k == TIME_STAT_SET_ONCE.addr 0 0 || k == TIME_STAT_HOLDOVER.addr 0 0

/-- Steps 1 to 3 of Table 17-3 toward `st`: commits, sequencers, links, the last telemetry samples. -/
def State.powerDown (s : State) (st : Nat) (samples : List (Nat × Nat × Nat)) : State :=
  let s := s.epochForced
  let s := s.each 96 fun s n => if s.quadMode (n / 4) == 1 && s.b KSCH_STAT_RUNNING n then s.seqStop n else s
  let s := s.each 96 fun s n => s.abandonFrame n
  let s := s.each 512 fun s u => s.abandonPos u
  let s := s.each 24 fun s q => if s.keepsDom st (9 + q) then s else s.quadOff q
  let s := s.each 4 fun s p => s.hostDown p
  let s := samples.foldl (fun (s : State) x => s.telemetry x.1 x.2.1 x.2.2 true) s
  let s := s.intPins false
  s.holdover

/-- Step 4 of Table 17-3 for SLEEP and DSLEEP: the domains that `st` does not keep go to retention. -/
def State.switchOff (s : State) (st : Nat) : State :=
  let s := s.each 51 fun s d => if d == 0 || s.keepsDom st d || s.f PWR_DOM_STAT_DSTATE d == 0 then s else s.setF PWR_DOM_STAT_DSTATE d 0 1
  let s := if st == 3 then s.nrgGap else s
  { s.setF PWR_STAT_STATE 0 0 st with pinQ := [], glnOff := s.glnOff + 1 }

/-! ### Exit (R522 to R524) -/

/-- References that count edges are unreliable after an exit (R524). -/
def State.refsLost (s : State) : State :=
  s.each 8 fun s p => if s.f PREF_CTL_SRC p == 1 || s.f PREF_CTL_SRC p == 2 then s.unreliable p else s

/-- Exit from SLEEP or DSLEEP to RUN: domains from retention, links, acceptance (R522). -/
def State.powerExit (s : State) (w : Nat × Nat × Nat × Nat) (during : Bool) : State :=
  let left := s.f PWR_STAT_STATE
  let s := (s.wakeRecord w during left).setF PWR_STAT_STATE 0 0 0
  let off := (List.range 51).filter fun d => d != 0 && s.f PWR_DOM_STAT_DSTATE d == 1
  let s := off.foldl State.domBack s
  let s := if off.contains 47 then s.refsLost else s
  let s := { s.setF TIME_STAT_HOLDOVER 0 0 0 with tm := { s.tm with good := 0 } }
  let s := s.intPins true
  let s := s.each 96 fun s n =>
    if s.quadMode (n / 4) == 1 && !(s.absent 0x30 n) then
      (if s.b KRP_CTL_ENABLE n then s.linkEnable n true else s).seqUpdate n
    else s
  s.quiesceAll 0

/-! ### Outputs at the edge of an unpowered domain (R525) -/

/-- Groups of outputs (Table 17-5). -/
inductive Outputs where
  | triggers
  | lanes (quad : Nat)
  | pcie (port : Nat)
  | board
  | intN
  | chain
deriving DecidableEq, Repr

/-- The domain of a group. -/
def Outputs.dom : Outputs → Nat
  | .triggers => 47
  | .lanes q => 9 + q
  | .pcie p => 33 + p
  | .board => 45
  | .intN => 46
  | .chain => 46

/-- A group of outputs floats: its domain is off; the chain's transmit pair in OFF (Table 17-5). -/
def State.floats (s : State) (g : Outputs) : Bool := !(s.domOn g.dom) || (g == .chain && s.f PWR_STAT_STATE == 4)

/-- INT_N is released, whatever requests stand (Table 17-5). -/
def State.intReleased (s : State) : Bool := decide (2 ≤ s.f PWR_STAT_STATE)

/-! ### Wake sources (R519 to R521) -/

/-- A wake source acts: in IDLE the tillers run again; in SLEEP and DSLEEP the exit runs; in OFF, PWR_REQ rises; during an entry it is kept. -/
def State.wakeBy (s : State) (source unit detail : Nat) : State :=
  let st := s.f PWR_STAT_STATE
  if s.power.target.isSome || st ≤ 1 then s.wakeIdle source unit detail
  else if !(s.wakeOn source) || !((wakes source).contains st) then s
  else if st == 4 then
    (if s.power.wake.isSome then s.wakeTie source unit detail
     else
       let w := (source, unit, detail, s.devTime)
       ({ s with power := { s.power with wake := some w } }.wakeRecord w false 4).emit (.pwrReq true))
  else s.powerExit (source, unit, detail, s.devTime) false

/-- Entry has ended: a source that acted since the command exits at once (R521). A start from OFF waits for the rails. -/
def State.wakeAfter (s : State) (w : Option (Nat × Nat × Nat × Nat)) : State :=
  match w with
  | none => s
  | some w =>
    let st := s.f PWR_STAT_STATE
    if !((wakes w.1).contains st) then s
    else if st == 4 then
      ({ s with power := { s.power with wake := some w } }.wakeRecord w true 4).emit (.pwrReq true)
    else s.powerExit w true

end Sys2Proof.Machine
end

