-- ==== Sys2Proof/Machine/Flash.lean ====
section
/-! DEFINITION. The boot flash (R592, R593): its SFDP tables, the read mode, erasing and programming, and the directory. -/
namespace Sys2Proof.Machine

/-! ### SFDP

R592 names JESD216 and does not repeat it: the places of the fields are PRESUMED from that standard (log entry 97). -/

/-- Four bytes of the SFDP space at `a`. -/
def sfdpWord (a : Nat) : Nat := leNat ((List.range 4).map fun i => Config.sfdp (a + i))

/-- DWORD `n`, counted from 1, of the Basic Flash Parameter Table; its pointer is bytes 12 to 14 of the header. -/
def bfpt (n : Nat) : Nat := sfdpWord (sfdpWord 12 % 2 ^ 24 + 4 * (n - 1))

/-- How the flash is read: instruction, data lines of the address and of the data, dummy cycles. -/
structure SpiRead where
  op : Nat
  addrLines : Nat
  dataLines : Nat
  dummies : Nat
deriving DecidableEq, Repr

/-- The fastest of 1-4-4, 1-1-4 and 1-1-1 that the table lists (R592). The table holds no instruction for 1-1-1; Fast Read with 8 dummy cycles
is PRESUMED. -/
def spiRead : SpiRead :=
  let m := bfpt 3
  let clocks (at_ : Nat) : Nat := m / 2 ^ at_ % 32 + m / 2 ^ (at_ + 5) % 8
  if bit (bfpt 1) 21 then { op := m / 2 ^ 8 % 256, addrLines := 4, dataLines := 4, dummies := clocks 0 }
  else if bit (bfpt 1) 22 then { op := m / 2 ^ 24 % 256, addrLines := 1, dataLines := 4, dummies := clocks 16 }
  else { op := 0x0B, addrLines := 1, dataLines := 1, dummies := 8 }

/-- The erase types that the table lists: instruction and size. -/
def spiErases : List (Nat × Nat) :=
  [(bfpt 8, 0), (bfpt 8, 16), (bfpt 9, 0), (bfpt 9, 16)].filterMap fun (x : Nat × Nat) =>
    let size := x.1 / 2 ^ x.2 % 256
    if size == 0 then none else some (x.1 / 2 ^ (x.2 + 8) % 256, 2 ^ size)

/-- Size of a page for page program. -/
def spiPage : Nat := 2 ^ (bfpt 11 / 16 % 16)

/-! ### Reading, erasing and programming -/

/-- SFDP is read: header, then Basic Flash Parameter Table, with 0x5A in 1-1-1 mode at 10 MHz (R592). -/
def State.sfdpRead (s : State) : State :=
  (s.emit (.spiRead 0x5A 1 1 8 10 0 16)).emit (.spiRead 0x5A 1 1 8 10 (sfdpWord 12 % 2 ^ 24) (4 * (sfdpWord 8 / 2 ^ 24)))

/-- `len` bytes at the 3-byte address `a` are read, at 104 MHz (R592). -/
def State.flashRead (s : State) (a len : Nat) : State :=
  s.emit (.spiRead spiRead.op spiRead.addrLines spiRead.dataLines spiRead.dummies 104 (a % 2 ^ 24) len)

/-- The first `data.length` bytes from `a` on are erased and programmed, Read Status polled after each. `region` is the size that may be erased; which
of the erase types that divide it and `a` is used is left open: a free choice. -/
def State.flashProgram (s : State) (a region : Nat) (data : List (BitVec 8)) : State :=
  let fits := spiErases.filter fun (x : Nat × Nat) => a % x.2 == 0 && region % x.2 == 0
  let er := fits.getD (Config.freeNat s.draws % fits.length) (0, region)
  let s := (s.bump.emit (.spiErase er.1 a er.2 ((data.length + er.2 - 1) / er.2))).emit .spiStatus
  (s.emit (.spiProgram a spiPage data)).emit .spiStatus

/-! ### The directory (R593) -/

/-- A directory copy that names slot `active` with generation `gen`. -/
def dirBytes (active gen : Nat) : List (BitVec 8) :=
  let h := leBytes 4 0x4C514449 ++ leBytes 4 (active % 2) ++ leBytes 4 gen
  h ++ leBytes 4 (crc32c h) ++ List.replicate 4080 0

/-- ACTIVE and GEN of a copy whose CRC holds. -/
def dirOf (c : List (BitVec 8)) : Option (Nat × Nat) :=
  if leAt c 12 4 == crc32c (c.take 12) then some (leAt c 4 1, leAt c 8 4) else none

/-- The directory Sage uses. Where neither CRC holds the spec names none: ACTIVE and GEN are then free. -/
def State.directory (s : State) (c0 c1 : List (BitVec 8)) : Nat × Nat :=
  match dirOf c0, dirOf c1 with
  | some d0, some d1 => if later d1.2 d0.2 32 then d1 else d0
  | some d0, none => d0
  | none, some d1 => d1
  | none, none => (Config.freeNat s.draws % 2, Config.freeNat (s.draws + 1) % 2 ^ 32)

/-- A new directory naming `slot` is written as copy 1 and then as copy 0, GEN incremented. -/
def State.dirWrite (s : State) (slot : Nat) : State :=
  let g := (s.boot.dir.2 + 1) % 2 ^ 32
  let s := (s.flashProgram 0x1000 0x1000 (dirBytes slot g)).flashProgram 0 0x1000 (dirBytes slot g)
  { s with boot := { s.boot with dir := (slot, g), dirs := some (slot, g) } }

/-- Where an image slot begins (Table 20-7). -/
def slotAt (slot : Nat) : Nat := 0x400000 * (1 + slot % 2)

/-- An image is read for the checks of R594: its header, then the rest where the header gives a length that check 1 allows. -/
def State.imageRead (s : State) (slot : Nat) (m : Image) : State :=
  let s := s.flashRead (slotAt slot) 512
  if decide (512 < m.length) && decide (m.length ≤ 2097152) then s.flashRead (slotAt slot + 512) (m.length - 512) else s

end Sys2Proof.Machine
end

