-- ==== Sys2Proof/Machine/Startup.lean ====
section
/-! DEFINITION. Start-up: what survives a reset, the steps of Table 20-9, images (chapter 20). Steps take no time of their own. -/
namespace Sys2Proof.Machine

/-! ### What is kept -/

/-- Everything but what the always-on domain and flash keep is gone, and no instance exists (R513, R522, R573). -/
def State.alwaysOn (s : State) : State :=
  let o : State := {}
  { o with
    pending := s.pending, now := s.now, devTime := s.devTime, draws := s.draws, out := s.out
    regs := s.regs.filter fun (e : Nat × Nat) => keptInOff e.1
    mem := s.mem.filter fun (c : Host.Cell) => decide (c.1 < 2 ^ 70)
    gln := s.gln, glnOff := s.glnOff
    rsv := { o.rsv with failed := s.rsv.failed, rows := s.rsv.rows }
    nrgs := s.nrgs, power := s.power, chain := s.chain, boot := { s.boot with phase := 0, writing := none } }

/-- OFF is entered: for the reason `why` (0 command, 1 supply, 2 thermal trip, 3 REFCLK). PWR_REQ goes low but where REFCLK has gone;
at a thermal trip it is low already (R583, R585). -/
def State.enterOff (s : State) (why : Nat) : State :=
  let s := { s with glnOff := s.glnOff + b2n (s.domOn 48) }
  let s := s.each 51 fun s d => if d == 0 || d == 46 then s else (s.setF PWR_DOM_STAT_DSTATE d 0 0).setF PWR_DOM_TEMP_TJ d 0 0
  let left := s.f PWR_STAT_STATE
  let t := s.nrgGap.alwaysOn
  let t := { t with
    power := { wake := s.power.wake, offAt := s.now, why := why, left := left, bands := s.power.bands,
               held := s.power.held }
    chain := { s.chain with upQ := [], downQ := [] } }
  let t := ((t.setF PWR_STAT_STATE 0 0 4).setF PWR_STAT_ENTERING 0 0 0).setF PWR_STAT_SUPPLY_LOW 0 0 0
  let t := (t.setF PWR_STAT_THROTTLING 0 0 0).setF PWR_STAT_TJ_MAX 0 0 0
  let t := (t.setF DCH_STAT_UP_LINK 0 0 0).setF DCH_STAT_DOWN_LINK 0 0 0
  if why ≤ 1 then t.emit (.pwrReq false) else t

/-- POR_N is low (R587): every domain is reset, the always-on domain included; flash, pins, host memory and time stay. -/
def State.porState (s : State) : State :=
  let o : State := {}
  { o with
    pending := s.pending, now := s.now, draws := s.draws, out := s.out
    mem := s.mem.filter fun (c : Host.Cell) => decide (c.1 < 2 ^ 70)
    rsv := { o.rsv with failed := s.rsv.failed, rows := s.rsv.rows }
    boot := { o.boot with number := s.boot.number, perst := s.boot.perst, perstUp := s.boot.perstUp, dirs := s.boot.dirs,
                          slots := s.boot.slots, refGone := s.boot.refGone, svnMin := s.boot.svnMin } }

/-! ### The repair map (R501) -/

/-- A unit that the repair map marks failed is out of the reserve, or out of service where no reserve was left. -/
def State.repairOne (s : State) (por : Bool) (f : Failed) : State :=
  if f.kind == 3 || (f.kind == 2 && !por) then s
  else if s.rsvLeft f.kind f.unit != 0 then s.rsvUse f.kind f.unit
  else if f.kind == 1 then { s with placesOut := PMap.put s.placesOut f.unit (min 16 (PMap.get s.placesOut f.unit 0 + 1)) }
  else { s with fenced := s.fenced ++ (wornPages f.kind f.unit).filter fun p => !(s.fenced.contains p) }

/-- The repair map is loaded: counts of Table 16-1 as it leaves them. -/
def State.repairLoad (s : State) (por : Bool) : State :=
  let used := (s.rsv.rows.map fun (x : Nat × Nat) => 4 - x.2).sum
  let s := s.setF SAGE_RSV_SRAM_ROWS 0 0 (s.f SAGE_RSV_SRAM_ROWS - used)
  s.rsv.failed.foldl (fun (s : State) f => s.repairOne por f) s

/-! ### Start-up (R597) -/

/-- Domains that step 1 of Table 20-9 switches on, and the always-on domain. -/
def firstDoms : List Nat := [45, 46, 49, 50, 43, 44, 33, 34, 35, 36, 37, 38, 39, 40]
/-- Domains that step 8 switches on. -/
def restDoms : List Nat := (List.range 32).map (· + 1) ++ [41, 42, 47, 48]

/-- Start-up begins (steps 1 to 3), with SFDP and then the repair map read from flash (R501, R592); `source` is 0 at POR_N, the wake source at a start from OFF, 9 at a reload and 10 at a restart of the
boot. Open demand intervals close early (R536). -/
def State.startUp (s : State) (source : Nat) : State :=
  let s := { s with boot := { s.boot with phase := 1, at_ := s.now, source := source, number := s.boot.number + 1, trng := 0xF, asked := 0,
                                          seedAt := 0 }
                    power := { s.power with target := none, reload := false, wake := none, lowAt := none, pnrAt := none }
                    epochPer := s.f DEV_EPOCH_PERIOD_PERIOD, timerAt := s.now }
  let s := firstDoms.foldl State.domUp s
  let s := if source == 10 then s else (s.sfdpRead.flashRead 0x10000 0x10000).repairLoad (source == 0)
  let s := ((s.setF PWR_STAT_STATE 0 0 0).setF TIME_STAT_HOLDOVER 0 0 0).setF SAGE_STAT_BOOT 0 0 1
  let s := match s.boot.svnMin with
    | some v => s.setF SAGE_SEC_SVN_MIN 0 0 v
    | none => s
  s.nrgEarly s.devTime s.devTime

/-- A start from OFF by source 8: the record of R520 shows the state that was left. -/
def State.startSupply (s : State) : State :=
  let left := if s.power.left == 2 || s.power.left == 3 then s.power.left else 4
  let s := s.wakeRecord (8, 0, 0, s.devTime) false left
  (if s.power.why == 3 then s else s.emit (.pwrReq true)).startUp 8

/-- Entry has come to step 4 for OFF, or for a reload (R513, R573). -/
def State.entryEnd (s : State) (st : Nat) (reload : Bool) : State :=
  if reload then
    let s := { s with glnOff := s.glnOff + 1 }
    let s := s.each 51 fun s d => if d == 0 || d == 46 then s else s.setF PWR_DOM_STAT_DSTATE d 0 0
    s.nrgGap.alwaysOn.startUp 9
  else if st == 4 then s.enterOff 0
  else s.switchOff st

/-! ### Images (R594, R595) -/

/-- The checks of R594, in order; they have no effect, so their order does not show. -/
def State.imageOk (s : State) (m : Image) : Bool :=
  m.magic == 0x5A494D47 && m.fmt == 1 && decide (512 ≤ m.length) && decide (m.length ≤ 2097152) &&
  decide (m.key < 4) && !(bit (s.f SAGE_STAT_KEY_REVOKED) m.key) && m.keyHashOk && m.sigOk && decide (s.f SAGE_SEC_SVN_MIN ≤ m.svn) &&
  m.digestOk

/-- The image that a run of bytes holds (Table 20-8). -/
def flashImage (bs : List (BitVec 8)) : Image := {
  magic := leAt bs 0 4, fmt := leAt bs 4 2, lvl := leAt bs 6 1 % 16, key := leAt bs 7 1, svn := leAt bs 8 2, version := leAt bs 12 4,
  length := leAt bs 16 8, keyHashOk := Config.keyHashOk (leAt bs 7 1) ((bs.drop 72).take 97), sigOk := Config.sigOk bs,
  digestOk := Config.digestOk bs }

/-- The image boots from a slot: its level, versions and HOST_CTL, then SAGE_READY and the walk or JOIN that it brings (R567, R597). -/
def State.imageRuns (s : State) (slot : Nat) (m : Image) (hostCtl : List Nat) : State :=
  let s := (s.setF SAGE_STAT_BOOT 0 0 2).setF SAGE_STAT_SLOT 0 0 slot
  let s := (s.setF SAGE_IMG_VER_VERSION 0 0 m.version).setF SAGE_SEC_SVN 0 0 m.svn
  let s := s.setF DCH_STAT_LVL_OWN 0 0 m.lvl
  let s := s.each 4 fun s p =>
    let v := hostCtl.getD p 0
    let s' := ((s.setF HOST_CTL_SPLIT p 0 (v / 2)).setF HOST_CTL_ACTIVE p 0 (v / 4)).setF HOST_CTL_CLK_MODE p 0 (v / 8)
    if s'.f HOST_CTL_SPLIT p == s.f HOST_CTL_SPLIT p && s'.f HOST_CTL_ACTIVE p == s.f HOST_CTL_ACTIVE p &&
      s'.f HOST_CTL_CLK_MODE p == s.f HOST_CTL_CLK_MODE p then s else s'.hostDown p
  let s := { s.setF DEV_SERVICE_SAGE_READY 0 0 1 with boot := { s.boot with phase := 2 } }
  if s.isHead then s.walkStart else s.join

/-! ### Entropy (R601, R602) -/

/-- The DRBG is seeded, for the first time or again; provisional keys are replaced at a boundary that Zhoem requests, and re-keys that had to
wait are made there (R341, R601, R602). -/
def State.entropyUp (s : State) : State :=
  let s := { (s.setF DEV_SERVICE_ENTROPY_READY 0 0 1).setF RNG_STAT_READY 0 0 1 with
               boot := { s.boot with asked := 0, seedAt := s.now } }
  let s := ((s.setF RNG_STAT_STARVED 0 0 0).setF RNG_OUT_STATUS 0 0 0).setF PMC_S_STAT_PROVISIONAL 0 0 0
  if (List.range 96).any (fun n => s.b ESTR_STAT_PROVISIONAL n || (s.emac n).rekey) then { s with epochReq := true } else s

/-- A reseed falls due, or is asked for (R601, R602). -/
def State.reseed (s : State) : State :=
  if 2 ≤ popcount 4 (s.f RNG_STAT_SRC_OK) then (s.addF RNG_CNT_RESEED_COUNT 0 0 1).entropyUp
  else
    let s := ((s.setF DEV_SERVICE_ENTROPY_READY 0 0 0).setF RNG_STAT_READY 0 0 0).setF RNG_OUT_STATUS 0 0 0x22
    ({ s.setF RNG_STAT_STARVED 0 0 1 with boot := { s.boot with asked := 0, seedAt := s.now } }).err RNG_ERR_STARVED 0

end Sys2Proof.Machine
end

