-- ==== Sys2Proof/Machine/PowerCmds.lean ====
section
/-! DEFINITION. The commands and events of power, regulators, temperature and energy (chapter 17), and the telemetry poll (R152). -/
namespace Sys2Proof.Machine

/-- TELEMETRY_POLL (R152): the switch of root port `port` is read. -/
def execTelemetryPoll (port status pin : Nat) (ok : Bool) (s : State) : Res := .next (s.telemetry port status pin ok)

/-! ### PWR_CMD (R515) -/

/-- PWR_CMD_RUN. -/
def execPwrCmdRun (fn : Nat) (s : State) : Res := .next (s.act fn 0x03 0 true fun s => s.pwrCmd 0)
/-- PWR_CMD_IDLE (R518). -/
def execPwrCmdIdle (fn : Nat) (s : State) : Res := .next (s.act fn 0x03 0 true fun s => s.pwrCmd 1)
/-- PWR_CMD_SLEEP. -/
def execPwrCmdSleep (fn : Nat) (s : State) : Res := .next (s.act fn 0x03 0 true fun s => s.pwrCmd 2)
/-- PWR_CMD_DSLEEP. -/
def execPwrCmdDsleep (fn : Nat) (s : State) : Res := .next (s.act fn 0x03 0 true fun s => s.pwrCmd 3)
/-- PWR_CMD_OFF. -/
def execPwrCmdOff (fn : Nat) (s : State) : Res := .next (s.act fn 0x03 0 true fun s => s.pwrCmd 4)

/-- A takeover in a stook waits or runs (R509): a tiller, a phase or a bank of its translation cache. -/
def State.stookTakeover (s : State) : Bool := s.rsv.takes.any fun w => w.kind == 1 || w.kind == 2 || (w.kind == 7 && decide (w.unit < 8))

/-- Entry may run: its drain holds, no takeover in a stook runs, and an epoch boundary may come (R57, R509, R516). -/
def State.entryReady (s : State) : Bool := !(s.stookTakeover) && decide (s.epochAt + us 10 ≤ s.now) && s.drainHolds

/-- POWER_ENTRY: the drain holds and the steps of Table 17-3 run (R517). `samples` are the last readings of the switches: port, STATUS_WORD,
PIN. -/
def execPowerEntry (samples : List (Nat × Nat × Nat)) (s : State) : Res :=
  .next <| match s.power.target with
  | none => s
  | some st =>
    if !(s.entryReady) then s
    else
      let reload := s.power.reload
      let w := s.power.wake
      let s := { s with power := { s.power with target := none, reload := false, wake := none } }
      let s := ((s.powerDown st samples).entryEnd st reload).setF PWR_STAT_RESULT 0 0 0
      if reload then s else s.wakeAfter w

/-- DRAIN_TIMEOUT (R516): acceptance resumes and RESULT is BUSY. -/
def execDrainTimeout (s : State) : Res :=
  .next (if s.power.target.isSome && decide (s.power.drainAt + ms (s.f PWR_CTL_DRAIN_MS) ≤ s.now) then s.drainEnd_ 0x24 else s)

/-- WAKE_N asserts: wake source 1 (R519, R590). -/
def execWakeN (s : State) : Res := .next (s.wakeBy 1 0 0)

/-! ### Supply (R527) -/

/-- The main supply feeds the device: it has started and is not in OFF. -/
def State.powered (s : State) : Bool := s.boot.phase != 0 && s.f PWR_STAT_STATE != 4 && s.power.pnrAt.isNone

/-- An entry under way is abandoned (R539). -/
def State.entryAbandon (s : State) : State := if s.power.target.isSome then s.drainEnd_ 0x24 else s

/-- SUPPLY_WARNING: step 1 of Table 17-7. -/
def execSupplyWarning (s : State) : Res :=
  .next (if !(s.powered) || s.b PWR_STAT_SUPPLY_LOW then s
    else
      let s := s.entryAbandon
      { s.setF PWR_STAT_SUPPLY_LOW 0 0 1 with power := { s.power with lowAt := some s.now } })

/-- SUPPLY_RECOVERY: step 2. -/
def execSupplyRecovery (s : State) : Res :=
  .next <| match s.power.lowAt with
  | none => s
  | some t =>
    if !(s.powered) || t + us 500 ≤ s.now then s
    else { (s.setF PWR_STAT_SUPPLY_LOW 0 0 0).satF PWR_CNT_DIP_COUNT 0 0 1 with power := { s.power with lowAt := none } }

/-- Step 3 of Table 17-7: accounts close, PWR_LOSS_TIME is written, the save starts; `why` says what brought it. -/
def State.noReturn (s : State) (why : Nat) : State :=
  let s := s.entryAbandon
  let s := (s.nrgLoss).setF PWR_LOSS_TIME_TIME 0 0 (time96 s.devTime)
  { s.setF PWR_STAT_SUPPLY_LOW 0 0 (if why == 1 then 1 else s.f PWR_STAT_SUPPLY_LOW) with
    power := { s.power with pnrAt := some s.now, why := why } }

/-- POINT_OF_NO_RETURN: 500 µs from step 1 without step 2. -/
def execPointOfNoReturn (s : State) : Res :=
  .next <| match s.power.lowAt with
  | none => s
  | some t => if s.powered && decide (t + us 500 ≤ s.now) then s.noReturn 1 else s

/-- SHUTDOWN_SAVE_DONE: step 4. -/
def execShutdownSaveDone (s : State) : Res :=
  .next (if s.power.pnrAt.isSome && s.f PWR_STAT_STATE != 4 then s.enterOff s.power.why else s)

/-- SUPPLY_RESTART: step 5; it does not follow a thermal trip (R532), a lost REFCLK (R585) or a commanded OFF. -/
def execSupplyRestart (s : State) : Res :=
  .next (if s.f PWR_STAT_STATE == 4 && s.power.why == 1 && decide (s.power.offAt + ms 10 ≤ s.now) then s.startSupply else s)

/-- REFCLK_LOSS: REFCLK has stopped for 1 µs while PWR_REQ is high (R585). -/
def execRefclkLoss (s : State) : Res :=
  .next <|
    let s := { s with boot := { s.boot with refGone := true } }
    if s.powered then s.noReturn 3 else s

/-- REFCLK_RETURN: REFCLK has run again for 10 ms (R585). -/
def execRefclkReturn (s : State) : Res :=
  .next <|
    let s := { s with boot := { s.boot with refGone := false } }
    if s.f PWR_STAT_STATE == 4 && s.power.why == 3 then s.startSupply else s

/-- RAILS_IN_TOLERANCE: 1 ms after every rail is within tolerance, PWR_REQ having risen in OFF for a wake source (R583). -/
def execRailsInTolerance (s : State) : Res :=
  .next <| match s.power.wake with
  | some w => if s.f PWR_STAT_STATE == 4 && !s.boot.refGone then s.startUp w.1 else s
  | none => s

/-! ### Regulators (R528 to R530) -/

/-- PHASE_FAIL: a phase of stook `stook` fails open under load. -/
def execPhaseFail (stook phase : Nat) (s : State) : Res :=
  .next (if stook < 8 && phase < 14 && s.domOn (1 + stook) && s.powered then
    s.fault { kind := 2, dom := 1 + stook, unit := stook, place := phase, cause := 1 } else s)

/-- RESERVE_PHASE_IN. -/
def execReservePhaseIn (stook : Nat) (s : State) : Res := .next (s.takeover 2 stook)

/-- PHASE_SENSE_FAIL: the phase runs on estimated current and is nominated (R529). -/
def execPhaseSenseFail (stook phase : Nat) (s : State) : Res :=
  .next (if stook < 8 && phase < 14 && s.domOn (1 + stook) && s.powered then
    s.nominate { kind := 2, dom := 1 + stook, unit := stook, place := phase, cause := 5, at_ := s.now } else s)

/-! ### Temperature (R531, R532) -/

/-- The larger of two temperatures, as signed bytes. -/
def hotter (a b : Nat) : Nat := if sgn a 8 < sgn b 8 then b else a

/-- Domain `d` reports its hottest sensor; TJ_MAX is the hottest of the domains that are on. -/
def State.tempIs (s : State) (d temp : Nat) : State :=
  let s := s.setF PWR_DOM_TEMP_TJ d 0 temp
  let on := (List.range 51).filter fun k => k != 0 && s.f PWR_DOM_STAT_DSTATE k != 0
  match on.map fun k => s.f PWR_DOM_TEMP_TJ k with
  | [] => s
  | t :: ts => s.setF PWR_STAT_TJ_MAX 0 0 (ts.foldl hotter t)

/-- THROTTLING: the tiller clock of a stook is below full rate. -/
def State.throttleShow (s : State) : State :=
  s.setF PWR_STAT_THROTTLING 0 0 (b2n ((List.range 8).any fun k => decide (s.f PWR_DOM_STAT_CLOCK (1 + k) < 16)))

/-- The tiller clock of a stook is stepped. -/
def State.clockIs (s : State) (k c : Nat) : State :=
  let p := s.power
  let slow := if 16 ≤ c then PMap.del p.slowAt k else if (PMap.find p.slowAt k).isSome then p.slowAt else PMap.put p.slowAt k s.now
  ({ s.setF PWR_DOM_STAT_CLOCK (1 + k) 0 c with power := { p with stepAt := PMap.put p.stepAt k s.now, slowAt := slow } }).throttleShow

/-- The clock of stook `k` may step again `gap` after its last step. -/
def State.clockDue (s : State) (k gap : Nat) : Bool := decide ((PMap.get s.power.stepAt k 0) + gap ≤ s.now)

/-- THERMAL_THROTTLE_TICK: the hottest sensor of the stook reads `temp`, a signed byte in °C. -/
def execThermalThrottleTick (stook temp : Nat) (s : State) : Res :=
  .next (if !(decide (stook < 8)) || !(s.domOn (1 + stook)) || !(s.powered) then s
    else
      let s := s.tempIs (1 + stook) (temp % 256)
      let c := s.f PWR_DOM_STAT_CLOCK (1 + stook)
      if 100 ≤ sgn (temp % 256) 8 && s.f PWR_CTL_THERM_FLOOR < c && s.clockDue stook (us 100) then s.clockIs stook (c - 1) else s)

/-- THERMAL_RAISE_TICK. -/
def execThermalRaiseTick (stook temp : Nat) (s : State) : Res :=
  .next (if !(decide (stook < 8)) || !(s.domOn (1 + stook)) || !(s.powered) then s
    else
      let s := s.tempIs (1 + stook) (temp % 256)
      let c := s.f PWR_DOM_STAT_CLOCK (1 + stook)
      if sgn (temp % 256) 8 < 98 && c < 16 && s.clockDue stook (ms 1) then s.clockIs stook (c + 1) else s)

/-- Every stook that is on runs at its floor. -/
def State.atFloor (s : State) : Bool :=
  (List.range 8).all fun k => !(s.domOn (1 + k)) || decide (s.f PWR_DOM_STAT_CLOCK (1 + k) ≤ s.f PWR_CTL_THERM_FLOOR)

/-- THERMAL_TRIP: a sensor of domain `dom` has read 110 °C for 10 µs, or 105 °C for 100 ms with every stook at its floor (R532). PWR_REQ goes
low at once (R583). -/
def execThermalTrip (dom temp : Nat) (s : State) : Res :=
  .next <|
    let t := sgn (temp % 256) 8
    if !(1 ≤ dom && dom ≤ 50) || !(s.domOn dom) || !(s.powered) then s
    else if 110 ≤ t || (105 ≤ t && s.atFloor) then
      (((s.tempIs dom (temp % 256)).err PWR_ERR_THERM_TRIP 0).noReturn 2).emit (.pwrReq false)
    else s

/-! ### Energy (R535, R536, R541) -/

/-- DEMAND_INTERVAL_END: intervals of ports with no sample outstanding close at the boundary that has passed; the others close with the span
that reaches it (R534). -/
def execDemandIntervalEnd (s : State) : Res :=
  .next <|
    let b := s.nextDemand s.devTime - sec s.demandLen
    s.nrgs.foldl (fun (s : State) x =>
      if x.2.isOpen && x.2.last.isNone && x.2.start < b then s.nrgTurn x.1 b false else s) s

/-- TARIFF_POINT: the time of day passes a VALID point. -/
def execTariffPoint (s : State) : Res :=
  .next <|
    let now := s.timeOfDay s.devTime
    match s.tariffPoints.find? fun p => p.1 == now with
    | some p => if s.b TIME_STAT_SET_ONCE then (s.setBand s.devTime p.2).bandHeld false else s
    | none => s

/-- A write of PWR_TARIFF with SET; while device time has not been set, BOOT_BAND is in effect (R535). -/
def State.tariffSet (s : State) (band : Nat) : State := if s.b TIME_STAT_SET_ONCE then (s.setBand s.devTime (band % 4)).bandHeld true else s

/-- PWR_TARIFF_SET. -/
def execPwrTariffSet (fn band : Nat) (s : State) : Res := .next (s.act fn 0x03 0 true fun s => s.tariffSet band)

/-- NRG_CMD.CLEAR_ACC. -/
def State.clearAcc (s : State) (n : Nat) : State := s.each 4 fun s b => s.setF NRG_ACC_UJ n b 0
/-- NRG_CMD.CLEAR_MAX. -/
def State.clearMax (s : State) (n : Nat) : State := (s.setF NRG_MAX_AVG_MW n 0 0).setF NRG_MAX_START_SEC n 0 0

/-- NRG_CMD_CLEAR_ACC. -/
def execNrgCmdClearAcc (fn port : Nat) (s : State) : Res := .next (s.act fn 0x04 port true fun s => s.clearAcc port)
/-- NRG_CMD_CLEAR_MAX. -/
def execNrgCmdClearMax (fn port : Nat) (s : State) : Res := .next (s.act fn 0x04 port true fun s => s.clearMax port)

end Sys2Proof.Machine
end

