-- ==== Sys2Proof/Machine/ChainCmds.lean ====
section
/-! DEFINITION. The commands and events of the Drueg chain (chapter 19). -/
namespace Sys2Proof.Machine

/-- The chain port runs: in every state but OFF, and while POR_N is high (R568). -/
def State.chainRuns (s : State) : Bool := s.boot.phase != 0 && s.f PWR_STAT_STATE != 4

/-- What a WAKE that the unit takes does (R570): nothing in RUN, where it is counted. -/
def State.chainWake (s : State) : State :=
  if s.f PWR_STAT_STATE == 0 && s.power.target.isNone then s.satF DCH_CNT_WAKE_IGNORED_COUNT 0 0 1 else s.wakeBy 2 0 0

/-- The unit takes a frame: its own address or 0xFF (R565). -/
def State.chainMine (s : State) (f : List (BitVec 8)) : Bool :=
  cDst f == 0xFF || (s.chainAddr != 0 && cDst f == s.chainAddr) || (s.isHead && cDst f == 1)

/-- A frame arrives that `is` says the command carries. -/
def State.chainFrame (s : State) (is : Bool) (fromUp : Bool) (f : List (BitVec 8)) : State :=
  if s.chainRuns && is then s.chainIn fromUp f State.chainWake else s

/-- WALK (R566). -/
def execWalk (fromUp : Bool) (frame : List (BitVec 8)) (s : State) : Res := .next (s.chainFrame (cType frame == 0x01) fromUp frame)
/-- WALK_END. -/
def execWalkEnd (fromUp : Bool) (frame : List (BitVec 8)) (s : State) : Res :=
  .next (s.chainFrame (cType frame == 0x02 && s.chainMine frame) fromUp frame)
/-- LEVEL_SET (R571). -/
def execLevelSet (fromUp : Bool) (frame : List (BitVec 8)) (s : State) : Res :=
  .next (s.chainFrame (cType frame == 0x03 && s.chainMine frame) fromUp frame)
/-- JOIN (R567). -/
def execJoin (fromUp : Bool) (frame : List (BitVec 8)) (s : State) : Res :=
  .next (s.chainFrame (cType frame == 0x04 && s.chainMine frame) fromUp frame)
/-- WAKE (R570). -/
def execWake (fromUp : Bool) (frame : List (BitVec 8)) (s : State) : Res :=
  .next (s.chainFrame (cType frame == 0x05 && s.chainMine frame) fromUp frame)
/-- MSG, and the frames of reserved types, which are discarded and counted (R574, Table 19-2). -/
def execMsg (fromUp : Bool) (frame : List (BitVec 8)) (s : State) : Res :=
  .next (s.chainFrame (!(chainBase (cType frame)) && s.chainMine frame) fromUp frame)
/-- CHAIN_FRAME_REPEAT: a frame for another address (R565). -/
def execChainFrameRepeat (fromUp : Bool) (frame : List (BitVec 8)) (s : State) : Res :=
  .next (s.chainFrame (cType frame != 0x01 && !(s.chainMine frame)) fromUp frame)

/-- LINK_BEAT: a transmit pair has carried no transition for 4 µs; its eight bits take 0.8 µs (R562, R563). -/
def execLinkBeat (up : Bool) (s : State) : Res :=
  .next <|
    let c := s.chain
    let quiet := decide ((if up then c.upTx else c.downTx) + us 4 ≤ s.now) && (if up then c.upQ else c.downQ).isEmpty
    if s.chainRuns && quiet then
      let t := s.now + ns 800
      (s.setChain (if up then { c with upTx := t, upEnd := t } else { c with downTx := t, downEnd := t })).emit (.beat up)
    else s

/-- CHAIN_LINK_LOSS: a receive pair has carried no transition for 10 µs (R563). -/
def execChainLinkLoss (up : Bool) (s : State) : Res :=
  .next (if s.chainRuns && decide ((if up then s.chain.upRx else s.chain.downRx) + us 10 ≤ s.now) then
    s.setF (if up then DCH_STAT_UP_LINK else DCH_STAT_DOWN_LINK) 0 0 0 else s)

/-- CHAIN_LINK_GAIN: a transition appears on a receive pair (R563, R567). -/
def execChainLinkGain (up : Bool) (s : State) : Res :=
  .next (if !(s.chainRuns) then s
    else
      let F := if up then DCH_STAT_UP_LINK else DCH_STAT_DOWN_LINK
      let old := s.b F
      let s := { s.setF F 0 0 1 with chain := (if up then { s.chain with upRx := s.now } else { s.chain with downRx := s.now }) }
      if old then s else if up then s.join else s.walkStart)

/-- WALK_TIMEOUT: no WALK_END for 10 ms (R567). -/
def execWalkTimeout (s : State) : Res :=
  .next <| match s.chain.walkAt with
  | none => s
  | some t => if s.chainRuns && decide (t + ms 10 ≤ s.now) then (s.err DCH_ERR_CHAIN_BREAK 0).walkOver State.walkGo else s

/-! ### DCH_CMD -/

/-- An address that a frame of software may name (Table 19-1). -/
def chainDst (d : Nat) : Bool := (1 ≤ d && d ≤ 32) || d == 0xFF

/-- SEND (R571, R574): level-gated types state their minimum level in the image that defines them; MSG is of level 1. Which of them the
running image allows is the image's. -/
def State.chainSoft (s : State) : State :=
  let ty := s.f DCH_TX_HDR_TYPE
  let lvl := s.f DCH_STAT_LVL
  let dst := s.f DCH_TX_HDR_DST
  let gated := 0x40 ≤ ty && ty ≤ 0x7F && Config.typeAllowed (s.f SAGE_IMG_VER_VERSION) ty lvl
  if s.chainAddr == 0 || !(chainDst dst) || !((ty == 0x10 && 1 ≤ lvl) || gated) then s.errOn PAGE_ERR_RESERVED_ENC 0x09 0
  else s.chainTo dst lvl ty ((leBytes 64 (s.f DCH_TX_DATA)).take (s.f DCH_TX_HDR_LEN))

/-- TAKE (R574). -/
def State.chainTake (s : State) : State := { s with chain := { s.chain with rx := s.chain.rx.drop 1 } }.rxShow

/-- WAKE is sent toward `dst`; a unit that has held no address since POR_N and is not the head sends none (R569, R570). -/
def State.chainWakeTo (s : State) (dst : Nat) : State :=
  if !(chainDst dst) then s.errOn PAGE_ERR_RESERVED_ENC 0x09 0
  else if !(s.isHead) && !(s.chain.hadAddr) then s
  else s.chainTo dst 0 0x05 []

/-- RELOAD (R573). -/
def State.reload (s : State) : State :=
  if 1 < s.f PWR_STAT_STATE || s.f DEV_SERVICE_SERVICE != 2 || s.power.target.isSome then s.setF PWR_STAT_RESULT 0 0 0x22
  else s.drainTo 3 true

/-- DCH_CMD_WALK (R567). -/
def execDchCmdWalk (fn : Nat) (s : State) : Res := .next (s.act fn 0x09 0 true State.walkStart)
/-- DCH_CMD_SEND. -/
def execDchCmdSend (fn : Nat) (s : State) : Res := .next (s.act fn 0x09 0 true State.chainSoft)
/-- DCH_CMD_TAKE. -/
def execDchCmdTake (fn : Nat) (s : State) : Res := .next (s.act fn 0x09 0 true State.chainTake)
/-- DCH_CMD_WAKE. -/
def execDchCmdWake (fn dst : Nat) (s : State) : Res := .next (s.act fn 0x09 0 true fun s => s.chainWakeTo dst)
/-- DCH_CMD_RELOAD. -/
def execDchCmdReload (fn : Nat) (s : State) : Res := .next (s.act fn 0x09 0 true State.reload)

end Sys2Proof.Machine
end

