-- ==== Sys2Proof/Machine/RxCmds.lean ====
section
/-! DEFINITION. Frames and packets whose reception can wake the device: RX_FRAME (R302, R353) and PING (R88, R523). -/
namespace Sys2Proof.Machine

/-! ### Wake patterns (R353 to R355) -/

/-- Pattern record `r` matches a frame (Table 10-3). -/
def patternHit (r bs : List (BitVec 8)) : Bool :=
  let len := leAt r 144 1
  bit (leAt r 145 1) 0 && decide (len ≤ bs.length) &&
  (List.range (min len 128)).all fun i => !(bit (leAt r (128 + i / 8) 1) (i % 8)) || r.getD i 0 == bs.getD i 0

/-- A magic packet for the address that `addr` spells: six bytes of 0xFF and sixteen copies, anywhere. -/
def magicHit (addr : List (BitVec 8)) : List (BitVec 8) → Bool
  | [] => false
  | b :: bs => ((leBytes 6 (2 ^ 48 - 1) ++ (List.replicate 16 addr).flatten).isPrefixOf (b :: bs)) || magicHit addr bs

/-- The number of the pattern that a frame matches: the lowest, 32 for a magic packet. -/
def State.wakeHit (s : State) (n : Nat) (bs : List (BitVec 8)) : Option Nat :=
  let store := (s.emac n).wake
  match (List.range store.length).find? fun k => patternHit (store.getD k []) bs with
  | some k => some k
  | none => if s.b EFLT_CTL_MAGIC_EN n && magicHit (beBytes 6 (s.f EMAC_ADDR_ADDR n)) bs then some 32 else none

/-- Matching of a frame in IDLE and SLEEP: MATCHED, LAST_PAT and wake source 3. -/
def State.wakeMatch (s : State) (n : Nat) (bs : List (BitVec 8)) : State :=
  let st := s.f PWR_STAT_STATE
  if !(s.b EFLT_CTL_WAKE_EN n) || !(st == 1 || st == 2) then s
  else match s.wakeHit n bs with
    | none => s
    | some k => ((s.setF EFLT_WAKE_STAT_MATCHED n 0 1).setF EFLT_WAKE_STAT_LAST_PAT n 0 k).wakeBy 3 n k

/-! ### RX_FRAME -/

/-- Address that MAC control frames carry. -/
def pauseAddr : Nat := 0x0180C2000001

/-- Stage 1 (Table 10-1): control and LSX frames are consumed here; none where the frame goes on. -/
def State.rxControl (s : State) (n : Nat) (bs : List (BitVec 8)) : Option State :=
  let dst := beAt bs 0 6
  let ety := beAt bs 12 2
  if ety == 0x8808 && (dst == pauseAddr || dst == s.f EMAC_ADDR_ADDR n) then
    let op := beAt bs 14 2
    if op == 0x0001 then some (s.pauseIn n (beAt bs 16 2))
    else if op == 0x0101 then some (s.pfcIn n (beAt bs 16 2) ((List.range 8).map fun c => beAt bs (18 + 2 * c) 2))
    else some (s.ctrlDrop n)
  else if dst == 0x0180C200000E && ety == 0x88B5 && beAt bs 14 2 == 0x4C51 then
    let s := s.ctrlTake n
    some (if leAt bs 16 1 % 16 == 1 then s.lsxIn n (leAt bs 17 1) (beAt bs 6 6) (leAt bs 18 1) (leAt bs 20 4) else s)
  else none

/-- RX_FRAME: a frame, without its FCS, whose first byte arrived `age` of device time ago (R302, Table 10-1). -/
def execRxFrame (port : Nat) (bytes : List (BitVec 8)) (fcsOk : Bool) (age : Nat) (s : State) : Res :=
  .next <|
    let n := port
    let len := bytes.length + 4
    if !(s.live 0x40 n) || !(s.b EMAC_STAT_LINK_UP n) then s
    else if len < 64 then s.addF EMAC_CNT_RX_RUNT_COUNT n 0 1
    else if s.f EMAC_MTU_MTU n < len then s.addF EMAC_CNT_RX_OVERSIZE_COUNT n 0 1
    else if !fcsOk then s.addF EMAC_CNT_RX_FCS_COUNT n 0 1
    else
      let s := (s.addF EMAC_CNT_RX_FRAMES_COUNT n 0 1).addF EMAC_CNT_RX_BYTES_COUNT n 0 len
      let s := s.count (bankQuad n) 0x100 (n % 4) (some (s.emacOwner n))
      let s := (s.count (bankQuad n) 0x101 (n % 4) (some (s.emacOwner n)) len).utilAdd n 0 len
      let asleep := s.f PWR_STAT_STATE == 2
      let s := s.wakeMatch n bytes
      if asleep then s.addF EFLT_CNT_SLEEP_DROP_COUNT n 0 1
      else match s.rxControl n bytes with
        | some s => s
        | none => s.rxStages n bytes (s.devTime - age)

/-! ### PING -/

/-- A PONG with the NONCE of a PING; in SLEEP on a listening port the PING is wake source 4 (R88, R523). -/
def State.pong (s : State) (n : Nat) (h : List (BitVec 8)) : State :=
  let s := s.sendLnk n 0x09 0 (hTail h)
  if s.f PWR_STAT_STATE == 2 && bit (s.f PWR_LISTEN_KRP) n then s.wakeBy 4 n 0 else s

/-- PING: answered with PONG, by the upstream port of a quad in hub role and by its downstream ports as well (R88), where a wake is
passed on (R523). -/
def execPing (port : Nat) (pkt : Pkt) (s : State) : Res :=
  .next (if s.hubRole port then s.askedIn port pkt 0x08 fun s _ => s.pong port pkt.hdr
    else if s.hubPort port then
      (if pktOk pkt && hType pkt.hdr == 0x60 && hSel pkt.hdr == 0x08 && s.hportOn (port % 4) then
        (s.hubLocal port 0x60 0x09 (leBytes 4 0 ++ leBytes 4 (hTail pkt.hdr))).hubPinged else s)
    else s.lnkIn port pkt 0x08 fun s => s.pong port pkt.hdr)

end Sys2Proof.Machine
end

