-- ==== Sys2Proof/Machine/StartCmds.lean ====
section
/-! DEFINITION. The commands and events of start-up, flash, entropy, pins and host ports (chapter 20). -/
namespace Sys2Proof.Machine

/-! ### POR_N and the steps of Table 20-9 -/

/-- POR_N_ASSERT (R583, R587): INT_N is released and PWR_REQ is high. -/
def execPorNAssert (s : State) : Res :=
  .next <|
    let s := if s.f PWR_STAT_STATE ≤ 1 then s.intPins false else s
    let low := s.f PWR_STAT_STATE == 4 || (s.power.pnrAt.isSome && s.power.why == 2)
    let s := s.porState
    if low then s.emit (.pwrReq true) else s

/-- POR_N_RELEASE: straps are sampled and start-up begins (R588, R597). -/
def execPorNRelease (lead head : Nat) (s : State) : Res :=
  .next (if s.boot.phase != 0 || s.f PWR_STAT_STATE == 4 then s
    else
      let s := (s.setF DEV_STRAPS_LEAD_HOST 0 0 lead).setF DEV_STRAPS_DCH_HEAD 0 0 head
      (s.setF DCH_STAT_HEAD 0 0 head).startUp 0)

/-- IMAGE_ACCEPTED: the two copies of the directory are read (R593), then the checks of R594 are made on the slot that it names, then on the
other (R595). What Zhoem itself has written to flash stands in place of what the board's flash held. -/
def execImageAccepted (copies : List (BitVec 8) × List (BitVec 8)) (a b : Image) (hostCtl : List Nat) (s : State) : Res :=
  .next (if s.boot.phase != 1 then s
    else
      let dir := s.boot.dirs.getD (s.directory copies.1 copies.2)
      let first := dir.1 % 2
      let img (k : Nat) : Image := PMap.get s.boot.slots k (if k == 0 then a else b)
      let s := ({ s.bump.bump with boot := { s.boot with dir := dir } }.flashRead 0 0x1000).flashRead 0x1000 0x1000
      let s := s.imageRead first (img first)
      if s.imageOk (img first) then s.imageRuns first (img first) hostCtl
      else
        let s := (s.err SAGE_ERR_BOOT_FALLBACK 0).imageRead (1 - first) (img (1 - first))
        if s.imageOk (img (1 - first)) then (s.setF SAGE_STAT_FALLBACK 0 0 1).imageRuns (1 - first) (img (1 - first)) hostCtl
        else { s.setF SAGE_STAT_BOOT 0 0 3 with boot := { s.boot with phase := 5 } })

/-- ENTROPY_READY: the sources of the set `sources` have passed their start-up tests; three at most are in service (R601). -/
def execEntropyReady (sources : Nat) (s : State) : Res :=
  .next <|
    let good := (List.range 4).filter fun k => bit sources k && bit s.boot.trng k
    if s.boot.phase == 0 || s.b DEV_SERVICE_ENTROPY_READY || s.b RNG_STAT_STARVED || good.length < 2 then s
    else
      let use := (good.take 3).foldl setBit 0
      ({ s with boot := { s.boot with trng := good.foldl setBit 0 } }.setF RNG_STAT_SRC_OK 0 0 use).entropyUp

/-- Fields that the image's configuration may set (R594), with unit and entry. -/
def imageFlds : List (Fld × Nat × Nat) :=
  ((List.range 24).flatMap fun q => [(SRDS_CTL_MODE, q, 0), (SRDS_CTL_HUB_ROLE, q, 0)]) ++
  ((List.range 96).map fun n => (EMAC_CFG_TYPE, n, 0)) ++
  ((List.range 96).flatMap fun n => [(KHUB_PWR_MAP_FITTED, 0, n), (KHUB_PWR_MAP_SEG, 0, n), (KHUB_PWR_MAP_ADDR, 0, n), (KHUB_PWR_MAP_PAGE, 0, n)]) ++
  [(KHUB_PMB_PG_TMO, 0, 0), (KHUB_PMB_STAGGER, 0, 0), (KHUB_PMB_POLL_MS, 0, 0), (KHUB_PMB_SEG1_SPEED, 0, 0), (KHUB_PMB_SEG0_SPEED, 0, 0)]

/-- Sage commits the image's configuration: values by the bit address of their field. -/
def State.imageConfig (s : State) (cfg : List (Nat × Nat)) : State :=
  let s := cfg.foldl (fun (s : State) e =>
    match imageFlds.find? fun x => x.1.addr x.2.1 x.2.2 == e.1 with
    | some x => if x.1.ok (e.2 % 2 ^ x.1.w) then { s with shadow := PMap.put s.shadow e.1 (e.2 % 2 ^ x.1.w) } else s
    | none => s) s
  let go (s : State) (blk u : Nat) : State := if s.shadowDirty blk u then s.applyPage blk u 1 else s
  let s := s.each 24 fun s q => go s 0x70 q
  let s := s.each 96 fun s n => go s 0x40 n
  go s 0x32 0

/-- SEEDLING_SERVICE: step 8 of Table 20-9 (R598). -/
def execSeedlingService (cfg : List (Nat × Nat)) (s : State) : Res :=
  .next (if s.boot.phase != 2 then s
    else
      let s := restDoms.foldl State.domUp s
      let s := s.imageConfig cfg
      let s := (s.setF DEV_SERVICE_SERVICE 0 0 1).setF DEV_SERVICE_SHEAVES 0 0 32
      let s := { s with boot := { s.boot with phase := 3 } }
      s.each 96 fun s n =>
        if s.quadMode (n / 4) == 1 && !(s.absent 0x30 n) && s.b KRP_CTL_ENABLE n then s.linkEnable n true else s)

/-- FULL_SERVICE: step 9 (R600). -/
def execFullService (s : State) : Res :=
  .next (if s.boot.phase != 3 then s
    else
      let s := (s.setF DEV_SERVICE_SERVICE 0 0 2).setF DEV_SERVICE_SHEAVES 0 0 64
      let s := { s with boot := { s.boot with phase := 4 }, rsv := { s.rsv with winnowAt := s.now } }
      s.each 96 fun s n => if s.quadMode (n / 4) == 1 && !(s.absent 0x30 n) then s.linkSeed n else s)

/-! ### PERST_N (R589) -/

/-- PERST_N_ASSERT: links down, instances reset, and in SLEEP and DSLEEP, on the lead port, wake source 7. -/
def execPerstNAssert (port : Nat) (s : State) : Res :=
  .next (if 3 < port || s.boot.perst.contains port then s
    else
      let s := { s with boot := { s.boot with perst := s.boot.perst ++ [port] } }
      if s.boot.phase < 2 || s.f PWR_STAT_STATE == 4 then s
      else
        let s := s.hostReset port
        if port == s.leadPort then s.wakeBy 7 port 0 else s)

/-- PERST_N_RELEASE. -/
def execPerstNRelease (port : Nat) (s : State) : Res :=
  .next (if s.boot.perst.contains port then
    { s with boot := { s.boot with perst := s.boot.perst.filter fun p => p != port, perstUp := PMap.put s.boot.perstUp port s.now } }
  else s)

/-! ### Boot flash (R596) -/

/-- A flash command ends with a status. -/
def State.flashEnd (s : State) (status : Nat) : State :=
  let s := ({ s with boot := { s.boot with writing := none } }.setF SAGE_FL_STAT_RUNNING 0 0 0).setF SAGE_FL_STAT_RESULT 0 0 status
  if status == 0 then s else s.err SAGE_ERR_FL_FAIL 0

/-- A command while another runs ends with BUSY; the other goes on. -/
def State.flashBusy (s : State) : State := (s.setF SAGE_FL_STAT_RESULT 0 0 0x24).err SAGE_ERR_FL_FAIL 0

/-- The slot that ACTIVE does not name (R596). -/
def State.spareSlot (s : State) : Nat := 1 - s.boot.dir.1 % 2

/-- WRITE: the image is read from host memory and checked; programming it takes until FLASH_WRITE_DONE. -/
def State.flashWrite (s : State) : State :=
  if s.b SAGE_FL_STAT_RUNNING then s.flashBusy
  else
    let a := s.f SAGE_FL_ADDR_ADDR
    let data := (List.range (s.f SAGE_FL_LEN_BYTES)).map fun i => s.byte (hostAt (a + i))
    let m := flashImage data
    if s.imageOk m then
      let s := s.flashProgram (slotAt s.spareSlot) 0x400000 data
      { s.setF SAGE_FL_STAT_RUNNING 0 0 1 with boot := { s.boot with writing := some m } }
    else s.flashEnd 0x11

/-- SAGE_FL_CMD_WRITE. -/
def execSageFlCmdWrite (fn : Nat) (s : State) : Res := .next (s.act fn 0x02 0 true State.flashWrite)

/-- FLASH_WRITE_DONE: the slot that ACTIVE did not name has been programmed; `ok` says that its DIGEST holds on reading back. -/
def execFlashWriteDone (ok : Bool) (s : State) : Res :=
  .next <| match s.boot.writing with
  | none => s
  | some m =>
    let slot := s.spareSlot
    let s := s.imageRead slot m
    let s := { s with boot := { s.boot with slots := PMap.put s.boot.slots slot (if ok then m else { m with digestOk := false }) } }
    if ok then (s.dirWrite slot).flashEnd 0 else s.flashEnd 0x11

/-- RESTART, in RECOVERY alone: start-up from the boot, without POR_N. -/
def State.flashRestart (s : State) : State :=
  if s.b SAGE_FL_STAT_RUNNING then s.flashBusy
  else if s.f SAGE_STAT_BOOT == 3 then (s.flashEnd 0).startUp 10 else s

/-- SAGE_FL_CMD_RESTART. -/
def execSageFlCmdRestart (fn : Nat) (s : State) : Res := .next (s.act fn 0x02 0 true State.flashRestart)

/-- COMMIT_SVN: the fused SVN_MIN rises to the SVN of the running image. -/
def State.flashSvn (s : State) : State :=
  if s.b SAGE_FL_STAT_RUNNING then s.flashBusy
  else
    let v := max (s.f SAGE_SEC_SVN_MIN) (s.f SAGE_SEC_SVN)
    ({ s.setF SAGE_SEC_SVN_MIN 0 0 v with boot := { s.boot with svnMin := some v } }).flashEnd 0

/-- SAGE_FL_CMD_COMMIT_SVN. -/
def execSageFlCmdCommitSvn (fn : Nat) (s : State) : Res := .next (s.act fn 0x02 0 true State.flashSvn)

/-! ### Entropy (R601, R602) -/

/-- RNG_OUT: a read of `size` bytes at RNG_OUT. Sixteen bytes return fresh output; any other size returns zero and takes nothing. -/
def execRngOut (fn size : Nat) (s : State) : Res :=
  .next <|
    if fn != 0 then (s.refuse fn).refuseLater fn 1 0
    else if size != 16 || !(s.live 0x08 0) || s.resetting 0 then { s with rdata := 0 }
    else if !(s.b DEV_SERVICE_ENTROPY_READY) then { s with rdata := 0x22 * 2 ^ 64 }
    else
      let d := leNat ((List.range 8).map fun j => Config.drbg s.draws j)
      { s.bump with rdata := d, boot := { s.boot with asked := s.boot.asked + 1 } }

/-- The DRBG has been seeded once, so that a reseed has something to renew. -/
def State.seeded (s : State) : Bool := s.b DEV_SERVICE_ENTROPY_READY || s.b RNG_STAT_STARVED

/-- RNG_CMD.RESEED. -/
def State.reseedNow (s : State) : State := if s.seeded then s.reseed else s

/-- RNG_CMD_RESEED. -/
def execRngCmdReseed (fn : Nat) (s : State) : Res := .next (s.act fn 0x08 0 true State.reseedNow)

/-- RESEED_TIMER: 100 ms or 65,536 requests since the last reseed. -/
def execReseedTimer (s : State) : Res :=
  .next (if s.seeded && (decide (s.boot.seedAt + ms 100 ≤ s.now) || decide (65536 ≤ s.boot.asked)) then s.reseed else s)

/-- HEALTH_TEST_FAIL: the source goes out of service and the reserve one is to come in (R601, Table 16-4). -/
def execHealthTestFail (source : Nat) (s : State) : Res :=
  .next (if 3 < source || s.boot.phase == 0 || !(s.domReady 45) || !(bit s.boot.trng source) then s
    else s.trngFail source)

/-! ### Time reference, Ethernet remote fault -/

/-- REF10M_RETURN (R186): with PPS_IN present holdover ends and locking restarts. -/
def execRef10mReturn (pps : Bool) (s : State) : Res :=
  .next (if !(s.live 0x24 0) then s
    else
      let s := ({ s with tm := { s.tm with ref10 := true } }).setF TIME_STAT_REF10_PRESENT 0 0 1
      if s.f TIME_CTL_MODE == 1 && s.b TIME_STAT_HOLDOVER && pps then
        ({ s with tm := { s.tm with good := 0 } }).setF TIME_STAT_HOLDOVER 0 0 0
      else s)

/-- REMOTE_FAULT: the port begins or stops to receive remote fault signalling (R299). -/
def execRemoteFault (port : Nat) (on : Bool) (s : State) : Res :=
  .next (if s.live 0x40 port && s.b EMAC_STAT_LINK_UP port then s.setF EMAC_STAT_REMOTE_FAULT port 0 (b2n on) else s)

/-! ### Host links and functions -/

/-- Link `link` (0 A, 1 B) presents the function of port `p` (R605). -/
def State.activeLink (s : State) (p link : Nat) : Bool :=
  link == (if s.b HOST_CTL_SPLIT p then s.f HOST_CTL_ACTIVE p else 0)

/-- HOST_LINK_DOWN (R605, Table 20-14). -/
def execHostLinkDown (port link : Nat) (s : State) : Res :=
  .next (if 3 < port || 1 < link then s
    else if s.activeLink port link then
      (let other := if link == 0 then HOST_STAT_LINK_B_UP else HOST_STAT_LINK_A_UP
       let v := s.f other port
       (s.hostDown port).setF other port 0 v)
    else s.setF (if link == 0 then HOST_STAT_LINK_A_UP else HOST_STAT_LINK_B_UP) port 0 0)

/-- HOST_LINK_UP: PERST_N is high and the host port's domain is on (R589, R605); a split port's link has 8 lanes, and 64 GT/s is FLIT mode. -/
def execHostLinkUp (port link speed width : Nat) (flit : Bool) (s : State) : Res :=
  .next (if 3 < port || 1 < link || s.boot.perst.contains port || !(s.domReady (33 + port)) || s.boot.phase == 0 ||
      (link == 1 && !(s.b HOST_CTL_SPLIT port)) then s
    else
      let s := s.setF (if link == 0 then HOST_STAT_LINK_A_UP else HOST_STAT_LINK_B_UP) port 0 1
      if s.activeLink port link then
        let lanes := if s.b HOST_CTL_SPLIT port then 8 else 16
        ((s.setF HOST_STAT_SPEED port 0 (min speed 6)).setF HOST_STAT_WIDTH port 0 (min width lanes)).setF HOST_STAT_FLIT port 0
          (b2n (flit || decide (6 ≤ speed)))
      else s)

/-- VF_ENABLE_SET (R451, R463); in RECOVERY it has no effect (R595). -/
def execVfEnableSet (inst : Nat) (s : State) : Res :=
  .next (if !(hasMbx inst) || !(s.serves 0) then s
    else ({ s with fns := PMap.put s.fns inst { s.fn inst with vfEnable := true } }).setF INST_STAT_VF_ENABLED inst 0 1)

/-- MSI_X_UNMASK: vector 0 or 1 of function `fn` is unmasked, or, with any other number, the function (R483). -/
def execMsiXUnmask (fn vector : Nat) (s : State) : Res :=
  .next (if 64 < fn then s
    else
      let c := s.fn fn
      let c := if vector == 0 then { c with mask0 := false } else if vector == 1 then { c with mask1 := false } else { c with maskAll := false }
      ({ s with fns := PMap.put s.fns fn c }).msixFlush fn)

/-- The configuration fields that the block acts on, by the number CONFIGURATION_REQUEST gives them: 1 ATS enable, 2 MSI-X enable, 3 the
MSI-X function mask, 4 and 5 the masks of vectors 0 and 1, 6 the Outstanding Page Request Allocation. Bus Master Enable and VF Enable have
commands of their own. -/
def FnCfg.field (c : FnCfg) (k : Nat) : Option Nat :=
  if k == 1 then some (b2n c.atsEnable) else if k == 2 then some (b2n c.msixEnable) else if k == 3 then some (b2n c.maskAll)
  else if k == 4 then some (b2n c.mask0) else if k == 5 then some (b2n c.mask1) else if k == 6 then some c.priAlloc else none

/-- A configuration write of one of them. -/
def FnCfg.write (c : FnCfg) (k v : Nat) : FnCfg :=
  if k == 1 then { c with atsEnable := v % 2 == 1 } else if k == 2 then { c with msixEnable := v % 2 == 1 }
  else if k == 3 then { c with maskAll := v % 2 == 1 } else if k == 4 then { c with mask0 := v % 2 == 1 }
  else if k == 5 then { c with mask1 := v % 2 == 1 } else if k == 6 then { c with priAlloc := v % 2 ^ 32 } else c

/-- A request to function `fn` of port `p` is answered with Request Retry Status (R463, R517, R589, R595). -/
def State.configRetry (s : State) (fn p : Nat) : Bool :=
  s.boot.phase < 2 || !(s.domReady (33 + p)) || (s.boot.phase == 5 && p != s.leadPort) || s.resetting fn ||
  (match PMap.find s.boot.perstUp p with
   | some t => decide (s.now < t + ms 20)
   | none => false)

/-- No configuration request reaches port `p` on link `link`: the link is down, or the responder of step 5 of Table 20-9 has not come yet. -/
def State.configSilent (s : State) (p link : Nat) : Bool :=
  s.boot.perst.contains p || 1 < link || !(s.b (if link == 0 then HOST_STAT_LINK_A_UP else HOST_STAT_LINK_B_UP) p) || s.boot.phase == 0 ||
  (s.boot.phase == 1 && decide (s.now < s.boot.at_ + ms 20))

/-- CONFIGURATION_REQUEST: the link that does not present the function answers Unsupported Request (R605); a function that no instance names
answers as SR-IOV requires, which the spec does not repeat. -/
def execConfigurationRequest (dest : CfgTo) (field value : Nat) (write : Bool) (s : State) : Res :=
  .next <|
    let fn := dest.fn
    let named := fn == 0 || (fn ≤ 64 && s.instState fn != 0)
    let p := if fn == 0 then s.leadPort else s.f INST_CTL_PORT fn
    if named && s.configSilent p dest.link then s
    else if named && !(s.activeLink p dest.link) then s.emit (.config fn 2 0)
    else if named && s.configRetry fn p then s.emit (.config fn 1 0)
    else if !named then (s.emit (.config fn 0 (Config.freeNat s.draws % 2 ^ 32))).bump
    else if write then
      (({ s with fns := PMap.put s.fns fn ((s.fn fn).write field value) }).msixFlush fn).emit (.config fn 0 0)
    else match (s.fn fn).field field with
      | some v => s.emit (.config fn 0 v)
      | none => (s.emit (.config fn 0 (Config.freeNat s.draws % 2 ^ 32))).bump

/-- PMB_SEGMENT_FAULT: a PMBus segment has been held low or unanswered for 35 ms (R148, Table 04-7). -/
def execPmbSegmentFault (segment : Nat) (s : State) : Res :=
  .next (if 1 < segment || !(s.domReady 45) then s
    else (s.setF (if segment == 0 then KHUB_PMB_STAT_SEG0_FAULT else KHUB_PMB_STAT_SEG1_FAULT) 0 0 1).err KHUB_ERR_PMB_FAULT 0)

end Sys2Proof.Machine
end

