-- ==== Sys2Proof/Machine/Release.lean ====
section
/-! DEFINITION. Register accesses of a function (chapter 2): the header of a page, the registers whose writes are commands, every other
register; epochs, refusals, and the commit instant of a task, which releases register writes of its own (chapter 11). -/
namespace Sys2Proof.Machine

/-! ### Pages as a function names them -/

/-- A page under its two type codes, and an instance's own side of its mailbox. -/
def pageName (fn blk u : Nat) : Nat × Nat :=
  if blk == 0x22 then (0x21, 256 + u) else if blk == 0x51 then (0x50, 256 + u)
  else if blk == 0x61 && fn != 0 && u == fn then (0x61, 128 + fn) else (blk, u)

/-- Pages that the fixed slots of an instance's BAR0 present for writing (Table 02-5). -/
def State.ownPage (s : State) (fn blk u : Nat) : Bool :=
  (blk == 0x60 && u == fn) || (blk == 0x61 && u == 128 + fn) || ((blk == 0x58 || blk == 0x59) && u == fn) ||
  (blk == 0x05 && (u == 64 + fn || (u == 129 + fn && s.classMode)))

/-- A header write of function `fn` that reaches page (`blk`, `u`): as `State.act`, through fixed slots as well. -/
def State.actPage (s : State) (fn blk u : Nat) (k : State → Nat → Nat → State) : State :=
  let p := pageName fn blk u
  if !(s.serves p.1) then s
  else if s.resetting fn then s.refuse fn
  else if blk == 0x61 && 64 < u then (if fn == 0 then s else s.refuse fn)
  else if fn == 0 || s.aliased fn p.1 p.2 || s.ownPage fn p.1 p.2 then (if s.live p.1 p.2 then k s p.1 p.2 else s)
  else s.refuse fn

/-! ### Snapshot latches (R60, R61) -/

/-- The fields that a snapshot copies, by address: RO, RWC and W1C ones, and PAGE_EPOCH. -/
def State.snapVals (s : State) (fn blk u : Nat) : List (Nat × Nat) :=
  (layoutHeader blk ++ layoutOf blk u).flatMap fun e => (List.range e.cnt).flatMap fun i => e.flds.filterMap fun F =>
    if e.first ≤ i && (F.acc == .ro || F.acc == .rwc || F.acc == .w1c) then some (F.addr u i, s.shows fn false F u i) else none

/-- SNAP opens function `fn`'s latch on a page, whatever it held before; SNAPPED reads 1 from it. -/
def State.snap (s : State) (fn blk u : Nat) : State :=
  let l : Latch := { page := pageOf blk u, openedAt := s.now }
  let vals := ({ s with latch := PMap.put s.latch fn l } : State).snapVals fn blk u
  { s with latch := PMap.put s.latch fn { l with vals := vals } }

/-! ### PAGE_CTL and PAGE_COMMIT -/

/-- DISCARD empties the shadow, or is dropped while a commit is pending (R48). -/
def State.discard (s : State) (blk u : Nat) : State :=
  if (s.armed blk u).isSome then s.errOn PAGE_ERR_SHADOW_LOCKED blk u
  else { s with shadow := s.shadow.filter fun e => !(inPage blk u e.1) }

/-- A write of PAGE_CTL: COMMIT_EV_EN at once, then DISCARD, RELEASE and SNAP in that order (R606). -/
def State.pageCtl (s : State) (fn blk u v : Nat) : State :=
  let s := s.setF (hd PAGE_CTL_COMMIT_EV_EN blk) u 0 (v / 8 % 2)
  let s := if bit v 2 then s.discard blk u else s
  let s := if bit v 1 then s.unlatch fn (pageOf blk u) else s
  if bit v 0 && !(isLivePage blk) then s.snap fn blk u else s

/-- Largest argument of a commit point (Table 02-4). -/
def maxArg (point : Nat) : Nat := if point == 2 then 95 else if point == 4 then 511 else 0

/-- A PAGE_COMMIT write is refused (R47). -/
def State.commitRefused (s : State) (blk u point arg : Nat) : Bool :=
  isLivePage blk || !(allowsPoint blk point) || decide (maxArg point < arg) || (point != 0 && (s.armed blk u).isSome)

/-- A write of PAGE_COMMIT (R46, R47, R49, R61). -/
def State.pageCommit (s : State) (fn blk u point arg : Nat) : State :=
  if s.commitRefused blk u point arg then s.errOn PAGE_ERR_COMMIT_REFUSED blk u
  else if point == 0 then { s with cmts := PMap.del s.cmts (pageOf blk u) }
  else
    let s := s.unlatch fn (pageOf blk u)
    if point == 1 then s.applyPage blk u 1
    else { s with cmts := PMap.put s.cmts (pageOf blk u) { point := point, arg := arg, armedAt := s.now } }

/-- A write in the header of a page. An instance is refused PAGE_COMMIT of KHUB (R156), the manager-only header of INST and the whole of
GLN (R560), and its writes to the error registers of KHUB and of IRQ source pages are dropped (R156, R490). -/
def State.headerWrite (s : State) (fn blk u o size v : Nat) : State :=
  let commit := 0x18 ≤ o && o < 0x20
  let errs := 0x10 ≤ o && o < 0x18
  if fn != 0 && (blk == 0x06 || (commit && (blk == 0x32 || blk == 0x60)) || (errs && blk == 0x60)) then s.refuse fn
  else if fn != 0 && errs && (blk == 0x32 || (blk == 0x05 && u < 64)) then s
  else if commit then
    (if size == 8 && o == 0x18 then s.pageCommit fn blk u (v % 16) (bits v 8 24) else s.errOn PAGE_ERR_ACCESS blk u)
  else if o == 8 && (size == 4 || size == 8) then s.pageCtl fn blk u v
  else s.writePage fn blk u o size v

/-! ### Registers whose writes are commands -/

/-- Act where a command bit is set. The command bits of one register act in ascending order. -/
def State.doIf (s : State) (c : Bool) (k : State → State) : State := if c then k s else s

/-- Per-port registers of KHUB (R142, R141, R136, R147 to R150). -/
def State.treeReg (s : State) (fn u : Nat) (r : RegAt) (lo n v : Nat) : Option State :=
  let i := r.idx
  let o := r.ent.off
  if o < 0x100 || 0xD00 ≤ o then none
  else if fn != 0 && !(s.holdsKrp fn i) then some (s.refuse fn)
  else if o == KHUB_TREE_BASE_ADDR.off then
    (let x := mergeFld KHUB_TREE_BASE_ADDR (s.f KHUB_TREE_BASE_ADDR 0 i) lo n v
     some (if KHUB_TREE_BASE_ADDR.ok x then s.treeBase i x else s.errOn PAGE_ERR_RESERVED_ENC 0x32 0))
  else if o == KHUB_TREE_ACK_SEQ.off then some (s.treeAck i (v % 2 ^ 32))
  else if o == KHUB_TREE_CTL_ENUM_EN.off then
    (let s := s.writeReg fn 0x32 u (o + 32 * i) 4 v
     let s := if bit v 0 == s.b KHUB_TREE_CTL_ENUM_EN 0 i then s else (s.enumEn i (bit v 0)).serve i
     let s := if bit v 2 == s.b KHUB_TREE_CTL_PWR_ON 0 i then s else if bit v 2 then s.powerOn i else s.powerOff i
     some (s.doIf (bit v 3) fun s => s.rescan i))
  else none

/-- Registers of the IRQ pages (R478, R485, R488, R489). -/
def State.irqReg (s : State) (fn u : Nat) (r : RegAt) (lo n v : Nat) : Option State :=
  let o := r.ent.off
  if u < 64 then
    (if o == IRQ_EN_BITS.off then some (s.enWrite fn u r.idx (v % 2 ^ 32))
     else if o == IRQ_PEND_BITS.off then some (s.pendWrite fn u r.idx (v % 2 ^ 32))
     else if o == IRQ_SRC_CFG_PRIO.off then
       some (s.srcCfgWrite fn (128 * u + r.idx) (if n == 64 then 2 else lo / 32) v)
     else none)
  else if o == IRQ_COMPLETE_SOURCE.off then some (s.irqComplete fn (if u < 194 then u else 190 + r.idx) v)
  else none

/-- Registers of queues and rings (R240, R261, R262, R265, R267). -/
def State.queueReg (s : State) (fn blk u : Nat) (r : RegAt) (v : Nat) : Option State :=
  let o := r.ent.off
  let k := 64 * u + r.idx
  if blk == 0x58 then
    (if o == WQ_CFG_ENABLE.off then some (s.wqCfgWrite fn k (v % 2 ^ 32))
     else if o == WQ_CMD_RESUME.off then some ((s.doIf (bit v 0) fun s => s.wqResume k).doIf (bit v 1) fun s => s.wqAbort k)
     else if o == WQ_RSY_CTL_QUIESCE.off then
       (if 64 < u then some s
        else some (((s.doIf (bit v 0) fun s => s.quiesce u 1).doIf (bit v 1) fun s => s.quiesce u 0).doIf (bit v 2) fun s => s.rsySquash u))
     else none)
  else if o == CQ_CFG_ENABLE.off then some (s.cqCfgWrite fn k (v % 2 ^ 32))
  else if o == CQ_HEAD_COUNT.off then some (s.cqHead k (v % 2 ^ 32))
  else if o == CQ_ARM_ARM.off then some (s.doIf (bit v 0) fun s => (s.setQ CQ_STAT_ARMED k 1).cqEvent k)
  else none

/-- Registers of a DMA channel (Table 08-12). -/
def State.dmaReg (s : State) (fn c : Nat) (r : RegAt) (v : Nat) : Option State :=
  let o := r.ent.off
  if o == DMA_CTL_ENABLE.off then some (s.dmaCtlWrite fn c (v % 2 ^ 32))
  else if o == DMA_CMD_KICK.off then
    some ((((s.doIf (bit v 0) fun s => s.dmaKick c).doIf (bit v 1) fun s => s.dmaStop c).doIf (bit v 2) fun s => s.dmaGo c).doIf (bit v 3)
      fun s => s.dmaDiscard c)
  else none

/-- Registers of ports, sequencers and references. -/
def State.portReg (s : State) (fn blk u : Nat) (r : RegAt) (v : Nat) : Option State :=
  let o := r.ent.off
  if blk == 0x30 then
    (if o == KRP_CMD_WIDEN.off then
       some ((s.doIf (bit v 0) fun s => s.linkWidenCmd u).doIf (bit v 1) fun s => if s.carries u then s.linkRecover u else s)
     else none)
  else if blk == 0x31 then
    (if o == KSCH_CMD_ADMIT.off then some ((s.doIf (bit v 0) fun s => s.admitGo u fn).doIf (bit v 1) fun s => s.dropCand u) else none)
  else if blk == 0x40 then
    (if o == EMAC_CMD_WIDEN.off then
       some ((s.doIf (bit v 0) fun s => s.emacWiden u).doIf (bit v 1) fun s => s.emacDrop u)
     else none)
  else if blk == 0x41 then
    (if o == EFLT_WAKE_CMD_LOAD.off && u < 96 then
       some (s.doIf (bit v 0) fun s => s.setEmac u { s.emac u with wakeLoad := true })
     else none)
  else if blk == 0x42 then
    (if o != ESTR_CMD_REKEY.off then none
     else if fn != 0 then some (s.refuse fn)
     else if u < 96 then some (s.doIf (bit v 0) fun s => { s.setEmac u { s.emac u with rekey := true } with epochReq := true })
     else some (((s.doIf (bit v 0) fun s => s.steerCmd 1).doIf (bit v 1) fun s => s.steerCmd 2).doIf (bit v 2) fun s => s.steerCmd 3))
  else if blk == 0x44 then
    (if o == MSEC_KEY_CMD_LOAD.off then some (s.doIf (bit v 0) fun s => s.msecLoad u v) else none)
  else if blk == 0x20 then
    (if o == PREF_SET_POS.off then some (s.prefSet u v)
     else if o == PREF_HOST_MOVE_POS.off then some (s.hostMove u v)
     else if o == PREF_HOST_VEL_VEL.off then some (s.hostVel u v) else none)
  else if blk == 0x21 then
    (if o == PCU_ARM_ARM.off then some (s.pcuArm u (bit v 1) (bit v 0)) else none)
  else if o == TIME_CMD_SET.off then some (s.timeCmd (bit v 0) (bit v 1))
  else if o == TIME_RATE_ADJ.off then some (s.setF TIME_RATE_ADJ 0 0 (v % 2 ^ 32))
  else none

/-- Registers of the blocks that serve the device as a whole, and of instances. -/
def State.deviceReg (s : State) (fn blk u : Nat) (r : RegAt) (v : Nat) : Option State :=
  let o := r.ent.off
  if blk == 0x01 then
    (if o == DEV_EPOCH_ADV_ADVANCE.off then some (s.doIf (bit v 0) fun s => { s with epochReq := true }) else none)
  else if blk == 0x02 then
    (if o == SAGE_FL_CMD_WRITE.off then
       some (((s.doIf (bit v 0) State.flashWrite).doIf (bit v 1) State.flashRestart).doIf (bit v 2) State.flashSvn)
     else none)
  else if blk == 0x03 then
    (if o == PWR_CMD_STATE.off && u == 0 then
       some (if 4 < v % 8 then s.errOn PAGE_ERR_RESERVED_ENC 0x03 0 else s.pwrCmd (v % 8))
     else if o == PWR_TARIFF_SET.off && u == 0 then some (s.doIf (bit v 16) fun s => s.tariffSet (bits v 8 2))
     else none)
  else if blk == 0x04 then
    (if o == NRG_CMD_CLEAR_MAX.off then some ((s.doIf (bit v 0) fun s => s.clearMax u).doIf (bit v 1) fun s => s.clearAcc u) else none)
  else if blk == 0x06 then
    (if o == GLN_TRIG_CODE.off then some (s.glnSoft fn (v % 256) (bits v 8 56)) else none)
  else if blk == 0x08 then
    (if o == RNG_CMD_RESEED.off then some (s.doIf (bit v 0) State.reseedNow) else none)
  else if blk == 0x09 then
    (if o == DCH_CMD_WALK.off then
       some (((((s.doIf (bit v 0) State.walkStart).doIf (bit v 1) State.chainSoft).doIf (bit v 2) State.chainTake).doIf (bit v 3)
         fun s => s.chainWakeTo (bits v 8 8)).doIf (bit v 4) State.reload)
     else none)
  else if blk == 0x11 then
    (if o == SHF_LOAD_CMD_LOAD.off then
       some (s.doIf (bit v 31) fun s => s.shfLoad u (bits v 24 7) (bits v 16 5) (v % 2 ^ 11))
     else none)
  else if blk == 0x19 then
    (if o == DLOG_RESUME_FID.off then some (s.resumeWrite u (bits v 30 2) (v % 65536))
     else if o == DLOG_INV_VA.off then some (s.dlogInv u (bits v 12 36) (bits v 52 12))
     else if o == DLOG_FQ_HEAD_COUNT.off then some (s.fqHead u (v % 2 ^ 32))
     else if o == DLOG_SPILL_TAIL_UNITS.off then some (s.spillTail u (v % 2 ^ 32))
     else none)
  else if blk == 0x60 then
    (if o == INST_CMD_CMD.off then some (if fn != 0 then s.refuse fn else s.instCmd u (v % 8)) else none)
  else if blk == 0x61 then
    (let i := if 128 < u then u - 128 else u
     if o == MBX_CMD_SEND.off then
       some ((s.doIf (bit v 0) fun s => s.mbxSend i (decide (128 < u))).doIf (bit v 1) fun s => s.mbxTake i (decide (u ≤ 64)))
     else none)
  else none

/-- A write of bits `[lo + n - 1 : lo]` of a register whose write is a command; none for any other register. -/
def State.cmdReg (s : State) (fn blk u : Nat) (r : RegAt) (lo n v : Nat) : Option State :=
  if blk == 0x32 then s.treeReg fn u r lo n v
  else if blk == 0x05 then s.irqReg fn u r lo n v
  else if blk == 0x58 || blk == 0x59 then s.queueReg fn blk u r v
  else if blk == 0x50 then s.dmaReg fn u r v
  else if blk == 0x07 then
    (if r.ent.off == PMC_CNT_COUNT.off && u != 0 then
       some (s.setF PMC_CNT_COUNT u r.idx (mergeFld PMC_CNT_COUNT (s.f PMC_CNT_COUNT u r.idx) lo n v))
     else none)
  else if [0x20, 0x21, 0x24, 0x30, 0x31, 0x40, 0x41, 0x42, 0x44].contains blk then s.portReg fn blk u r v
  else s.deviceReg fn blk u r v

/-! ### Every other register -/

/-- Writes that the owning chapter has dropped: of a candidate while admission runs (R213), and of the logs that describe the manager's
memory, by an instance (Table 13-11). -/
def State.barred (s : State) (fn blk u : Nat) (r : RegAt) : Bool :=
  (blk == 0x31 && (r.ent.off == KSCH_CAND_BASE_ADDR.off || r.ent.off == KSCH_CAND_LEN_LEN.off) && s.b KSCH_ADM_STAT_RUNNING u) ||
  (fn != 0 && blk == 0x19 && r.ent.off == DLOG_LOG_STAT_FLUSHING.off)

/-- Marks with HIGH not above LOW are a reserved encoding (R287). -/
def State.markBad (s : State) (blk u : Nat) (r : RegAt) (lo n v : Nat) : Bool :=
  blk == 0x50 && r.ent.off == DMA_PACE_MARK_LOW.off &&
  decide (mergeFld DMA_PACE_MARK_HIGH (s.f DMA_PACE_MARK_HIGH u) lo n v ≤ mergeFld DMA_PACE_MARK_LOW (s.f DMA_PACE_MARK_LOW u) lo n v)

/-- What follows a write that acted at once: eligibility (R481), pacing (R287), the gatherer and the sampler (R548, R550), the candidate
(R213). -/
def State.wrote (s old : State) (blk u : Nat) (r : RegAt) : State :=
  let o := r.ent.off
  if blk == 0x05 then s.irqEval
  else if blk == 0x50 && DMA_PACE_CTL_KIND.off ≤ o && o ≤ DMA_PACE_MARK_LOW.off then
    (let s := if old.f DMA_PACE_CTL_KIND u == 0 && s.f DMA_PACE_CTL_KIND u != 0 then s.setF DMA_STAT_PACE_GO u 0 0 else s
     s.dmaWake u)
  else if blk == 0x07 && u == 0 && o == PMC_G_CTL_EN.off then
    (if s.b PMC_G_CTL_EN && !(old.b PMC_G_CTL_EN) then
       { s.setF PMC_G_TAG_TAG 0 0 0 with gatherNext := s.now + us (s.f PMC_G_CTL_PERIOD_US) }
     else s)
  else if blk == 0x07 && u == 0 && o == PMC_S_CTL_EN.off then
    (if s.b PMC_S_CTL_EN then s else { s with sampleCnt := [], tagNext := [] })
  else if blk == 0x31 && (o == KSCH_CAND_BASE_ADDR.off || o == KSCH_CAND_LEN_LEN.off) then s.dropCand u
  else s

/-- The write of one register, or of the part of it that starts at offset `o`, `n` bytes of value `v` (R41, R66). -/
def State.hostReg (s : State) (fn blk u o n v : Nat) : State :=
  match regAt blk u o with
  | none => s
  | some r =>
    let lo := 8 * r.byte
    let w := 8 * min n (r.ent.bytes - r.byte)
    if s.badEnc fn r u lo w v || s.markBad blk u r lo w v then (s.refuseMgr fn r lo w).errOn PAGE_ERR_RESERVED_ENC blk u
    else if s.barred fn blk u r then (if fn != 0 && blk == 0x19 then s.refuse fn else s)
    else match s.cmdReg fn blk u r lo w v with
      | some s' => s'
      | none => if fn != 0 && blk == 0x06 then s.refuse fn else (s.writeReg fn blk u o n v).wrote s blk u r

/-- A write of `size` bytes at offset `o` of a page that is there (R38, R39): 8 bytes may cover two 32-bit registers. -/
def State.pageWrite (s : State) (fn blk u o size v : Nat) : State :=
  if o < 0x40 then s.headerWrite fn blk u o size v
  else
    let whole := (size == 4 || size == 8) && o % size == 0
    match regAt blk u o with
    | none =>
      if !whole then s.errOn PAGE_ERR_ACCESS blk u
      else if size == 8 then s.hostReg fn blk u (o + 4) 4 (v / 2 ^ 32) else s
    | some r =>
      if !(sizeOk r o size) then s.errOn PAGE_ERR_ACCESS blk u
      else if size == 8 && r.ent.bytes == 4 then
        (s.hostReg fn blk u o 4 (v % 2 ^ 32)).hostReg fn blk u (o + 4) 4 (v / 2 ^ 32)
      else s.hostReg fn blk u o size v

/-- Function `fn` has a BAR0, and the offset lies in it: 256 MiB for the manager (R33), 1 MiB for an instance (R63). -/
def inBar (fn off : Nat) : Bool := decide (fn ≤ 64) && decide (off < if fn == 0 then 2 ^ 28 else 2 ^ 20)

/-- An access of function `fn` is refused (R68, R463): it resets, or the slot shows nothing, or the offset lies beyond the page's last
register. -/
def State.refuses (s : State) (fn off : Nat) : Bool :=
  s.resetting fn ||
  (fn != 0 && match s.reach fn off with
    | .refused => true
    | .page blk u o _ => decide (pageEnd blk u ≤ o)
    | .nothing => false)

/-- A write of `size` bytes of value `v` by function `fn` to offset `off` of its BAR0 (R33 to R41, R63 to R68). -/
def State.hostWrite (s : State) (fn off size v : Nat) : State :=
  if !(inBar fn off) || (fn != 0 && !(s.serves 0)) then s
  else if s.refuses fn off then s.refuse fn
  else match s.reach fn off with
    | .page blk u o ro =>
      if ro then s.refuse fn
      else if s.live blk u && o < pageEnd blk u then s.pageWrite fn blk u o size (v % 256 ^ size) else s
    | _ => s

/-- REGISTER_WRITE (R38, R45). -/
def execRegisterWrite (fn off size value : Nat) (s : State) : Res :=
  if inBar fn off then .next (s.hostWrite fn off size value) else .fault .outsideBar

/-- PAGE_CROSSING_READ (R40): zero for every byte, and ACCESS on the page where it starts, but not through a read-only view (R67). -/
def execPageCrossingRead (fn off size : Nat) (s : State) : Res :=
  if !(inBar fn off) then .fault .outsideBar
  else if off % 4096 + size ≤ 4096 || (fn != 0 && !(s.serves 0)) then .next s
  else if s.refuses fn off then .next { (s.refuse fn).refuseLater fn 1 0 with rdata := 0 }
  else .next <| match s.reach fn off with
    | .page blk u _ ro => { (if s.live blk u && !ro then s.errOn PAGE_ERR_ACCESS blk u else s) with rdata := 0 }
    | _ => { s with rdata := 0 }

/-! ### The header's own rows -/

/-- A write of PAGE_COMMIT by function `fn`, whole. -/
def State.commitCmd (s : State) (fn blk u point arg : Nat) : State :=
  s.actPage fn blk u fun s blk u => s.headerWrite fn blk u 0x18 8 (point + arg % 2 ^ 24 * 256)

/-- PAGE_COMMIT_CANCEL (R46). -/
def execPageCommitCancel (fn blk unit : Nat) (s : State) : Res := .next (s.commitCmd fn blk unit 0 0)
/-- PAGE_COMMIT_NOW (R49). -/
def execPageCommitNow (fn blk unit arg : Nat) (s : State) : Res := .next (s.commitCmd fn blk unit 1 arg)
/-- PAGE_COMMIT_FRAME (R46). -/
def execPageCommitFrame (fn blk unit arg : Nat) (s : State) : Res := .next (s.commitCmd fn blk unit 2 arg)
/-- PAGE_COMMIT_EPOCH (R46). -/
def execPageCommitEpoch (fn blk unit arg : Nat) (s : State) : Res := .next (s.commitCmd fn blk unit 3 arg)
/-- PAGE_COMMIT_POSITION (R46). -/
def execPageCommitPosition (fn blk unit arg : Nat) (s : State) : Res := .next (s.commitCmd fn blk unit 4 arg)

/-- A write of PAGE_CTL by function `fn`. -/
def State.ctlCmd (s : State) (fn blk u v : Nat) : State :=
  s.actPage fn blk u fun s blk u => s.headerWrite fn blk u 8 4 (v % 2 ^ 32)

/-- PAGE_CTL_DISCARD (R606, R48). -/
def execPageCtlDiscard (fn blk unit value : Nat) (s : State) : Res := .next (s.ctlCmd fn blk unit (setBit value 2))
/-- PAGE_CTL_RELEASE (R61). -/
def execPageCtlRelease (fn blk unit value : Nat) (s : State) : Res := .next (s.ctlCmd fn blk unit (setBit value 1))
/-- PAGE_CTL_SNAP (R60). -/
def execPageCtlSnap (fn blk unit value : Nat) (s : State) : Res := .next (s.ctlCmd fn blk unit (setBit value 0))

/-- SNAPSHOT_TIMEOUT (R61). -/
def execSnapshotTimeout (fn : Nat) (s : State) : Res :=
  .next <| match PMap.find s.latch fn with
  | some l => if l.openedAt + ms 10 ≤ s.now then { s with latch := PMap.del s.latch fn } else s
  | none => s

/-! ### Epochs (R57, R70) -/

/-- EPOCH_ADVANCE: a write of DEV_EPOCH_ADV. -/
def execEpochAdvance (fn : Nat) (s : State) : Res := .next (s.act fn 0x01 0 true fun s => { s with epochReq := true })

/-- EPOCH_TIMER_EXPIRY. -/
def execEpochTimerExpiry (s : State) : Res :=
  .next (if s.serves 0x01 && s.epochPer != 0 && s.timerAt + us (10 * s.epochPer) ≤ s.now then { s with epochReq := true } else s)

/-- EPOCH_BOUNDARY: a boundary that has been requested comes, no sooner than 10 µs after the last. -/
def execEpochBoundary (s : State) : Res :=
  .next (if s.serves 0x01 && s.epochReq && !s.epochEarly then s.epochBoundary else s)

/-! ### Refusals (R460) -/

/-- INSTANCE_REFUSED_ACCESS: an access by an instance that its BAR0 does not grant. -/
def execInstanceRefusedAccess (fn off : Nat) (write : Bool) (s : State) : Res :=
  if !(inBar fn off) then .fault .outsideBar
  else .next <|
    if fn == 0 || !(s.serves 0) || !(s.refuses fn off) then s
    else if write then s.refuse fn
    else (s.refuse fn).refuseLater fn 1 0

/-- The end of one refused piece of work. -/
def State.refusalEnd (s : State) (r : Refused) : State :=
  if r.kind == 1 then { s with rdata := 0 }
  else if r.kind == 2 then
    match (s.refDesc r.ref).filter fun d => d.phase == 2 with
    | some d => s.descDone (r.ref % 16384) d 0x21 0
    | none => s
  else s.opEnd r.ref 0x21

/-- REFUSAL_DONE: the oldest refusal of function `fn` ends 2.000 µs after it arrived. -/
def execRefusalDone (fn : Nat) (s : State) : Res :=
  .next <| match s.refusals.find? fun r => r.fn == fn with
  | some r => if r.arrivedAt + us 2 ≤ s.now then ({ s with refusals := s.refusals.erase r }).refusalEnd r else s
  | none => s

/-! ### The commit instant (R378 to R384) -/

/-- Release the held effects of a task in issue order (R380). -/
def State.releaseHeld (s : State) (i : Nat) (held : List Held) : State :=
  held.foldl (fun (s : State) e => match e with
    | .store _ b places _ => s.releaseStore i places b
    | .doorbell v => s.doorbell i (bits v 16 10) v
    | .page off n v => s.hostWrite i off n v) s

/-- The source's own record as it is written: a frame that hook 0 drops completes as SQUASHED with LENGTH 0 (Table 11-7). -/
def Task.records (t : Task) : List (Nat × Cpl) :=
  if t.src == 1 && t.verdict == 1 then
    t.own.map fun o => (o.1, { o.2 with status := 0x23, body := overlay o.2.body 8 (leBytes 4 0) })
  else t.own

/-- Hook 1 has run: the descriptor goes on to transmission, or completes as SQUASHED (Table 11-7). -/
def State.hookedTx (s : State) (t : Task) : State :=
  match (s.wq t.q).acc.find? fun d => d.idx == t.idx with
  | none => s
  | some d =>
    if d.phase != 4 then s
    else if t.verdict == 1 then s.txFail (s.txPort t.q) t.q d 0x23
    else (s.setDesc t.q { d with phase := 0 }).txDown (s.txPort t.q)

/-- The service lists of root port `n` are prepared up to frame `no`. -/
def State.listed (s : State) (n no : Nat) : State :=
  if later no (s.sq n).listTo 32 then s.setSq n { s.sq n with listTo := no } else s

/-- A task ends with its commit: its record is written, and it leaves the sheaf. -/
def State.taskEnd (s : State) (t : Task) : State :=
  let s := (s.ownWrite t.records).rsyShow t.inst
  let s := if t.src == 5 then (s.bump).taskQDone t (s.listedStatus (leAt t.win 0x40 1)) ((t.win.drop 0x44).take 12)
    else if t.src == 3 then s.hookedTx t
    else if t.src == 6 then s.listed t.q t.idx else s
  (s.taskGone t).rxDrainAll

/-- The commit of a task whose operations have ended: `held` are its held effects as they are translated now. -/
def State.commitTask (s : State) (t : Task) (last : Bool) (held : List Held) : State :=
  let t := if t.src == 5 then t.retire else t
  let s := ((s.addF TSK_CNT_COMMIT_COUNT t.sheaf 0 1).count (bankSheaf t.sheaf) 0x51 0 (some t.inst)).sampleOut t.sheaf t.seq 0 0
  let s := (s.count (bankSheaf t.sheaf) 0x55 0 (some t.inst) t.cost).count (bankSheaf t.sheaf) 0x40 0 (some t.inst) t.issued
  let ctx := t.ctx.advance
  let t := { t with commit := none, held := [], cost := 0, issued := 0, ctx := if last then t.ctx else ctx,
                    check := if last then t.check else some (ctx, t.win) }
  let s := (s.setTask t).releaseHeld t.inst held
  if last then s.taskEnd t else s

/-- COMMIT_INSTANT of task `seq` of sheaf `sheaf`: it waits for its stream operations (R398), translates marked stores again (R433) and
commits. A fault ended as unresolved raises XLATE (R411). -/
def execCommitInstant (sheaf seq : Nat) (s : State) : Res :=
  .next <| match s.taskOf sheaf seq with
  | none => s
  | some t => match t.commit with
    | none => s
    | some last =>
      if !s.tillersRun || t.phase != 1 || t.fid != 0 then s
      else if t.unresolved then s.except { t with commit := none } 0x06 0
      else match s.parkedOp t fun _ => true with
        | some o => s.suspend t o.fid
        | none =>
          if !(s.opsOf t).isEmpty then s
          else match s.remark t.inst t.held with
            | .ok held => s.commitTask t last held
            | .error e => match s.taskFault t e true with
              | .gone s' => s'
              | _ => s

end Sys2Proof.Machine
end

