-- ==== Sys2Proof/Machine/Tick.lean ====
section
/-! DEFINITION. What happens as time passes while no command is waiting: one nanosecond of elapsed time, and what follows from it without
an event of its own in the opcode table. -/
namespace Sys2Proof.Machine

/-- Device time runs: in OFF as well, but not while POR_N is low (R513, R587). -/
def State.timeRuns (s : State) : Bool := s.boot.phase != 0 || s.f PWR_STAT_STATE == 4

/-- What `acc` counts carry over, `den` of them to a unit: whole units and the rest. -/
def carry (acc den : Int) : Int × Int := (Int.fdiv acc den, Int.fmod acc den)

/-- In SLEEP, DSLEEP and OFF device time runs from the always-on oscillator (R524): its rate in the unit of TIME_RATE, within ±50 ppm. -/
def aonRate (t : Nat) : Int := (Config.aonRate t % 6553600001 : Nat) - 3276800000

/-- Device time over `d` units of elapsed time, by the discipline of R185: the oscillator's rate; with SOFT, corrected by TIME_RATE; with REF,
at the rate that the servo has found or holds, and slewed by at most 10 ppm toward the reference (R186). -/
def State.runTime (s : State) (d : Nat) : State :=
  let mode := s.f TIME_CTL_MODE
  if 2 ≤ s.f PWR_STAT_STATE then
    let r := carry (s.tm.rateAcc + d * aonRate s.now) 65536000000000
    { s with devTime := ((s.devTime : Int) + d + r.1).toNat, tm := { s.tm with rateAcc := r.2 } }
  else if mode == 2 then
    let c := carry (s.tm.acc + d * sgn (s.f TIME_RATE_ADJ) 32) 65536000000000
    { s with devTime := ((s.devTime : Int) + d + c.1).toNat, tm := { s.tm with acc := c.2 } }
  else if mode == 1 then
    let c := if s.tm.slew == 0 then (0, s.tm.acc) else carry (s.tm.acc + d) 100000
    let k : Int := min c.1 s.tm.slew.natAbs
    let k := if s.tm.slew < 0 then -k else k
    let r := carry (s.tm.rateAcc + d * s.tm.rate) 65536000000000
    { s with devTime := ((s.devTime : Int) + d + k + r.1).toNat,
             tm := { s.tm with acc := c.2, slew := s.tm.slew - k, rateAcc := r.2 } }
  else { s with devTime := s.devTime + d }

/-- Fabric cycles at 1.6 GHz that have begun by an instant. -/
def cyclesBy (t : Nat) : Nat := t * 8 / 5 / 65536

/-- Cycles of the tiller clock of sheaf `h` that have begun by an instant: 2 GHz at full rate (R531, R547). -/
def State.tillerBy (s : State) (h t : Nat) : Nat := t * s.f PWR_DOM_STAT_CLOCK (1 + h / 8) / 8 / 65536

/-- The issue slots of sheaf `h` over the time from `before` on (R547): SLOTS, FRONT and BACK. A slot that no instruction has taken is FRONT
where the place has no task and BACK where its task waits; instructions issued beyond the slots that have passed take the next ones. -/
def State.slotClasses (s : State) (h before : Nat) : Nat × Nat × Nat :=
  let c := s.tillerBy h s.now - s.tillerBy h before
  let held := min (s.places h) ((s.tasksOn h).filter fun t => t.phase == 1).length
  let left := s.places h * c - PMap.get s.slotUse h 0
  let back := min left (held * c)
  (s.places h * c, left - back, back)

/-- Issue slots pass on sheaf `h` while its tillers are clocked; BACK belongs to no instance here (DESIGN CHOICE, log entry 99). -/
def State.slotsPass (s : State) (h before : Nat) : State :=
  let x := s.slotClasses h before
  let u := PMap.get s.slotUse h 0
  let s := if u == 0 then s else { s with slotUse := PMap.putD 0 s.slotUse h (u - x.1) }
  ((s.count (bankSheaf h) 0x45 0 none x.1).count (bankSheaf h) 0x42 0 none x.2.1).count (bankSheaf h) 0x43 0 none x.2.2

/-- Every sheaf's issue slots (R547): none pass in IDLE (R518). -/
def State.slots (s : State) (before : Nat) : State :=
  s.each 64 fun s h => if s.domOn (1 + h / 8) && s.f PWR_STAT_STATE == 0 then s.slotsPass h before else s

/-- 64 ns periods with a pause asserted (Table 18-2). -/
def State.pausePeriods (s : State) (before : Nat) : State :=
  let k := s.now / ns 64 - before / ns 64
  if k == 0 then s
  else s.each 96 fun s n => if s.f EFLT_FC_STAT_ASSERTED n == 0 then s else s.count (bankQuad n) 0x105 (n % 4) (some (s.emacOwner n)) k

/-- MSI-X messages that have left are counted at their host ports. -/
def State.msixCount (s : State) : State :=
  { s.msixSent.foldl (fun (s : State) p => s.count (99 + p) 0x185 0 none) s with msixSent := [] }

/-- Events of internal traffic: bytes of stook buffers, first-level lookups, waits for walk slots, TLPs and FLITs, accesses to memory stacks. The
spec says at which event none of them falls, so what they add in a tick is a free value (log entry 100). -/
def trafficEvents : List Nat := [0x80, 0x81, 0x140, 0x145, 0x180, 0x181, 0x182, 0x183, 0x184, 0x1C0, 0x1C1, 0x1C3]

/-- Event 0x000 of every bank (Table 18-2): a cycle belongs to every part of a bank and to no instance. Traffic is free. -/
def State.cycles (s : State) (n : Nat) : State :=
  s.each 256 fun s b =>
    if b == 0 || n == 0 || !(s.domOn (domainOf 0x07 b)) then s
    else s.each (pmcCounters b) fun s c =>
      if s.b PMC_EVSEL_EN b c && s.f PMC_EVSEL_EVENT b c == 0 && !(s.b PMC_EVSEL_INST_EN b c) then s.pmcAdd b c n
      else if s.b PMC_EVSEL_EN b c && trafficEvents.contains (s.f PMC_EVSEL_EVENT b c) then s.pmcAdd b c (Config.traffic s.now b c) else s

/-- Each whole 1 ms during which a stook's clock was below full rate (R531). -/
def State.thermCount (s : State) (before : Nat) : State :=
  s.power.slowAt.foldl (fun (s : State) (e : Nat × Nat) =>
    s.satF PWR_DOM_CNT_THERM_COUNT (1 + e.1) 0 ((s.now - e.2) / ms 1 - (before - e.2) / ms 1)) s

/-- Electrical idle of 100 µs on lane 0 of the upstream port in hub role (R125). -/
def State.idleReset (s : State) (before : Nat) : State :=
  if s.links.any fun (e : Nat × Link) => s.hubRole e.1 && e.2.eieAt.any fun t => decide (before < t + us 100) && decide (t + us 100 ≤ s.now) then
    s.kpbReset 0 else s

/-- Packets of bursts that are on their way, ACTIONs that TRG packets have made due, wakes that the hub passes on (R95, R96, R99, R523). -/
def State.kpbFlow (s : State) : State :=
  (s.links.foldl (fun (s : State) e => if s.hubRole e.1 then (s.hubFlow e.1).hubWakes e.1 else s.outFlow e.1) s).hubFires

/-- `d` units of elapsed time pass. Pacing that follows a queue or a ring is taken up again within 100 ns of each change (Table 08-7). -/
def State.elapse (s : State) (d : Nat) : State :=
  let before := s.now
  let s := if s.timeRuns then s.runTime d else s
  let s := { s with now := s.now + d }
  let s := ((s.cycles (cyclesBy s.now - cyclesBy before)).slots before).pausePeriods before |>.msixCount
  ((s.thermCount before).idleReset before).chainTick.kpbFlow.paceQueues

/-- One nanosecond. -/
def State.tick (s : State) : State := s.elapse (ns 1)

end Sys2Proof.Machine
end

