-- ==== Sys2Proof/Machine/Dispatch.lean ====
section
/-! DEFINITION. The meaning of every command: its effect on everything but the queue. -/
namespace Sys2Proof.Machine

/-- The effect of command `i` on state `s`, whose queue it leaves alone. -/
def exec (i : Instr) (s : State) : Host.Outcome State Fault Refusal :=
  match i with
  | .registerWrite fn off size value => Sys2Proof.Machine.execRegisterWrite fn off size value s
  | .pageCrossingRead fn off size => Sys2Proof.Machine.execPageCrossingRead fn off size s
  | .pageCommitCancel fn blk unit => Sys2Proof.Machine.execPageCommitCancel fn blk unit s
  | .pageCommitNow fn blk unit arg => Sys2Proof.Machine.execPageCommitNow fn blk unit arg s
  | .pageCommitFrame fn blk unit arg => Sys2Proof.Machine.execPageCommitFrame fn blk unit arg s
  | .pageCommitEpoch fn blk unit arg => Sys2Proof.Machine.execPageCommitEpoch fn blk unit arg s
  | .pageCommitPosition fn blk unit arg => Sys2Proof.Machine.execPageCommitPosition fn blk unit arg s
  | .pageCtlDiscard fn blk unit value => Sys2Proof.Machine.execPageCtlDiscard fn blk unit value s
  | .pageCtlRelease fn blk unit value => Sys2Proof.Machine.execPageCtlRelease fn blk unit value s
  | .pageCtlSnap fn blk unit value => Sys2Proof.Machine.execPageCtlSnap fn blk unit value s
  | .snapshotTimeout fn => Sys2Proof.Machine.execSnapshotTimeout fn s
  | .epochAdvance fn => Sys2Proof.Machine.execEpochAdvance fn s
  | .epochTimerExpiry => Sys2Proof.Machine.execEpochTimerExpiry s
  | .epochBoundary => Sys2Proof.Machine.execEpochBoundary s
  | .instanceRefusedAccess fn off write => Sys2Proof.Machine.execInstanceRefusedAccess fn off write s
  | .refusalDone fn => Sys2Proof.Machine.execRefusalDone fn s
  | .ts port lane ts => Sys2Proof.Machine.execTs port lane ts s
  | .eie port lane => Sys2Proof.Machine.execEie port lane s
  | .eix port lane => Sys2Proof.Machine.execEix port lane s
  | .wsw port width => Sys2Proof.Machine.execWsw port width s
  | .fecUncorrectable port lane run => Sys2Proof.Machine.execFecUncorrectable port lane run s
  | .blockLockLoss port => Sys2Proof.Machine.execBlockLockLoss port s
  | .presentTimeout port => Sys2Proof.Machine.execPresentTimeout port s
  | .configTimeout port => Sys2Proof.Machine.execConfigTimeout port s
  | .retrainTimeout port => Sys2Proof.Machine.execRetrainTimeout port s
  | .dat port pkt => Sys2Proof.Machine.execDat port pkt s
  | .ack port pkt => Sys2Proof.Machine.execAck port pkt s
  | .nak port pkt => Sys2Proof.Machine.execNak port pkt s
  | .kpbStl port pkt => Sys2Proof.Machine.execKpbStl port pkt s
  | .bur port pkt => Sys2Proof.Machine.execBur port pkt s
  | .hub port pkt => Sys2Proof.Machine.execHub port pkt s
  | .ping port pkt => Sys2Proof.Machine.execPing port pkt s
  | .pong port pkt => Sys2Proof.Machine.execPong port pkt s
  | .shedAck port pkt => Sys2Proof.Machine.execShedAck port pkt s
  | .widenAck port pkt => Sys2Proof.Machine.execWidenAck port pkt s
  | .stepAck port pkt => Sys2Proof.Machine.execStepAck port pkt s
  | .refuse port pkt => Sys2Proof.Machine.execRefuse port pkt s
  | .shedReq port pkt => Sys2Proof.Machine.execShedReq port pkt s
  | .widenReq port pkt => Sys2Proof.Machine.execWidenReq port pkt s
  | .stepReq port pkt => Sys2Proof.Machine.execStepReq port pkt s
  | .hubRoleDownstreamPacket port pkt => Sys2Proof.Machine.execHubRoleDownstreamPacket port pkt s
  | .responseTimeout port => Sys2Proof.Machine.execResponseTimeout port s
  | .krpCmdRetrain fn port => Sys2Proof.Machine.execKrpCmdRetrain fn port s
  | .krpCmdWiden fn port => Sys2Proof.Machine.execKrpCmdWiden fn port s
  | .kpbUtilWindow port corrected => Sys2Proof.Machine.execKpbUtilWindow port corrected s
  | .kpbShedStart port => Sys2Proof.Machine.execKpbShedStart port s
  | .kpbStepDownStart port => Sys2Proof.Machine.execKpbStepDownStart port s
  | .kpbWidenStart port => Sys2Proof.Machine.execKpbWidenStart port s
  | .stepWaitLimit port => Sys2Proof.Machine.execStepWaitLimit port s
  | .pingTimer port => Sys2Proof.Machine.execPingTimer port s
  | .portResetIdleEnd port => Sys2Proof.Machine.execPortResetIdleEnd port s
  | .enumDebounceEnd port hub hport => Sys2Proof.Machine.execEnumDebounceEnd port hub hport s
  | .enumPortTurn port => Sys2Proof.Machine.execEnumPortTurn port s
  | .enumWaitEnd port => Sys2Proof.Machine.execEnumWaitEnd port s
  | .enumAttemptTimeout port => Sys2Proof.Machine.execEnumAttemptTimeout port s
  | .hubStatusPoll port hub => Sys2Proof.Machine.execHubStatusPoll port hub s
  | .khubTreeBaseWrite fn port value => Sys2Proof.Machine.execKhubTreeBaseWrite fn port value s
  | .khubTreeAckWrite fn port value => Sys2Proof.Machine.execKhubTreeAckWrite fn port value s
  | .enumEnWrite fn port on => Sys2Proof.Machine.execEnumEnWrite fn port on s
  | .rescan fn port => Sys2Proof.Machine.execRescan fn port s
  | .portPowerOn fn port => Sys2Proof.Machine.execPortPowerOn fn port s
  | .portPowerOff fn port => Sys2Proof.Machine.execPortPowerOff fn port s
  | .powerStaggerAllows port => Sys2Proof.Machine.execPowerStaggerAllows port s
  | .powerGood port => Sys2Proof.Machine.execPowerGood port s
  | .powerGoodTimeout port => Sys2Proof.Machine.execPowerGoodTimeout port s
  | .pmbAlert answers still => Sys2Proof.Machine.execPmbAlert answers still s
  | .telemetryPoll port status pin ok => Sys2Proof.Machine.execTelemetryPoll port status pin ok s
  | .encoderEdge ref chan => Sys2Proof.Machine.execEncoderEdge ref chan s
  | .glitch ref chan => Sys2Proof.Machine.execGlitch ref chan s
  | .indexEdge ref level => Sys2Proof.Machine.execIndexEdge ref level s
  | .standstill ref => Sys2Proof.Machine.execStandstill ref s
  | .srcLost ref => Sys2Proof.Machine.execSrcLost ref s
  | .prefSet fn ref value => Sys2Proof.Machine.execPrefSet fn ref value s
  | .prefHostMove fn ref value => Sys2Proof.Machine.execPrefHostMove fn ref value s
  | .prefHostVel fn ref value => Sys2Proof.Machine.execPrefHostVel fn ref value s
  | .pcuFire unit => Sys2Proof.Machine.execPcuFire unit s
  | .pcuArmArm fn unit disarm => Sys2Proof.Machine.execPcuArmArm fn unit disarm s
  | .pcuArmDisarm fn unit => Sys2Proof.Machine.execPcuArmDisarm fn unit s
  | .pinAction pin => Sys2Proof.Machine.execPinAction pin s
  | .pulseEnd pin => Sys2Proof.Machine.execPulseEnd pin s
  | .ppsIn ref10 => Sys2Proof.Machine.execPpsIn ref10 s
  | .ref10mLoss => Sys2Proof.Machine.execRef10mLoss s
  | .ppsMissing => Sys2Proof.Machine.execPpsMissing s
  | .timeCmdSet fn step => Sys2Proof.Machine.execTimeCmdSet fn step s
  | .timeCmdStep fn => Sys2Proof.Machine.execTimeCmdStep fn s
  | .timeRateWrite fn value => Sys2Proof.Machine.execTimeRateWrite fn value s
  | .ppsOutSecond => Sys2Proof.Machine.execPpsOutSecond s
  | .ppsOutPulseEnd => Sys2Proof.Machine.execPpsOutPulseEnd s
  | .positionBoundary port => Sys2Proof.Machine.execPositionBoundary port s
  | .timeBoundary port => Sys2Proof.Machine.execTimeBoundary port s
  | .fillerBoundary port => Sys2Proof.Machine.execFillerBoundary port s
  | .frmDepart port => Sys2Proof.Machine.execFrmDepart port s
  | .serviceEnd port => Sys2Proof.Machine.execServiceEnd port s
  | .serviceResponseTimeout port => Sys2Proof.Machine.execServiceResponseTimeout port s
  | .controlTurnTimer port => Sys2Proof.Machine.execControlTurnTimer port s
  | .kschCmdAdmit fn port => Sys2Proof.Machine.execKschCmdAdmit fn port s
  | .admissionDone port => Sys2Proof.Machine.execAdmissionDone port s
  | .candValid port => Sys2Proof.Machine.execCandValid port s
  | .kschCmdDropCand fn port => Sys2Proof.Machine.execKschCmdDropCand fn port s
  | .doorbellTail fn slot value size => Sys2Proof.Machine.execDoorbellTail fn slot value size s
  | .doorbellInvalidate fn slot value size => Sys2Proof.Machine.execDoorbellInvalidate fn slot value size s
  | .pushWindowWrite fn slot offset bytes => Sys2Proof.Machine.execPushWindowWrite fn slot offset bytes s
  | .descriptorFetch queue index => Sys2Proof.Machine.execDescriptorFetch queue index s
  | .descriptorAccept queue => Sys2Proof.Machine.execDescriptorAccept queue s
  | .wqEnable fn queue value => Sys2Proof.Machine.execWqEnable fn queue value s
  | .wqDisable fn queue value => Sys2Proof.Machine.execWqDisable fn queue value s
  | .wqCmdResume fn queue => Sys2Proof.Machine.execWqCmdResume fn queue s
  | .wqCmdAbort fn queue => Sys2Proof.Machine.execWqCmdAbort fn queue s
  | .wqRsyCtlQuiesce fn inst => Sys2Proof.Machine.execWqRsyCtlQuiesce fn inst s
  | .wqRsyCtlResume fn inst => Sys2Proof.Machine.execWqRsyCtlResume fn inst s
  | .wqRsyCtlSquash fn inst => Sys2Proof.Machine.execWqRsyCtlSquash fn inst s
  | .cqEnable fn ring value => Sys2Proof.Machine.execCqEnable fn ring value s
  | .cqHeadWrite fn ring value => Sys2Proof.Machine.execCqHeadWrite fn ring value s
  | .cqArm fn ring => Sys2Proof.Machine.execCqArm fn ring s
  | .coalesceTimeout ring => Sys2Proof.Machine.execCoalesceTimeout ring s
  | .dmaEnable fn chan ctl => Sys2Proof.Machine.execDmaEnable fn chan ctl s
  | .dmaDisable fn chan ctl => Sys2Proof.Machine.execDmaDisable fn chan ctl s
  | .dmaCmdKick fn chan => Sys2Proof.Machine.execDmaCmdKick fn chan s
  | .dmaCmdStop fn chan => Sys2Proof.Machine.execDmaCmdStop fn chan s
  | .dmaCmdGo fn chan => Sys2Proof.Machine.execDmaCmdGo fn chan s
  | .dmaCmdDiscardParked fn chan => Sys2Proof.Machine.execDmaCmdDiscardParked fn chan s
  | .dmaPoll chan => Sys2Proof.Machine.execDmaPoll chan s
  | .dmaRingRead chan => Sys2Proof.Machine.execDmaRingRead chan s
  | .dmaDescriptorEnd chan => Sys2Proof.Machine.execDmaDescriptorEnd chan s
  | .txFrameFetched queue => Sys2Proof.Machine.execTxFrameFetched queue s
  | .txFrameStart port => Sys2Proof.Machine.execTxFrameStart port s
  | .txFrameEnd port => Sys2Proof.Machine.execTxFrameEnd port s
  | .rxFrame port bytes fcsOk age => Sys2Proof.Machine.execRxFrame port bytes fcsOk age s
  | .emacLinkUp port remote => Sys2Proof.Machine.execEmacLinkUp port remote s
  | .emacLinkDown port local_ remote receiving => Sys2Proof.Machine.execEmacLinkDown port local_ remote receiving s
  | .emacCmdRetrain fn port => Sys2Proof.Machine.execEmacCmdRetrain fn port s
  | .emacCmdWiden fn port => Sys2Proof.Machine.execEmacCmdWiden fn port s
  | .hello port addr arg nonce => Sys2Proof.Machine.execHello port addr arg nonce s
  | .helloTimer port => Sys2Proof.Machine.execHelloTimer port s
  | .helloAbsence port => Sys2Proof.Machine.execHelloAbsence port s
  | .lsxShedReq port arg nonce => Sys2Proof.Machine.execLsxShedReq port arg nonce s
  | .lsxShedAck port arg nonce => Sys2Proof.Machine.execLsxShedAck port arg nonce s
  | .lsxWidenReq port arg nonce => Sys2Proof.Machine.execLsxWidenReq port arg nonce s
  | .lsxWidenAck port arg nonce => Sys2Proof.Machine.execLsxWidenAck port arg nonce s
  | .lsxRefuse port arg nonce => Sys2Proof.Machine.execLsxRefuse port arg nonce s
  | .lsxShedStart port => Sys2Proof.Machine.execLsxShedStart port s
  | .lsxWidenStart port => Sys2Proof.Machine.execLsxWidenStart port s
  | .lsxAnswerTimeout port => Sys2Proof.Machine.execLsxAnswerTimeout port s
  | .lsxSwitch port => Sys2Proof.Machine.execLsxSwitch port s
  | .lsxRealigned port => Sys2Proof.Machine.execLsxRealigned port s
  | .lsxRealignFail port => Sys2Proof.Machine.execLsxRealignFail port s
  | .pauseFrame port quanta => Sys2Proof.Machine.execPauseFrame port quanta s
  | .pfcFrame port vec times => Sys2Proof.Machine.execPfcFrame port vec times s
  | .pauseTimerExpiry port cls => Sys2Proof.Machine.execPauseTimerExpiry port cls s
  | .pauseResend port => Sys2Proof.Machine.execPauseResend port s
  | .estrLoadCmdClear fn => Sys2Proof.Machine.execEstrLoadCmdClear fn s
  | .estrLoadCmdCopy fn => Sys2Proof.Machine.execEstrLoadCmdCopy fn s
  | .estrLoadCmdLoad fn => Sys2Proof.Machine.execEstrLoadCmdLoad fn s
  | .steeringCommandDone => Sys2Proof.Machine.execSteeringCommandDone s
  | .estrCmdRekey fn port => Sys2Proof.Machine.execEstrCmdRekey fn port s
  | .imbalanceWindow port => Sys2Proof.Machine.execImbalanceWindow port s
  | .steeringDrainEnd port => Sys2Proof.Machine.execSteeringDrainEnd port s
  | .efltWakeCmdLoad fn port => Sys2Proof.Machine.execEfltWakeCmdLoad fn port s
  | .wakeLoadDone port => Sys2Proof.Machine.execWakeLoadDone port s
  | .msecKeyCmdLoad fn port value => Sys2Proof.Machine.execMsecKeyCmdLoad fn port value s
  | .taskDispatch sheaf => Sys2Proof.Machine.execTaskDispatch sheaf s
  | .commitInstant sheaf seq => Sys2Proof.Machine.execCommitInstant sheaf seq s
  | .taskDeadlineMiss sheaf => Sys2Proof.Machine.execTaskDeadlineMiss sheaf s
  | .tillerFailure sheaf seq => Sys2Proof.Machine.execTillerFailure sheaf seq s
  | .shfLoadCmdLoad fn sheaf inst slot len => Sys2Proof.Machine.execShfLoadCmdLoad fn sheaf inst slot len s
  | .programLoadDone sheaf => Sys2Proof.Machine.execProgramLoadDone sheaf s
  | .add sheaf seq => Sys2Proof.Machine.execAdd sheaf seq s
  | .sub sheaf seq => Sys2Proof.Machine.execSub sheaf seq s
  | .and sheaf seq => Sys2Proof.Machine.execAnd sheaf seq s
  | .or sheaf seq => Sys2Proof.Machine.execOr sheaf seq s
  | .xor sheaf seq => Sys2Proof.Machine.execXor sheaf seq s
  | .nor sheaf seq => Sys2Proof.Machine.execNor sheaf seq s
  | .slt sheaf seq => Sys2Proof.Machine.execSlt sheaf seq s
  | .sltu sheaf seq => Sys2Proof.Machine.execSltu sheaf seq s
  | .sll sheaf seq => Sys2Proof.Machine.execSll sheaf seq s
  | .srl sheaf seq => Sys2Proof.Machine.execSrl sheaf seq s
  | .sra sheaf seq => Sys2Proof.Machine.execSra sheaf seq s
  | .ror sheaf seq => Sys2Proof.Machine.execRor sheaf seq s
  | .mul sheaf seq => Sys2Proof.Machine.execMul sheaf seq s
  | .mulhu sheaf seq => Sys2Proof.Machine.execMulhu sheaf seq s
  | .min sheaf seq => Sys2Proof.Machine.execMin sheaf seq s
  | .max sheaf seq => Sys2Proof.Machine.execMax sheaf seq s
  | .minu sheaf seq => Sys2Proof.Machine.execMinu sheaf seq s
  | .maxu sheaf seq => Sys2Proof.Machine.execMaxu sheaf seq s
  | .clz sheaf seq => Sys2Proof.Machine.execClz sheaf seq s
  | .popc sheaf seq => Sys2Proof.Machine.execPopc sheaf seq s
  | .bswap sheaf seq => Sys2Proof.Machine.execBswap sheaf seq s
  | .addi sheaf seq => Sys2Proof.Machine.execAddi sheaf seq s
  | .andi sheaf seq => Sys2Proof.Machine.execAndi sheaf seq s
  | .ori sheaf seq => Sys2Proof.Machine.execOri sheaf seq s
  | .xori sheaf seq => Sys2Proof.Machine.execXori sheaf seq s
  | .slti sheaf seq => Sys2Proof.Machine.execSlti sheaf seq s
  | .sltiu sheaf seq => Sys2Proof.Machine.execSltiu sheaf seq s
  | .lui sheaf seq => Sys2Proof.Machine.execLui sheaf seq s
  | .shi sheaf seq => Sys2Proof.Machine.execShi sheaf seq s
  | .shfiSll sheaf seq => Sys2Proof.Machine.execShfiSll sheaf seq s
  | .shfiSrl sheaf seq => Sys2Proof.Machine.execShfiSrl sheaf seq s
  | .shfiSra sheaf seq => Sys2Proof.Machine.execShfiSra sheaf seq s
  | .shfiRor sheaf seq => Sys2Proof.Machine.execShfiRor sheaf seq s
  | .ldl sheaf seq => Sys2Proof.Machine.execLdl sheaf seq s
  | .stl sheaf seq => Sys2Proof.Machine.execStl sheaf seq s
  | .ldx sheaf seq => Sys2Proof.Machine.execLdx sheaf seq s
  | .stx sheaf seq => Sys2Proof.Machine.execStx sheaf seq s
  | .stxw sheaf seq => Sys2Proof.Machine.execStxw sheaf seq s
  | .beq sheaf seq => Sys2Proof.Machine.execBeq sheaf seq s
  | .bne sheaf seq => Sys2Proof.Machine.execBne sheaf seq s
  | .blt sheaf seq => Sys2Proof.Machine.execBlt sheaf seq s
  | .bge sheaf seq => Sys2Proof.Machine.execBge sheaf seq s
  | .bltu sheaf seq => Sys2Proof.Machine.execBltu sheaf seq s
  | .bgeu sheaf seq => Sys2Proof.Machine.execBgeu sheaf seq s
  | .j sheaf seq => Sys2Proof.Machine.execJ sheaf seq s
  | .jal sheaf seq => Sys2Proof.Machine.execJal sheaf seq s
  | .jr sheaf seq => Sys2Proof.Machine.execJr sheaf seq s
  | .jalr sheaf seq => Sys2Proof.Machine.execJalr sheaf seq s
  | .mfs sheaf seq => Sys2Proof.Machine.execMfs sheaf seq s
  | .mts sheaf seq => Sys2Proof.Machine.execMts sheaf seq s
  | .eret sheaf seq => Sys2Proof.Machine.execEret sheaf seq s
  | .endTask sheaf seq => Sys2Proof.Machine.execEndTask sheaf seq s
  | .cmt sheaf seq => Sys2Proof.Machine.execCmt sheaf seq s
  | .trap sheaf seq => Sys2Proof.Machine.execTrap sheaf seq s
  | .loop sheaf seq => Sys2Proof.Machine.execLoop sheaf seq s
  | .mode sheaf seq => Sys2Proof.Machine.execMode sheaf seq s
  | .dbell sheaf seq => Sys2Proof.Machine.execDbell sheaf seq s
  | .pgw sheaf seq => Sys2Proof.Machine.execPgw sheaf seq s
  | .sdma sheaf seq => Sys2Proof.Machine.execSdma sheaf seq s
  | .sget sheaf seq => Sys2Proof.Machine.execSget sheaf seq s
  | .sput sheaf seq => Sys2Proof.Machine.execSput sheaf seq s
  | .swait sheaf seq => Sys2Proof.Machine.execSwait sheaf seq s
  | .streamOpEnd sheaf seq tag => Sys2Proof.Machine.execStreamOpEnd sheaf seq tag s
  | .walkComplete die inst vaddr write hostErr => Sys2Proof.Machine.execWalkComplete die inst vaddr write hostErr s
  | .atsCompletion die inst page out rd wr write => Sys2Proof.Machine.execAtsCompletion die inst page out rd wr write s
  | .atsInvalidateRequest inst page count tag => Sys2Proof.Machine.execAtsInvalidateRequest inst page count tag s
  | .atsInvalidateCompletion inst tag => Sys2Proof.Machine.execAtsInvalidateCompletion inst tag s
  | .priResponse inst group code => Sys2Proof.Machine.execPriResponse inst group code s
  | .priTimeout inst fid => Sys2Proof.Machine.execPriTimeout inst fid s
  | .dlogInv fn inst value => Sys2Proof.Machine.execDlogInv fn inst value s
  | .invalidationDone inst => Sys2Proof.Machine.execInvalidationDone inst s
  | .dlogResumeRetry fn inst fid => Sys2Proof.Machine.execDlogResumeRetry fn inst fid s
  | .dlogResumeAbort fn inst fid => Sys2Proof.Machine.execDlogResumeAbort fn inst fid s
  | .dlogResumeRetryAll fn inst => Sys2Proof.Machine.execDlogResumeRetryAll fn inst s
  | .dlogFqHeadWrite fn inst value => Sys2Proof.Machine.execDlogFqHeadWrite fn inst value s
  | .dlogSpillTailWrite fn inst value => Sys2Proof.Machine.execDlogSpillTailWrite fn inst value s
  | .dirtyLogFlushDone inst => Sys2Proof.Machine.execDirtyLogFlushDone inst s
  | .instCmdStart fn inst => Sys2Proof.Machine.execInstCmdStart fn inst s
  | .instCmdReset fn inst => Sys2Proof.Machine.execInstCmdReset fn inst s
  | .instCmdFreeze fn inst => Sys2Proof.Machine.execInstCmdFreeze fn inst s
  | .instCmdThaw fn inst => Sys2Proof.Machine.execInstCmdThaw fn inst s
  | .instCmdSave fn inst => Sys2Proof.Machine.execInstCmdSave fn inst s
  | .instCmdRestore fn inst => Sys2Proof.Machine.execInstCmdRestore fn inst s
  | .instCmdDestroy fn inst => Sys2Proof.Machine.execInstCmdDestroy fn inst s
  | .flr inst => Sys2Proof.Machine.execFlr inst s
  | .vfEnableClear inst => Sys2Proof.Machine.execVfEnableClear inst s
  | .busMasterEnableChange inst on => Sys2Proof.Machine.execBusMasterEnableChange inst on s
  | .instResetCut inst => Sys2Proof.Machine.execInstResetCut inst s
  | .instResetDrained inst => Sys2Proof.Machine.execInstResetDrained inst s
  | .freezeDrained inst => Sys2Proof.Machine.execFreezeDrained inst s
  | .freezeTimeout inst => Sys2Proof.Machine.execFreezeTimeout inst s
  | .saveDone inst => Sys2Proof.Machine.execSaveDone inst s
  | .restoreDone inst => Sys2Proof.Machine.execRestoreDone inst s
  | .mbxCmdSend fn inst => Sys2Proof.Machine.execMbxCmdSend fn inst s
  | .mbxCmdTake fn inst => Sys2Proof.Machine.execMbxCmdTake fn inst s
  | .mbxTimeout inst toMgr => Sys2Proof.Machine.execMbxTimeout inst toMgr s
  | .sourceSignal kind unit => Sys2Proof.Machine.execSourceSignal kind unit s
  | .irqClaim fn target size => Sys2Proof.Machine.execIrqClaim fn target size s
  | .irqComplete fn target source => Sys2Proof.Machine.execIrqComplete fn target source s
  | .holdoffExpiry group => Sys2Proof.Machine.execHoldoffExpiry group s
  | .stormWindowEnd page => Sys2Proof.Machine.execStormWindowEnd page s
  | .irqPendWrite fn page word value => Sys2Proof.Machine.execIrqPendWrite fn page word value s
  | .irqEnWrite fn page word value => Sys2Proof.Machine.execIrqEnWrite fn page word value s
  | .irqSrcCfgWrite fn source part value => Sys2Proof.Machine.execIrqSrcCfgWrite fn source part value s
  | .faultDetect kind dom unit place transient => Sys2Proof.Machine.execFaultDetect kind dom unit place transient s
  | .dualCopyMismatch blk unit => Sys2Proof.Machine.execDualCopyMismatch blk unit s
  | .takeoverResume kind unit => Sys2Proof.Machine.execTakeoverResume kind unit s
  | .retire kind unit => Sys2Proof.Machine.execRetire kind unit s
  | .ageingSample slow => Sys2Proof.Machine.execAgeingSample slow s
  | .phaseCurrentSample outside => Sys2Proof.Machine.execPhaseCurrentSample outside s
  | .winnowTimer => Sys2Proof.Machine.execWinnowTimer s
  | .winnowDone kind unit place passed => Sys2Proof.Machine.execWinnowDone kind unit place passed s
  | .pwrCmdRun fn => Sys2Proof.Machine.execPwrCmdRun fn s
  | .pwrCmdIdle fn => Sys2Proof.Machine.execPwrCmdIdle fn s
  | .pwrCmdSleep fn => Sys2Proof.Machine.execPwrCmdSleep fn s
  | .pwrCmdDsleep fn => Sys2Proof.Machine.execPwrCmdDsleep fn s
  | .pwrCmdOff fn => Sys2Proof.Machine.execPwrCmdOff fn s
  | .powerEntry samples => Sys2Proof.Machine.execPowerEntry samples s
  | .drainTimeout => Sys2Proof.Machine.execDrainTimeout s
  | .wakeN => Sys2Proof.Machine.execWakeN s
  | .supplyWarning => Sys2Proof.Machine.execSupplyWarning s
  | .supplyRecovery => Sys2Proof.Machine.execSupplyRecovery s
  | .pointOfNoReturn => Sys2Proof.Machine.execPointOfNoReturn s
  | .shutdownSaveDone => Sys2Proof.Machine.execShutdownSaveDone s
  | .supplyRestart => Sys2Proof.Machine.execSupplyRestart s
  | .phaseFail stook phase => Sys2Proof.Machine.execPhaseFail stook phase s
  | .reservePhaseIn stook => Sys2Proof.Machine.execReservePhaseIn stook s
  | .phaseSenseFail stook phase => Sys2Proof.Machine.execPhaseSenseFail stook phase s
  | .thermalThrottleTick stook temp => Sys2Proof.Machine.execThermalThrottleTick stook temp s
  | .thermalRaiseTick stook temp => Sys2Proof.Machine.execThermalRaiseTick stook temp s
  | .thermalTrip dom temp => Sys2Proof.Machine.execThermalTrip dom temp s
  | .demandIntervalEnd => Sys2Proof.Machine.execDemandIntervalEnd s
  | .tariffPoint => Sys2Proof.Machine.execTariffPoint s
  | .pwrTariffSet fn band => Sys2Proof.Machine.execPwrTariffSet fn band s
  | .nrgCmdClearAcc fn port => Sys2Proof.Machine.execNrgCmdClearAcc fn port s
  | .nrgCmdClearMax fn port => Sys2Proof.Machine.execNrgCmdClearMax fn port s
  | .pmcCntWrite fn bank counter value => Sys2Proof.Machine.execPmcCntWrite fn bank counter value s
  | .counterOverflow bank counter => Sys2Proof.Machine.execCounterOverflow bank counter s
  | .gathererSnapshot => Sys2Proof.Machine.execGathererSnapshot s
  | .sampleCountdown sheaf => Sys2Proof.Machine.execSampleCountdown sheaf s
  | .glnTrig fn code arg => Sys2Proof.Machine.execGlnTrig fn code arg s
  | .gleanerToken code => Sys2Proof.Machine.execGleanerToken code s
  | .gleanerRecordWrite => Sys2Proof.Machine.execGleanerRecordWrite s
  | .walk fromUp frame => Sys2Proof.Machine.execWalk fromUp frame s
  | .walkEnd fromUp frame => Sys2Proof.Machine.execWalkEnd fromUp frame s
  | .levelSet fromUp frame => Sys2Proof.Machine.execLevelSet fromUp frame s
  | .join fromUp frame => Sys2Proof.Machine.execJoin fromUp frame s
  | .wake fromUp frame => Sys2Proof.Machine.execWake fromUp frame s
  | .msg fromUp frame => Sys2Proof.Machine.execMsg fromUp frame s
  | .chainFrameRepeat fromUp frame => Sys2Proof.Machine.execChainFrameRepeat fromUp frame s
  | .linkBeat up => Sys2Proof.Machine.execLinkBeat up s
  | .chainLinkLoss up => Sys2Proof.Machine.execChainLinkLoss up s
  | .chainLinkGain up => Sys2Proof.Machine.execChainLinkGain up s
  | .walkTimeout => Sys2Proof.Machine.execWalkTimeout s
  | .dchCmdWalk fn => Sys2Proof.Machine.execDchCmdWalk fn s
  | .dchCmdSend fn => Sys2Proof.Machine.execDchCmdSend fn s
  | .dchCmdTake fn => Sys2Proof.Machine.execDchCmdTake fn s
  | .dchCmdWake fn dst => Sys2Proof.Machine.execDchCmdWake fn dst s
  | .dchCmdReload fn => Sys2Proof.Machine.execDchCmdReload fn s
  | .porNAssert => Sys2Proof.Machine.execPorNAssert s
  | .porNRelease lead head => Sys2Proof.Machine.execPorNRelease lead head s
  | .imageAccepted copies a b hostCtl => Sys2Proof.Machine.execImageAccepted copies a b hostCtl s
  | .entropyReady sources => Sys2Proof.Machine.execEntropyReady sources s
  | .seedlingService cfg => Sys2Proof.Machine.execSeedlingService cfg s
  | .fullService => Sys2Proof.Machine.execFullService s
  | .perstNAssert port => Sys2Proof.Machine.execPerstNAssert port s
  | .perstNRelease port => Sys2Proof.Machine.execPerstNRelease port s
  | .refclkLoss => Sys2Proof.Machine.execRefclkLoss s
  | .refclkReturn => Sys2Proof.Machine.execRefclkReturn s
  | .sageFlCmdWrite fn => Sys2Proof.Machine.execSageFlCmdWrite fn s
  | .flashWriteDone ok => Sys2Proof.Machine.execFlashWriteDone ok s
  | .sageFlCmdRestart fn => Sys2Proof.Machine.execSageFlCmdRestart fn s
  | .sageFlCmdCommitSvn fn => Sys2Proof.Machine.execSageFlCmdCommitSvn fn s
  | .rngOut fn size => Sys2Proof.Machine.execRngOut fn size s
  | .rngCmdReseed fn => Sys2Proof.Machine.execRngCmdReseed fn s
  | .reseedTimer => Sys2Proof.Machine.execReseedTimer s
  | .healthTestFail source => Sys2Proof.Machine.execHealthTestFail source s
  | .ref10mReturn pps => Sys2Proof.Machine.execRef10mReturn pps s
  | .remoteFault port on => Sys2Proof.Machine.execRemoteFault port on s
  | .hostLinkDown port link => Sys2Proof.Machine.execHostLinkDown port link s
  | .hostLinkUp port link speed width flit => Sys2Proof.Machine.execHostLinkUp port link speed width flit s
  | .vfEnableSet inst => Sys2Proof.Machine.execVfEnableSet inst s
  | .msiXUnmask fn vector => Sys2Proof.Machine.execMsiXUnmask fn vector s
  | .configurationRequest dest field value write => Sys2Proof.Machine.execConfigurationRequest dest field value write s
  | .railsInTolerance => Sys2Proof.Machine.execRailsInTolerance s
  | .pmbSegmentFault segment => Sys2Proof.Machine.execPmbSegmentFault segment s

end Sys2Proof.Machine
end

