-- ==== Sys2Proof/Safety.lean ====
section
/-! DEFINITION. What counts as a sound state, and the words that the statements use: pages the manager reaches, and what a command leaves
alone. -/
namespace Sys2Proof.Machine

/-- The memory is in canonical form and the register maps list each address once, in rising order. -/
def State.sound (s : State) : Bool := Memory.wf s.mem && PMap.rising s.regs && PMap.rising s.shadow

/-- The manager's register accesses reach page (`blk`, `u`): it is listed, exists, is powered and served, and the manager's function does
not reset. -/
def State.opens (s : State) (blk u : Nat) : Bool := s.live blk u && !(s.resetting 0)

/-- Every byte of every memory reads as before. -/
def State.sameMem (s t : State) : Prop := ∀ a, t.byte a = s.byte a

/-- Every register field but those at the listed addresses holds what it held. -/
def State.regsBut (s t : State) (l : List Nat) : Prop := ∀ k, k ∉ l → PMap.find t.regs k = PMap.find s.regs k

/-- Root port `n` takes packet `p` of type `ty` (R85, R86): the port is there and faces downstream, its link carries packets, the header
arrived whole and the packet's level is the link's. -/
def State.takes (s : State) (n : Nat) (p : Pkt) (ty : Nat) : Bool :=
  s.live 0x30 n && !(s.hubPort n) && !(s.hubRole n) && pktOk p && hType p.hdr == ty && s.carries n && hLvl p.hdr == s.f KRP_STAT_LVL n

/-- The upstream port `n` of a quad in hub role takes packet `p`. -/
def State.takesUp (s : State) (n : Nat) (p : Pkt) : Bool :=
  s.live 0x30 n && s.hubRole n && pktOk p && typeKnown (hType p.hdr) && s.carries n && hLvl p.hdr == s.f KRP_STAT_LVL n

/-- What follows each packet on a root port: the turn of its frame goes on, and a rate step that waits takes the frame if it can. -/
def State.goOn (s : State) (n : Nat) : State := (s.serve n).stepCheck n

/-- The link's counts after a packet without data: they stand as they were. -/
def State.noted (s : State) (n : Nat) : State := s.setLink n (s.link n)

/-- The state once a packet with data has been counted: its payload blocks on the link and in the counters (R108). -/
def State.took (s : State) (n : Nat) (p : Pkt) : State :=
  let l := s.link n
  let k := payBlocks p.hdr p.data
  ((s.setLink n { l with rxBlk := l.rxBlk + k }).ran n 1 k s.now).count (bankQuad n) 0xC0 (n % 4) (some (s.krpOwner n)) k

/-- Task `t` is on its tiller and the word `w` at its pc is the instruction that it executes next: it is a task program or a hook with
budget left, it neither waits for its commit nor is suspended, and the word is an instruction that may stand there (R392, R404). -/
def State.runsWord (s : State) (t : Task) (w : Nat) : Bool :=
  decide (s.taskOf t.sheaf t.seq = some t) && s.fetch t == w && s.tillersRun && t.phase == 1 && t.commit.isNone && t.fid == 0 &&
  (t.src == 5 || t.base.isSome) && (t.base.isNone || t.budget != 0) && insnKnown w && insnLegal w && s.placement t (insn w) == 0

/-- The state in which the word's effect is worked out: the sampler may have taken note of it (R551). -/
def State.issued (s : State) (t : Task) (w : Nat) : State := s.sampleIssue t w (s.progSlot t)

/-- The instruction leaves context `c` and task `t`: it is counted as issued and the context goes on to what follows it. -/
def State.retires (s : State) (t : Task) (c : Ctx) : State := s.setTask { t.retire with ctx := c.advance }

/-- The transfer of a branch: the delay slot at the next offset is due, with `target` after it (R399). -/
def State.branches (s : State) (t : Task) (target : Nat) (leave : Bool) : State :=
  s.setTask { t.retire with ctx := { t.ctx with slot := some (t.ctx.pc, target), taken := leave, pc := t.ctx.pc + 4 } }

end Sys2Proof.Machine
end

