-- ==== Sys2Proof/Certificates/Slice0/Obligations.lean ====
section
/-! DEFINITION. The obligations: statements about the block's commands, its state and its rules. Values that a log entry marks as the
model's choice are named where a statement rests on one. -/
open Sys2Proof Sys2Proof.Machine

/-- A step runs the command at the front of the queue on the state with the rest of the queue. For every state whose queue is c followed by
rest, step answers what exec answers for c on that state with the queue set to rest. Rests on: the row's cut: a block's commands wait
first in, first out. -/
def Obligations.StepRunsFrontCommand : Prop :=
  ∀ (s : State) (c : Instr) (rest : List Instr), s.pending = c :: rest →
    step s = exec c { s with pending := rest }

/-- On an empty queue a step is one nanosecond of elapsed time (the model's choice for the block's clock). For every state with an empty
queue, step answers a next state whose queue is empty and whose elapsed time is 65,536 units of 1/65,536 ns later. That an idle step is a
tick is the model's choice. The model's own choices and readings in it: log entries 1, 99, 100. Rests on: 01_conventions.md, model's
choice, log entry 1. -/
def Obligations.IdleStepPassesOneNanosecond : Prop :=
  ∀ s : State, s.pending = [] → ∃ t, step s = .next t ∧ t.pending = [] ∧ t.now = s.now + 65536

/-- The state after reset: POR_N low, nothing waiting, nothing stored, every register at its reset value. State.reset has an empty queue, no
memory byte and no register listed that differs from its reset value, start-up phase 0, and every field of every unit reads as its reset
value; DEV_EPOCH_PERIOD reads 100. The model's own choices and readings in it: log entries 10, 11. Rests on: R587, R33. -/
def Obligations.ResetState : Prop :=
  State.reset.pending = [] ∧ State.reset.mem = [] ∧ State.reset.boot.phase = 0 ∧
    (∀ (F : Fld) (u i : Nat), State.reset.f F u i = fldReset F u i) ∧ State.reset.f DEV_EPOCH_PERIOD_PERIOD = 100

/-- The reset state is sound. State.reset's memory is in canonical form and its two register maps list each address once, in rising order. The
model's own choices and readings in it: log entries 5. Rests on: R20, R33. -/
def Obligations.ResetIsSound : Prop :=
  State.reset.sound = true

/-- No command touches the queue or the elapsed time, and none unsettles a sound state. For every command c and every state s, if exec c s
answers a next state t, then t's queue and elapsed time are s's, t has drawn no fewer free values, and t is sound when s is (memory
canonical, register maps rising). The model's own choices and readings in it: log entries 1, 8. Rests on: R10, the row's cut: a block's
commands. -/
def Obligations.CommandKeepsQueueAndTime : Prop :=
  ∀ (c : Instr) (s t : State), exec c s = .next t →
    t.pending = s.pending ∧ t.now = s.now ∧ s.draws ≤ t.draws ∧ (s.sound = true → t.sound = true)

/-- Every step keeps a sound state sound. For every state s that is sound, if step s answers a next state t (a command of any row, or a
nanosecond of time), then t is sound: its memory is in canonical form and its register maps list each address once, in rising order. The
model's own choices and readings in it: log entries 5. Rests on: R20, R33. -/
def Obligations.StepKeepsSound : Prop :=
  ∀ s t : State, s.sound = true → step s = .next t → t.sound = true

/-- Every command runs: only an access outside BAR0 stops, by name. For every command and every state, exec answers a next state, or the
command is REGISTER_WRITE, PAGE_CROSSING_READ or INSTANCE_REFUSED_ACCESS of a function or an offset that has no BAR0, and exec answers the
fault outsideBar. No command is refused. The model's own choices and readings in it: log entries 4. Rests on: R33, R35, R63, R68. -/
def Obligations.EveryCommandAnswers : Prop :=
  ∀ (c : Instr) (s : State), (∃ t, exec c s = .next t) ∨
    (exec c s = .fault .outsideBar ∧ ∃ fn off, inBar fn off = false ∧
      ((∃ size v, c = .registerWrite fn off size v) ∨ (∃ size, c = .pageCrossingRead fn off size) ∨
       ∃ w, c = .instanceRefusedAccess fn off w))

/-- REGISTER_WRITE: an RWC field goes to the shadow alone, is dropped while a commit is pending, and RW fields act at once. When the manager's
writes reach the DEV page: a 4-byte write of DEV_EPOCH_PERIOD with no commit pending stores PERIOD in the page's shadow and changes
nothing else; with a commit pending it changes nothing but PAGE_ERR.SHADOW_LOCKED, which is set; a 4-byte write of the RW register
PAGE_ERR_MASK sets it at once and changes nothing else. The model's own choices and readings in it: log entries 3, 81. Rests on: R45, R48,
R38. -/
def Obligations.RegisterWriteShadows : Prop :=
  ∀ (s : State) (v : Nat), s.opens 0x01 0 = true →
    (s.armed 0x01 0 = none →
      exec (.registerWrite 0 0x100058 4 v) s =
        .next { s with shadow := PMap.put s.shadow (DEV_EPOCH_PERIOD_PERIOD.addr 0 0) (v % 2 ^ 16) }) ∧
    ((s.armed 0x01 0).isSome = true →
      exec (.registerWrite 0 0x100058 4 v) s = .next (s.errOn PAGE_ERR_SHADOW_LOCKED 0x01 0)) ∧
    exec (.registerWrite 0 0x100014 4 v) s = .next (s.setF (hd PAGE_ERR_MASK 0x01) 0 0 v)

/-- PAGE_CROSSING_READ returns zero and sets PAGE_ERR.ACCESS on the page where it starts. For every page (blk, u) that the manager's accesses
reach and every offset in it, a read whose bytes cross the page's end completes: the data is zero, PAGE_ERR.ACCESS of that page is set and
nothing else changes. A page of the second type code of PCU or DMA (0x22, 0x51) is the page of unit 256 + u under the first. Rests on:
R40. -/
def Obligations.CrossingReadReadsZero : Prop :=
  ∀ (s : State) (blk u o size : Nat), u < 256 → o < 4096 → 4096 < o + size → blk ≠ 0x22 → blk ≠ 0x51 →
    s.opens blk u = true → (blk = 0x61 → u ≤ 64) →
    exec (.pageCrossingRead 0 (blk * 2 ^ 20 + u * 2 ^ 12 + o) size) s =
      .next { (s.errOn PAGE_ERR_ACCESS blk u) with rdata := 0 }

/-- A PAGE_COMMIT write is refused on a live page, for a reserved or disallowed point, a bad argument, or while a commit is pending. For every
page the manager's writes reach and every 8-byte write of PAGE_COMMIT with point p (bits 3:0) and argument a (bits 31:8): if the page is
live (R62), or PAGE_CAP does not allow the point (a reserved code is never allowed), or the argument is out of range, or the point is not
CANCEL and a commit is pending, then the write sets PAGE_ERR.COMMIT_REFUSED and changes nothing else; the same holds for the five commands
that write one point each. Rests on: R47. -/
def Obligations.CommitRefused : Prop :=
  ∀ (s : State) (blk u p a : Nat), blk < 256 → u < 256 → blk ≠ 0x22 → blk ≠ 0x51 → (blk = 0x61 → u ≤ 64) → s.opens blk u = true →
    p < 16 → a < 2 ^ 24 →
    (isLivePage blk = true ∨ 4 < p ∨ allowsPoint blk p = false ∨
      (if p = 2 then 95 else if p = 4 then 511 else 0) < a ∨ (p ≠ 0 ∧ (s.armed blk u).isSome = true)) →
    exec (.registerWrite 0 (blk * 2 ^ 20 + u * 2 ^ 12 + 0x18) 8 (p + a * 256)) s = .next (s.errOn PAGE_ERR_COMMIT_REFUSED blk u) ∧
    (p = 0 → a = 0 → exec (.pageCommitCancel 0 blk u) s = .next (s.errOn PAGE_ERR_COMMIT_REFUSED blk u)) ∧
    (p = 1 → exec (.pageCommitNow 0 blk u a) s = .next (s.errOn PAGE_ERR_COMMIT_REFUSED blk u)) ∧
    (p = 2 → exec (.pageCommitFrame 0 blk u a) s = .next (s.errOn PAGE_ERR_COMMIT_REFUSED blk u)) ∧
    (p = 3 → exec (.pageCommitEpoch 0 blk u a) s = .next (s.errOn PAGE_ERR_COMMIT_REFUSED blk u)) ∧
    (p = 4 → exec (.pageCommitPosition 0 blk u a) s = .next (s.errOn PAGE_ERR_COMMIT_REFUSED blk u))

/-- PAGE_COMMIT CANCEL, FRAME, EPOCH and POSITION disarm and arm; NOW applies every shadowed field at once. For a page the manager's writes
reach that is transactional: CANCEL removes the pending commit and changes nothing else; with none pending, FRAME on KRP and KSCH pages
for a root port to 95, EPOCH where the page allows it and POSITION for a PCU to 511 where it allows it record the point, the argument and
the time, release the manager's snapshot latch if it is on the page, and change nothing else. NOW on a DTU or KHUB page, with none pending
and rising register maps, gives every shadowed field its shadowed value, empties the page's shadow, counts one in COMMIT_SEQ, writes the
device epoch into PAGE_EPOCH, and leaves every other field, other pages' shadows and memory alone. The model's own choices and readings in
it: log entries 13, 18. Rests on: R46, R49, R61, Table 02-4. -/
def Obligations.CommitArms : Prop :=
  ∀ (s : State) (blk u a : Nat), u < 256 → blk ≠ 0x22 → s.opens blk u = true → isLivePage blk = false →
    (exec (.pageCommitCancel 0 blk u) s = .next { s with cmts := PMap.del s.cmts (pageOf blk u) }) ∧
    (s.armed blk u = none →
      (blk = 0x30 ∨ blk = 0x31 → a ≤ 95 →
        exec (.pageCommitFrame 0 blk u a) s =
          .next { s.unlatch 0 (pageOf blk u) with cmts := PMap.put s.cmts (pageOf blk u) ⟨2, a, s.now⟩ }) ∧
      (allowsPoint blk 3 = true →
        exec (.pageCommitEpoch 0 blk u 0) s =
          .next { s.unlatch 0 (pageOf blk u) with cmts := PMap.put s.cmts (pageOf blk u) ⟨3, 0, s.now⟩ }) ∧
      (allowsPoint blk 4 = true → a ≤ 511 →
        exec (.pageCommitPosition 0 blk u a) s =
          .next { s.unlatch 0 (pageOf blk u) with cmts := PMap.put s.cmts (pageOf blk u) ⟨4, a, s.now⟩ }) ∧
      (blk = 0x18 ∨ blk = 0x32 → s.sound = true →
        ∃ t, exec (.pageCommitNow 0 blk u 0) s = .next t ∧
          (∀ k, inPage blk u k = true → k ≠ (hd PAGE_EPOCH_COMMIT_SEQ blk).addr u 0 → k ≠ (hd PAGE_EPOCH_EPOCH blk).addr u 0 →
            PMap.find t.regs k = (PMap.find s.shadow k).or (PMap.find s.regs k)) ∧
          (∀ k, inPage blk u k = false → PMap.find t.regs k = PMap.find s.regs k) ∧
          t.shadow = s.shadow.filter (fun e => !(inPage blk u e.1)) ∧
          (PMap.find s.shadow ((hd PAGE_EPOCH_COMMIT_SEQ blk).addr u 0) = none →
            t.f (hd PAGE_EPOCH_COMMIT_SEQ blk) u = (s.f (hd PAGE_EPOCH_COMMIT_SEQ blk) u + 1) % 2 ^ 16) ∧
          t.f (hd PAGE_EPOCH_EPOCH blk) u = s.f DEV_EPOCH_EPOCH % 2 ^ 48 ∧ t.mem = s.mem))

/-- PAGE_CTL: DISCARD, RELEASE and SNAP act in that order, beside COMMIT_EV_EN. For a page the manager's writes reach: DISCARD without RELEASE
and SNAP empties the page's shadow, or while a commit is pending only sets SHADOW_LOCKED; RELEASE alone drops the manager's latch if it is
on the page; SNAP alone on a transactional page opens a latch that holds the page's values, and on a live page opens none; DISCARD,
RELEASE and SNAP in one write of a transactional page with no commit pending empty the shadow and then open a fresh latch. Each writes
COMMIT_EV_EN and nothing more. The model's own choices and readings in it: log entries 18. Rests on: R606, R60, R61, R48, R62. -/
def Obligations.PageCtl : Prop :=
  ∀ (s : State) (blk u v : Nat), u < 256 → blk ≠ 0x22 → blk ≠ 0x51 → s.opens blk u = true → v < 2 ^ 32 →
    let s1 := s.setF (hd PAGE_CTL_COMMIT_EV_EN blk) u 0 (v / 8 % 2)
    let bare := { s1 with shadow := s.shadow.filter fun e => !(inPage blk u e.1) }
    (v % 8 = 4 → s.armed blk u = none → exec (.pageCtlDiscard 0 blk u v) s = .next bare) ∧
    (v % 8 = 4 → (s.armed blk u).isSome = true → exec (.pageCtlDiscard 0 blk u v) s = .next (s1.errOn PAGE_ERR_SHADOW_LOCKED blk u)) ∧
    (v % 8 = 2 → exec (.pageCtlRelease 0 blk u v) s = .next (s1.unlatch 0 (pageOf blk u))) ∧
    (v % 8 = 1 → isLivePage blk = false → exec (.pageCtlSnap 0 blk u v) s =
      let l : Latch := { page := pageOf blk u, openedAt := s.now }
      let vals := ({ s1 with latch := PMap.put s.latch 0 l } : State).snapVals 0 blk u
      .next { s1 with latch := PMap.put s.latch 0 { l with vals := vals } }) ∧
    (v % 8 = 1 → isLivePage blk = true → exec (.pageCtlSnap 0 blk u v) s = .next s1) ∧
    (v % 8 = 7 → isLivePage blk = false → s.armed blk u = none → ∃ vals, exec (.pageCtlSnap 0 blk u v) s =
      .next { bare with latch := PMap.put (bare.unlatch 0 (pageOf blk u)).latch 0 { page := pageOf blk u, vals := vals, openedAt := s.now } })

/-- Snapshot timeout, EPOCH_ADVANCE, the epoch timer and the epoch boundary. A latch held for 10 ms or more is dropped by SNAPSHOT_TIMEOUT,
which does nothing before. On a served DEV page EPOCH_ADVANCE of the manager requests a boundary and an instance's is counted as a
refusal; EPOCH_TIMER_EXPIRY requests one once PERIOD times 10 µs have passed since the last boundary and does nothing before or while the
timer is stopped; EPOCH_BOUNDARY does nothing while none is requested or within 10 µs of the last boundary, and otherwise, with no commit
waiting for it and no re-key due, counts DEV_EPOCH by one, restarts the timer with the period in effect and changes nothing else. The
model's own choices and readings in it: log entries 2, 3, 23. Rests on: R57, R61, R70. -/
def Obligations.LatchAndEpoch : Prop :=
  (∀ (s : State) (fn : Nat) (l : Latch), PMap.find s.latch fn = some l →
    exec (.snapshotTimeout fn) s = .next (if l.openedAt + 10 * 65536000000 ≤ s.now then { s with latch := PMap.del s.latch fn } else s)) ∧
  (∀ s : State, s.opens 0x01 0 = true → exec (.epochAdvance 0) s = .next { s with epochReq := true }) ∧
  (∀ (s : State) (fn : Nat), fn ≠ 0 → s.serves 0x01 = true → exec (.epochAdvance fn) s = .next (s.refuse fn)) ∧
  (∀ s : State, s.serves 0x01 = true →
    exec .epochTimerExpiry s =
      .next (if s.epochPer ≠ 0 ∧ s.timerAt + s.epochPer * 655360000 ≤ s.now then { s with epochReq := true } else s)) ∧
  (∀ s : State, s.serves 0x01 = true →
    (s.epochReq = false → exec .epochBoundary s = .next s) ∧
    (s.now < s.epochAt + 655360000 → s.f DEV_EPOCH_EPOCH ≠ 0 → exec .epochBoundary s = .next s) ∧
    (s.epochReq = true → s.epochAt + 655360000 ≤ s.now → (∀ e ∈ s.cmts, e.2.point ≠ 3) →
      (∀ n < 96, (s.emac n).rekey = false ∧ (s.b ESTR_STAT_PROVISIONAL n && s.b DEV_SERVICE_ENTROPY_READY) = false) →
      exec .epochBoundary s = .next { s.setF DEV_EPOCH_EPOCH 0 0 (s.f DEV_EPOCH_EPOCH + 1) with
        epochAt := s.now, timerAt := s.now, epochReq := false, epochPer := s.f DEV_EPOCH_PERIOD_PERIOD }))

/-- A refused access of an instance is counted, dropped if a write, and completes with zero after 2 µs if a read. For an instance 1 to 64 that
does not reset, on a device that serves it, an access to slots 6 to 15 of its BAR0, which show nothing: a write only counts one in
INST_REFUSED; a read counts one and waits to complete. A waiting read of the instance completes with zero 2.000 µs after it arrived, and
not before. A function from 65 on has no BAR0, and the access faults. The model's own choices and readings in it: log entries 4. Rests on:
R460, R68, Table 02-5. -/
def Obligations.RefusedAccess : Prop :=
  (∀ (s : State) (fn off : Nat), 1 ≤ fn → fn ≤ 64 → 0x6000 ≤ off → off < 0x10000 → s.serves 0 = true → s.resetting fn = false →
    exec (.instanceRefusedAccess fn off true) s = .next (s.refuse fn) ∧
    exec (.instanceRefusedAccess fn off false) s = .next { s.refuse fn with
      refusals := s.refusals ++ [{ fn := fn, kind := 1, ref := 0, arrivedAt := s.now }] } ∧
    (s.refuse fn).f INST_REFUSED_COUNT fn = min (s.f INST_REFUSED_COUNT fn + 1) (2 ^ 32 - 1)) ∧
  (∀ (s : State) (r : Refused) (rs : List Refused), s.refusals = r :: rs → r.kind = 1 →
    exec (.refusalDone r.fn) s =
      .next (if r.arrivedAt + 2 * 65536000 ≤ s.now then { s with refusals := rs, rdata := 0 } else s)) ∧
  (∀ (s : State) (fn off : Nat) (w : Bool), 64 < fn → exec (.instanceRefusedAccess fn off w) s = .fault .outsideBar)

/-- A KPB packet with a bad header, on a link that carries none, or at another level is discarded and counted. For each packet row of a root
port that faces downstream: a packet whose header did not arrive whole counts one in HCRC_COUNT and is charged to the step that has waited
longest, and the port's turn goes on. An ACK that arrives whole on a link that carries no packets counts one in DISCARD_COUNT; at another
level than the link's it also sets PROTO and is charged. Nothing else is done with it. The model's own choices and readings in it: log
entries 2, 3, 29. Rests on: R85, R86, R90. -/
def Obligations.KpbPacketChecks : Prop :=
  ∀ (s : State) (n : Nat) (p : Pkt), s.live 0x30 n = true → s.hubPort n = false → s.hubRole n = false →
    (pktOk p = false → ∀ c ∈ [Instr.dat n p, .ack n p, .nak n p, .kpbStl n p, .bur n p, .hub n p, .ping n p, .pong n p,
        .shedAck n p, .widenAck n p, .stepAck n p, .refuse n p],
      exec c s = .next (((s.satF KRP_CNT_HCRC_COUNT n 0 1).chargeBad n).goOn n)) ∧
    (pktOk p = true → hType p.hdr = 0x40 → s.carries n = false →
      exec (.ack n p) s = .next ((s.satF KRP_CNT_DISCARD_COUNT n 0 1).goOn n)) ∧
    (pktOk p = true → hType p.hdr = 0x40 → s.carries n = true → hLvl p.hdr ≠ s.f KRP_STAT_LVL n →
      exec (.ack n p) s = .next ((((s.satF KRP_CNT_DISCARD_COUNT n 0 1).err KRP_ERR_PROTO n).chargeBad n).goOn n))

/-- ACK, NAK, KPB_STL, BUR and HUB: what each handshake does to the step that waits for it. For a packet that the root port takes, before its
turn goes on: an ACK with the SEQ of a setup or status stage that waits ends the stage, and one that no control step waits for does
nothing; a NAK of a bulk step ends the attempt without counting it (the step is dropped, its stream put off to the next turn, its
descriptor keeps the attempts made, and the round robin visit ends); an STL fails its step with status 0x12; a BUR that answers a bulk OUT
burst with NEXT beyond its packets fails the attempt as a bad response, and with NEXT within them, where no descriptor is left, drops the
step and takes over NEXT and CREDIT; a HUB packet that answers a poll is acknowledged and handed to the hub's record, with another poll
due. The model's own choices and readings in it: log entries 2, 30. Rests on: R90, R91, R94, R95, R98, R133, R134. -/
def Obligations.KpbHandshakes : Prop :=
  ∀ (s : State) (n : Nat) (p : Pkt) (t : Step),
    (s.takes n p 0x40 = true →
      ((s.noted n).ctrlFor n (hAddr p.hdr) = none → exec (.ack n p) s = .next ((s.noted n).goOn n)) ∧
      ((s.noted n).ctrlFor n (hAddr p.hdr) = some t → t.dirIn = false → hSel p.hdr = 0 → hSeq p.hdr = t.seq → t.stage ≠ 1 →
        exec (.ack n p) s = .next (((s.noted n).stageDone n t).goOn n))) ∧
    (s.takes n p 0x41 = true →
      let s1 := (s.noted n).count (bankQuad n) 0xC7 (n % 4) (some ((s.noted n).krpOwner n))
      s1.svcHandFor n p.hdr = none → s1.handFor n p.hdr = some t → t.kind ≤ 2 →
        exec (.nak n p) s = .next (((((s1.dropStep n t).putOff n t).keepTries t).wrrEnd (wrrKey 1 n)).goOn n)) ∧
    (s.takes n p 0x42 = true → (s.noted n).svcHandFor n p.hdr = none → (s.noted n).handFor n p.hdr = some t →
        exec (.kpbStl n p) s = .next (((s.noted n).stepFail n t 0x12).goOn n)) ∧
    (s.takes n p 0x43 = true → (s.noted n).stepFor n (hAddr p.hdr) (hEp p.hdr) false = some t → t.kind = 2 → hIn p.hdr = false →
      let k := (hSeq p.hdr + 1024 - t.seq) % 1024
      (t.credit < k → exec (.bur n p) s = .next (((s.noted n).attemptBad n t).goOn n)) ∧
      (k ≤ t.credit → 0 < k →
        let s1 := ((s.noted n).dropStep n t).setBseq n t.addr t.ep false (hSeq p.hdr)
        let s2 := s1.setTree n { s1.tree n with credits := PMap.put (s1.tree n).credits (epKey t.addr t.ep false) (hCredit p.hdr) }
        s2.stepDesc t = none → exec (.bur n p) s = .next (s2.goOn n))) ∧
    (s.takes n p 0x70 = true →
      ((s.noted n).sq n).steps.find? (fun t => !t.idle && t.kind == 5 && t.addr == hAddr p.hdr) = some t →
      let s1 := ((s.noted n).dropStep n t).sendAck n t.addr 1 true 0
      let s2 := s1.setTree n { s1.tree n with hubs := PMap.put (s1.tree n).hubs t.addr { PMap.get (s1.tree n).hubs t.addr {} with due := true } }
      exec (.hub n p) s = .next ((s2.hubReport n t.addr (hSel p.hdr) (leAt p.hdr 4 2) (leAt p.hdr 6 2)).goOn n))

/-- LNK packets: PING is answered, PONG dates the round trip, acknowledgements and refusals act on the request they answer, and requests are
answered in hub role. For a LNK packet that a root port takes, before its turn goes on: PING outside SLEEP is answered by PONG with its
NONCE; a PONG with the NONCE of the PING outstanding records the round trip; SHED_ACK of the shed that was asked for switches to its
width; WIDEN_ACK of the widening asked for is noted, and the switch waits for a training block on a waking lane; STEP_ACK of the step
asked for ends the request and the step waits for its frame; REFUSE of a shed or of a step down ends the request, bars another for DWELL
and lets what waited for the request go on. On the upstream port of a quad in hub role PING is answered by PONG, SHED_REQ is refused,
WIDEN_REQ acknowledged, and STEP_REQ acknowledged and followed. The refusal of a shed by an x1 port is the model's reading (log entry 33).
The model's own choices and readings in it: log entries 2, 8, 33, 85. Rests on: R109, R110, R114, R165, Table 03-7, Table 03-12. -/
def Obligations.KpbLinkPackets : Prop :=
  ∀ (s : State) (n : Nat) (p : Pkt), let l := s.link n
    (s.takes n p 0x60 = true →
      (hSel p.hdr = 8 → s.f PWR_STAT_STATE ≠ 2 → exec (.ping n p) s = .next (((s.noted n).sendLnk n 0x09 0 (hTail p.hdr)).goOn n)) ∧
      (hSel p.hdr = 9 → ∀ t, l.ping = some (hTail p.hdr, t) →
        exec (.pong n p) s = .next (((s.noted n).setLink n { l with ping := none, rtt := s.now - t }).goOn n)) ∧
      (hSel p.hdr = 2 → l.req = 1 → hArg p.hdr = l.reqArg → exec (.shedAck n p) s = .next (((s.noted n).linkWidth n l.reqArg).goOn n)) ∧
      (hSel p.hdr = 4 → l.req = 3 → hArg p.hdr = l.reqArg → l.runs = [] → krpLanes (s.f KRP_STAT_WIDTH n) < krpLanes l.reqArg →
        exec (.widenAck n p) s = .next (((s.noted n).setLink n { l with acked := true }).goOn n)) ∧
      (hSel p.hdr = 6 → l.req = 5 → hArg p.hdr = l.reqArg →
        exec (.stepAck n p) s = .next (((s.noted n).setLink n { l with req := 0, stepWait := some l.reqArg, stepAt := s.now }).goOn n)) ∧
      (hSel p.hdr = 7 → hArg p.hdr = 1 → l.req = 1 →
        exec (.refuse n p) s = .next ((((s.noted n).setLink n { l with req := 0, noShed := s.now + s.dwell n }).linkGo n).goOn n)) ∧
      (hSel p.hdr = 7 → hArg p.hdr = 5 → l.req = 5 → l.reqArg < l.tRate →
        exec (.refuse n p) s = .next ((((s.noted n).setLink n { l with req := 0, noStep := s.now + s.dwell n }).linkGo n).goOn n))) ∧
    (s.takesUp n p = true → hType p.hdr = 0x60 →
      (hSel p.hdr = 8 → exec (.ping n p) s = .next ((s.noted n).pong n p.hdr)) ∧
      (hSel p.hdr = 1 → exec (.shedReq n p) s = .next ((s.noted n).sendLnk n 0x07 0x01 0)) ∧
      (hSel p.hdr = 3 → exec (.widenReq n p) s = .next ((s.noted n).sendLnk n 0x04 (hArg p.hdr) 0)) ∧
      (hSel p.hdr = 5 → exec (.stepReq n p) s =
        .next (((s.noted n).setLink n { l with stepWait := some (hArg p.hdr), stepAt := s.now }).sendLnk n 0x06 (hArg p.hdr) 0)))

/-- A periodic DAT adds its bytes to the service it answers, a stray one is counted; a quad in hub role forwards. For a DAT with the periodic
flag that the root port takes with its data whole, before its turn goes on: where no service waits for its address and endpoint it counts
one in STRAY_COUNT; where one does, the packet's bytes are appended to the service's data, its index becomes SEQ + 1, a gap marks it as
missing, and LAST or the last packet of its size ends it. In hub role the upstream port forwards a FRM to its three downstream ports, and
to its device function where port 4 is ENABLED, drops a packet for an address with no route, and leaves a LNK packet aside. The model's
own choices and readings in it: log entries 2, 30. Rests on: R85, R97, R130, R218, R219. -/
def Obligations.KpbDataAndForwarding : Prop :=
  ∀ (s : State) (n : Nat) (p : Pkt), let h := p.hdr
    (s.takes n p 0x30 = true → pktDataOk p = true → bit (hFlags h) 1 = true → hIn h = true →
      let s1 := s.took n p
      (s1.svcFor n (hAddr h) (hEp h) = none → exec (.dat n p) s = .next ((s1.satF KSCH_CNT_STRAY_COUNT n 0 1).goOn n)) ∧
      (∀ v : Svc, s1.svcFor n (hAddr h) (hEp h) = some v → bit (hFlags h) 2 = false →
        exec (.dat n p) s = .next ((s1.setSq n { s1.sq n with svc := some { v with
          begun := true, missing := v.missing || hSeq h != v.idx, idx := hSeq h + 1, last := v.last || bit (hFlags h) 0,
          data := v.data ++ p.data, done := bit (hFlags h) 0 || decide (svcPackets (eBytes v.ent) ≤ hSeq h + 1) } }).goOn n))) ∧
    (s.takesUp n p = true →
      (hType h = 0x10 →
        exec (.hubRoleDownstreamPacket n p) s =
          let t := if (s.noted n).hportOn 4 then (s.noted n).hubFrm n h else s.noted n
          .next (((t.hubForward n 1 p).hubForward n 2 p).hubForward n 3 p)) ∧
      (hType h = 0x20 → hAddr h ≠ 0 → hAddr h ≠ 255 → hAddr h ≠ s.hub.addr → PMap.find s.hub.routes (hAddr h) = none →
        exec (.hubRoleDownstreamPacket n p) s = .next (s.noted n)) ∧
      (hType h = 0x60 → exec (.hubRoleDownstreamPacket n p) s = .next (s.noted n)))

/-- TS, EIE, EIX, WSW, FEC errors and loss of block lock on the lanes of a root port. On a lane of a root port that faces downstream: a
training block that is invalid in either polarity, or of a lane out of order, ends the run of its lane; in DETECT, with power on, the
eighth valid one of a kind leads to CONFIG with READY 1 and to PRESENT with READY 0; on a link in FULL or STEPPED a valid one is counted
in its lane's run, notes the partner's capabilities and shows its lane as locked; EIE leaves its lane idle; an uncorrectable FEC pair is
counted, and the third in a row on a link that carries packets sets UNC_BURST and starts a recovery, as the loss of block lock does. WSW
sets the width of what is received. On lane 0 of an upstream port EIE starts the idle; EIX ends it, and after 100 µs or more of it the KPB
state is reset: addresses 0, no configuration, no routes. The model's own choices and readings in it: log entries 2, 3, 84, 87. Rests on:
R74, R101, R105, R107, R109, R125. -/
def Obligations.KpbLanes : Prop :=
  ∀ (s : State) (n lane : Nat), let l := s.link n
    (s.hubPort n = false → s.laneOf n lane = true →
      (∀ ts, tsOk (tsTrue ts) = false ∨ s.laneRev n lane (tsTrue ts) = none →
        exec (.ts n lane ts) s = .next (((s.setLink n { l with runs := PMap.del l.runs lane }).serve n).enumTurn n)) ∧
      (∀ raw rev, let ts := tsTrue raw
        tsOk ts = true → s.laneRev n lane ts = some rev →
        (s.lstate n = 1 → s.hubRole n = false → s.portOn n = true → PMap.find l.runs lane = some (tsKind ts rev, 7) →
          let u := s.tsTake n lane ts rev
          exec (.ts n lane raw) s = .next (((if tsReady ts then u.linkConfigNew n else u.linkTo n 2).serve n).enumTurn n)) ∧
        (s.lstate n = 4 ∨ s.lstate n = 6 → exec (.ts n lane raw) s = .next ((((s.setLink n { l with
          runs := PMap.put l.runs lane (tsKind ts rev, match PMap.find l.runs lane with
            | some r => if r.1 = tsKind ts rev then r.2 + 1 else 1
            | none => 1)
          lastTs := s.now, caps := (leAt ts 3 1 % 8, leAt ts 3 1 / 16 % 8, leAt ts 4 1 % 16)
          sent := if l.phase = 3 then PMap.put l.sent lane (PMap.get l.sent lane 0 + 1) else [] }).laneStat lane true
            [SRDS_STAT_SIG_DET, SRDS_STAT_CDR_LOCK, SRDS_STAT_FEC_LOCK]).serve n).enumTurn n))) ∧
      (s.hubRole n = false → exec (.eie n lane) s = .next (s.laneIdle lane)) ∧
      (∀ run, run < 3 → exec (.fecUncorrectable n lane run) s = .next (s.addF KRP_CNT_FEC_UNC_COUNT n 0 1)) ∧
      (∀ run, 3 ≤ run → (s.addF KRP_CNT_FEC_UNC_COUNT n 0 1).carries n = true → exec (.fecUncorrectable n lane run) s =
        .next (((s.addF KRP_CNT_FEC_UNC_COUNT n 0 1).err KRP_ERR_UNC_BURST n).linkRecover n))) ∧
    (s.carries n = true →
      (∀ w, w ≤ 2 → exec (.wsw n w) s = .next (s.setLink n { l with rxWidth := w })) ∧
      (s.hubPort n = false → exec (.blockLockLoss n) s = .next (s.linkRecover n))) ∧
    (s.laneOf n n = true → s.hubRole n = true → l.stepWait = none → exec (.eie n n) s = .next ((s.laneIdle n).setLink n { l with eieAt := some s.now })) ∧
    (s.laneOf n n = true → ∀ t, l.eieAt = some t →
      (s.now < t + 6553600000 → exec (.eix n n) s = .next (s.setLink n { l with eieAt := none })) ∧
      (t + 6553600000 ≤ s.now → ∃ u, exec (.eix n n) s = .next u ∧ u.hub.addr = 0 ∧ u.hub.cfg = 0 ∧ u.hub.routes = [] ∧ u.hub.last = 0 ∧
        u.mem = s.mem))

/-- The timers of a root link: PRESENT, CONFIG, retrain and response limits, the utilisation window, and KRP_CMD. On a root port that faces
downstream: after 1 ms without a training block PRESENT goes back to DETECT, and nothing happens before; 50 ms in CONFIG count a failed
attempt, the third one lowers the width, then the rate, and ends in DETECT when both are lowest; each new attempt begins with its TS; a
retrain that has used up its bound goes to CONFIG afresh; a step that no boundary cut, has waited RSP_TMO and has attempts left counts a
retry and waits to be sent again. RETRAIN starts a recovery of a link that carries packets; WIDEN bars autonomous changes for DWELL, and
asks to widen in SHED and to step up in STEPPED. The end of a window of 100 µs without corrected symbols records the utilisation of the
busier direction in thousandths and starts the next window. The model's own choices and readings in it: log entries 2, 3, 84, 87. Rests
on: R90, R99, R100, R103, R105, R106, R108. -/
def Obligations.KpbLinkTimers : Prop :=
  ∀ (s : State) (n : Nat), let l := s.link n
    (s.hubPort n = false →
      (s.lstate n = 2 → exec (.presentTimeout n) s = .next (if l.lastTs + 65536000000 ≤ s.now then s.linkTo n 1 else s)) ∧
      (s.lstate n = 3 → l.since + 50 * 65536000000 ≤ s.now →
        exec (.configTimeout n) s = .next (
          let x := { l with attempts := l.attempts + 1, since := s.now, runs := [], phase := 1, heard := 0, sent := [] }
          if l.attempts + 1 < 3 then (s.setLink n x).trainStart n
          else if l.width ≠ 0 then (s.setLink n { x with attempts := 0, width := l.width - 1 }).trainStart n
          else if l.rate ≠ 0 then (s.setLink n { x with attempts := 0, rate := l.rate - 1 }).trainStart n
          else s.linkTo n 1)) ∧
      (s.lstate n = 3 → s.now < l.since + 50 * 65536000000 → exec (.configTimeout n) s = .next s)) ∧
    (s.lstate n = 7 → exec (.retrainTimeout n) s = .next (if l.since + l.bound ≤ s.now then s.linkReconfig n true else s)) ∧
    (∀ t : Step, (s.sq n).steps.find? (fun t => !t.idle && t.rest.isEmpty) = some t →
      (s.now < t.since + s.f KRP_TMO_RSP_TMO n * 655360 → exec (.responseTimeout n) s = .next s) ∧
      (t.since + s.f KRP_TMO_RSP_TMO n * 655360 ≤ s.now → t.cut = false → t.tries < s.f KRP_TMO_RETRY_MAX n →
        let s1 := s.satF KRP_CNT_RETRY_COUNT n 0 1
        exec (.responseTimeout n) s = .next ((s1.setSq n { s1.sq n with steps := (s1.sq n).steps.map fun x =>
          if x = t then { t with idle := true, cut := false, rest := [], tries := t.tries + 1 } else x }).goOn n))) ∧
    (s.opens 0x30 n = true →
      exec (.krpCmdRetrain 0 n) s = .next (if s.carries n then s.linkRecover n else s) ∧
      (s.hubRole n = false → l.req = 0 → l.stepWait = none → l.seed = false → l.idleEnd = none →
        let s1 := s.setLink n { l with noShed := s.now + s.dwell n, noStep := s.now + s.dwell n }
        let s2 := s1.setLink n { s1.link n with want := true }
        (s.lstate n = 4 → exec (.krpCmdWiden 0 n) s = .next (s2.setLink n { s2.link n with want := false })) ∧
        (s.lstate n = 5 → exec (.krpCmdWiden 0 n) s = .next (s2.linkWiden n)) ∧
        (s.lstate n = 6 → exec (.krpCmdWiden 0 n) s = .next (s2.linkStep n l.tRate false)))) ∧
    (s.live 0x30 n = true → l.winAt + 6553600000 ≤ s.now → (s.addF KRP_CNT_FEC_CORR_COUNT n 0 0).carries n = true →
      ∃ t, exec (.kpbUtilWindow n 0) s = .next t ∧
        t.f KRP_UTIL_UTIL n = min 1023 (max l.txBlk l.rxBlk * 1000 / blocksPer100 (s.f KRP_STAT_RATE n) (s.f KRP_STAT_WIDTH n)) ∧
        (t.link n).txBlk = 0 ∧ (t.link n).rxBlk = 0 ∧ (t.link n).winAt = s.now ∧ t.mem = s.mem)

/-- Shedding, stepping, widening, PING and the end of a port reset start when their conditions hold. A root port that faces downstream,
carries packets in FULL or SHED with LPM_EN, has no request outstanding and none to come, lies above MIN_WIDTH, has had low utilisation
for DWELL and is not barred asks to shed by one width step. A link in FULL at rate 0b10 and width x1 whose admitted load is under 40 % of
the capacity at 0b01 asks to step down, under like conditions; without LPM_EN neither asks. Once the last 5 µs have run at UP_PCT it asks
to widen in SHED and to step up in STEPPED, and below that it does nothing. A step of the passage to full service that has waited 100 ms
is forced. A second after the last PING one is sent with a fresh NONCE, which the spec leaves open. When the idle of a port reset ends the
link goes to DETECT, or begins it afresh. The model's own choices and readings in it: log entries 2, 3, 85, 86. Rests on: R109, R110,
R111, R113, R165, R128. -/
def Obligations.KpbLowPower : Prop :=
  ∀ (s : State) (n : Nat), let l := s.link n
    (s.b KRP_CTL_LPM_EN n = true → s.carries n = true → s.hubRole n = false → l.req = 0 → l.want = false → l.seed = false →
      (s.lstate n ≠ 6 → s.f KRP_CTL_MIN_WIDTH n < s.f KRP_STAT_WIDTH n → s.lowLong n = true → l.noShed ≤ s.now →
        exec (.kpbShedStart n) s = .next ((s.setLink n { l with req := 1, reqArg := s.f KRP_STAT_WIDTH n - 1, acked := false }).sendLnk n 1
          (s.f KRP_STAT_WIDTH n - 1) 0)) ∧
      (s.lstate n = 4 → l.stepWait = none → l.tRate = 2 → l.tWidth = 0 → s.f KRP_CTL_MIN_RATE n ≤ 1 → s.lowLong n = true → l.noStep ≤ s.now →
        10 * (s.tableLoad n (xBlock 1 0) (s.sq n).table - s.frmTime n (xBlock 1 0)) < 4 * xns (s.fMin n) →
        exec (.kpbStepDownStart n) s = .next (s.linkStep n 1 false))) ∧
    (s.b KRP_CTL_LPM_EN n = false → exec (.kpbShedStart n) s = .next s ∧ exec (.kpbStepDownStart n) s = .next s) ∧
    (s.carries n = true → s.busy n = false → exec (.kpbWidenStart n) s = .next s) ∧
    (s.carries n = true → s.busy n = true → s.hubRole n = false → l.req = 0 → l.stepWait = none → l.seed = false →
      let s2 := s.setLink n { l with want := true }
      (s.lstate n = 5 → exec (.kpbWidenStart n) s = .next (s2.linkWiden n)) ∧
      (s.lstate n = 6 → exec (.kpbWidenStart n) s = .next (s2.linkStep n l.tRate false)) ∧
      (s.lstate n = 4 → exec (.kpbWidenStart n) s = .next (s2.setLink n { s2.link n with want := false }))) ∧
    (l.stepSeed = true → l.stepWait.isSome = true → exec (.stepWaitLimit n) s =
      .next (if l.stepAt + 100 * 65536000000 ≤ s.now then s.setLink n { l with stepForce := true } else s)) ∧
    (s.carries n = true → s.hubRole n = false →
      (s.now < l.pingAt + 65536000000000 → exec (.pingTimer n) s = .next s) ∧
      (l.pingAt + 65536000000000 ≤ s.now → exec (.pingTimer n) s =
        .next ((s.setLink n { l with ping := some (Config.freeNat s.draws % 2 ^ 32, s.now), pingAt := s.now }).bump.sendLnk n 8 0
          (Config.freeNat s.draws % 2 ^ 32)))) ∧
    (∀ t, l.idleEnd = some t →
      (s.now < t → exec (.portResetIdleEnd n) s = .next s) ∧
      (t ≤ s.now → exec (.portResetIdleEnd n) s = .next ((s.setLink n { l with idleEnd := none }).detectAgain n)))

/-- Enumeration timers: debounce, the port's turn, waits, the attempt limit and the polls of hubs. For a tree: a port that waits for its
debounce stays while DEBOUNCE milliseconds have not passed, is then marked as due if it is still ready and is dropped if not. The turn of
ports with ENUM_EN 0 only serves the port; with ENUM_EN 1, nothing under enumeration and no table fault, the first port of the queue that
is due and ready leaves it and its enumeration starts, or is put off where no address is free. A wait of enumeration that has not ended
does nothing; at its end step 4 asks for the DEVICE descriptor and step 6 for the CONFIG descriptor. An attempt that has taken 100 ms from
step 3 on fails with a status the spec does not give. A configured hub whose poll is due is marked, and its next poll is set STAT_POLL
times 10 µs later. The model's own choices and readings in it: log entries 2, 35, 89, 90, 91. Rests on: R123, R126, R134, Table 04-4. -/
def Obligations.KpbEnumeration : Prop :=
  ∀ (s : State) (n : Nat), let t := s.tree n
    (∀ (hub hport at_ : Nat), t.queue.find? (fun q => q.1 == ⟨hub, hport⟩ && !q.2.2) = some (⟨hub, hport⟩, at_, false) →
      exec (.enumDebounceEnd n hub hport) s = .next (
        if s.now < at_ + s.f KHUB_CTL_DEBOUNCE * 65536000000 then s
        else if s.isReady n ⟨hub, hport⟩ then
          s.setTree n { t with queue := t.queue.map fun x => if x.1 = ⟨hub, hport⟩ then (x.1, x.2.1, true) else x }
        else s.setTree n { t with queue := t.queue.filter fun x => x.1 != ⟨hub, hport⟩ })) ∧
    (s.f KHUB_TREE_CTL_ENUM_EN 0 n = 0 → exec (.enumPortTurn n) s = .next (s.serve n)) ∧
    (∀ q, s.f KHUB_TREE_CTL_ENUM_EN 0 n = 1 → t.enum = none → t.fid = 0 → t.queue.find? (fun q => q.2.2 && s.isReady n q.1) = some q →
      let s1 := s.setTree n { t with queue := t.queue.filter fun x => x.1 != q.1 }
      exec (.enumPortTurn n) s =
        .next ((if (s1.freeAddr n).isSome then s1.enumStart n { at_ := q.1 } else s1.enumStarved n { at_ := q.1 }).serve n)) ∧
    (∀ e w, t.enum = some e → e.wait = some w → t.fid = 0 →
      (s.now < w → exec (.enumWaitEnd n) s = .next s) ∧
      (w ≤ s.now → e.step = 4 → exec (.enumWaitEnd n) s =
        .next ((s.setEnum n (some ({ e with wait := none }.ask 0 (reqGetDesc 1 32)))).serve n)) ∧
      (w ≤ s.now → e.step = 6 → exec (.enumWaitEnd n) s =
        .next ((s.setEnum n (some ({ e with wait := none, sub := 1 }.ask e.addr (reqGetDesc 2 16)))).serve n))) ∧
    (∀ e, t.enum = some e → t.fid = 0 → 3 ≤ e.step → e.since + 100 * 65536000000 ≤ s.now →
      exec (.enumAttemptTimeout n) s = .next (((s.setSq n { s.sq n with steps := (s.sq n).steps.filter fun t => t.kind != 4 }).bump.enumFail n e
        s.freeStatus).serve n)) ∧
    (∀ hub h, PMap.find t.hubs hub = some h → (s.ent n hub).state = 2 → h.pollAt ≤ s.now →
      let h' := { h with due := true, pollAt := s.now + s.f KHUB_CTL_STAT_POLL * 655360000 }
      exec (.hubStatusPoll n hub) s = .next ((s.setTree n { t with hubs := PMap.put t.hubs hub h' }).serve n))

/-- KHUB_TREE_BASE, KHUB_TREE_ACK, ENUM_EN and RESCAN of a root port. For a root port to 95 and the manager on a device that serves KHUB: a
write of TREE_BASE sets the register, clears TABLE_FAULT, forgets records that waited and writes all 256 records again, or none with 0.
TREE_ACK sets the register and frees the GONE entries up to its value, and ports that waited for a free address are queued again. ENUM_EN
written 0 stops the enumeration that runs at its next step, written 1 lets it run on, and takes the port whose turn it is. RESCAN detaches
what is attached, and makes the root port ready anew where its link still carries packets. An instance that does not hold the port is
refused and counted. The model's own choices and readings in it: log entries 14, 21. Rests on: R136, R140, R141, R142, R147, R156, Table
04-8. -/
def Obligations.KpbTreeRegisters : Prop :=
  ∀ (s : State) (n v : Nat), n ≤ 95 → s.serves 0x32 = true →
    (s.resetting 0 = false → let t := s.tree n
      (let s1 := (s.unwait (s.krpOwner n) t.fid).setTree n { t with fid := 0, dirty := [] }
        let s2 := (s1.setF KHUB_TREE_STAT_TABLE_FAULT 0 n 0).setF KHUB_TREE_BASE_ADDR 0 n v
        exec (.khubTreeBaseWrite 0 n v) s = .next ((s2.tableWrite n (List.range 256)).enumTurn n) ∧
        (v = 0 → exec (.khubTreeBaseWrite 0 n v) s = .next (((s2.treeShow n).overload n).enumTurn n))) ∧
      (v < 2 ^ 32 → exec (.khubTreeAckWrite 0 n v) s = .next (((s.setF KHUB_TREE_ACK_SEQ 0 n v).setTree n { t with ents := t.ents.map fun e =>
          if e.2.state == 3 && (e.2.seq == v || later v e.2.seq 32) then (e.1, { e.2 with state := 0 }) else e }).unstarve n)) ∧
      (∀ on, let s1 := (s.setF KHUB_TREE_CTL_ENUM_EN 0 n (b2n on)).setTree n { t with enum := t.enum.map fun e => { e with stop := !on } }
        exec (.enumEnWrite 0 n on) s = .next ((if on then s1.enumTurn n else s1).serve n)) ∧
      exec (.rescan 0 n) s = .next (if (s.detach n {}).carries n then (s.detach n {}).portReady n {} else s.detach n {})) ∧
    (∀ fn, fn ≠ 0 → s.holdsKrp fn n = false → ∀ c ∈ [Instr.khubTreeBaseWrite fn n v, .khubTreeAckWrite fn n v, .enumEnWrite fn n true,
      .rescan fn n, .portPowerOn fn n, .portPowerOff fn n], exec c s = .next (s.refuse fn))

/-- Power of a root port: on, off, the stagger, power good and its limit, alerts. PWR_ON 1 by the manager on a port with no switch fitted sets
the bit alone; on a fitted port in PSTATE 0 it starts the switching on. While it waits and fewer than STAGGER ports were switched on in
the last 10 ms the switch is written OPERATION 0x80, after its PAGE where the map gives one. Power good, read from STATUS_WORD, makes it
PSTATE 2 with PG; no power good within PG_TMO milliseconds writes OPERATION 0, makes it PSTATE 3 and sets PG_TIMEOUT. PWR_ON 0 on a port
with no switch fitted clears the bit and OVERCURRENT; on a fitted port it takes the link down, writes OPERATION 0 and ends in PSTATE 0. An
alert reads the Alert Response Address of both segments and records the level of PMB_ALERT_N; of a fitted port that answers STATUS_WORD is
read, and one that reports an output fault goes to PSTATE 3 with OVERCURRENT and, where it was on, loses its link. The model's own choices
and readings in it: log entries 2, 36. Rests on: R148, R149, R150, R151, Table 04-6. -/
def Obligations.KpbPortPower : Prop :=
  ∀ (s : State) (n : Nat), n ≤ 95 →
    (s.serves 0x32 = true → s.resetting 0 = false → let s1 := s.setF KHUB_TREE_CTL_PWR_ON 0 n 1
      let s0 := (s.setF KHUB_TREE_CTL_PWR_ON 0 n 0).setF KHUB_PWR_STAT_OVERCURRENT 0 n 0
      (s1.b KHUB_PWR_MAP_FITTED 0 n = false → exec (.portPowerOn 0 n) s = .next s1) ∧
      (s1.b KHUB_PWR_MAP_FITTED 0 n = true → s1.f KHUB_PWR_STAT_PSTATE 0 n = 0 →
        exec (.portPowerOn 0 n) s = .next ((s1.setF KHUB_PWR_STAT_PSTATE 0 n 1).setPwr n { s.pwr n with opAt := none })) ∧
      (s0.b KHUB_PWR_MAP_FITTED 0 n = false → exec (.portPowerOff 0 n) s = .next s0) ∧
      (s0.b KHUB_PWR_MAP_FITTED 0 n = true → let s2 := (s0.powerLost n 4).pmOperation n 0x00
        exec (.portPowerOff 0 n) s = .next (((s2.setF KHUB_PWR_STAT_PSTATE 0 n 0).setPwr n { s2.pwr n with opAt := none }).nrgBreak n))) ∧
    (s.f KHUB_PWR_STAT_PSTATE 0 n = 1 → (s.pwr n).opAt = none →
      (s.recentOn.length < s.f KHUB_PMB_STAGGER → exec (.powerStaggerAllows n) s =
        .next (({ s with staggered := s.now :: s.recentOn }.setPwr n { s.pwr n with opAt := some s.now, onAt := s.now }).pmOperation n 0x80)) ∧
      (s.f KHUB_PMB_STAGGER ≤ s.recentOn.length → exec (.powerStaggerAllows n) s = .next s)) ∧
    (s.f KHUB_PWR_STAT_PSTATE 0 n = 1 → ∀ t, (s.pwr n).opAt = some t →
      exec (.powerGood n) s = .next (((s.pmRead n 0x79).setF KHUB_PWR_STAT_PSTATE 0 n 2).setF KHUB_PWR_STAT_PG 0 n 1) ∧
      exec (.powerGoodTimeout n) s = .next (if t + s.f KHUB_PMB_PG_TMO * 65536000000 ≤ s.now then
        ((s.pmOperation n 0x00).setF KHUB_PWR_STAT_PSTATE 0 n 3).err KHUB_ERR_PG_TIMEOUT 0 else s)) ∧
    (∀ still, let s1 := ((s.emit (.alertRead 0)).emit (.alertRead 1)).setF KHUB_PMB_STAT_ALERT 0 0 (b2n still)
      exec (.pmbAlert [] still) s = .next s1 ∧
      (∀ st, s1.b KHUB_PWR_MAP_FITTED 0 n = true →
        let s2 := s1.pmRead n 0x79
        let s3 := ((s2.setF KHUB_PWR_STAT_PSTATE 0 n 3).setF KHUB_PWR_STAT_OVERCURRENT 0 n 1).err KHUB_ERR_OVERCURRENT 0
        (pmFault st = false → exec (.pmbAlert [(n, st)] still) s = .next s2) ∧
        (pmFault st = true → s2.f KHUB_PWR_STAT_PSTATE 0 n = 1 ∨ s2.f KHUB_PWR_STAT_PSTATE 0 n = 2 →
          exec (.pmbAlert [(n, st)] still) s = .next (s3.powerLost n 2)) ∧
        (pmFault st = true → s2.f KHUB_PWR_STAT_PSTATE 0 n = 0 ∨ s2.f KHUB_PWR_STAT_PSTATE 0 n = 3 →
          exec (.pmbAlert [(n, st)] still) s = .next (s3.detach n {} 2))))

/-- Encoder edges, glitches, index edges, standstill and the loss of a source. On a reference in quadrature mode: an edge on A or B moves the
count by one, forward or back as the quadrature sequence and INVERT_DIR say, and takes the new levels, unless the last edge was one on the
other channel within FILT_NS; then, as at an edge on both, OVERSPEED is set and the new levels are taken; an edge on both keeps the count.
A glitch on Z is counted; one on A or B is counted as well, and the eighth within 1 µs sets OVERSPEED and makes the reference unreliable.
A change of Z to the inactive level only records the level; an active index edge with no qualification, or with A and B high, records the
index error, counts the index and clears INDEX_MISSING; with INDEX_MODE 0 the count stays; with INDEX_MODE 1, or 2 when the reference is
not homing, an error that is not 0 makes it unreliable; with INDEX_MODE 3, or 2 when homing, the count becomes INDEX_POS. No edge for
STILL_TMO stills the reference, sooner nothing happens. On a KPB reference more than LOST_FRAMES frames without a sample set SRC_LOST and
make it unreliable. Memory stays where it is claimed. The model's own choices and readings in it: log entries 2, 28. Rests on: R158, R159,
R161, R162, R166, R173, R611. -/
def Obligations.EncoderAndSamples : Prop :=
  ∀ (s : State) (p : Nat), let r := s.pref p
    (s.prefOn p 1 = true →
      (∀ ch, ch < 2 → (r.run != 0 && r.runB != (ch == 1) &&
          decide (s.now - 65536 * s.f PREF_FILT_FILT_NS p ≤ r.stillAt + 65536 * s.f PREF_FILT_FILT_NS p)) = false → ∃ t, exec (.encoderEdge p ch) s = .next t ∧ t.mem = s.mem ∧
        (t.pref p).lvA = (if ch = 0 then !r.lvA else r.lvA) ∧ (t.pref p).lvB = (if ch = 1 then !r.lvB else r.lvB) ∧
        (t.pref p).cnt = r.cnt + (if ((if ch = 0 then r.lvA == r.lvB else r.lvA != r.lvB) != s.b PREF_CTL_INVERT_DIR p) then 1 else -1)) ∧
      (∃ t, exec (.encoderEdge p 2) s = .next t ∧ t.mem = s.mem ∧ (t.pref p).cnt = r.cnt ∧ (t.pref p).lvA = !r.lvA ∧ (t.pref p).lvB = !r.lvB ∧
        t.b PREF_STAT_OVERSPEED p = true) ∧
      (∀ ch, ch < 2 → r.run ≠ 0 → r.runB ≠ (ch == 1) →
        s.now - 65536 * s.f PREF_FILT_FILT_NS p ≤ r.stillAt + 65536 * s.f PREF_FILT_FILT_NS p → ∃ t, exec (.encoderEdge p ch) s = .next t ∧
        t.mem = s.mem ∧ (t.pref p).lvA = (if ch = 0 then !r.lvA else r.lvA) ∧ (t.pref p).lvB = (if ch = 1 then !r.lvB else r.lvB) ∧
        t.b PREF_STAT_OVERSPEED p = true) ∧
      (∀ ch, ch < 2 →
        let s1 := (s.satF PREF_CNT_GLITCH_COUNT p 0 1).count 109 0x241 p none
        let g := (s.now :: r.glitches.filter fun t => decide (s.now ≤ t + 65536000)).take 8
        (g.length < 8 → exec (.glitch p ch) s = .next (s1.setPref p { r with glitches := g })) ∧
        (g.length = 8 → exec (.glitch p ch) s = .next (((s1.setPref p { r with glitches := g }).setF PREF_STAT_OVERSPEED p 0 1).unreliable p))) ∧
      exec (.glitch p 2) s = .next ((s.satF PREF_CNT_GLITCH_COUNT p 0 1).count 109 0x241 p none) ∧
      (∀ level, level = s.b PREF_CTL_INDEX_POL p → exec (.indexEdge p level) s = .next (s.setPref p { r with lvZ := level })) ∧
      (∀ level, level ≠ s.b PREF_CTL_INDEX_POL p → s.b PREF_CTL_INDEX_QUAL p = false → s.f PREF_CTL_INDEX_MODE p = 0 →
        ∃ t, exec (.indexEdge p level) s = .next t ∧
          t.f PREF_IDX_ERR_ERR p = unsgn (sgn (s.f PREF_INDEX_POS_COUNT p) 48 - r.cnt) 32 % 2 ^ 32 ∧
          t.f PREF_CNT_INDEX_COUNT p = (s.f PREF_CNT_INDEX_COUNT p + 1) % 2 ^ PREF_CNT_INDEX_COUNT.w ∧ t.f PREF_STAT_INDEX_MISSING p = 0 ∧
          (t.pref p).lvZ = level ∧ (t.pref p).lo = r.cnt ∧ (t.pref p).hi = r.cnt ∧ (t.pref p).cnt = r.cnt ∧ t.mem = s.mem) ∧
      (∀ level, level ≠ s.b PREF_CTL_INDEX_POL p → (s.b PREF_CTL_INDEX_QUAL p = false ∨ (r.lvA = true ∧ r.lvB = true)) →
        let m := s.f PREF_CTL_INDEX_MODE p
        (m = 3 ∨ (m = 2 ∧ r.homing = true) → ∃ t, exec (.indexEdge p level) s = .next t ∧
          (t.pref p).cnt = sgn (s.f PREF_INDEX_POS_COUNT p) 48 ∧ (t.pref p).lvZ = level ∧ t.mem = s.mem) ∧
        (m = 1 ∨ (m = 2 ∧ r.homing = false) → sgn (s.f PREF_INDEX_POS_COUNT p) 48 ≠ r.cnt → ∃ t, exec (.indexEdge p level) s = .next t ∧
          t.b PREF_STAT_UNRELIABLE p = true ∧ (t.pref p).cnt = r.cnt ∧ (t.pref p).lvZ = level ∧ t.mem = s.mem)) ∧
      (s.b PREF_STAT_STANDSTILL p = false →
        (r.stillAt + s.f PREF_STILL_STILL_TMO p * 65536000 ≤ s.now → exec (.standstill p) s = .next (
          (s.setPref p { r with base := s.position p, at_ := s.now, rate := 0, intervals := [], estOn := false }).setF PREF_STAT_STANDSTILL p 0 1)) ∧
        (s.now < r.stillAt + s.f PREF_STILL_STILL_TMO p * 65536000 → exec (.standstill p) s = .next s))) ∧
    (s.prefOn p 2 = true → s.b PREF_STAT_SRC_LOST p = false → s.f PREF_KPB_LOST_FRAMES p < r.missed →
      exec (.srcLost p) s = .next (((((s.setPref p { r with base := s.position p, at_ := s.now, rate := 0, intervals := [], estOn := false }).setF
        PREF_STAT_SRC_LOST p 0 1).err PREF_ERR_SRC_LOST p)).unreliable p))

/-- PREF_SET, PREF_HOST_MOVE and PREF_HOST_VEL. When the manager's writes reach the page of a reference: PREF_SET clears UNRELIABLE and
OVERSPEED, lets the compare units and sequencers have the crossings already made, places the reference at the signed 64-bit value, and is
seen as a jump by its compare units and sequencers; the offset of a device's counts moves with it, and with it the turning point and the
last sample, as do the turning point and the range of an encoder's count; PREF_HOST_VEL keeps the signed rate for the next move and
changes nothing else; PREF_HOST_MOVE does nothing on a reference whose source is not the host, and on one whose source is, with no compare
unit and no sequencer set up, places it at the value with that rate and sets DIR by the move, and by the rate where that is not 0. The
model's own choices and readings in it: log entries 3. Rests on: R167, R168, R169, R187, R612. -/
def Obligations.ReferenceWrites : Prop :=
  ∀ (s : State) (p v : Nat), s.opens 0x20 p = true → v < 2 ^ 64 →
    (let s1 := ((s.setF PREF_STAT_UNRELIABLE p 0 0).setF PREF_STAT_OVERSPEED p 0 0).noticeMotion p
     let x := sgn v 64
     let r := s1.pref p
     let d := x / 65536 - r.cnt
     let y := x - s1.position p
     let s2 := s1.place p x
     let s3 := if s2.f PREF_CTL_SRC p = 2 then s2.setPref p { s2.pref p with
           t0 := r.t0 + y, turn := r.turn.map fun t => (t * 65536 + y) / 65536, sample := r.sample.map fun z => (z.1, z.2 + y) }
       else if s2.f PREF_CTL_SRC p = 1 then
         s2.setPref p { s2.pref p with turn := r.turn.map fun t => t + d, lo := r.lo + d, hi := r.hi + d, undo := none }
       else s2
     exec (.prefSet 0 p v) s = .next (s3.jump p (s1.position p) (s3.position p))) ∧
    exec (.prefHostVel 0 p v) s = .next (s.setPref p { s.pref p with hostRate := sgn v 64 }) ∧
    (s.f PREF_CTL_SRC p ≠ 3 → exec (.prefHostMove 0 p v) s = .next s) ∧
    (s.f PREF_CTL_SRC p = 3 → s.pcus = [] → s.seqs = [] →
      let s1 := (s.place p (sgn v 64)).setPref p { (s.place p (sgn v 64)).pref p with rate := (s.pref p).hostRate }
      let s2 := if sgn v 64 = s.position p then s1 else s1.setF PREF_STAT_DIR p 0 (b2n (decide (sgn v 64 < s.position p)))
      exec (.prefHostMove 0 p v) s = .next (if (s.pref p).hostRate = 0 then s2
        else s2.setF PREF_STAT_DIR p 0 (b2n (decide ((s.pref p).hostRate < 0)))))

/-- PCU_FIRE, arming, disarming and trigger pins. A unit that has not reached its target does not fire. An armed unit with STEP 0 that has,
and that makes no event, task, pin action or commit, fires: FIRED counts, and it disarms. ARM of a unit with MODE 0 does nothing; of one
in position mode it arms it with LEFT = COUNT and next target TGT and clears MISSED and LATE. DISARM of a unit that is not armed does
nothing; of one that is it clears ARMED and abandons its POSITION commits. The one action placed on a pin that is due sets the pin's
level, counts in PULSE_COUNT and drives the pin; with none placed nothing happens. A pulse whose end has come, with none placed to start
less than 4 ns later, ends and the pin is driven. The model's own choices and readings in it: log entries 2, 27, 78. Rests on: R178, R179,
R180, R181, R182, R184, R191. -/
def Obligations.CompareUnitsAndPins : Prop :=
  ∀ (s : State) (u : Nat),
    (s.reached u = false → exec (.pcuFire u) s = .next s) ∧
    (s.live 0x21 u = true → s.reached u = true → s.cmts = [] → s.f PCU_INTERVAL_STEP u = 0 → s.b PCU_CTL_TASK_EN u = false →
      s.b PCU_CTL_EV_EN u = false → s.b PCU_CTL_PIN_EN u = false → s.b PCU_CTL_KPB_EN u = false →
      ∃ t, exec (.pcuFire u) s = .next t ∧ t.f PCU_FIRED_COUNT u = (s.f PCU_FIRED_COUNT u + 1) % 2 ^ PCU_FIRED_COUNT.w ∧
        t.b PCU_STAT_ARMED u = false ∧ t.mem = s.mem ∧ t.out = s.out) ∧
    (s.opens 0x21 u = true →
      (s.f PCU_CTL_MODE u = 0 → exec (.pcuArmArm 0 u false) s = .next s) ∧
      (s.f PCU_CTL_MODE u = 1 →
        let s1 := ((((s.setF PCU_STAT_ARMED u 0 1).setF PCU_STAT_MISSED u 0 0).setF PCU_STAT_LATE u 0 0).setF PCU_LEFT_COUNT u 0
          (s.f PCU_COUNT_COUNT u)).setF PCU_STAT_PREDICT u 0 0
        exec (.pcuArmArm 0 u false) s = .next (s1.setPcu u { s.pcu u with
          next := sgn (s.f PCU_TGT_TGT u) 64, prev := s1.position (s1.f PCU_CTL_PREF u), far := s1.position (s1.f PCU_CTL_PREF u), due := false,
          dueAt := s.now, skip := 0, snap := s1.snapshot (s1.f PCU_CTL_PREF u), trgSent := false })) ∧
      (s.b PCU_STAT_ARMED u = false → exec (.pcuArmDisarm 0 u) s = .next s) ∧
      (s.b PCU_STAT_ARMED u = true → exec (.pcuArmDisarm 0 u) s =
        .next (((s.setF PCU_STAT_ARMED u 0 0).setPcu u { s.pcu u with due := false, trgSent := false }).abandonPos u))) ∧
    (s.pinQ = [] → exec (.pinAction u) s = .next s) ∧
    (∀ a : PinAct, s.pinQ = [a] → a.pin = u → a.at_ ≤ s.now → a.act = 2 → (s.pin u).pulse = none →
      let s1 := ({ s with pinQ := [] } : State).count 109 0x243 (if s.f PCU_CTL_MODE a.unit == 1 then s.f PCU_CTL_PREF a.unit else 8) none
      exec (.pinAction u) s = .next (((s1.addF TRG_CNT_PULSE_COUNT u 0 1).setPin u { s1.pin u with level := true }).drivePin u)) ∧
    (∀ e, (s.pin u).pulse = some e →
      (s.now < e → exec (.pulseEnd u) s = .next s) ∧
      (e ≤ s.now → s.pulseBefore u (e + 262144) = false → exec (.pulseEnd u) s = .next ((s.setPin u { s.pin u with pulse := none, lastEnd := some e }).drivePin u)))

/-- PPS and 10 MHz inputs, TIME_CMD, TIME_RATE and PPS_OUT. With the TIME page served: an edge of PPS_IN records its device time, PPS_PRESENT
and the presence of REF10M_IN, and outside REF mode nothing more; the loss of REF10M_IN clears REF10_PRESENT, and 1.1 s without a PPS edge
PPS_PRESENT, and in REF mode each starts holdover; sooner the latter does nothing. A write of TIME_CMD with SET and a TIME_SET of a whole
second or more of nanoseconds is refused, and a good one jumps device time there and counts a step; a step below zero is refused.
TIME_RATE takes the manager's value. When running device time reaches a new second PPS_OUT pulses if it is enabled; the pulse ends when
its width has passed. The model's own choices and readings in it: log entries 2, 24. Rests on: R185, R186, R187, R189, R193. -/
def Obligations.DeviceTime : Prop :=
  (∀ s : State, s.live 0x24 0 = true →
    (∀ r, s.f TIME_CTL_MODE = 0 ∨ s.f TIME_CTL_MODE = 2 →
      exec (.ppsIn r) s = .next ((({ s with tm := { s.tm with lastPps := some s.now, ref10 := r } } : State).setF TIME_PPS_IN_TIME 0 0
        (time96 s.devTime)).setF TIME_STAT_PPS_PRESENT 0 0 1 |>.setF TIME_STAT_REF10_PRESENT 0 0 (b2n r))) ∧
    (let s1 := ({ s with tm := { s.tm with ref10 := false } } : State).setF TIME_STAT_REF10_PRESENT 0 0 0
     exec .ref10mLoss s = .next (if s1.f TIME_CTL_MODE = 1 then s1.holdover else s1)) ∧
    (∀ t, s.tm.lastPps = some t →
      (s.now < t + 1100 * 65536000000 → exec .ppsMissing s = .next s) ∧
      (t + 1100 * 65536000000 ≤ s.now → let s1 := s.setF TIME_STAT_PPS_PRESENT 0 0 0
        exec .ppsMissing s = .next (if s1.f TIME_CTL_MODE = 1 then s1.holdover else s1))) ∧
    (let s1 : State := { s with tm := { s.tm with ppsSec := s.devTime / 65536000000000 } }
     s.tm.ppsSec < s.devTime / 65536000000000 →
      exec .ppsOutSecond s = .next (if s.b TIME_CTL_PPS_OUT_EN = true then s1.ppsPulse else s1)) ∧
    (s.devTime / 65536000000000 ≤ s.tm.ppsSec → exec .ppsOutSecond s = .next s)) ∧
  (∀ (s : State) (v : Nat), s.opens 0x24 0 = true → v < 2 ^ 32 →
    exec (.timeRateWrite 0 v) s = .next (s.setF TIME_RATE_ADJ 0 0 v) ∧
    (65536000000000 ≤ s.f TIME_SET_TIME % 2 ^ 48 → ∀ st, exec (.timeCmdSet 0 st) s = .next (s.err TIME_ERR_STEP_REFUSED 0)) ∧
    (s.f TIME_SET_TIME % 2 ^ 48 < 65536000000000 → s.f TIME_SET_TIME / 2 ^ 48 < 2 ^ 48 →
      exec (.timeCmdSet 0 false) s = .next ((s.timeJump (ofTime96 (s.f TIME_SET_TIME))).addF TIME_STAT_STEPS 0 0 1)) ∧
    ((s.devTime : Int) + sgn (s.f TIME_STEP_OFFSET) 64 < 0 → exec (.timeCmdStep 0) s = .next (s.err TIME_ERR_STEP_REFUSED 0)) ∧
    (0 ≤ (s.devTime : Int) + sgn (s.f TIME_STEP_OFFSET) 64 → (s.devTime : Int) + sgn (s.f TIME_STEP_OFFSET) 64 < 2 ^ 48 * 65536000000000 →
      exec (.timeCmdStep 0) s = .next ((s.timeJump ((s.devTime : Int) + sgn (s.f TIME_STEP_OFFSET) 64).toNat).addF TIME_STAT_STEPS 0 0 1))) ∧
  (∀ (s : State) (e : Nat), s.tm.ppsEnd = some e → exec .ppsOutPulseEnd s =
    .next (if e ≤ s.now then ({ s with tm := { s.tm with ppsEnd := none } } : State).emit (.ppsOut false) else s))

/-- Boundaries, the FRM, ends of services, control turns and admission of a frame sequencer. A sequencer that does not run has no boundary and
sends no FRM. On a running one clocked by a position with no crossing since the last look only the place looked to moves; a crossing is a
boundary at its position unless the port follows its own endpoint; a time-clocked one has its boundary when the longest frame has passed
since the last, and a position-clocked one a filler when it has passed since the last FRM with nothing held. When R203 allows it the FRM
leaves and the frame's turns go on. A service that has reached its end is over; one without a response in its time is over as missing
data. On a link without a running sequencer the control turn begins again every 125 µs. ADMIT starts an admission unless one runs; the end
of the admission decides it and renews PER_NEED; a candidate whose lists exist becomes CAND_VALID; DROP_CAND forgets it. The model's own
choices and readings in it: log entries 2, 37, 38. Rests on: R194, R196, R199, R202, R203, R213, R218. -/
def Obligations.Sequencer : Prop :=
  (∀ (s : State) (n : Nat), s.b KSCH_STAT_RUNNING n = false →
    exec (.positionBoundary n) s = .next s ∧ exec (.timeBoundary n) s = .next s ∧ exec (.fillerBoundary n) s = .next s ∧
    exec (.frmDepart n) s = .next s) ∧
  (∀ (s : State) (n : Nat), s.b KSCH_STAT_RUNNING n = true → let q := s.sq n
    (q.clock = 0 → s.crossing n = none → exec (.positionBoundary n) s = .next (s.lookedTo n (s.position q.pref))) ∧
    (q.clock = 0 → ∀ m, s.crossing n = some (m, false) →
      let s1 := ((s.setSq n { q with hwm := some m }).lookedTo n m).loopCheck n
      exec (.positionBoundary n) s = .next (if s1.b KSCH_STAT_PREF_LOOP n then s1
        else s1.boundary n false false false (some m) (s1.reachedAt q.pref m))) ∧
    (q.clock = 1 → ∀ b, q.lastBnd = some b → b + 655360 * q.fmax ≤ s.now →
      exec (.timeBoundary n) s = .next ((s.loopCheck n).boundary n false true false none (b + 655360 * q.fmax))) ∧
    (q.clock = 0 → q.held = none → q.lastBnd = none → q.lastFrm = none → q.startAt + 655360 * q.fmax ≤ s.now →
      exec (.fillerBoundary n) s = .next ((s.loopCheck n).boundary n true false false none (q.startAt + 655360 * q.fmax))) ∧
    (s.frmMay n = true → exec (.frmDepart n) s = .next (((s.frmLeave n).frameSamples n).goOn n))) ∧
  (∀ (s : State) (n : Nat) (v : Svc), (s.sq n).svc = some v →
    (v.done = true → eIn v.ent = true ∨ v.since ≤ s.now → exec (.serviceEnd n) s = .next ((s.svcOver n).goOn n)) ∧
    (v.begun = false → eIn v.ent = true →
      let p := s.pathOf n (eAddr v.ent) (s.rootNow n)
      v.since + (p.1 + s.turnOf n p.2) * 65536 / 5376 ≤ s.now →
      exec (.serviceResponseTimeout n) s =
        .next (((s.setSq n { s.sq n with svc := some { v with missing := true } }).svcOver n).goOn n))) ∧
  (∀ (s : State) (n : Nat), s.carries n = true → s.b KSCH_STAT_RUNNING n = false →
    exec (.controlTurnTimer n) s = .next (if (s.sq n).ctrlAt + 8192000000 ≤ s.now then
      (s.setSq n { s.sq n with turn := 2, ctrl := 0, ctrlAt := s.now }).serve n else s)) ∧
  (∀ (s : State) (n : Nat), s.opens 0x31 n = true →
    (s.b KSCH_ADM_STAT_RUNNING n = true → exec (.kschCmdAdmit 0 n) s = .next s ∧ exec (.admissionDone n) s = .next ((s.admission n).perUpdate)) ∧
    (s.b KSCH_ADM_STAT_RUNNING n = false →
      exec (.kschCmdAdmit 0 n) s = .next ((s.setF KSCH_ADM_STAT_RUNNING n 0 1).setSq n { s.sq n with candAt := s.now, admFn := 0 }) ∧
      exec (.admissionDone n) s = .next s ∧
      ((s.sq n).cand.isSome = true → exec (.candValid n) s = .next (s.setF KSCH_ADM_STAT_CAND_VALID n 0 1))) ∧
    exec (.kschCmdDropCand 0 n) s = .next ((s.setSq n { s.sq n with cand := none }).setF KSCH_ADM_STAT_CAND_VALID n 0 0))

/-- TAIL and INVALIDATE doorbells and the push window of a queue. A write to a slot outside the function's grant, of a function that resets,
or that runs past the slot is refused and counted, whatever its size; any other doorbell write that is not one 4-byte write does nothing.
On an enabled queue of the grant with nothing pushed: a TAIL doorbell whose INDEX is at most one queue size ahead of HEAD and not behind
TAIL becomes TAIL, ends a fetch stop and is counted; a stale one, less than a queue size behind TAIL, is dropped, and one further off sets
DB_ERR and is counted as dropped; an INVALIDATE with FROM between HEAD and TAIL drops the copies from FROM on and stops fetching there. A
doorbell of a disabled queue is dropped and counted. An aligned 8-byte write of the push window puts its word there; one of another shape
is ignored, and one that runs past the slot is refused. The model's own choices and readings in it: log entries 3, 40. Rests on: R247,
R248, R250, R252, R460, R608. -/
def Obligations.Doorbells : Prop :=
  (∀ (s : State) (fn slot v size : Nat),
    (size ≠ 4 → size ≤ 512 → s.resetting fn = false → (s.slotQ fn slot).isSome = true →
      exec (.doorbellTail fn slot v size) s = .next s ∧ exec (.doorbellInvalidate fn slot v size) s = .next s) ∧
    (512 < size ∨ s.resetting fn = true ∨ s.slotQ fn slot = none →
      exec (.doorbellTail fn slot v size) s = .next (s.refuse fn) ∧ exec (.doorbellInvalidate fn slot v size) s = .next (s.refuse fn))) ∧
  (∀ (s : State) (fn slot : Nat) (bs : List (BitVec 8)), s.slotQ fn slot = none →
    exec (.pushWindowWrite fn slot 0x40 bs) s = .next (s.refuse fn)) ∧
  (∀ (s : State) (fn slot q n : Nat), s.slotQ fn slot = some q → s.resetting fn = false → slot < 1024 → n < 65536 →
    let w := s.wq q
    (s.qb WQ_CFG_ENABLE q = false → exec (.doorbellTail fn slot (slot * 65536 + n) 4) s = .next ((s.pushEmpty q).dbErr q) ∧
      exec (.doorbellInvalidate fn slot (slot * 65536 + n) 4) s = .next ((s.pushEmpty q).dbErr q)) ∧
    (s.qb WQ_CFG_ENABLE q = true →
      (w.push = [] → diff16 n (s.head q) ≤ s.wqSize q → diff16 n (s.tail q) ≤ diff16 n (s.head q) →
        exec (.doorbellTail fn slot (slot * 65536 + n) 4) s =
          .next (((s.setWq q { w with stop := none, push := [] }).setQ WQ_IDX_TAIL q n).dbTaken q)) ∧
      (s.wqSize q < diff16 n (s.head q) → s.wqSize q ≤ diff16 (s.tail q) n →
        exec (.doorbellTail fn slot (slot * 65536 + n) 4) s = .next ((s.pushEmpty q).dbErr q)) ∧
      (s.wqSize q < diff16 n (s.head q) → diff16 (s.tail q) n < s.wqSize q →
        exec (.doorbellTail fn slot (slot * 65536 + n) 4) s = .next (s.pushEmpty q)) ∧
      (w.stop = none → diff16 n (s.head q) ≤ diff16 (s.tail q) (s.head q) →
        exec (.doorbellInvalidate fn slot (slot * 65536 + n) 4) s = .next ((s.setWq q { w with
          cached := w.cached.filter fun e => diff16 e.1 (s.head q) < diff16 n (s.head q),
          taken := w.taken.filter fun e => diff16 e.1 (s.head q) < diff16 n (s.head q), stop := some n, push := [] }).dbTaken q))) ∧
    (∀ (o : Nat) (bs : List (BitVec 8)), bs.length = 8 → o % 8 = 0 → 0x40 ≤ o → o < 0x200 →
      exec (.pushWindowWrite fn slot o bs) s = .next (s.setWq q { w with push := PMap.put w.push ((o - 0x40) / 8) (leAt bs 0 8) })) ∧
    (∀ (o : Nat) (bs : List (BitVec 8)), bs.length = 4 → o + 4 ≤ 0x200 → exec (.pushWindowWrite fn slot o bs) s = .next s) ∧
    (∀ (o : Nat) (bs : List (BitVec 8)), 0x200 < o + bs.length → exec (.pushWindowWrite fn slot o bs) s = .next (s.refuse fn)))

/-- Descriptors are fetched and accepted in order. An announced index of an enabled, unparked queue that holds fewer than 16 copies and not
this one is read from its slot, 64 bytes, and held; the index of a queue that is disabled, parked or has it already is not read. A queue
with no acceptable descriptor accepts none. An acceptable descriptor of a queue that is no task queue and that nothing turns away moves
HEAD by one, takes a slot of its ring, records HSEQ for the queue and the instance, takes its copy, stands among the accepted, and starts
its queue's work; pacing that follows the queue is taken up. The model's own choices and readings in it: log entries 2, 41, 42, 92. Rests
on: R240, R241, R243, R252, R255, R263. -/
def Obligations.QueueFetchAndAccept : Prop :=
  (∀ (s : State) (q i : Nat), let w := s.wq q
    ((s.qb WQ_CFG_ENABLE q = false ∨ s.qb WQ_STAT_PARKED q = true ∨ (w.copy i).isSome = true ∨ s.fetchable q i = false) →
      exec (.descriptorFetch q i) s = .next s) ∧
    (∀ b, s.qb WQ_CFG_ENABLE q = true → s.qb WQ_STAT_PARKED q = false → w.copy i = none → s.fetchable q i = true → w.cached.length < 16 →
      s.readV (s.wqOwner q) (s.q WQ_BASE_ADDR q + 64 * (i % s.wqSize q)) 64 = .ok b →
      exec (.descriptorFetch q i) s = .next (((s.bump).setWq q { w with cached := PMap.put w.cached i b }).wqShow q))) ∧
  (∀ (s : State) (q : Nat), q < 16384 →
    (s.acceptable q = none → exec (.descriptorAccept q) s = .next s) ∧
    (∀ b, s.acceptable q = some b → s.q WQ_CFG_TYPE q ≠ 6 → s.acceptStatus q b = none →
      let w := s.wq q
      let c := s.wqRing q
      let d : Desc := { idx := w.gen * 65536 + s.head q, bytes := b, cq := c, at_ := s.now }
      let s1 := s.setWq q { w with cached := PMap.del w.cached (s.head q), taken := PMap.del w.taken (s.head q), fresh := false, prev := dHseq b, acc := w.acc ++ [d] }
      let s2 := (s1.setQ WQ_IDX_HEAD q ((s.head q + 1) % 65536)).setQ CQ_STAT_RESERVED_SLOTS c ((s1.setQ WQ_IDX_HEAD q ((s.head q + 1) % 65536)).q CQ_STAT_RESERVED_SLOTS c + 1)
      let s3 := (s2.setQ WQ_HSEQ_HSEQ q (dHseq b)).setF WQ_RSY_HSEQ (s.wqOwner q) 0 (dHseq b)
      exec (.descriptorAccept q) s = .next (((((s3.wqShow q).cqShow c).rsyShow (s.wqOwner q)).acted q d).paceQueues)))

/-- Enabling, disabling, resuming and aborting queues, and WQ_RSY_CTL. A legal write of WQ_CFG by the manager with ENABLE 1 on a queue that is
not enabled writes the register, and starts it empty: HEAD, TAIL and HSEQ 0, no copies; with ENABLE 0 on an enabled queue with nothing
accepted and no fetch parked it clears ENABLE and the copies. RESUME clears HALTED, and the root port or DMA channel that the queue feeds
goes on. ABORT of a queue with nothing accepted, announced or parked clears HALTED and its copies. QUIESCE and RESUME of an instance set
and clear QUIESCED; SQUASH ends every accepted descriptor of its queues: one unused buffer of one receive queue is returned as SQUASHED,
and refused ones behind it complete. Each renews what DRAINED and INFLIGHT show. The model's own choices and readings in it: log entries
3, 43. Rests on: R240, R265, R267. -/
def Obligations.QueueControl : Prop :=
  (∀ (s : State) (q v : Nat), s.serves 0x58 = true → s.resetting 0 = false → q < 16384 → v < 2 ^ 32 →
    let o := WQ_CFG_ENABLE.off + 48 * (q % 64)
    let s1 (v : Nat) := s.writePage 0 0x58 (q / 64) o 4 v
    (s.encOk 0x58 (q / 64) o 4 (setBit v 31) = true → s.qb WQ_CFG_ENABLE q = false →
      let s2 := (((((s1 (setBit v 31)).setQ WQ_CFG_ENABLE q 1).setQ WQ_IDX_HEAD q 0).setQ WQ_IDX_TAIL q 0).setQ WQ_HSEQ_HSEQ q 0)
      exec (.wqEnable 0 q v) s = .next ((s2.setWq q { s2.wq q with
        cached := [], taken := [], push := [], stop := none, fresh := true, gen := (s2.wq q).gen + 1 }).wqShow q)) ∧
    (s.encOk 0x58 (q / 64) o 4 (clrBit v 31) = true → s.qb WQ_CFG_ENABLE q = true → (s.wq q).acc = [] → (s.wq q).fid = 0 →
      (s1 (clrBit v 31)).wqs = s.wqs →
      exec (.wqDisable 0 q v) s =
        .next ((((s1 (clrBit v 31)).setQ WQ_CFG_ENABLE q 0).setWq q { s.wq q with cached := [], taken := [], push := [], stop := none }).wqShow q)) ∧
    (let s1 := s.setQ WQ_STAT_HALTED q 0
     exec (.wqCmdResume 0 q) s = .next (
      if s.q WQ_CFG_TYPE q = 1 ∨ s.q WQ_CFG_TYPE q = 2 then s1.serve (s.q WQ_BIND_TARGET q % 128)
      else if s.q WQ_CFG_TYPE q = 5 then s1.dmaWake (s.q WQ_BIND_TARGET q % 512) else s1)) ∧
    ((s.wq q).acc = [] → (s.wq q).fid = 0 → s.head q = s.tail q →
      let s1 := (s.setQ WQ_IDX_HEAD q (s.tail q)).setWq q { s.wq q with cached := [], taken := [], stop := none }
      exec (.wqCmdAbort 0 q) s = .next ((((s1.setQ WQ_STAT_HALTED q 0).wqShow q)).paceQueues))) ∧
  (∀ (s : State) (i : Nat), s.serves 0 = true → s.resetting i = false → i ≤ 64 →
    exec (.wqRsyCtlQuiesce i i) s = .next ((s.setF WQ_RSY_STAT_QUIESCED i 0 1).rsyShow i) ∧
    exec (.wqRsyCtlResume i i) s = .next ((s.setF WQ_RSY_STAT_QUIESCED i 0 0).rsyShow i) ∧
    (s.queuesOf i = [] → exec (.wqRsyCtlSquash i i) s = .next (s.rsyShow i)) ∧
    (∀ q d, s.queuesOf i = [q] → (s.wq q).acc = [d] → s.q WQ_CFG_TYPE q = 4 →
      (s.rxUnused q d 0x23).q WQ_CFG_TYPE q = 4 → exec (.wqRsyCtlSquash i i) s = .next (((s.rxUnused q d 0x23).rxSettle q).rsyShow i)))

/-- Enabling a completion ring, CQ_HEAD, CQ_ARM and the coalescing time. A legal write of CQ_CFG by the manager with ENABLE 1 on a ring that
is not enabled writes the register and starts the ring empty. CQ_HEAD written with a count that is not later than HEAD, or leaves more
than the ring's size to TAIL, sets HEAD_ERR and changes nothing else; otherwise it becomes HEAD, the times of the consumed entries go,
held completions are written, and paced channels follow. CQ_ARM sets ARMED and makes the event test, as the coalescing time does: with
EV_EN and ARMED and COAL_CNT entries pending, the test clears ARMED and pulses the ring's source; without EV_EN it changes nothing. The
model's own choices and readings in it: log entries 2, 3. Rests on: R257, R260, R261, R262. -/
def Obligations.CompletionRings : Prop :=
  ∀ (s : State) (c v : Nat), s.serves 0x59 = true → s.resetting 0 = false → c < 16384 → v < 2 ^ 32 →
    let o := CQ_CFG_ENABLE.off + 32 * (c % 64)
    (s.encOk 0x59 (c / 64) o 4 (setBit v 31) = true → s.qb CQ_CFG_ENABLE c = false →
      let s1 := (((s.writePage 0 0x59 (c / 64) o 4 (setBit v 31)).setQ CQ_CFG_ENABLE c 1).setQ CQ_HEAD_COUNT c 0).setQ CQ_TAIL_COUNT c 0
      exec (.cqEnable 0 c v) s = .next ((((s1.setQ CQ_LOST_COUNT c 0).setCq c {}).cqShow c))) ∧
    ((later v (s.q CQ_HEAD_COUNT c) 32 = false ∨ s.cqSize c < diff32 (s.q CQ_TAIL_COUNT c) v) →
      exec (.cqHeadWrite 0 c v) s = .next (s.setQ CQ_STAT_HEAD_ERR c 1)) ∧
    (later v (s.q CQ_HEAD_COUNT c) 32 = true → diff32 (s.q CQ_TAIL_COUNT c) v ≤ s.cqSize c →
      let x := s.cq c
      exec (.cqHeadWrite 0 c v) s = .next ((((s.setQ CQ_HEAD_COUNT c v).setCq c
        { x with times := x.times.drop (diff32 v (s.q CQ_HEAD_COUNT c)) }).cqFlush c).paceQueues)) ∧
    exec (.cqArm 0 c) s = .next ((s.setQ CQ_STAT_ARMED c 1).cqEvent c) ∧
    (s.qb CQ_CFG_EV_EN c = false → exec (.coalesceTimeout c) s = .next s) ∧
    (s.qb CQ_CFG_EV_EN c = true → s.qb CQ_STAT_ARMED c = true →
      s.q CQ_CFG_COAL_CNT c ≤ diff32 (s.q CQ_TAIL_COUNT c) (s.q CQ_HEAD_COUNT c) →
      exec (.coalesceTimeout c) s = .next ((s.setQ CQ_STAT_ARMED c 0).post 0x3 c))

/-- Commands and events of a DMA channel. For a channel the manager's writes reach: a legal write of DMA_CTL with ENABLE 1 on a stopped,
disabled channel enables it with NEXT 0 and takes it to its first boundary; with ENABLE 0 on a channel that runs a descriptor and has no
stream operations waiting clears ENABLE at once and lets the channel stop at the boundary. KICK of an idle channel only lifts the hold of
its pacing read; of a channel that polls it comes to the boundary and, where the channel may go on, reads the ring. STOP on a running
channel sets STOP_PENDING; GO of a channel that is not stopped clears it. DISCARD_PARKED ends a parked descriptor with 0x20 and does
nothing otherwise. Polling before POLL_US does nothing, and after it does the same as KICK. A ring channel that is disabled reads nothing.
The descriptor in progress, if malformed, ends with 0x11; one whose data has all moved without a fault ends with OK and its bytes and
units; and with none in progress nothing happens. The model's own choices and readings in it: log entries 2, 3, 94. Rests on: R273, R276,
R277, R279, R289, R292, R293. -/
def Obligations.DmaChannels : Prop :=
  ∀ (s : State) (c v : Nat), s.opens 0x50 c = true → v < 2 ^ 32 →
    let s1 (v : Nat) := s.writePage 0 0x50 c 0x40 4 v
    (s.encOk 0x50 c 0x40 4 (setBit v 31) = true → s.b DMA_CTL_ENABLE c = false →
      let s2 := ((s1 (setBit v 31)).setF DMA_CTL_ENABLE c 0 1).setF DMA_RING_IDX_NEXT c 0 0
      let s3 := s2.setDma c { s2.dma c with off := false }
      s3.f DMA_STAT_STATE c = 0 → exec (.dmaEnable 0 c v) s = .next ((s3.setF DMA_STAT_STATE c 0 1).dmaBoundary c)) ∧
    (s.encOk 0x50 c 0x40 4 (clrBit v 31) = true → s.b DMA_CTL_ENABLE c = true →
      let s2 := (s1 (clrBit v 31)).setF DMA_CTL_ENABLE c 0 0
      let s3 := s2.setDma c { s2.dma c with sq := [] }
      (s2.dma c).sq = [] → s3.f DMA_STAT_STATE c = 2 → exec (.dmaDisable 0 c v) s = .next (s3.setDma c { s3.dma c with off := true })) ∧
    (s.f DMA_STAT_STATE c = 1 → exec (.dmaCmdKick 0 c) s = .next (s.setDma c { s.dma c with paceKick := false })) ∧
    (s.f DMA_STAT_STATE c = 3 → exec (.dmaCmdKick 0 c) s = .next ((s.setDma c { s.dma c with paceKick := false }).dmaExamine c)) ∧
    ((s.setF DMA_STAT_STOP_PENDING c 0 1).f DMA_STAT_STATE c = 2 → exec (.dmaCmdStop 0 c) s = .next (s.setF DMA_STAT_STOP_PENDING c 0 1)) ∧
    ((s.setF DMA_STAT_STOP_PENDING c 0 0).f DMA_STAT_STATE c ≠ 5 → exec (.dmaCmdGo 0 c) s = .next (s.setF DMA_STAT_STOP_PENDING c 0 0)) ∧
    ((s.setF DMA_STAT_STOP_PENDING c 0 0).f DMA_STAT_STATE c = 5 →
      exec (.dmaCmdGo 0 c) s = .next ((s.setF DMA_STAT_STOP_PENDING c 0 0).dmaBoundary c)) ∧
    (s.f DMA_STAT_STATE c = 6 → exec (.dmaCmdDiscardParked 0 c) s = .next (s.dmaEndParked c 0x20)) ∧
    (s.f DMA_STAT_STATE c ≠ 6 → exec (.dmaCmdDiscardParked 0 c) s = .next s) ∧
    (s.f DMA_STAT_STATE c = 3 → s.f DMA_CTL_POLL_US c ≠ 0 → (s.dma c).polled + s.f DMA_CTL_POLL_US c * 65536000 ≤ s.now →
      exec (.dmaPoll c) s = .next (s.dmaExamine c)) ∧
    (s.f DMA_CTL_POLL_US c = 0 ∨ s.now < (s.dma c).polled + s.f DMA_CTL_POLL_US c * 65536000 → exec (.dmaPoll c) s = .next s) ∧
    (s.b DMA_CTL_ENABLE c = false → exec (.dmaRingRead c) s = .next s) ∧
    (s.f DMA_STAT_STATE c = 1 → s.b DMA_CTL_ENABLE c = true → s.f DMA_CTL_SRC c = 0 → (s.dmaBoundary c).f DMA_STAT_STATE c = 1 →
      exec (.dmaRingRead c) s = .next ((s.dmaBoundary c).dmaFetch c)) ∧
    (s.f DMA_STAT_STATE c = 2 → ((s.dma c).cur = none → exec (.dmaDescriptorEnd c) s = .next s) ∧
      (∀ d, (s.dma c).cur = some d → d.wb = false → dmaOk d.bytes = false →
        exec (.dmaDescriptorEnd c) s = .next (s.dmaReport c d 0x11 0 0)) ∧
      (∀ d, (s.dma c).cur = some d → d.wb = false → dmaOk d.bytes = true →
        let b := dmaBody d.bytes
        let k := s.f DMA_CURSOR_UNITS c
        let r := s.dmaMove (s.dmaInst c) b k (b.units - k)
        r.2.2 = none → exec (.dmaDescriptorEnd c) s = .next ((r.1.setF DMA_CURSOR_UNITS c 0 r.2.1).dmaReport c d 0 b.dstBytes b.units)))

/-- Fetching, starting and ending Ethernet frames. A queue that is no transmit queue, or has no descriptor to fetch, fetches nothing. A sound
descriptor whose segments read is marked fetched and its frame, with any VLAN tag in place, joins the port's frames. No frame starts while
the link is down or about to go down, the port receives remote fault, or a frame is in transmission; a waiting control or LSX frame goes
first: it leaves the port, and its frame and length are counted; with none the ready frame of the class and queue whose turn it is, if
protection does not refuse it, is made up, charged to its class and put in transmission. With nothing in transmission the end of a frame
changes nothing on a port whose link is up; otherwise the frame is counted for the port and for its class, the port is free again, and a
descriptor without a record address completes OK with the frame's length and body. The model's own choices and readings in it: log entries
2, 44. Rests on: R299, R300, R303, R305, R307, R309. -/
def Obligations.EthernetTransmit : Prop :=
  (∀ (s : State) (q : Nat), let n := s.txPort q
    (s.q WQ_CFG_TYPE q ≠ 3 → exec (.txFrameFetched q) s = .next s) ∧
    (s.txNext n q = none → exec (.txFrameFetched q) s = .next s) ∧
    (∀ d segs, s.q WQ_CFG_TYPE q = 3 → s.b EMAC_STAT_LINK_UP n = true → s.txNext n q = some d → s.txMalformed n d.bytes = false →
      s.txSegments (s.wqOwner q) d.bytes = .ok segs → s.ptpBad n d.bytes (txAssemble d.bytes segs) = false →
      exec (.txFrameFetched q) s = .next ((s.setDesc q { d with phase := 1 }).addFrame n { q := q, idx := d.idx, bytes := txAssemble d.bytes segs }))) ∧
  (∀ (s : State) (n : Nat), let e := s.emac n
    ((s.b EMAC_STAT_LINK_UP n = false ∨ s.b EMAC_STAT_REMOTE_FAULT n = true ∨ e.flight.isSome = true ∨ e.closing = true) → exec (.txFrameStart n) s = .next s) ∧
    (∀ c cs, s.b EMAC_STAT_LINK_UP n = true → s.b EMAC_STAT_REMOTE_FAULT n = false → e.flight = none → e.closing = false → e.ctl = c :: cs →
      s.f EMAC_STAT_LSX_STATE n ≠ 2 → beAt c 12 2 ≠ 0x8808 →
      exec (.txFrameStart n) s = .next (((s.setEmac n { e with ctl := cs }).emit (.frame n (wireFrame c))).txCount n (c.length + 4))) ∧
    (∀ c q w d f, s.b EMAC_STAT_LINK_UP n = true → s.b EMAC_STAT_REMOTE_FAULT n = false → e.flight = none → e.closing = false → e.ctl = [] →
      s.f EMAC_STAT_LSX_STATE n ≠ 2 → s.txPick n = some (c, q, w) → s.txReady n q = some (d, f) →
      let s1 := s.wrrServe (wrrKey 3 (n * 8 + c)) q w
      s1.secRefuse n q (leAt d.bytes 39 1) = none →
      let m := s1.txMake n d f true
      exec (.txFrameStart n) s =
        .next (((m.1.charge n c (m.2.1.length + 4)).emit (.frame n (wireFrame m.2.1))).setFlight n m.2.2)) ∧
    (s.b EMAC_STAT_LINK_UP n = true → e.flight = none → e.closing = false → exec (.txFrameEnd n) s = .next s) ∧
    (∀ f d, e.flight = some f →
      let s0 := (s.setEmac n { e with flight := none }).txCount n f.len
      let s1 := s0.addF EMAC_CNT_TC_COUNT n (s0.txClass f.q) 1
      (s1.wq f.q).acc.find? (fun d => d.idx == f.idx) = some d → leAt d.bytes 48 8 = 0 →
      let t := ((s1.dropFrame n f.q d.idx).descDone f.q d 0 f.len f.body).txHead n f.q
      t.b EMAC_STAT_LINK_UP n = true → (t.emac n).closing = false → exec (.txFrameEnd n) s = .next t))

/-- A received frame's first checks, and a port's link coming up and going down. A frame on a port whose link is down changes nothing. On a
live port with link up a frame of fewer than 64 bytes with its FCS counts as a runt only, one above MTU as oversize only, one with a bad
FCS as such only; a sound one counts as a frame and its bytes, in the monitors and in the utilisation, and is matched for wake; in SLEEP
it is then dropped and counted; outside it a control or LSX frame is consumed and any other goes through the receive stages at the device
time of its first byte. A link that comes up sets LINK_UP, FEC_LOCK, REMOTE_FAULT as received and full width; a port not enabled stays
down. A link that goes down counts in EMAC_CNT_LINK, sets LINK_DOWN, clears its state and the partner's, and an EMAC_CMD.RETRAIN does the
same, whether a frame was being received then being free; on a port that is down nothing happens. The model's own choices and readings in
it: log entries 2, 44. Rests on: R298, R299, R302, R321, R353. -/
def Obligations.EthernetReceiveAndLink : Prop :=
  (∀ (s : State) (n : Nat) (bs : List (BitVec 8)) (ok : Bool) (age : Nat), let len := bs.length + 4
    (s.b EMAC_STAT_LINK_UP n = false → exec (.rxFrame n bs ok age) s = .next s) ∧
    (s.live 0x40 n = true → s.b EMAC_STAT_LINK_UP n = true →
      (len < 64 → exec (.rxFrame n bs ok age) s = .next (s.addF EMAC_CNT_RX_RUNT_COUNT n 0 1)) ∧
      (64 ≤ len → s.f EMAC_MTU_MTU n < len → exec (.rxFrame n bs ok age) s = .next (s.addF EMAC_CNT_RX_OVERSIZE_COUNT n 0 1)) ∧
      (64 ≤ len → len ≤ s.f EMAC_MTU_MTU n → ok = false → exec (.rxFrame n bs ok age) s = .next (s.addF EMAC_CNT_RX_FCS_COUNT n 0 1)) ∧
      (64 ≤ len → len ≤ s.f EMAC_MTU_MTU n → ok = true →
        let s1 := (s.addF EMAC_CNT_RX_FRAMES_COUNT n 0 1).addF EMAC_CNT_RX_BYTES_COUNT n 0 len
        let s2 := (s1.count (bankQuad n) 0x100 (n % 4) (some (s1.emacOwner n)))
        let s3 := ((s2.count (bankQuad n) 0x101 (n % 4) (some (s2.emacOwner n)) len).utilAdd n 0 len)
        let s4 := s3.wakeMatch n bs
        (s3.f PWR_STAT_STATE = 2 → exec (.rxFrame n bs ok age) s = .next (s4.addF EFLT_CNT_SLEEP_DROP_COUNT n 0 1)) ∧
        (s3.f PWR_STAT_STATE ≠ 2 → s4.rxControl n bs = none → exec (.rxFrame n bs ok age) s = .next (s4.rxStages n bs (s4.devTime - age))) ∧
        (s3.f PWR_STAT_STATE ≠ 2 → ∀ t, s4.rxControl n bs = some t → exec (.rxFrame n bs ok age) s = .next t)))) ∧
  (∀ (s : State) (n : Nat) (r l g : Bool),
    (s.b EMAC_CTL_ENABLE n = false → exec (.emacLinkUp n r) s = .next s) ∧
    (s.live 0x40 n = true → s.b EMAC_CTL_ENABLE n = true → s.f DEV_SERVICE_SERVICE ≠ 1 →
      let s1 := s.setF EMAC_STAT_REMOTE_FAULT n 0 (b2n r)
      (s1.b EMAC_STAT_LINK_UP n = true → exec (.emacLinkUp n r) s = .next s1) ∧
      (s1.b EMAC_STAT_LINK_UP n = false → s1.b EMAC_CFG_AN_EN n = false →
        let s2 := (((s1.setF EMAC_STAT_LINK_UP n 0 1).setF EMAC_STAT_FEC_LOCK n 0 1).setF EMAC_STAT_AN_DONE n 0 0).setF EMAC_STAT_LOCAL_FAULT n 0 0
        let s3 := (s2.setF EMAC_STAT_LANES n 0 (s2.fullCode n)).setF EMAC_STAT_LSX_STATE n 0 0
        exec (.emacLinkUp n r) s = .next (s3.setEmac n { s3.emac n with
          busyAt := s3.now, helloOut := 0, req := 0, noShed := 0, ackOut := false, ackIn := false, widening := false }))) ∧
    (s.b EMAC_STAT_LINK_UP n = false → exec (.emacLinkDown n l r g) s = .next s) ∧
    (s.b EMAC_STAT_LINK_UP n = true →
      let down (l r g : Bool) : State :=
        let s1 := (s.satF EMAC_CNT_LINK_COUNT n 0 1).err EMAC_ERR_LINK_DOWN n
        let s2 := (((s1.setF EMAC_STAT_LINK_UP n 0 0).setF EMAC_STAT_FEC_LOCK n 0 0).setF EMAC_STAT_AN_DONE n 0 0).setF EMAC_STAT_LANES n 0 0
        let s3 := (((s2.setF EMAC_STAT_LOCAL_FAULT n 0 (b2n l)).setF EMAC_STAT_REMOTE_FAULT n 0 (b2n r)).setF EMAC_STAT_PARTNER_ZHOEM n 0 0).setF EMAC_STAT_LEADER n 0 0
        let s4 := (s3.setF EMAC_STAT_LSX_STATE n 0 0)
        let s5 := s4.setEmac n { s4.emac n with ctl := [], req := 0, ackOut := false, ackIn := false, widening := false }
        (if g then s5.addF EMAC_CNT_RX_FCS_COUNT n 0 1 else s5).txDown n
      exec (.emacLinkDown n l r g) s = .next (down l r g) ∧
      (s.opens 0x40 n = true → exec (.emacCmdRetrain 0 n) s = .next (down false false (Config.choice s.draws)).bump)) ∧
    (s.opens 0x40 n = true → s.b EMAC_STAT_LINK_UP n = false → exec (.emacCmdRetrain 0 n) s = .next s))

/-- HELLO and the LSX request and answer frames that a port receives. An LSX frame that reaches a port with link up is counted as a frame of
64 bytes; in SLEEP it is dropped, otherwise taken. A HELLO makes the partner a Zhoem, sets LEADER where this port's address is lower, and
notes the partner's address, LPM_EN and minimum. A shed request on a port that follows is refused with reason 2 where its width is not the
next one, low-power mode is off or the two addresses are equal, and answered with an acknowledgement and a switch where all holds; the
leader ignores it. A shed acknowledgement switches where it answers the request in progress, and is ignored otherwise; a refusal ends that
request and starts the pause of DWELL. A widen request for other than the next width is ignored; a follower answers it, and the leader
asks itself. A widen acknowledgement that nothing waits for is ignored, and one for which the port has acknowledged too makes it switch.
The model's own choices and readings in it: log entries 47. Rests on: R320, R321, R322, R323. -/
def Obligations.LaneSheddingFrames : Prop :=
  ∀ (s : State) (n addr arg nonce : Nat), s.b EMAC_STAT_LINK_UP n = true →
    (s.f PWR_STAT_STATE = 2 → ∀ c, c ∈ [Instr.hello n addr arg nonce, Instr.lsxShedReq n arg nonce, Instr.lsxShedAck n arg nonce,
        Instr.lsxWidenReq n arg nonce, Instr.lsxWidenAck n arg nonce, Instr.lsxRefuse n arg nonce] →
      exec c s = .next ((s.rxOwn n).addF EFLT_CNT_SLEEP_DROP_COUNT n 0 1)) ∧
    (s.f PWR_STAT_STATE ≠ 2 →
    let s0 := (s.rxOwn n).ctrlTake n
    let e := s0.emac n
    let w := s0.f EMAC_STAT_LANES n
    let switch (t : State) (w : Nat) : State :=
      (t.setF EMAC_STAT_LSX_STATE n 0 2).setEmac n { t.emac n with target := w, req := 0, ackOut := false, ackIn := false }
    (let s1 := s0.setF EMAC_STAT_PARTNER_ZHOEM n 0 1
     let s2 := s1.setF EMAC_STAT_LEADER n 0 (b2n (decide (s1.f EMAC_ADDR_ADDR n < addr)))
     exec (.hello n addr arg nonce) s =
       .next (s2.setEmac n { s2.emac n with helloIn := s2.now, partner := addr, partnerLpm := bit arg 7, partnerMin := arg % 4 })) ∧
    ((s0.b EMAC_STAT_LEADER n = true ∨ s0.f EMAC_STAT_LSX_STATE n = 2) → exec (.lsxShedReq n arg nonce) s = .next s0) ∧
    (s0.b EMAC_STAT_LEADER n = false → s0.f EMAC_STAT_LSX_STATE n ≠ 2 →
      ((s0.lpmOn n = false ∨ e.partner = s0.f EMAC_ADDR_ADDR n ∨ arg + 1 ≠ w ∨ arg < s0.f EMAC_LSX_MIN_LANES n) →
        exec (.lsxShedReq n arg nonce) s = .next (s0.lsxFrame n 6 2 nonce)) ∧
      (s0.lpmOn n = true → e.partner ≠ s0.f EMAC_ADDR_ADDR n → arg + 1 = w → s0.f EMAC_LSX_MIN_LANES n ≤ arg →
        exec (.lsxShedReq n arg nonce) s = .next (switch (s0.lsxFrame n 3 arg nonce) arg))) ∧
    ((e.req ≠ 2 ∨ e.reqNonce ≠ nonce ∨ e.reqArg ≠ arg) → exec (.lsxShedAck n arg nonce) s = .next s0) ∧
    (e.req = 2 → e.reqNonce = nonce → e.reqArg = arg →
      exec (.lsxShedAck n arg nonce) s = .next ((switch s0 arg).setEmac n { (switch s0 arg).emac n with widening := false })) ∧
    ((e.req ≠ 2 ∨ e.reqNonce ≠ nonce ∨ arg ≠ 2) → exec (.lsxRefuse n arg nonce) s = .next s0) ∧
    (e.req = 2 → e.reqNonce = nonce →
      exec (.lsxRefuse n 2 nonce) s = .next (s0.setEmac n { e with req := 0, noShed := s0.now + 65536 * 100000 * s0.f EMAC_LSX_DWELL n })) ∧
    ((s0.f EMAC_STAT_LSX_STATE n = 2 ∨ arg ≠ w + 1 ∨ s0.fullCode n ≤ w) →
      exec (.lsxWidenReq n arg nonce) s = .next s0 ∧ exec (.lsxWidenAck n arg nonce) s = .next s0) ∧
    (s0.f EMAC_STAT_LSX_STATE n ≠ 2 → arg = w + 1 → w < s0.fullCode n →
      (s0.b EMAC_STAT_LEADER n = false →
        let s1 := s0.lsxFrame n 5 arg nonce
        let s2 := s1.setEmac n { s1.emac n with ackOut := true, widening := true, reqAt := s1.now }
        exec (.lsxWidenReq n arg nonce) s = .next (if (s2.emac n).ackIn then switch s2 arg else s2)) ∧
      (s0.b EMAC_STAT_LEADER n = true → exec (.lsxWidenReq n arg nonce) s = .next (s0.emacWiden n)) ∧
      (e.req ≠ 4 → e.ackOut = false → exec (.lsxWidenAck n arg nonce) s = .next s0) ∧
      (e.ackOut = true → exec (.lsxWidenAck n arg nonce) s = .next (switch (s0.setEmac n { e with ackIn := true }) arg))))

/-- HELLO sent and missed, and the steps of a shed or a widening. A port with link up and more than one lane sends a HELLO when one is due and
notes the time; one that is not up sends none. A Zhoem partner that has been silent for 3 s, and no sooner, is forgotten with LEADER.
EMAC_CMD.WIDEN and LSX_WIDEN_START of a port at full width change nothing; of a shed port with no switch or widening request in progress
they ask for the next width. No shed starts on a port that does not lead; where every condition holds the leader asks for the next
narrower width. An unanswered shed request ends after 10 us and no sooner, with the pause of DWELL. The switch takes the target width into
use at once when no frame is in transmission and no answer waits. Realigned at full width, the port returns to LSX_STATE 0 and counts; a
port that is not realigning ignores it; a realignment that has not come 20 us after the switch of a shed, or 60 us after the request of a
widening, takes the link down, sets LSX_FAIL and ends low-power mode. The model's own choices and readings in it: log entries 2, 47. Rests
on: R321, R322, R323, R326. -/
def Obligations.LaneSheddingActions : Prop :=
  (∀ (s : State) (n : Nat), let e := s.emac n
    let w := s.f EMAC_STAT_LANES n
    let ask (op arg : Nat) : State :=
      let t := s.lsxFrame n op arg (Config.freeNat s.draws % 2 ^ 32)
      (t.setEmac n { t.emac n with req := op, reqArg := arg, reqNonce := Config.freeNat s.draws % 2 ^ 32, reqAt := s.now }).bump
    (s.b EMAC_STAT_LINK_UP n = false → exec (.helloTimer n) s = .next s) ∧
    (s.b EMAC_STAT_LINK_UP n = true → 0 < s.fullCode n → e.helloOut = 0 →
      let t := s.lsxFrame n 1 (128 * b2n (s.b EMAC_LSX_LPM_EN n && !e.lpmDead) + s.f EMAC_LSX_MIN_LANES n) (Config.freeNat s.draws % 2 ^ 32)
      exec (.helloTimer n) s = .next (t.setEmac n { t.emac n with helloOut := s.now }).bump) ∧
    (s.b EMAC_STAT_PARTNER_ZHOEM n = true →
      (s.now < e.helloIn + 3 * 1000000000 * 65536 → exec (.helloAbsence n) s = .next s) ∧
      (e.helloIn + 3 * 1000000000 * 65536 ≤ s.now →
        exec (.helloAbsence n) s = .next ((s.setF EMAC_STAT_PARTNER_ZHOEM n 0 0).setF EMAC_STAT_LEADER n 0 0))) ∧
    (s.fullCode n ≤ w → (s.opens 0x40 n = true → exec (.emacCmdWiden 0 n) s = .next s) ∧ exec (.lsxWidenStart n) s = .next s) ∧
    (s.b EMAC_STAT_LINK_UP n = true → w < s.fullCode n → s.f EMAC_STAT_LSX_STATE n ≠ 2 → e.req ≠ 4 →
      let t := (ask 4 (w + 1)).setEmac n { (ask 4 (w + 1)).emac n with widening := true }
      (s.opens 0x40 n = true → exec (.emacCmdWiden 0 n) s = .next t) ∧
      (s.b EMAC_LSX_LPM_EN n = false → exec (.lsxWidenStart n) s = .next t)) ∧
    (e.win = s.utilWin →
      (s.b EMAC_STAT_LEADER n = false → exec (.lsxShedStart n) s = .next s) ∧
      (s.b EMAC_STAT_LINK_UP n = true → s.b EMAC_STAT_LEADER n = true → s.lpmOn n = true → e.partnerLpm = true → 0 < w →
        s.f EMAC_LSX_MIN_LANES n < w → e.partnerMin < w → s.f EMAC_STAT_LSX_STATE n ≠ 2 → e.req = 0 → e.noShed ≤ s.now →
        e.busyAt + 65536 * 100000 * s.f EMAC_LSX_DWELL n ≤ s.now → exec (.lsxShedStart n) s = .next (ask 2 (w - 1)))) ∧
    (e.req = 2 →
      (s.now < e.reqAt + 10000 * 65536 → exec (.lsxAnswerTimeout n) s = .next s) ∧
      (e.reqAt + 10000 * 65536 ≤ s.now → exec (.lsxAnswerTimeout n) s =
        .next (s.setEmac n { e with req := 0, noShed := s.now + 65536 * 100000 * s.f EMAC_LSX_DWELL n }))) ∧
    (s.f EMAC_STAT_LSX_STATE n ≠ 2 → exec (.lsxSwitch n) s = .next s ∧ exec (.lsxRealigned n) s = .next s ∧
      (e.widening = false → exec (.lsxRealignFail n) s = .next s)) ∧
    (s.f EMAC_STAT_LSX_STATE n = 2 → e.flight = none → e.ctl.any isLsxAck = false → w ≠ e.target → e.win = s.utilWin →
      exec (.lsxSwitch n) s = .next ((s.setF EMAC_STAT_LANES n 0 e.target).setEmac n { e with swAt := s.now, recent := [] })) ∧
    (s.f EMAC_STAT_LSX_STATE n = 2 → w = e.target →
      (w = s.fullCode n → exec (.lsxRealigned n) s = .next (((s.setF EMAC_STAT_LSX_STATE n 0 0).satF EMAC_CNT_LSX_COUNT n 0 1).setEmac n
        { ((s.setF EMAC_STAT_LSX_STATE n 0 0).satF EMAC_CNT_LSX_COUNT n 0 1).emac n with busyAt := ((s.setF EMAC_STAT_LSX_STATE n 0 0).satF EMAC_CNT_LSX_COUNT n 0 1).now, widening := false })) ∧
      (let late : State := (s.emacDrop n).err EMAC_ERR_LSX_FAIL n
       let fail : State := late.setEmac n { late.emac n with lpmDead := true }
       (e.widening = false →
        (s.now < e.swAt + 20000 * 65536 → exec (.lsxRealignFail n) s = .next s) ∧
        (e.swAt + 20000 * 65536 ≤ s.now → exec (.lsxRealignFail n) s = .next fail)) ∧
       (e.widening = true →
        (s.now < e.reqAt + 60000 * 65536 → exec (.lsxRealignFail n) s = .next s) ∧
        (e.reqAt + 60000 * 65536 ≤ s.now → exec (.lsxRealignFail n) s = .next fail)))))

/-- Pause and PFC frames, pause timers, re-keying and the imbalance window. A PAUSE frame on a port in PFC mode, and a PFC frame on one that
is not, is dropped and counted as a control frame of the wrong kind; a PAUSE frame in PAUSE mode with RX_EN pauses each of the eight
classes for its quanta; a PFC frame in PFC mode with RX_EN pauses the classes it enables for their times; without RX_EN each is only
taken; in SLEEP each is dropped and counted. A class's pause ends when its time has come and not before. An asserted pause is sent again
when due. ESTR_CMD.REKEY asks for a new key at the next epoch boundary. An imbalance window before its 100 ms does nothing; one whose
bytes are below MIN is ignored and the next starts. A drain ends at once where nothing from before the boundary is left or 1 ms has
passed, and goes on otherwise. The model's own choices and readings in it: log entries 2, 45, 46. Rests on: R341, R342, R343, R344, R345,
R347. -/
def Obligations.PausesAndRekeys : Prop :=
  (∀ (s : State) (n : Nat), let e := s.emac n
    (s.b EMAC_STAT_LINK_UP n = false → ∀ q v ts, exec (.pauseFrame n q) s = .next s ∧ exec (.pfcFrame n v ts) s = .next s) ∧
    (s.b EMAC_STAT_LINK_UP n = true → s.f PWR_STAT_STATE = 2 → ∀ q v ts, let s1 := (s.rxOwn n).addF EFLT_CNT_SLEEP_DROP_COUNT n 0 1
      exec (.pauseFrame n q) s = .next s1 ∧ exec (.pfcFrame n v ts) s = .next s1) ∧
    (s.b EMAC_STAT_LINK_UP n = true → s.f PWR_STAT_STATE ≠ 2 → ∀ q v ts, q < 2 ^ 16 →
      ((s.rxOwn n).f EFLT_FC_CTL_MODE n ≠ 1 → exec (.pauseFrame n q) s = .next ((s.rxOwn n).addF EFLT_CNT_CTRL_DROP_COUNT n 0 1)) ∧
      ((s.rxOwn n).f EFLT_FC_CTL_MODE n ≠ 2 → exec (.pfcFrame n v ts) s = .next ((s.rxOwn n).addF EFLT_CNT_CTRL_DROP_COUNT n 0 1)) ∧
      (let s1 := (s.rxOwn n).ctrlTake n
       ((s.rxOwn n).f EFLT_FC_CTL_MODE n = 1 → exec (.pauseFrame n q) s =
          .next (if s1.b EFLT_FC_CTL_RX_EN n then s1.each 8 (fun s c => s.pauseClass n c q) else s1)) ∧
       ((s.rxOwn n).f EFLT_FC_CTL_MODE n = 2 → s1.b EFLT_FC_CTL_RX_EN n = false → exec (.pfcFrame n v ts) s = .next s1) ∧
       ((s.rxOwn n).f EFLT_FC_CTL_MODE n = 2 → s1.b EFLT_FC_CTL_RX_EN n = true → exec (.pfcFrame n v ts) s =
          .next (s1.each 8 fun s c => if bit (v % 256) c then s.pauseClass n c ((ts.map fun t => t % 2 ^ 16).getD c 0) else s)))) ∧
    (∀ c t, PMap.find e.pauses c = some t →
      (s.now < t → exec (.pauseTimerExpiry n c) s = .next s) ∧
      (t ≤ s.now → exec (.pauseTimerExpiry n c) s = .next ((s.setEmac n { e with pauses := PMap.del e.pauses c }).setF
        EFLT_FC_STAT_TX_PAUSED n 0 (clrBit (s.f EFLT_FC_STAT_TX_PAUSED n) c)))) ∧
    ((s.f EFLT_FC_STAT_ASSERTED n = 0 ∨ s.now < e.resendAt) → exec (.pauseResend n) s = .next s) ∧
    (s.f EFLT_FC_STAT_ASSERTED n ≠ 0 → e.resendAt ≤ s.now →
      exec (.pauseResend n) s = .next (s.pauseSend n (s.f EFLT_FC_STAT_ASSERTED n) (s.f EFLT_FC_STAT_ASSERTED n))) ∧
    (s.opens 0x42 n = true → exec (.estrCmdRekey 0 n) s = .next { s.setEmac n { e with rekey := true } with epochReq := true }) ∧
    (s.live 0x42 n = true →
      (s.now < e.impAt + 100000000 * 65536 → exec (.imbalanceWindow n) s = .next s) ∧
      (e.impAt + 100000000 * 65536 ≤ s.now → e.spread = [] → 0 < (s.setEmac n { e with spread := [], impAt := s.now }).f ESTR_IMB_MIN n →
        exec (.imbalanceWindow n) s = .next (s.setEmac n { e with spread := [], impAt := s.now })) ∧
      (e.impAt + 100000000 * 65536 ≤ s.now → exec (.imbalanceWindow n) s = .next (s.imbWindow n))) ∧
    (e.drain = none → exec (.steeringDrainEnd n) s = .next s) ∧
    (∀ d, e.drain = some d →
      (s.now < d.at_ + 1000000 * 65536 → s.preLeft n = true → exec (.steeringDrainEnd n) s = .next s) ∧
      (s.preLeft n = false → exec (.steeringDrainEnd n) s = .next (s.drainEnd n))))

/-- Steering bank commands, wake stores and MACsec keys. A steering command while one runs is ignored; while a port drains it ends as BUSY;
otherwise it starts with UNPLACED and FIRST_BAD 0. CLEAR ends with an empty inactive bank once entropy is ready, COPY with a copy of the
active bank, LOAD of no records at once, of one sound record with that record applied, of one that breaks Table 10-2 with 0x11, and a load
whose next record does not translate ends with XLATE_FAULT at that record. EFLT_WAKE_CMD.LOAD starts a load; with none started nothing
ends; a load that reads 32 records of 160 bytes keeps them and sets LOADED and OK; one that does not translate empties the store, clears
LOADED and sets WAKE_LOAD_FAIL. MSEC_KEY_CMD without LOAD does nothing; with it, an association in use is refused with KEY_BUSY; another
takes the staged key, salt, SSCI and packet number and is KEYED, and one of transmission is no longer exhausted; the staging registers are
cleared in both cases. The model's own choices and readings in it: log entries 2, 3, 48. Rests on: R338, R339, R354, R359. -/
def Obligations.SteeringWakeAndKeys : Prop :=
  (∀ (s : State), s.opens 0x42 96 = true → ∀ k, k ∈ [(1, Instr.estrLoadCmdClear 0), (2, Instr.estrLoadCmdCopy 0), (3, Instr.estrLoadCmdLoad 0)] →
    (s.b ESTR_LOAD_STAT_RUNNING 96 = true → exec k.2 s = .next s) ∧
    (s.b ESTR_LOAD_STAT_RUNNING 96 = false →
      (((List.range 96).any fun n => s.b ESTR_STAT_DRAINING n) = true → exec k.2 s = .next (s.setF ESTR_LOAD_STAT_RESULT 96 0 0x24)) ∧
      (((List.range 96).any fun n => s.b ESTR_STAT_DRAINING n) = false → exec k.2 s =
        .next (((({ s with steer := { s.steer with cmd := k.1 } } : State).setF ESTR_LOAD_STAT_RUNNING 96 0 1).setF ESTR_LOAD_STAT_UNPLACED 96 0 0).setF
          ESTR_LOAD_STAT_FIRST_BAD 96 0 0)))) ∧
  (∀ (s : State), (s.b ESTR_LOAD_STAT_RUNNING 96 = false → exec .steeringCommandDone s = .next s) ∧
    (s.b ESTR_LOAD_STAT_RUNNING 96 = true →
      let fin (t : State) (r b : Nat) : State := ((({ t with steer := { t.steer with cmd := 0 } } : State).setF ESTR_LOAD_STAT_RUNNING 96 0 0).setF
        ESTR_LOAD_STAT_RESULT 96 0 r).setF ESTR_LOAD_STAT_FIRST_BAD 96 0 b
      (s.steer.cmd = 1 → s.b DEV_SERVICE_ENTROPY_READY = true → exec .steeringCommandDone s = .next (fin (s.setInactive []).bump 0 0)) ∧
      (s.steer.cmd = 2 → exec .steeringCommandDone s = .next (fin (s.setInactive (s.bank (s.f ESTR_BANK_SEL_ACTIVE 96))) 0 0)) ∧
      (s.steer.cmd = 3 → let s1 := s.setF ESTR_LOAD_STAT_UNPLACED 96 0 0
        (s.f ESTR_LOAD_LEN_LEN 96 = 0 → exec .steeringCommandDone s = .next (fin s1 0 0)) ∧
        (∀ r, s.f ESTR_LOAD_LEN_LEN 96 = 1 → s1.readV 0 (s1.f ESTR_LOAD_ADDR_ADDR 96) 48 = .ok r →
          (steerBad r = true → exec .steeringCommandDone s = .next (fin s1 0x11 0)) ∧
          (steerBad r = false → exec .steeringCommandDone s = .next (fin (s1.steerApply r) 0 0))) ∧
        (∀ e l, s.f ESTR_LOAD_LEN_LEN 96 = l + 1 → s1.readV 0 (s1.f ESTR_LOAD_ADDR_ADDR 96) 48 = .error e → e.reason ≠ 0 →
          exec .steeringCommandDone s = .next (fin (s1.useUp 0 e) 0x20 0))))) ∧
  (∀ (s : State) (n v : Nat), let e := s.emac n
    (s.opens 0x41 n = true → exec (.efltWakeCmdLoad 0 n) s = .next (s.setEmac n { e with wakeLoad := true })) ∧
    (e.wakeLoad = false → exec (.wakeLoadDone n) s = .next s) ∧
    (e.wakeLoad = true → (∀ bs, s.readV (s.emacOwner n) (s.f EFLT_WAKE_BASE_ADDR n) 5120 = .ok bs →
        exec (.wakeLoadDone n) s = .next (((s.setEmac n { e with wakeLoad := false, wake := (List.range 32).map fun i => (bs.drop (160 * i)).take 160 }).setF
          EFLT_WAKE_STAT_LOADED n 0 1).setF EFLT_WAKE_STAT_LOAD_RESULT n 0 0)) ∧
      (∀ x, s.readV (s.emacOwner n) (s.f EFLT_WAKE_BASE_ADDR n) 5120 = .error x → x.reason ≠ 0 →
        let s1 := s.useUp (s.emacOwner n) x
        exec (.wakeLoadDone n) s = .next ((((s1.setEmac n { s1.emac n with wakeLoad := false, wake := [] }).setF
          EFLT_WAKE_STAT_LOADED n 0 0).setF EFLT_WAKE_STAT_LOAD_RESULT n 0 0x20).err EFLT_ERR_WAKE_LOAD_FAIL n))) ∧
    (s.opens 0x44 n = true → let k := 16 * bits v 1 1 + 4 * bits v 2 2 + bits v 4 2
      let zero (t : State) : State := (((t.each 4 fun s i => s.setF MSEC_KEY_SAK_KEY n i 0).setF MSEC_KEY_SALT_SALT n 0 0).setF MSEC_KEY_PN_PN n 0 0).setF MSEC_KEY_SSCI_SSCI n 0 0
      (bit v 0 = false → exec (.msecKeyCmdLoad 0 n v) s = .next s) ∧
      (bit v 0 = true → bit (s.f MSEC_SA_USE_IN_USE n) k = true → exec (.msecKeyCmdLoad 0 n v) s = .next ((zero s).err MSEC_ERR_KEY_BUSY n)) ∧
      (bit v 0 = true → bit (s.f MSEC_SA_USE_IN_USE n) k = false →
        let key := s.f MSEC_KEY_SAK_KEY n 0 + s.f MSEC_KEY_SAK_KEY n 1 * 2 ^ 64 + s.f MSEC_KEY_SAK_KEY n 2 * 2 ^ 128 + s.f MSEC_KEY_SAK_KEY n 3 * 2 ^ 192
        let a : SecAssoc := { key := key, salt := s.f MSEC_KEY_SALT_SALT n, ssci := s.f MSEC_KEY_SSCI_SSCI n, low := s.f MSEC_KEY_PN_PN n }
        let s1 := (s.setSec n k a).setF MSEC_SA_PN_PN n k (s.f MSEC_KEY_PN_PN n)
        let s2 := s1.setF MSEC_SA_KEYED_KEYED n 0 (setBit (s1.f MSEC_SA_KEYED_KEYED n) k)
        exec (.msecKeyCmdLoad 0 n v) s =
          .next (zero (if k < 16 then s2.setF MSEC_TX_EXH_EXHAUSTED n 0 (clrBit (s2.f MSEC_TX_EXH_EXHAUSTED n) k) else s2)))))

/-- Dispatch, commits, deadlines, tiller failures and program loads. On a sheaf that is not ready, or while tillers do not run, nothing is
dispatched; on one with a free place and no stalled task the task that the rule chooses, if any, is dispatched. A commit instant for a
task that does not wait for one does nothing; for a task that waits, on its place, with no operation outstanding and no marked store, the
task commits with its held effects. Deadlines are looked at only on a ready sheaf. A tiller fails only where a task is running: the fault
is handed to the fault unit and the task replays. SHF_LOAD_CMD with LEN 0 or above 1,024 or an instance above 64 is a reserved encoding;
with a load running it is dropped; otherwise the load starts. A load's end with none running changes nothing; one for slots 0 to 15 ends
NOT_PERMITTED, for a slot in use BUSY, and otherwise stores the image and marks the slot valid, or, where the read does not translate,
empties it with XLATE_FAULT; a read that must be waited for leaves the load going on. The model's own choices and readings in it: log
entries 2, 52, 57, 93. Rests on: R370, R371, R375, R379, R380, R381, R386, R398. -/
def Obligations.TasksAndLoads : Prop :=
  (∀ (s : State) (h q : Nat),
    ((s.ready 0x11 h = false ∨ s.tillersRun = false) → exec (.taskDispatch h) s = .next s) ∧
    (s.ready 0x11 h = true → s.tillersRun = true → s.unstall h = s → s.freePlaces h ≠ 0 →
      (s.chooseTask h = none → exec (.taskDispatch h) s = .next s) ∧
      (∀ t, s.chooseTask h = some (t, none) → exec (.taskDispatch h) s = .next (s.dispatch t)) ∧
      (∀ t k i w, s.chooseTask h = some (t, some (k, i, w)) → exec (.taskDispatch h) s = .next ((s.wrrServe k i w).dispatch t))) ∧
    (s.taskOf h q = none → exec (.commitInstant h q) s = .next s ∧ exec (.tillerFailure h q) s = .next s) ∧
    (∀ t, s.taskOf h q = some t →
      (t.commit = none → exec (.commitInstant h q) s = .next s) ∧
      (∀ last, t.commit = some last → s.tillersRun = true → t.phase = 1 → t.fid = 0 → t.unresolved = false → s.opsOf t = [] → t.held = [] →
        exec (.commitInstant h q) s = .next (s.commitTask t last [])) ∧
      (t.phase ≠ 1 → exec (.tillerFailure h q) s = .next s) ∧
      (t.phase = 1 → exec (.tillerFailure h q) s =
        .next ((s.fault { kind := 1, dom := 1 + h / 8, unit := h, place := s.draws, cause := 1 }).bump.replay t))) ∧
    (s.ready 0x11 h = false → exec (.taskDeadlineMiss h) s = .next s) ∧
    (s.ready 0x11 h = true → exec (.taskDeadlineMiss h) s = .next ((s.deadlines h).tskShow h))) ∧
  (∀ (s : State) (h i slot len : Nat), s.opens 0x11 h = true →
    ((len = 0 ∨ 1024 < len ∨ 64 < i) → exec (.shfLoadCmdLoad 0 h i slot len) s = .next (s.errOn PAGE_ERR_RESERVED_ENC 0x11 h)) ∧
    (1 ≤ len → len ≤ 1024 → i ≤ 64 →
      ((PMap.find s.loads h).isSome = true → exec (.shfLoadCmdLoad 0 h i slot len) s = .next s) ∧
      (PMap.find s.loads h = none → exec (.shfLoadCmdLoad 0 h i slot len) s =
        .next (({ s with loads := PMap.put s.loads h (slot % 32, i, len) } : State).setF SHF_LOAD_STAT_RUNNING h 0 1)))) ∧
  (∀ (s : State) (h slot i len : Nat), (PMap.find s.loads h = none → exec (.programLoadDone h) s = .next s) ∧
    (PMap.find s.loads h = some (slot, i, len) →
      let s1 := ({ s with loads := PMap.del s.loads h } : State).setF SHF_LOAD_STAT_RUNNING h 0 0
      let put (im : List (BitVec 8)) (v r : Nat) : State :=
        ((({ s1 with progs := PMap.put s1.progs (h * 32 + slot) { inst := i, image := im } } : State).setF SHF_LOAD_STAT_SLOT_VALID h 0 v).setF SHF_LOAD_STAT_RESULT h 0 r)
      (slot < 16 → exec (.programLoadDone h) s = .next (s1.setF SHF_LOAD_STAT_RESULT h 0 0x21)) ∧
      (16 ≤ slot → s1.slotBusy h slot = true → exec (.programLoadDone h) s = .next (s1.setF SHF_LOAD_STAT_RESULT h 0 0x24)) ∧
      (∀ bs, 16 ≤ slot → s1.slotBusy h slot = false → s1.readV 0 (s1.f SHF_LOAD_ADDR_ADDR h) (64 * len) = .ok bs →
        exec (.programLoadDone h) s = .next (put bs (setBit (s1.f SHF_LOAD_STAT_SLOT_VALID h) (slot - 16)) 0)) ∧
      (∀ e, 16 ≤ slot → s1.slotBusy h slot = false → s1.readV 0 (s1.f SHF_LOAD_ADDR_ADDR h) (64 * len) = .error e →
        let s2 : State := { s1.useUp 0 e with progs := PMap.put s1.progs (h * 32 + slot) { inst := i, image := [] } }
        (e.reason = 0 → exec (.programLoadDone h) s = .next s) ∧
        (e.reason ≠ 0 → exec (.programLoadDone h) s =
          .next ((s2.setF SHF_LOAD_STAT_SLOT_VALID h 0 (clrBit (s1.f SHF_LOAD_STAT_SLOT_VALID h) (slot - 16))).setF SHF_LOAD_STAT_RESULT h 0 0x20)))))

/-- The ALU instructions: the result that each writes to rd. A task whose next word is an ALU instruction reads ra and rb, writes the result
of Table 12-6 modulo 2^64 to rd, a write to g0 being discarded, and goes on; nothing else of the machine changes but the sampler's note of
the instruction. The model's own choices and readings in it: log entries 2, 53. Rests on: R391, R392, R394. -/
def Obligations.TillerAlu : Prop :=
  ∀ (s : State) (t : Task) (w : Nat), s.runsWord t w = true →
    let a := t.ctx.g (iRa w)
    let b := t.ctx.g (iRb w)
    let put (v : Nat) : Res := .next ((s.issued t w).retires t (t.ctx.setG (iRd w) v))
    let h := t.sheaf
    let q := t.seq
    (insn w = 0x00 → exec (.add h q) s = put (a + b)) ∧
    (insn w = 0x01 → exec (.sub h q) s = put ((a + 2 ^ 64 - b % 2 ^ 64) % 2 ^ 64)) ∧
    (insn w = 0x02 → exec (.and h q) s = put (a &&& b)) ∧
    (insn w = 0x03 → exec (.or h q) s = put (a ||| b)) ∧
    (insn w = 0x04 → exec (.xor h q) s = put (a ^^^ b)) ∧
    (insn w = 0x05 → exec (.nor h q) s = put (2 ^ 64 - 1 - (a ||| b))) ∧
    (insn w = 0x06 → exec (.slt h q) s = put (if s64 a < s64 b then 1 else 0)) ∧
    (insn w = 0x07 → exec (.sltu h q) s = put (if a < b then 1 else 0)) ∧
    (insn w = 0x08 → exec (.sll h q) s = put (a * 2 ^ (b % 64))) ∧
    (insn w = 0x09 → exec (.srl h q) s = put (a / 2 ^ (b % 64))) ∧
    (insn w = 0x0A → exec (.sra h q) s = put (unsgn (s64 a / (2 : Int) ^ (b % 64)) 64)) ∧
    (insn w = 0x0B → exec (.ror h q) s = put ((a % 2 ^ 64 / 2 ^ (b % 64) + a * 2 ^ (64 - b % 64)) % 2 ^ 64)) ∧
    (insn w = 0x0C → exec (.mul h q) s = put (a * b)) ∧
    (insn w = 0x0D → exec (.mulhu h q) s = put (a * b / 2 ^ 64)) ∧
    (insn w = 0x0E → exec (.min h q) s = put (if s64 a < s64 b then a else b)) ∧
    (insn w = 0x0F → exec (.max h q) s = put (if s64 b ≤ s64 a then a else b)) ∧
    (insn w = 0x10 → exec (.minu h q) s = put (if a < b then a else b)) ∧
    (insn w = 0x11 → exec (.maxu h q) s = put (if b < a then a else b)) ∧
    (insn w = 0x12 → exec (.clz h q) s = put (clz64 a)) ∧
    (insn w = 0x13 → exec (.popc h q) s = put (popcount 64 a)) ∧
    (insn w = 0x14 → exec (.bswap h q) s = put (leNat (leBytes 8 a).reverse))

/-- The immediate instructions: the result that each writes to rd. A task whose next word is an immediate instruction reads ra, writes the
result of Table 12-5 modulo 2^64 to rd, with the immediate sign-extended where the table says so, and goes on. The model's own choices and
readings in it: log entries 2, 53. Rests on: R391, R393. -/
def Obligations.TillerImmediates : Prop :=
  ∀ (s : State) (t : Task) (w : Nat), s.runsWord t w = true →
    let a := t.ctx.g (iRa w)
    let i := w % 2 ^ 16
    let x := if 2 ^ 15 ≤ i then 2 ^ 64 - 2 ^ 16 + i else i
    let put (v : Nat) : Res := .next ((s.issued t w).retires t (t.ctx.setG (iRd w) v))
    let h := t.sheaf
    let q := t.seq
    (insn w = 0x4001 → exec (.addi h q) s = put (a + x)) ∧
    (insn w = 0x4002 → exec (.andi h q) s = put (a &&& i)) ∧
    (insn w = 0x4003 → exec (.ori h q) s = put (a ||| i)) ∧
    (insn w = 0x4004 → exec (.xori h q) s = put (a ^^^ i)) ∧
    (insn w = 0x4005 → exec (.slti h q) s = put (if s64 a < s64 x then 1 else 0)) ∧
    (insn w = 0x4006 → exec (.sltiu h q) s = put (if a < x then 1 else 0)) ∧
    (insn w = 0x4007 → exec (.lui h q) s = put (x * 2 ^ 16)) ∧
    (insn w = 0x4008 → exec (.shi h q) s = put (a * 2 ^ 16 + i)) ∧
    (insn w = 0x1000 → exec (.shfiSll h q) s = put (a * 2 ^ (w % 64))) ∧
    (insn w = 0x1001 → exec (.shfiSrl h q) s = put (a / 2 ^ (w % 64))) ∧
    (insn w = 0x1002 → exec (.shfiSra h q) s = put (unsgn (s64 a / (2 : Int) ^ (w % 64)) 64)) ∧
    (insn w = 0x1003 → exec (.shfiRor h q) s = put ((a % 2 ^ 64 / 2 ^ (w % 64) + a * 2 ^ (64 - w % 64)) % 2 ^ 64))

/-- Loads and stores of the window and of the instance's address space. LDL and STL whose range is aligned and in the window, a hook's store
in the part it may write, read or write it, where no outstanding stream operation makes them wait, in which case nothing happens; a range
that is not raises LOCAL. LDX outside STRM mode, aligned, whose address translates, loads the bytes, extended as the size says; in STRM
mode it raises MODE, unaligned ALIGN. STX and STXW, aligned and translated, hold the store with its translations and its cost; unaligned
they raise ALIGN. The model's own choices and readings in it: log entries 2, 56, 95. Rests on: R395, R396, R397, R406. -/
def Obligations.TillerMemory : Prop :=
  ∀ (s : State) (t : Task) (w : Nat), s.runsWord t w = true →
    let s1 := s.issued t w
    let off := (t.ctx.g (iRa w) + w % 2 ^ 12) % 2 ^ 64
    let a := addr64 (t.ctx.g (iRa w)) (sgn (w % 2 ^ 12) 12)
    let n := 2 ^ bits w 14 2
    let put (s : State) (v : Nat) : Res := .next (s.retires t (t.ctx.setG (iRd w) v))
    let hold (va k : Nat) (b : List (BitVec 8)) (p : List (Nat × Option Nat × Nat)) : Res :=
      .next (s1.bump.retires { t with held := t.held ++ [.store va b p false], cost := t.cost + 16 + k } t.ctx)
    let h := t.sheaf
    let q := t.seq
    (insn w = 0x4010 →
      (t.winOk off n n false = false → exec (.ldl h q) s = .next (s1.except t 4 0)) ∧
      (t.winOk off n n false = true → s1.mustWait t off n false = true → exec (.ldl h q) s = .next s) ∧
      (t.winOk off n n false = true → s1.mustWait t off n false = false →
        exec (.ldl h q) s = put s1.bump (extend w (leNat (s1.winLoad t off n))))) ∧
    (insn w = 0x4011 →
      (t.winOk off n n true = false → exec (.stl h q) s = .next (s1.except t 4 0)) ∧
      (t.winOk off n n true = true → s1.mustWait t off n true = false →
        exec (.stl h q) s = .next (s1.retires { t with win := overlay t.win off (leBytes n (t.ctx.g (iRd w))) } t.ctx))) ∧
    (insn w = 0x4012 →
      (t.ctx.strm = true → exec (.ldx h q) s = .next (s1.except t 3 0)) ∧
      (t.ctx.strm = false → a % n ≠ 0 → exec (.ldx h q) s = .next (s1.except t 5 0)) ∧
      (∀ bs, t.ctx.strm = false → a % n = 0 → t.unresolved = false → s1.readV t.inst a n = .ok bs →
        exec (.ldx h q) s = put s1.bump (extend w (leNat bs)))) ∧
    (insn w = 0x4013 →
      (a % n ≠ 0 → exec (.stx h q) s = .next (s1.except t 5 0)) ∧
      (∀ p, a % n = 0 → t.unresolved = false → s1.placesOf t.inst a n = .ok p → t.cost + 32 ≤ 8192 →
        exec (.stx h q) s = hold a 16 (leBytes n (t.ctx.g (iRd w))) p)) ∧
    (insn w = 0x4014 → let va := t.ctx.g (iRa w)
      let o := t.ctx.g (iRd w)
      let m := 16 * (w % 4 + 1)
      (va % 16 ≠ 0 → exec (.stxw h q) s = .next (s1.except t 5 0)) ∧
      (∀ p, va % 16 = 0 → t.winOk o m 16 false = true → s1.mustWait t o m false = false → t.unresolved = false →
        s1.placesOf t.inst va m = .ok p → t.cost + 16 + m ≤ 8192 → exec (.stxw h q) s = hold va m (s1.winLoad t o m) p))

/-- Branches and jumps: the target, the link register and the delay slot. A branch or jump that may stand where it is leaves the instruction
at the next offset as its delay slot, with the target after it: a conditional branch that is taken goes to the offset after it plus four
times its signed immediate, one that is not goes on after the delay slot; J and JAL go by their 26-bit immediate and JAL puts the offset
after the slot in g31; JR and JALR go to ra, JALR puts that offset in rd, and a target that is no multiple of 4 raises ALIGN. The model's
own choices and readings in it: log entries 2, 55. Rests on: R399, R400, R403. -/
def Obligations.TillerBranches : Prop :=
  ∀ (s : State) (t : Task) (w : Nat), s.runsWord t w = true →
    let s1 := s.issued t w
    let a := t.ctx.g (bits w 21 5)
    let b := t.ctx.g (bits w 16 5)
    let pc := t.ctx.pc
    let cond (taken : Prop) [Decidable taken] : Res :=
      .next (if taken then s1.branches t (addr64 (pc + 4) (4 * sgn (w % 2 ^ 16) 16)) true else s1.branches t (pc + 8) false)
    let far := addr64 (pc + 4) (4 * sgn (w % 2 ^ 26) 26)
    let link (r : Nat) : Task := { t with ctx := t.ctx.setG r (pc + 8) }
    let h := t.sheaf
    let q := t.seq
    (insn w = 0x4018 → exec (.beq h q) s = cond (a = b)) ∧
    (insn w = 0x4019 → exec (.bne h q) s = cond (a ≠ b)) ∧
    (insn w = 0x401A → exec (.blt h q) s = cond (s64 a < s64 b)) ∧
    (insn w = 0x401B → exec (.bge h q) s = cond (s64 b ≤ s64 a)) ∧
    (insn w = 0x401C → exec (.bltu h q) s = cond (a < b)) ∧
    (insn w = 0x401D → exec (.bgeu h q) s = cond (b ≤ a)) ∧
    (insn w = 0x401E → exec (.j h q) s = .next (s1.branches t far true)) ∧
    (insn w = 0x401F → exec (.jal h q) s = .next (s1.branches (link 31) far false)) ∧
    (insn w = 0x2001 →
      (b % 4 ≠ 0 → exec (.jr h q) s = .next (s1.except t 5 0)) ∧
      (b % 4 = 0 → exec (.jr h q) s = .next (s1.branches t b true))) ∧
    (insn w = 0x2002 →
      (b % 4 ≠ 0 → exec (.jalr h q) s = .next (s1.except t 5 0)) ∧
      (b % 4 = 0 → exec (.jalr h q) s = .next (s1.branches (link (iRd w)) b false)))

/-- MFS, MTS, ERET, END, CMT, TRAP, LOOP and MODE. MFS puts a special register of Table 12-3 in rd, and raises ILLEGAL_OP for another number.
MTS writes epc, ecause, eflags, and the count of an active loop level, leaves that of an inactive one alone, and raises ILLEGAL_OP for
another number. ERET in a handler goes to epc in mode PMODE with EXC cleared, and raises ILLEGAL_OP outside one. END and CMT of a task
with no operation outstanding and nothing held wait for the commit instant, the last one for END, which holds a descriptor task's
completion first and aborts it as BUSY where that does not fit. TRAP in plain code of a program with a handler enters it with epc at the
TRAP, ecause TRAP and rb, eflags EXC and PMODE, in CTRL mode. LOOP opens a level over the next instructions, or skips them where the count
is 0. MODE starts its shadow of two instructions. The model's own choices and readings in it: log entries 2, 51. Rests on: R391, R398,
R401, R405, R413, R418. -/
def Obligations.TillerSystem : Prop :=
  ∀ (s : State) (t : Task) (w : Nat), s.runsWord t w = true →
    let s1 := s.issued t w
    let c := t.ctx
    let a := c.g (iRa w)
    let put (v : Nat) : Res := .next (s1.retires t (c.setG (iRd w) v))
    let ill : Res := .next (s1.except t 1 0)
    let h := t.sheaf
    let q := t.seq
    (insn w = 0x2003 →
      (∀ v, s1.special t (iRb w) = some v → exec (.mfs h q) s = put v) ∧
      (s1.special t (iRb w) = none → exec (.mfs h q) s = ill) ∧
      (∀ x ∈ [(0, c.pc), (2, c.epc), (3, c.ecause), (4, c.eflags), (8, c.lc0), (9, c.ls0), (10, c.le0), (12, c.lc1), (13, c.ls1), (14, c.le1)],
        iRb w = x.1 → exec (.mfs h q) s = put x.2)) ∧
    (insn w = 0x2004 →
      (iRd w = 2 → exec (.mts h q) s = .next (s1.retires t { c with epc := a })) ∧
      (iRd w = 3 → exec (.mts h q) s = .next (s1.retires t { c with ecause := a % 2 ^ 16 })) ∧
      (iRd w = 4 → exec (.mts h q) s = .next (s1.retires t { c with eflags := a % 2 ^ 5 })) ∧
      (iRd w = 8 → c.depth ≠ 0 → exec (.mts h q) s = .next (s1.retires t { c with lc0 := a % 2 ^ 32 })) ∧
      (iRd w = 12 → c.depth = 2 → exec (.mts h q) s = .next (s1.retires t { c with lc1 := a % 2 ^ 32 })) ∧
      (iRd w = 8 → c.depth = 0 → exec (.mts h q) s = .next (s1.retires t c)) ∧
      (iRd w = 12 → c.depth ≠ 2 → exec (.mts h q) s = .next (s1.retires t c)) ∧
      (iRd w ∉ [2, 3, 4, 8, 12] → exec (.mts h q) s = ill)) ∧
    (insn w = 0x2005 →
      (c.exc = false → exec (.eret h q) s = ill) ∧
      (c.exc = true → exec (.eret h q) s =
        .next (s1.setTask { t.retire with ctx := { c with pc := c.epc, strm := bit c.eflags 3, eflags := clrBit c.eflags 4 } }))) ∧
    (s1.opsOf t = [] → t.unresolved = false → t.held = [] →
      (insn w = 0x2006 → t.base = none → let cost := t.cost + s1.endCost t
        (cost ≤ 8192 → exec (.endTask h q) s = .next (s1.setTask { t with cost := cost, commit := some true })) ∧
        (8192 < cost → exec (.endTask h q) s = .next (s1.taskAbort t 0x24 0 false))) ∧
      (insn w = 0x2007 → t.cost ≤ 8192 → exec (.cmt h q) s = .next (s1.setTask { t with commit := some false }))) ∧
    (∀ b, insn w = 0x2006 → t.base = some b → c.g 1 ≤ 1 →
      exec (.endTask h q) s = .next (s1.atEnd { t.retire with ctx := b, base := none, verdict := c.g 1 })) ∧
    (insn w = 0x2008 → exec (.trap h q) s = .next (s1.except t 7 (iRb w))) ∧
    (insn w = 0x2008 → s.handler t ≠ 0 → c.exc = false → c.slot = none → c.shadow = none → c.depth = 0 → s.samples t.sheaf t.inst = false →
      exec (.trap h q) s = .next (((s.count (bankSheaf t.sheaf) 0x41 0 (some t.inst)).sampleOut t.sheaf t.seq t.issued 3).setTask
        { t with unresolved := false, ctx := { c with epc := c.pc, ecause := 7 + 256 * iRb w, eflags := 8 * b2n c.strm + 16, pc := s.handler t,
                                                      strm := false, taken := false } })) ∧
    (insn w = 0x4021 → let n := a % 2 ^ 32
      let le := c.pc + 4 * (w % 2 ^ 16)
      (c.depth = 2 → exec (.loop h q) s = .next (s1.except t 2 4)) ∧
      (c.depth = 1 → c.le0 ≤ le → exec (.loop h q) s = .next (s1.except t 2 4)) ∧
      (c.depth = 1 → le < c.le0 → n = 0 → exec (.loop h q) s = .next (s1.setTask { t.retire with ctx := { c with pc := le + 4 } })) ∧
      (c.depth = 0 → n = 0 → exec (.loop h q) s = .next (s1.setTask { t.retire with ctx := { c with pc := le + 4 } })) ∧
      (c.depth = 0 → n ≠ 0 → exec (.loop h q) s = .next (s1.retires t { c with depth := 1, lc0 := n, ls0 := c.pc + 4, le0 := le })) ∧
      (c.depth = 1 → le < c.le0 → n ≠ 0 → exec (.loop h q) s = .next (s1.retires t { c with depth := 2, lc1 := n, ls1 := c.pc + 4, le1 := le }))) ∧
    (insn w = 0x4022 → exec (.mode h q) s =
      .next (s1.retires t { c with shadow := some { left := 3, at_ := c.pc, new := bit w 0, regs := c.regs, win := t.win } }))

/-- Held doorbells and register writes, stream operations and their ends. DBELL and PGW hold their effect, at a cost of 32 bytes; a task that
this takes above 8 KiB ends as BUSY. SDMA from a range in the window to a channel of the task's instance bound to the sheaf queues the
operation, or, where the channel is disabled, keeps NOT_READY for the tag; one to another channel ends as NOT_PERMITTED at the fixed time
of a refusal. SGET and SPUT of a range in the window with fewer than 32 outstanding and nothing in the way join the task's operations; a
length of 0 or above 2,048 or a range outside it raises LOCAL. SWAIT with no operation of its tag outstanding puts the tag's earliest kept
status, or OK, in rd and clears them. A stream operation that moved all its data ends OK; one that does not exist changes nothing. The
model's own choices and readings in it: log entries 2, 54. Rests on: R253, R276, R379, R397, R408, R409, R410, R411. -/
def Obligations.TillerStreams : Prop :=
  (∀ (s : State) (t : Task) (w : Nat), s.runsWord t w = true →
    let s1 := s.issued t w
    let c := t.ctx
    let a := c.g (iRa w)
    let hold (e : Held) : Res := .next (s1.retires { t with held := t.held ++ [e], cost := t.cost + 32 } c)
    let loc : Res := .next (s1.except t 4 0)
    let h := t.sheaf
    let q := t.seq
    (insn w = 0x4023 →
      (t.cost + 32 ≤ 8192 → exec (.dbell h q) s = hold (.doorbell (a % 2 ^ 32))) ∧
      (8192 < t.cost + 32 → exec (.dbell h q) s = .next (s1.taskAbort t 0x24 0 false))) ∧
    (insn w = 0x4024 → t.cost + 32 ≤ 8192 →
      (bit w 0 = false → exec (.pgw h q) s = hold (.page a 4 (c.g (iRb w) % 2 ^ 32))) ∧
      (bit w 0 = true → exec (.pgw h q) s = hold (.page a 8 (c.g (iRb w) % 2 ^ 64)))) ∧
    (insn w = 0x4030 → let ch := c.g (iRd w) % 512
      let o : StreamOp := { id := s1.nextOp, kind := 0, sheaf := h, seq := q, inst := t.inst, tag := w % 16, off := a, len := 64, chan := ch,
                            bytes := s1.winLoad t a 64, at_ := s1.now }
      let s1 := s1.bump
      (t.winOk a 64 64 false = false → exec (.sdma h q) s = loc) ∧
      (t.winOk a 64 64 false = true → s1.dmaOwner ch = t.inst → s1.f DMA_CTL_SRC ch = 2 →
        s1.f DMA_CTL_SHEAF ch = h →
        (s1.f DMA_STAT_STATE ch = 0 ∨ s1.b DMA_CTL_ENABLE ch = false →
          exec (.sdma h q) s = .next (s1.retires { t with kept := t.kept ++ [(w % 16, 0x22, s1.nextOp)] } c)) ∧
        (s1.f DMA_STAT_STATE ch ≠ 0 → s1.b DMA_CTL_ENABLE ch = true → (s1.dma ch).sq.length < 64 → (s1.opsOf t).length < 32 →
          let s2 : State := { s1 with ops := s1.ops ++ [o], nextOp := s1.nextOp + 1 }
          exec (.sdma h q) s = .next (((s2.setDma ch { s2.dma ch with sq := (s2.dma ch).sq ++ [s1.nextOp] }).dmaWake ch).retires t c))) ∧
      (t.winOk a 64 64 false = true → (s1.dmaOwner ch ≠ t.inst ∨ s1.f DMA_CTL_SRC ch ≠ 2 ∨ s1.f DMA_CTL_SHEAF ch ≠ h) → (s1.opsOf t).length < 32 →
        let s2 : State := { s1 with ops := s1.ops ++ [{ o with phase := 4, status := 0x21 }], nextOp := s1.nextOp + 1 }
        exec (.sdma h q) s = .next ((s2.refuseLater t.inst 3 s1.nextOp).retires t c))) ∧
    (let off := c.g (iRb w)
     let n := c.g (iRd w) % 2 ^ 12
     let o (k : Nat) : StreamOp := { id := s1.nextOp, kind := k, sheaf := h, seq := q, inst := t.inst, tag := w % 16, addr := a, off := off, len := n,
                                     bytes := s1.winLoad t off n, at_ := s1.now }
     let s1 := s1.bump
     let go (k : Nat) : Res := .next (({ s1 with ops := s1.ops ++ [o k], nextOp := s1.nextOp + 1 } : State).retires t c)
     (insn w = 0x4031 →
       ((n = 0 ∨ 2048 < n ∨ t.winOk off n 1 true = false) → exec (.sget h q) s = loc) ∧
       (n ≠ 0 → n ≤ 2048 → t.winOk off n 1 true = true → s1.opsOf t = [] → exec (.sget h q) s = go 1)) ∧
     (insn w = 0x4032 →
       ((n = 0 ∨ 2048 < n ∨ t.winOk off n 1 false = false) → exec (.sput h q) s = loc) ∧
       (n ≠ 0 → n ≤ 2048 → t.winOk off n 1 false = true → s1.opsOf t = [] → exec (.sput h q) s = go 2))) ∧
    (insn w = 0x4033 → (s1.opsOf t).any (fun o => o.tag == w % 16) = false →
      exec (.swait h q) s = .next (s1.retires { t with kept := t.kept.filter fun k => k.1 != w % 16 }
        (c.setG (iRd w) (keptStatus t.kept (w % 16)))))) ∧
  (∀ (s : State) (h q g : Nat), (s.taskOf h q = none → exec (.streamOpEnd h q g) s = .next s) ∧
    (∀ t, s.taskOf h q = some t → ((s.opsOf t).find? fun o => o.tag == g && o.kind != 0 && o.phase == 0) = none →
      exec (.streamOpEnd h q g) s = .next s) ∧
    (∀ t o s' t' o', s.taskOf h q = some t → ((s.opsOf t).find? fun o => o.tag == g && o.kind != 0 && o.phase == 0) = some o →
      s.opMove o t (cdiv o.len 64 + 1) = (s', t', o', none) →
      exec (.streamOpEnd h q g) s =
        .next (((((s'.setTask t').setOp o').count (bankSheaf h) 0x54 0 (some t.inst) (64 * (o'.units - o.units))).opEnd o.id 0).bump)))

/-- Table walks, ATS and page-request answers, and invalidations. A walk for an instance whose root is not valid changes nothing; one that its
die's page cache covers counts its L1 miss and makes the entry the most recently used; one that ends in a leaf whose access is allowed
also counts its L2 miss and its table reads and caches the leaf in its die, as does one whose allowed access must still wait; one that
faults caches nothing. An ATS completion of an instance that translates through ATS is counted and kept for its page. An ATS invalidate
request counts on both dies, drops the covered results, marks held stores and queues its tag, whose completion is then sent unless a
transfer holds translations. A page response or time-out with no such request waiting changes nothing; Success lets the work go on, any
other code and the time-out turn it into PRI_FAILED. DLOG_INV takes the next number, counts on both dies, drops covered cache entries and
joins the invalidations, of which INVALIDATION_DONE completes the oldest. The model's own choices and readings in it: log entries 2, 58,
59. Rests on: R427, R428, R431, R432, R433, R613. -/
def Obligations.WalksAndTranslationServices : Prop :=
  (∀ (s : State) (die i va herr : Nat) (wr : Bool),
    (s.b DLOG_ROOT_VALID i = false → exec (.walkComplete die i va wr herr) s = .next s) ∧
    (s.b DLOG_ROOT_VALID i = true → die ≤ 1 →
      let s1 := ((s.addF DTU_CNT_L1_MISS_COUNT die 0 1).count (97 + die) 0x141 s.dtuSub (some i)).count (bankStook (4 * die + s.dtuSub)) 0x83 0 (some i)
      let covers (e : TlbEnt) : Bool := e.die == die && e.inst == i && decide (e.va ≤ va) && decide (va < e.va + e.size)
      (s1.tlb.any covers = true → herr = 0 → exec (.walkComplete die i va wr herr) s = .next (s1.tlbHit die i va).bump) ∧
      (s1.tlb.any covers = false →
        let s2 := (s1.addF DTU_CNT_L2_MISS_COUNT die 0 1).count (97 + die) 0x142 s1.dtuSub (some i)
        let reads (n : Nat) : State := ((s2.addF DTU_CNT_WALK_READ_COUNT die 0 n).count (97 + die) 0x143 s2.dtuSub (some i) n).bump
        (∀ l size level, s2.walkRoot i va herr = .ok (l, size, level) →
          let t := reads (5 - level)
          (∀ x, t.placeOf i va wr l size = .ok x → exec (.walkComplete die i va wr herr) s =
            .next (t.tlbAdd { die := die, inst := i, va := va / size * size, size := size, leaf := l })) ∧
          (∀ e, t.placeOf i va wr l size = .error e → exec (.walkComplete die i va wr herr) s = .next
            (if e.reason = 0 ∨ e.reason = 7 then t.tlbAdd { die := die, inst := i, va := va / size * size, size := size, leaf := l } else t))) ∧
        (∀ e, s2.walkRoot i va herr = .error e → e.reason ≠ 0 → e.reason ≠ 4 → e.reason ≠ 6 →
          exec (.walkComplete die i va wr herr) s = .next (reads (5 - e.level)))))) ∧
  (∀ (s : State) (die i page out : Nat) (rd w wr : Bool),
    (s.b DLOG_ICTL_ATS_EN i = false → exec (.atsCompletion die i page out rd w wr) s = .next s) ∧
    (s.b DLOG_ICTL_ATS_EN i = true → (s.fn i).atsEnable = true → die ≤ 1 →
      let s1 := s.addF DTU_CNT_ATS_REQ_COUNT die 0 1
      let a : AtsEnt := { inst := i, page := page, out := out, rd := rd, wr := w, noRd := !wr && !rd, noWr := wr && !w }
      exec (.atsCompletion die i page out rd w wr) s = .next { s1 with ats := a :: s1.ats.filter (fun x => !(x.inst == i && x.page == page)) })) ∧
  (∀ (s : State) (i page n tag : Nat),
    (let s1 := (s.addF DTU_CNT_ATS_INV_COUNT 0 0 1).addF DTU_CNT_ATS_INV_COUNT 1 0 1
     let s2 : State := { s1 with ats := s1.ats.filter (fun a => !(a.inst == i && (decide (page ≤ a.page) && decide (a.page < page + n)))) }
     s2.tasks = [] → exec (.atsInvalidateRequest i page n tag) s = .next (s2.setXst i { s2.xst i with atsInvs := (s2.xst i).atsInvs ++ [tag] })) ∧
    (tag ∉ (s.xst i).atsInvs → exec (.atsInvalidateCompletion i tag) s = .next s) ∧
    (tag ∈ (s.xst i).atsInvs → s.holdsPlaces i = false → exec (.atsInvalidateCompletion i tag) s =
      .next ((s.setXst i { s.xst i with atsInvs := (s.xst i).atsInvs.erase tag }).emit (.atsDone i tag)))) ∧
  (∀ (s : State) (i g f code : Nat) (w : Waiter),
    (s.asking i (fun w => w.fid % 512 == g) = none → exec (.priResponse i g code) s = .next s) ∧
    (s.asking i (fun w => w.fid % 512 == g) = some w →
      exec (.priResponse i g 0) s = .next (s.answer w false) ∧ (code ≠ 0 → exec (.priResponse i g code) s = .next (s.priFail w))) ∧
    (s.asking i (fun w => w.fid == f) = none → exec (.priTimeout i f) s = .next s) ∧
    (s.asking i (fun w => w.fid == f) = some w →
      (s.now < w.since + 65536000000 * (10 * s.f DTU_CTL_PRI_TMO w.die) → exec (.priTimeout i f) s = .next s) ∧
      (w.since + 65536000000 * (10 * s.f DTU_CTL_PRI_TMO w.die) ≤ s.now → exec (.priTimeout i f) s = .next (s.priFail w)))) ∧
  (∀ (s : State) (i v : Nat),
    (s.opens 0x19 i = true → exec (.dlogInv 0 i v) s = .next (s.dlogInv i (bits v 12 36) (bits v 52 12))) ∧
    ((s.xst i).invs = [] → exec (.invalidationDone i) s = .next s) ∧
    (∀ r rs, (s.xst i).invs = r :: rs → s.holdsPlaces i = false → exec (.invalidationDone i) s =
      .next ((s.setXst i { s.xst i with invs := rs }).setF DLOG_IST_INV_DONE i 0 r.num)))

/-- RETRY, ABORT and RETRY_ALL, the fault queue, the spill area and the dirty log's flush. For an instance whose DLOG page the manager's
writes reach: RETRY or ABORT of a FID that no written record waits under changes nothing; of one that waits it lets that work go on or
end. RETRY_ALL with nothing waiting changes nothing. A head of the fault queue that goes on and does not pass the tail is taken and held
records are written; another sets FQ_ERR and changes nothing else. A spill tail that goes on and does not pass the head is taken; another
sets SPILL_ERR. The end of a flush with none running changes nothing, and otherwise shows the epoch flushed and clears FLUSHING. The
model's own choices and readings in it: log entries 3, 60. Rests on: R436, R437, R444, R449. -/
def Obligations.FaultAnswersAndQueues : Prop :=
  ∀ (s : State) (i v : Nat), s.opens 0x19 i = true → v < 2 ^ 16 →
    (s.waiting i v = none → exec (.dlogResumeRetry 0 i v) s = .next s ∧ exec (.dlogResumeAbort 0 i v) s = .next s) ∧
    (∀ w, s.waiting i v = some w →
      exec (.dlogResumeRetry 0 i v) s = .next (s.answer w false) ∧ exec (.dlogResumeAbort 0 i v) s = .next (s.answer w true)) ∧
    (s.waiters = [] → exec (.dlogResumeRetryAll 0 i) s = .next s) ∧
    (∀ w, s.waiters = [w] → w.inst = i → w.recSt = 2 → exec (.dlogResumeRetryAll 0 i) s = .next (s.answer w false)) ∧
    (later v (s.f DLOG_FQ_HEAD_COUNT i) 32 = true → later v (s.f DLOG_FQ_TAIL_COUNT i) 32 = false →
      exec (.dlogFqHeadWrite 0 i v) s = .next ((s.setF DLOG_FQ_HEAD_COUNT i 0 v).fqFlush i)) ∧
    ((later v (s.f DLOG_FQ_HEAD_COUNT i) 32 = false ∨ later v (s.f DLOG_FQ_TAIL_COUNT i) 32 = true) →
      exec (.dlogFqHeadWrite 0 i v) s = .next (s.err DLOG_ERR_FQ_ERR i)) ∧
    (later v (s.f DLOG_SPILL_TAIL_UNITS i) 32 = true → later v (s.f DLOG_SPILL_HEAD_UNITS i) 32 = false →
      exec (.dlogSpillTailWrite 0 i v) s = .next (s.setF DLOG_SPILL_TAIL_UNITS i 0 v)) ∧
    ((later v (s.f DLOG_SPILL_TAIL_UNITS i) 32 = false ∨ later v (s.f DLOG_SPILL_HEAD_UNITS i) 32 = true) →
      exec (.dlogSpillTailWrite 0 i v) s = .next (s.err DLOG_ERR_SPILL_ERR i)) ∧
    ((s.xst i).flushOf = none → exec (.dirtyLogFlushDone i) s = .next s) ∧
    (∀ e, (s.xst i).flushOf = some e → exec (.dirtyLogFlushDone i) s =
      .next (((s.setXst i { s.xst i with flushOf := none }).setF DLOG_LOG_FLUSH_EPOCH i 0 e).setF DLOG_LOG_STAT_FLUSHING i 0 0))

/-- INST_CMD's seven commands, function-level reset, VF_ENABLE and Bus Master Enable. For an instance whose INST page the manager's writes
reach, a command that the instance's state does not allow shows NOT_READY and changes nothing else. START of a READY instance with no
command running makes it RUNNING and ends OK. RESET of a RUNNING or FROZEN one starts the reset, of one that resets joins it. FREEZE of a
RUNNING one notes the time, stops its enabled channels, suspends its periodic entries and runs. THAW of a FROZEN one makes it RUNNING,
releases what the freeze held and ends OK. SAVE of a FROZEN and RESTORE of a READY one run. DESTROY of one that is not FREE starts the
reset that ends in FREE. An FLR of a FREE instance does nothing and of another starts a reset. VF_ENABLE cleared is shown and resets the
instance unless it is FREE. Bus Master Enable set lets waiting work be tried, cleared it is only noted. The model's own choices and
readings in it: log entries 3, 61. Rests on: R452, R453, R463, R471, R472, R473. -/
def Obligations.InstanceCommands : Prop :=
  (∀ (s : State) (i : Nat), s.opens 0x60 i = true → i ≠ 0 →
    let fin (t : State) (r : Nat) : State := ((t.setInst i { t.inst i with cmd := 0 }).setF INST_CMD_STAT_RUNNING i 0 0).setF INST_CMD_STAT_RESULT i 0 r
    let run (t : State) (c : Nat) : State := (t.setInst i { t.inst i with cmd := c }).setF INST_CMD_STAT_RUNNING i 0 1
    let bad : Res := .next (s.setF INST_CMD_STAT_RESULT i 0 0x22)
    let x := s.instState i
    ((x ≠ 1 ∨ (s.inst i).cmd ≠ 0) → exec (.instCmdStart 0 i) s = bad ∧ exec (.instCmdRestore 0 i) s = bad) ∧
    (x = 1 → (s.inst i).cmd = 0 →
      exec (.instCmdStart 0 i) s = .next (fin (s.setF INST_STAT_STATE i 0 2) 0) ∧ exec (.instCmdRestore 0 i) s = .next (run s 6)) ∧
    (s.resetting i = true → exec (.instCmdReset 0 i) s = .next (s.resetStart i false false)) ∧
    (s.resetting i = false → (x ≠ 2 → x ≠ 4 → exec (.instCmdReset 0 i) s = bad) ∧
      (x = 2 ∨ x = 4 → exec (.instCmdReset 0 i) s = .next (run (s.resetStart i false false) 2))) ∧
    ((x ≠ 2 ∨ (s.inst i).cmd ≠ 0) → exec (.instCmdFreeze 0 i) s = bad) ∧
    (x = 2 → (s.inst i).cmd = 0 → let cs := (s.chansOf i).filter fun c => s.b DMA_CTL_ENABLE c && !(s.b DMA_STAT_STOP_PENDING c)
      exec (.instCmdFreeze 0 i) s =
        .next ((cs.foldl State.dmaStop (run (s.setInst i { s.inst i with freezeAt := some s.now, frozenChans := cs }) 3)).suspendEntries i)) ∧
    ((x ≠ 4 ∨ (s.inst i).cmd ≠ 0) → exec (.instCmdThaw 0 i) s = bad ∧ exec (.instCmdSave 0 i) s = bad) ∧
    (x = 4 → (s.inst i).cmd = 0 →
      exec (.instCmdThaw 0 i) s = .next (fin ((s.setF INST_STAT_STATE i 0 2).unfreeze i) 0) ∧ exec (.instCmdSave 0 i) s = .next (run s 5)) ∧
    (x = 0 → exec (.instCmdDestroy 0 i) s = bad) ∧
    (x ≠ 0 → exec (.instCmdDestroy 0 i) s = .next (run (s.resetStart i false true) 7))) ∧
  (∀ (s : State) (i : Nat), 1 ≤ i → i ≤ 64 →
    (s.instState i = 0 → exec (.flr i) s = .next s) ∧
    (s.instState i ≠ 0 → exec (.flr i) s = .next (s.resetStart i false false)) ∧
    (let s1 := ({ s with fns := PMap.put s.fns i { s.fn i with vfEnable := false } } : State).setF INST_STAT_VF_ENABLED i 0 0
     exec (.vfEnableClear i) s = .next (if s1.instState i = 0 then s1 else s1.resetStart i true false)) ∧
    (let s1 (on : Bool) : State := { s with fns := PMap.put s.fns i { s.fn i with bme := on } }
     exec (.busMasterEnableChange i false) s = .next (s1 false) ∧
     exec (.busMasterEnableChange i true) s = .next ((s1 true).busMaster i)))

/-- The steps of a reset and a freeze, images, and mailboxes. With no reset, freeze, save or restore running their events change nothing. What
still runs is cut 2 ms after a reset's start and not before. A reset ends only when nothing of the instance runs; the manager is then
told, and the instance leaves RESETTING for FREE, READY or RUNNING; the end of a DESTROY releases the grant and unbinds its origins. A
freeze that is drained within 2 ms makes the instance FROZEN and ends OK; after 2 ms it is undone and ends BUSY. An image that is written
ends SAVE OK, one whose place does not translate XLATE_FAULT, and one whose translation must wait lets the command go on; a RESTORE whose
image does not translate likewise, one that is no image, or of another shape, PROTOCOL_ERROR. SEND into a full direction sets FULL, into
another adds the message; TAKE of an empty direction leaves the queues and stamps the time; a message untaken for its time sets TIMEOUT
and posts the event. The model's own choices and readings in it: log entries 2, 61, 62, 96. Rests on: R463, R465, R467, R470, R471, R473. -/
def Obligations.InstanceProgress : Prop :=
  (∀ (s : State) (i : Nat), let x := s.inst i
    let fin (t : State) (r : Nat) : State := ((t.setInst i { t.inst i with cmd := 0 }).setF INST_CMD_STAT_RUNNING i 0 0).setF INST_CMD_STAT_RESULT i 0 r
    (x.resetAt = none → exec (.instResetCut i) s = .next s ∧ exec (.instResetDrained i) s = .next s) ∧
    (∀ t, x.resetAt = some t →
      (s.now < t + 2000000 * 65536 → exec (.instResetCut i) s = .next s) ∧
      (t + 2000000 * 65536 ≤ s.now → let s1 := (s.chansOf i).foldl State.cutChan (s.rsySquash i)
        exec (.instResetCut i) s = .next (s1.setInst i { s1.inst i with cut := true })) ∧
      (s.nothingRuns i = false → exec (.instResetDrained i) s = .next s) ∧
      (s.nothingRuns i = true → i ≠ 0 → ∃ v : State, (v.inst i).resetAt = none ∧
        let n := v.notice i true 0x0002 []
        let d := n.setF INST_STAT_STATE i 0 (if x.destroyAfter then 0 else if x.endReady || !(n.fn i).vfEnable then 1 else 2)
        exec (.instResetDrained i) s = .next (if x.destroyAfter then (d.releaseGrant i).unbindLost.irqMode else d.irqEval))) ∧
    (x.freezeAt = none → exec (.freezeDrained i) s = .next s ∧ exec (.freezeTimeout i) s = .next s) ∧
    (∀ t, x.freezeAt = some t →
      (s.drained i = true → s.now ≤ t + 2000000 * 65536 →
        exec (.freezeDrained i) s = .next (fin ((s.setInst i { x with freezeAt := none }).setF INST_STAT_STATE i 0 4) 0)) ∧
      ((s.drained i = false ∨ t + 2000000 * 65536 < s.now) → exec (.freezeDrained i) s = .next s) ∧
      (s.now ≤ t + 2000000 * 65536 → exec (.freezeTimeout i) s = .next s) ∧
      (t + 2000000 * 65536 < s.now → exec (.freezeTimeout i) s = .next (fin (s.unfreeze i) 0x24))) ∧
    (x.cmd ≠ 5 → exec (.saveDone i) s = .next s) ∧
    (x.cmd = 5 → let va := s.f INST_IMG_ADDR_ADDR i
      (∀ u, s.writeV 0 va (imageBytes (s.saved i)) = .ok u → exec (.saveDone i) s = .next (fin u 0)) ∧
      (∀ e, s.writeV 0 va (imageBytes (s.saved i)) = .error e →
        exec (.saveDone i) s = .next (if e.reason = 0 then s else fin (s.useUp 0 e) 0x20))) ∧
    (x.cmd ≠ 6 → exec (.restoreDone i) s = .next s) ∧
    (x.cmd = 6 → let va := s.f INST_IMG_ADDR_ADDR i
      (∀ e, s.imageAt? va = .error e → exec (.restoreDone i) s = .next (if e.reason = 0 then s else fin (s.useUp 0 e) 0x20)) ∧
      (s.imageAt? va = .ok none → exec (.restoreDone i) s = .next (fin s 0x11)) ∧
      (∀ m, s.imageAt? va = .ok (some m) → s.sameShape i m = false → exec (.restoreDone i) s = .next (fin s 0x11)) ∧
      (∀ m, s.imageAt? va = .ok (some m) → s.sameShape i m = true →
        exec (.restoreDone i) s = .next (fin ((s.restore i m).setF INST_STAT_STATE i 0 4) 0)))) ∧
  (∀ (s : State) (i : Nat), 1 ≤ i → i ≤ 64 → let m := s.mbx i
    (s.serves 0 = true → s.resetting 0 = false →
      (16 ≤ m.toInst.length → exec (.mbxCmdSend 0 i) s = .next (s.setF MBX_STAT_FULL i 0 1)) ∧
      (m.toInst.length < 16 → exec (.mbxCmdSend 0 i) s = .next (s.mbxPush i false (leBytes 256 (s.f MBX_TX_DATA i)))) ∧
      (m.waitMgr = [] → exec (.mbxCmdTake 0 i) s =
        .next (s.setMbx i { m with toMgr := m.toMgr.drop 1, headMgr := s.now, waitMgr := [] }))) ∧
    (m.toMgr = [] → exec (.mbxTimeout i true) s = .next s) ∧
    (∀ a l, m.toMgr = a :: l →
      (s.now < m.headMgr + 65536000000 * s.f MBX_CTL_TMO_MS i → exec (.mbxTimeout i true) s = .next s) ∧
      (m.headMgr + 65536000000 * s.f MBX_CTL_TMO_MS i ≤ s.now →
        exec (.mbxTimeout i true) s = .next ((s.setF MBX_STAT_TIMEOUT (128 + i) 0 1).post 0x9 i))) ∧
    (∀ a l, m.toInst = a :: l → m.headInst + 65536000000 * s.f MBX_CTL_TMO_MS i ≤ s.now →
      exec (.mbxTimeout i false) s = .next ((s.setF MBX_STAT_TIMEOUT i 0 1).post 0x9 (i + 128))))

/-- Claims, completions, source signals, hold-off, storm windows, and writes of IRQ_PEND, IRQ_EN and IRQ_SRC_CFG. A CLAIM of the manager's
that finds nothing to claim reads 0; one that finds a source reads VALID and its number, takes it out of pending into service for the
target and starts its group's hold-off. A COMPLETE of a source not in service sets COMPLETE_ERR; of one in service of a target of the
writer ends the service. A signal that nothing raised, and a pulse whose origin is bound to no source, is lost. A hold-off ends when its
time has come. A storm window's end with no assertion counted changes nothing, and makes a source of its page that counted in an earlier
window count from zero. The manager's write of IRQ_PEND sets the bits that are 1 and clears those that are 0; with every bit 1 it makes
all 32 sources pending. An IRQ_EN write of 0 disables all 32. An IRQ_SRC_CFG of a free origin with a PRIO binds it. The model's own
choices and readings in it: log entries 2, 13, 63. Rests on: R478, R479, R480, R484, R485, R486, R487, R488, R489, R490. -/
def Obligations.Interrupts : Prop :=
  (∀ (s : State) (t k : Nat), s.serves 0x05 = true → s.fastOff 0x05 t = false → s.resetting 0 = false → 64 ≤ t → t ≤ 196 →
    (s.claimable t = none → exec (.irqClaim 0 t 4) s = .next { s with rdata := 0 }) ∧
    (s.claimable t = some k →
      let s1 := s.setSrc k { s.src k with pend := false, insvc := true, svc := t }
      let hold := s1.f IRQ_HOLDOFF_HOLD (k / 128) (k / 32 % 4)
      let s2 : State := if hold = 0 then s1 else { s1 with hold := PMap.put s1.hold (k / 32) (s1.now + 65536 * (64 * hold)) }
      exec (.irqClaim 0 t 4) s = .next { s2.irqEval with rdata := 2 ^ 31 + k }) ∧
    (k < 2 ^ 13 → ((s.src k).insvc = false →
        exec (.irqComplete 0 t k) s = .next (s.setF (tgtFld IRQ_TSTAT_COMPLETE_ERR) (tgtUnit t) (tgtIdx t) 1)) ∧
      ((s.src k).insvc = true → (s.src k).svc = 64 → exec (.irqComplete 0 t k) s =
        .next (State.irqDone ((s.setSrc k { s.src k with insvc := false }).relevel k) k)))) ∧
  (∀ (s : State) (kind u : Nat), kind ≠ 1 →
    (s.events.any (fun e => e.kind == kind && e.unit == u) = false → exec (.sourceSignal kind u) s = .next s) ∧
    (s.events.any (fun e => e.kind == kind && e.unit == u) = true → let s1 : State := { s with events := dropEv kind u s.events }
      (s1.srcOf kind u = none → exec (.sourceSignal kind u) s = .next s1) ∧
      (∀ k, s1.srcOf kind u = some k → exec (.sourceSignal kind u) s = .next (State.irqDone (s1.pulseSrc k) k)))) ∧
  (∀ (s : State) (g p w : Nat), (PMap.find s.hold g = none → exec (.holdoffExpiry g) s = .next s) ∧
    (∀ t, PMap.find s.hold g = some t →
      (s.now < t → exec (.holdoffExpiry g) s = .next s) ∧
      (t ≤ s.now → exec (.holdoffExpiry g) s = .next ({ s with hold := PMap.del s.hold g } : State).irqEval)) ∧
    (s.irq = [] → exec (.stormWindowEnd p) s = .next s) ∧
    (∀ k v, s.irq = [(k, v)] → k / 128 = p → v.asserts ≠ 0 → v.win ≠ s.stormWin p →
      exec (.stormWindowEnd p) s = .next (s.setSrc k { v with asserts := 0, win := s.stormWin p })) ∧
    (s.opens 0x05 p = true → p < 64 → w < 4 →
      exec (.irqPendWrite 0 p w (2 ^ 32 - 1)) s =
        .next ((s.each 32 fun s b => s.setSrc (128 * p + 32 * w + b) { s.src (128 * p + 32 * w + b) with pend := true }).irqEval) ∧
      exec (.irqEnWrite 0 p w 0) s =
        .next ((s.each 32 fun s b => s.setSrc (128 * p + 32 * w + b) { s.src (128 * p + 32 * w + b) with en := false }).irqEval))) ∧
  (∀ (s : State) (k v : Nat), k < 8192 → s.opens 0x05 (k / 128) = true → let n := srcWritten (s.src k) 2 v
    ((0xB < n.kind ∨ 64 < n.inst) → exec (.irqSrcCfgWrite 0 k 2 v) s = .next (s.errOn PAGE_ERR_RESERVED_ENC 0x05 (k / 128))) ∧
    (n.kind ≤ 0xB → n.inst ≤ 64 → s.bindBad k n = true → exec (.irqSrcCfgWrite 0 k 2 v) s = .next (s.err IRQ_ERR_BIND_BAD (k / 128))) ∧
    (n.kind ≤ 0xB → n.inst ≤ 64 → s.bindBad k n = false → n.sense ≠ 0 → exec (.irqSrcCfgWrite 0 k 2 v) s =
      .next (State.irqDone (s.setSrc k (if n.kind ≠ (s.src k).kind ∨ n.unit ≠ (s.src k).unit then { n with sig := s.signal n } else n), false) k)))

/-- Faults, takeover, nomination, retirement and winnowing. A detected fault of a unit that is not a unit of its kind, or whose domain is off,
changes nothing. A transient one is kept among those of the hour and leaves a CHECK_REPEAT record; the third within the hour also
nominates the unit, the first of a TRNG source does; corrections of memory are counted and leave no record until they nominate. A pseudo-
channel's first loss in a stack leaves a DEGRADED record for the stack and, where the whole stack goes, the loss of its lines. A permanent
fault with reserve left marks the unit failed and starts a takeover; with none left the unit is lost. The first and the second mismatch of
two copies within 1 ms are only noted, the third leaves the block on one copy. A takeover resumes and a nominated unit is retired only in
full service; the reserve unit comes into service and a record is written. Ageing samples come no more often than every 10 s and phase
samples than every 1 ms. Winnowing starts when WINNOW_H hours have passed; a reserve unit that fails it is marked failed and leaves the
reserve. The model's own choices and readings in it: log entries 2, 3, 66. Rests on: R494, R495, R496, R497, R498, R499, R501, R502, R506. -/
def Obligations.FaultsAndReserve : Prop :=
  (∀ (s : State) (kind dom u place : Nat) (tr : Bool),
    let w : Worn := { kind := kind, dom := dom, unit := u, place := place, cause := 1 }
    ((wornOk kind dom u = false ∨ s.domOn dom = false ∨ s.boot.phase = 0) → exec (.faultDetect kind dom u place tr) s = .next s) ∧
    (wornOk kind dom u = true → s.domOn dom = true → s.boot.phase ≠ 0 →
      (let s0 : State := if kind = 3 ∧ dom ≤ 8 then s.count (bankStook (dom - 1)) 0x82 0 none else if kind = 4 then s.count (bankStack u) 0x1C2 0 none else s
       let t : State := { s0 with rsv := { s0.rsv with trans := s0.transOf w ++ [{ w with at_ := s0.now }] } }
       let n := (t.rsv.trans.filter fun x => x.same w).length
       let drop (v : State) : State := { v with rsv := { v.rsv with trans := v.rsv.trans.filter fun x => !(x.same w) } }
       (kind ≠ 3 → kind ≠ 4 → kind ≠ 8 → n < 3 → exec (.faultDetect kind dom u place true) s = .next (t.rsvRecord 0xF4 w 1)) ∧
       (kind ≠ 3 → kind ≠ 4 → kind ≠ 8 → 3 ≤ n → exec (.faultDetect kind dom u place true) s =
         .next (let v := drop (t.rsvRecord 0xF4 w 1); v.nominate { w with cause := 4, at_ := v.now })) ∧
       (kind = 3 ∨ kind = 4 → (n < (if kind = 3 then 4 else 2) → exec (.faultDetect kind dom u place true) s = .next t) ∧
         ((if kind = 3 then 4 else 2) ≤ n → exec (.faultDetect kind dom u place true) s = .next ((drop t).nominate { w with cause := 3, at_ := t.now })))) ∧
      (kind = 8 → (3 < place ∨ bit s.boot.trng place = false) → exec (.faultDetect kind dom u place tr) s = .next s) ∧
      (kind = 8 → place ≤ 3 → bit s.boot.trng place = true →
        exec (.faultDetect kind dom u place false) s = .next (s.trngFail place) ∧
        (let h := (s.satF RNG_STAT_HEALTH_FAILS 0 0 1).err RNG_ERR_HEALTH 0
         let g := ({ h with rsv := { h.rsv with trans := h.transOf w ++ [{ w with at_ := h.now }] } } : State).rsvRecord 0xF4 w 1
         let t : State := { g with rsv := { g.rsv with trans := g.rsv.trans.filter fun x => !(x.same w) } }
         exec (.faultDetect kind dom u place true) s = .next (t.nominate { w with cause := 6, at_ := t.now }))) ∧
      (kind = 4 → exec (.faultDetect kind dom u place false) s = .next (s.nominate { w with cause := 3, at_ := s.now })) ∧
      (kind = 11 → 37 ≤ dom → dom ≤ 40 → (s.rsv.degraded.filter fun k => k / 2 ^ 20 == 2 ^ 20 + dom) = [] →
        let t := ({ s with rsv := { s.rsv with degraded := s.rsv.degraded ++ [2 ^ 40 + 2 ^ 20 * dom + u % 2 ^ 20] } } : State).rsvRecord 0xF6
          { w with kind := 4, unit := dom - 37 } 1
        exec (.faultDetect kind dom u place false) s = .next (if place = 0 then t else t.stackLost (dom - 37))) ∧
      (kind = 11 → (dom < 37 ∨ 40 < dom) → u ∉ s.rsv.degraded → exec (.faultDetect kind dom u place false) s =
        .next (({ s with rsv := { s.rsv with degraded := s.rsv.degraded ++ [u] } } : State).rsvRecord 0xF6 w 1)) ∧
      (3 ≤ kind → kind ≠ 4 → kind ≠ 8 → kind ≠ 11 → s.rsv.takes = [] →
        let s1 : State := { s with rsv := { s.rsv with noms := s.rsv.noms.filter fun x => !(x.same w) } }
        let s2 := s1.markFailed kind u place
        (s.rsvLeft kind u = 0 → exec (.faultDetect kind dom u place false) s = .next (s2.rsvLost w)) ∧
        (s.rsvLeft kind u ≠ 0 → s.rsvServes = true → let v : State := { s2 with rsv := { s2.rsv with takes := [{ w with at_ := s.now }] } }
          exec (.faultDetect kind dom u place false) s = .next (if kind = 5 then v.quadCut u else v))))) ∧
  (∀ (s : State) (blk u : Nat), let key := pageOf blk u; let d := domainOf blk u
    let old := s.rsv.mism.filter fun x => decide (s.now < x.2 + 65536000000)
    let t : State := { s with rsv := { s.rsv with mism := old ++ [(key, s.now)] } }
    ((unitListed blk u = false ∨ s.domOn d = false ∨ s.boot.phase = 0 ∨ key ∈ s.rsv.degraded) → exec (.dualCopyMismatch blk u) s = .next s) ∧
    (unitListed blk u = true → s.domOn d = true → s.boot.phase ≠ 0 → key ∉ s.rsv.degraded →
      ((old.filter fun x => x.1 == key).length < 2 → exec (.dualCopyMismatch blk u) s = .next t) ∧
      (2 ≤ (old.filter fun x => x.1 == key).length →
        let t1 : State := { t with rsv := { t.rsv with mism := t.rsv.mism.filter (fun x => x.1 != key), degraded := s.rsv.degraded ++ [key] } }
        exec (.dualCopyMismatch blk u) s = .next (t1.rsvRecord 0xF6 { kind := 11, dom := d, unit := blk * 4096 + u } 1)))) ∧
  (∀ (s : State) (kind u : Nat),
    let first (l : List Worn) := l.find? fun w => w.kind == kind && w.unit == u
    ((first s.rsv.takes = none ∨ s.rsvServes = false) → exec (.takeoverResume kind u) s = .next s) ∧
    (∀ w, first s.rsv.takes = some w → s.rsvServes = true →
      let t : State := { s with rsv := { s.rsv with takes := s.rsv.takes.erase w } }
      (s.rsvLeft kind u = 0 → exec (.takeoverResume kind u) s = .next (t.rsvLost w)) ∧
      (s.rsvLeft kind u ≠ 0 → kind ≠ 2 → exec (.takeoverResume kind u) s = .next ((t.rsvIn w true).rsvRecord 0xF0 w w.cause))) ∧
    ((first s.rsv.noms = none ∨ s.rsvServes = false) → exec (.retire kind u) s = .next s) ∧
    (∀ w, first s.rsv.noms = some w → s.rsvServes = true →
      let t : State := { s with rsv := { s.rsv with noms := s.rsv.noms.erase w } }
      (s.rsvLeft kind u = 0 → exec (.retire kind u) s = .next (t.rsvExhausted w w.cause)) ∧
      (s.rsvLeft kind u ≠ 0 → kind ≠ 4 → exec (.retire kind u) s = .next ((t.rsvIn w false).rsvRecord 0xF1 w w.cause)))) ∧
  (∀ (s : State) (x : Nat × Nat × Nat × Nat),
    ((s.boot.phase = 0 ∨ s.now < s.rsv.ageAt + 655360000000000) → exec (.ageingSample [x]) s = .next s) ∧
    (s.boot.phase ≠ 0 → s.rsv.ageAt + 655360000000000 ≤ s.now →
      let t : State := { s with rsv := { s.rsv with ageAt := s.now } }
      exec (.ageingSample []) s = .next t ∧
      (x.1 ∈ [1, 5, 6, 9] → wornOk x.1 x.2.1 x.2.2.1 = true → s.domOn x.2.1 = true → exec (.ageingSample [x]) s =
        .next (t.nominate { kind := x.1, dom := x.2.1, unit := x.2.2.1, place := x.2.2.2, cause := 2, at_ := s.now })))) ∧
  (∀ (s : State) (k p : Nat),
    ((s.boot.phase = 0 ∨ s.now < s.rsv.phaseAt + 65536000000) → exec (.phaseCurrentSample [(k, p)]) s = .next s) ∧
    (s.boot.phase ≠ 0 → s.rsv.phaseAt + 65536000000 ≤ s.now →
      exec (.phaseCurrentSample []) s = .next { s with rsv := { s.rsv with phaseAt := s.now, phaseOut := [] } } ∧
      (∀ t, k < 8 → p < 14 → s.rsv.phaseOut = [(k, p, t)] →
        let v : State := { s with rsv := { s.rsv with phaseAt := s.now, phaseOut := [(k, p, t)] } }
        (s.now < t + 65536000000000 → exec (.phaseCurrentSample [(k, p)]) s = .next v) ∧
        (t + 65536000000000 ≤ s.now → exec (.phaseCurrentSample [(k, p)]) s =
          .next (v.nominate { kind := 2, dom := 1 + k, unit := k, place := p, cause := 5, at_ := s.now }))))) ∧
  (∀ s : State, let due := s.rsv.winnowAt + 65536000000000 * (3600 * s.f SAGE_WINNOW_WINNOW_H)
    ((s.rsvServes = false ∨ s.now < due) → exec .winnowTimer s = .next s) ∧
    (s.rsvServes = true → due ≤ s.now → exec .winnowTimer s = .next { s with rsv := { s.rsv with winnowAt := s.now, winnowing := true } })) ∧
  (∀ (s : State) (u place : Nat) (ok : Bool),
    (s.boot.phase ≠ 3 → s.rsv.winnowing = false → exec (.winnowDone 5 u place ok) s = .next s) ∧
    (u < 24 → s.rsv.winnowing = true → s.rsv.failed = [] → exec (.winnowDone 5 u place true) s = .next s ∧
      (s.rsvLeft 5 u ≠ 0 → exec (.winnowDone 5 u place false) s =
        .next (((s.rsvUse 5 u).markFailed 5 u place).rsvRecord 0xF2 { kind := 5, dom := 9 + u, unit := u, place := place, cause := 7 } 7))))

/-- PWR_CMD, the drain and the entry, WAKE_N, and the steps of a supply failure. With the PWR page reached by the manager's writes: while an
entry or a drain runs every command ends as BUSY; a command that the service or the state does not allow ends as NOT_READY; IDLE from RUN
takes effect at once, RUN from IDLE does with wake source 6 enabled, and SLEEP, DSLEEP and OFF quiesce every instance and start the drain.
POWER_ENTRY does nothing until the drain holds and then runs the entry toward the drain's target with RESULT OK; DRAIN_TIMEOUT after
DRAIN_MS resumes acceptance with RESULT BUSY. WAKE_N leaves IDLE for RUN with its wake record, in RUN replaces the record of a higher
source that acted in the same nanosecond and else changes nothing, during a drain is kept for its end, and in OFF raises PWR_REQ. A supply
warning sets SUPPLY_LOW; a recovery within 500 microseconds clears it and counts a dip; otherwise the point of no return follows, the save
ends in OFF, and 10 ms later a restart is possible. The model's own choices and readings in it: log entries 2, 69, 70, 72. Rests on: R515,
R516, R518, R519, R521, R527, R583. -/
def Obligations.PowerStates : Prop :=
  (∀ s : State, s.opens 0x03 0 = true →
    let st := s.f PWR_STAT_STATE
    let busy := s.b PWR_STAT_ENTERING = true ∨ s.power.target.isSome = true
    let fin (t : State) (r : Nat) : State := t.setF PWR_STAT_RESULT 0 0 r
    let cmd (k : Nat) : Instr := if k = 0 then .pwrCmdRun 0 else if k = 1 then .pwrCmdIdle 0 else if k = 2 then .pwrCmdSleep 0
      else if k = 3 then .pwrCmdDsleep 0 else .pwrCmdOff 0
    (∀ k, k ≤ 4 → (busy → exec (cmd k) s = .next (fin s 0x24)) ∧
      (¬ busy → (s.f DEV_SERVICE_SERVICE ≠ 2 ∨ 1 < st ∨ k = st) → exec (cmd k) s = .next (fin s 0x22)) ∧
      (¬ busy → s.f DEV_SERVICE_SERVICE = 2 → st ≤ 1 → 2 ≤ k →
        exec (cmd k) s = .next { s.quiesceAll 1 with power := { s.power with target := some k, reload := false, drainAt := s.now, wake := none } })) ∧
    (¬ busy → s.f DEV_SERVICE_SERVICE = 2 → st = 0 → exec (.pwrCmdIdle 0) s = .next (fin (s.setF PWR_STAT_STATE 0 0 1) 0)) ∧
    (¬ busy → s.f DEV_SERVICE_SERVICE = 2 → st = 1 →
      (s.wakeOn 6 = false → exec (.pwrCmdRun 0) s = .next (fin s 0x22)) ∧
      (s.wakeOn 6 = true → exec (.pwrCmdRun 0) s = .next (fin ((s.wakeRecord (6, 0, 0, s.devTime) false 1).setF PWR_STAT_STATE 0 0 0) 0)))) ∧
  (∀ (s : State) (l : List (Nat × Nat × Nat)),
    ((s.power.target = none ∨ s.entryReady = false) → exec (.powerEntry l) s = .next s) ∧
    (∀ st, s.power.target = some st → s.entryReady = true →
      let t := { s with power := { s.power with target := none, reload := false, wake := none } }
      let e := ((t.powerDown st l).entryEnd st s.power.reload).setF PWR_STAT_RESULT 0 0 0
      exec (.powerEntry l) s = .next (if s.power.reload then e else e.wakeAfter s.power.wake)) ∧
    (let due := s.power.drainAt + 65536000000 * s.f PWR_CTL_DRAIN_MS
     ((s.power.target = none ∨ s.now < due) → exec .drainTimeout s = .next s) ∧
     (s.power.target.isSome = true → due ≤ s.now →
       let t : State := { s with power := { s.power with target := none, reload := false, wake := none } }
       exec .drainTimeout s = .next ((t.quiesceAll 0).setF PWR_STAT_RESULT 0 0 0x24)))) ∧
  (∀ s : State,
    (s.wakeOn 1 = false → exec .wakeN s = .next s) ∧
    (s.wakeOn 1 = true → s.power.target = none → s.f PWR_STAT_STATE = 0 → let from_ := s.f PWR_LAST_WAKE_FROM_STATE
      exec .wakeN s = .next (if 1 < s.f PWR_LAST_WAKE_SOURCE ∧ s.f PWR_WAKE_TIME_TIME / 2 ^ 16 = time96 s.devTime / 2 ^ 16 ∧ 1 ≤ from_ ∧ from_ ≤ 4 then
        s.wakeRecord (1, 0, 0, s.devTime) (s.b PWR_LAST_WAKE_DURING_ENTRY) from_ else s)) ∧
    (∀ st, s.wakeOn 1 = true → s.power.target = some st → s.power.wake = none → 1 ≤ st → st ≤ 4 →
      exec .wakeN s = .next { s with power := { s.power with wake := some (1, 0, 0, s.devTime) } }) ∧
    (s.wakeOn 1 = true → s.power.target = none → s.f PWR_STAT_STATE = 1 →
      exec .wakeN s = .next ((s.wakeRecord (1, 0, 0, s.devTime) false 1).setF PWR_STAT_STATE 0 0 0)) ∧
    (s.wakeOn 1 = true → s.power.target = none → (s.f PWR_STAT_STATE = 2 ∨ s.f PWR_STAT_STATE = 3) →
      exec .wakeN s = .next (s.powerExit (1, 0, 0, s.devTime) false)) ∧
    (s.wakeOn 1 = true → s.power.target = none → s.f PWR_STAT_STATE = 4 → s.power.wake = none →
      exec .wakeN s = .next ((({ s with power := { s.power with wake := some (1, 0, 0, s.devTime) } } : State).wakeRecord
        (1, 0, 0, s.devTime) false 4).emit (.pwrReq true)))) ∧
  (∀ s : State,
    ((s.powered = false ∨ s.b PWR_STAT_SUPPLY_LOW = true) → exec .supplyWarning s = .next s) ∧
    (s.powered = true → s.b PWR_STAT_SUPPLY_LOW = false → s.power.target = none →
      exec .supplyWarning s = .next { s.setF PWR_STAT_SUPPLY_LOW 0 0 1 with power := { s.power with lowAt := some s.now } }) ∧
    (s.power.lowAt = none → exec .supplyRecovery s = .next s ∧ exec .pointOfNoReturn s = .next s) ∧
    (∀ t, s.power.lowAt = some t → s.powered = true →
      (s.now < t + 32768000000 → exec .pointOfNoReturn s = .next s ∧ exec .supplyRecovery s =
        .next { (s.setF PWR_STAT_SUPPLY_LOW 0 0 0).satF PWR_CNT_DIP_COUNT 0 0 1 with power := { s.power with lowAt := none } }) ∧
      (t + 32768000000 ≤ s.now → exec .supplyRecovery s = .next s ∧
        (s.power.target = none → let e := (s.nrgLoss).setF PWR_LOSS_TIME_TIME 0 0 (time96 s.devTime)
         exec .pointOfNoReturn s = .next { e.setF PWR_STAT_SUPPLY_LOW 0 0 1 with power := { e.power with pnrAt := some e.now, why := 1 } }))) ∧
    ((s.power.pnrAt = none ∨ s.f PWR_STAT_STATE = 4) → exec .shutdownSaveDone s = .next s) ∧
    (s.power.pnrAt.isSome = true → s.f PWR_STAT_STATE ≠ 4 → exec .shutdownSaveDone s = .next (s.enterOff s.power.why)) ∧
    ((s.f PWR_STAT_STATE ≠ 4 ∨ s.power.why ≠ 1 ∨ s.now < s.power.offAt + 655360000000) → exec .supplyRestart s = .next s) ∧
    (s.f PWR_STAT_STATE = 4 → s.power.why = 1 → s.power.offAt + 655360000000 ≤ s.now → exec .supplyRestart s = .next s.startSupply))

/-- Phases of the regulators, throttling, the thermal trip, telemetry polls, demand intervals and tariff bands. A phase that fails in a stook
that is on, with a reserve phase left and full service, leaves one phase fewer, counts one throttle event and starts a takeover;
RESERVE_PHASE_IN brings the reserve phase in. A phase whose sense fails is nominated. Below 100 degrees a throttle tick, and from 98
degrees on a raise tick, only reports the temperature; otherwise the clock goes one step down, not below the floor, or up, not above 16. A
trip follows 110 degrees, or 105 with every stook at its floor, and nothing else. A telemetry poll reads STATUS_WORD and READ_PIN, twice
where it fails. A failed one counts, and the third one in a row marks the port's telemetry stale. Intervals close at their boundary; a
tariff band changes at its point and at a SET once device time is set; CLEAR_ACC and CLEAR_MAX clear what they name. The model's own
choices and readings in it: log entries 2, 66, 67, 68. Rests on: R151, R152, R528, R529, R531, R532, R533, R535, R536, R541. -/
def Obligations.RegulatorsHeatAndEnergy : Prop :=
  (∀ (s : State) (k p : Nat),
    ((8 ≤ k ∨ 14 ≤ p ∨ s.domOn (1 + k) = false ∨ s.powered = false) →
      exec (.phaseFail k p) s = .next s ∧ exec (.phaseSenseFail k p) s = .next s) ∧
    (k < 8 → p < 14 → s.domOn (1 + k) = true → s.powered = true →
      exec (.phaseSenseFail k p) s = .next (s.nominate { kind := 2, dom := 1 + k, unit := k, place := p, cause := 5, at_ := s.now }) ∧
      (s.rsvServes = true → s.f PWR_DOM_STAT_PHASE_RSV (1 + k) ≠ 0 → s.rsv.takes = [] →
        ∃ t, exec (.phaseFail k p) s = .next t ∧ t.rsv.takes = [{ kind := 2, dom := 1 + k, unit := k, place := p, cause := 1, at_ := s.now }] ∧
          t.f PWR_DOM_STAT_PHASES_OK (1 + k) = (s.f PWR_DOM_STAT_PHASES_OK (1 + k) - 1) % 16 ∧ k ∈ t.power.limited ∧
          t.f PWR_DOM_CNT_PHASE_THR_COUNT (1 + k) = min (s.f PWR_DOM_CNT_PHASE_THR_COUNT (1 + k) + 1) (2 ^ PWR_DOM_CNT_PHASE_THR_COUNT.w - 1) ∧
          t.sameMem s ∧ t.tasks = s.tasks)) ∧
    (let first := s.rsv.takes.find? fun w => w.kind == 2 && w.unit == k
     ((first = none ∨ s.rsvServes = false) → exec (.reservePhaseIn k) s = .next s) ∧
     (∀ w, first = some w → s.rsvServes = true → s.rsvLeft 2 k ≠ 0 →
       exec (.reservePhaseIn k) s = .next (({ s with rsv := { s.rsv with takes := s.rsv.takes.erase w } } : State).rsvIn w true)))) ∧
  (∀ (s : State) (k temp : Nat), temp < 256 →
    ((8 ≤ k ∨ s.domOn (1 + k) = false ∨ s.powered = false) →
      exec (.thermalThrottleTick k temp) s = .next s ∧ exec (.thermalRaiseTick k temp) s = .next s) ∧
    (k < 8 → s.domOn (1 + k) = true → s.powered = true →
      let t := s.tempIs (1 + k) temp
      let c := t.f PWR_DOM_STAT_CLOCK (1 + k)
      let hot := 100 ≤ sgn temp 8 ∧ t.f PWR_CTL_THERM_FLOOR < c ∧ (PMap.get t.power.stepAt k 0) + 6553600000 ≤ t.now
      let cool := sgn temp 8 < 98 ∧ c < 16 ∧ (PMap.get t.power.stepAt k 0) + 65536000000 ≤ t.now
      (hot → exec (.thermalThrottleTick k temp) s = .next (t.clockIs k (c - 1))) ∧ (¬ hot → exec (.thermalThrottleTick k temp) s = .next t) ∧
      (cool → exec (.thermalRaiseTick k temp) s = .next (t.clockIs k (c + 1))) ∧ (¬ cool → exec (.thermalRaiseTick k temp) s = .next t))) ∧
  (∀ (s : State) (d temp : Nat), temp < 256 →
    ((d = 0 ∨ 50 < d ∨ s.domOn d = false ∨ s.powered = false) → exec (.thermalTrip d temp) s = .next s) ∧
    (sgn temp 8 < 110 → (sgn temp 8 < 105 ∨ s.atFloor = false) → exec (.thermalTrip d temp) s = .next s) ∧
    (1 ≤ d → d ≤ 50 → s.domOn d = true → s.powered = true → (110 ≤ sgn temp 8 ∨ (105 ≤ sgn temp 8 ∧ s.atFloor = true)) →
      exec (.thermalTrip d temp) s = .next ((((s.tempIs d temp).err PWR_ERR_THERM_TRIP 0).noReturn 2).emit (.pwrReq false)))) ∧
  (∀ (s : State) (n st pin : Nat) (ok : Bool),
    (s.telemeters n = false → exec (.telemetryPoll n st pin ok) s = .next s) ∧
    (s.telemeters n = true → (s.pwr n).polled = 0 →
      let v := (s.pmReading n).pmReading n
      ((s.pwr n).fails < 2 → exec (.telemetryPoll n st pin false) s =
        .next (v.setPwr n { s.pwr n with polled := s.now, fails := (s.pwr n).fails + 1 })) ∧
      (2 ≤ (s.pwr n).fails → exec (.telemetryPoll n st pin false) s =
        .next (((((v.setPwr n { s.pwr n with polled := s.now, fails := (s.pwr n).fails + 1 }).setF KHUB_PWR_STAT_TELEMETRY_STALE 0 n 1).nrgEstimate n true)).nrgMissed n)) ∧
      (s.b KHUB_PWR_MAP_SEG 0 n = false → let t := (((s.pmReading n).setPwr n { s.pwr n with polled := s.now, fails := 0 }).setF KHUB_PWR_STAT_PIN 0 n pin).setF KHUB_PMB_STAT_SEG0_FAULT 0 0 0
        let u := (t.setF KHUB_PWR_STAT_TELEMETRY_STALE 0 n 0).setF KHUB_PWR_STAT_PG 0 n (if bit st 11 then 0 else 1)
        exec (.telemetryPoll n st pin true) s = .next (((u.nrgEstimate n false).nrgSample n (pin % 65536)).switchFault n st)))) ∧
  (∀ (s : State) (n : Nat) (x : NrgSt),
    (s.nrgs = [] → exec .demandIntervalEnd s = .next s) ∧
    (s.nrgs = [(n, x)] → let b := s.nextDemand s.devTime - 65536000000000 * s.demandLen
      (x.isOpen = true → x.last = none → x.start < b → exec .demandIntervalEnd s = .next ((s.nrgClose n b false).nrgOpen n b false)) ∧
      ((x.isOpen = false ∨ x.last.isSome = true ∨ b ≤ x.start) → exec .demandIntervalEnd s = .next s))) ∧
  (∀ (s : State) (v : Nat),
    let point := s.tariffPoints.find? fun p => p.1 == s.timeOfDay s.devTime
    ((point = none ∨ s.b TIME_STAT_SET_ONCE = false) → exec .tariffPoint s = .next s) ∧
    (∀ p, point = some p → s.b TIME_STAT_SET_ONCE = true → exec .tariffPoint s = .next ((s.setBand s.devTime p.2).bandHeld false)) ∧
    (s.opens 0x03 0 = true → (s.b TIME_STAT_SET_ONCE = false → exec (.pwrTariffSet 0 v) s = .next s) ∧
      (s.b TIME_STAT_SET_ONCE = true → v < 4 → exec (.pwrTariffSet 0 v) s = .next ((s.setBand s.devTime v).bandHeld true)))) ∧
  (∀ (s : State) (n : Nat), s.opens 0x04 n = true →
    exec (.nrgCmdClearAcc 0 n) s =
      .next ((((s.setF NRG_ACC_UJ n 0 0).setF NRG_ACC_UJ n 1 0).setF NRG_ACC_UJ n 2 0).setF NRG_ACC_UJ n 3 0) ∧
    exec (.nrgCmdClearMax 0 n) s = .next ((s.setF NRG_MAX_AVG_MW n 0 0).setF NRG_MAX_START_SEC n 0 0))

/-- Counter writes and overflow, the gatherer, the sampler's countdown and the Gleaner's triggers, tokens and records. A write of PMC_CNT by
the manager replaces the count at once. An enabled counter that stands at all ones sets its overflow bit and goes on from RELOAD or 0; any
other one does not overflow. The gatherer does nothing before its period is over; while the last snapshot is still being written it counts
a skip; otherwise it writes the slot and raises TAG, or sets FAULT where the write meets a translation fault, and tries again where the
translation must wait. A countdown at zero draws a new one and tags the next instruction, or counts a loss with four tags taken. A
software trigger of a code that is not valid or is one of the codes of the reserve does nothing; one of a valid code that takes no record
counts as pending. A token is added when PERIOD_US has passed, up to BURST. The oldest record not yet written goes to its ring with its
number. The model's own choices and readings in it: log entries 2, 64, 99, 100. Rests on: R544, R546, R548, R549, R550, R552, R553, R554,
R560. -/
def Obligations.CountersAndGleaner : Prop :=
  (∀ (s : State) (b c v : Nat),
    (16 ≤ c → exec (.pmcCntWrite 0 b c v) s = .next s) ∧
    (c < 16 → s.opens 0x07 b = true → exec (.pmcCntWrite 0 b c v) s = .next (s.setF PMC_CNT_COUNT b c v)) ∧
    ((s.f PMC_CNT_COUNT b c ≠ 2 ^ 48 - 1 ∨ s.b PMC_EVSEL_EN b c = false ∨ pmcCounters b ≤ c) → exec (.counterOverflow b c) s = .next s) ∧
    (s.live 0x07 b = true → c < pmcCounters b → s.b PMC_EVSEL_EN b c = true → s.f PMC_CNT_COUNT b c = 2 ^ 48 - 1 →
      let t := s.setF PMC_OVF_BITS b 0 (setBit (s.f PMC_OVF_BITS b) c)
      let u := t.setF PMC_CNT_COUNT b c (if t.b PMC_EVSEL_RELOAD_EN b c then t.f PMC_RELOAD_VALUE b else 0)
      exec (.counterOverflow b c) s =
        .next ((if u.b PMC_EVSEL_OVF_EN b c then u.post 0xA b else u).glnKind 2 (b + 256 * c) (b + 256 * c)))) ∧
  (∀ s : State,
    ((s.domOn 48 = false ∨ s.b PMC_G_CTL_EN = false ∨ s.now < s.gatherNext) → exec .gathererSnapshot s = .next s) ∧
    (s.domOn 48 = true → s.b PMC_G_CTL_EN = true → s.gatherNext ≤ s.now →
      let t : State := { s with gatherNext := s.gatherNext + 65536000 * s.f PMC_G_CTL_PERIOD_US }
      (s.now < s.gatherBusy → exec .gathererSnapshot s = .next (t.satF PMC_G_STAT_SKIPPED 0 0 1)) ∧
      (s.gatherBusy ≤ s.now →
        let tag := t.f PMC_G_TAG_TAG + 1
        let data := leBytes 8 tag ++ leBytes 12 (time96 t.devTime) ++ leBytes 2 t.gatherSet.length ++ leBytes 2 0 ++
          leBytes 8 (t.f DEV_EPOCH_EPOCH) ++ leBytes 32 0 ++ t.gatherSet.flatMap t.gatherBank
        let va := t.f PMC_G_BASE_ADDR + (tag - 1) % t.f PMC_G_RING_SLOTS * data.length
        (∀ e, t.writeV 0 va data = .error e →
          exec .gathererSnapshot s = .next (if e.reason = 0 then s else (t.useUp 0 e).setF PMC_G_STAT_FAULT 0 0 1)) ∧
        (∀ u, t.writeV 0 va data = .ok u → exec .gathererSnapshot s =
          .next (({ u with gatherBusy := u.now + 65536 * (data.length / 4) } : State).setF PMC_G_TAG_TAG 0 0 tag))))) ∧
  (∀ (s : State) (h : Nat),
    ((s.b PMC_S_CTL_EN = false ∨ bit (s.f PMC_S_SHEAVES_BITS) h = false ∨ PMap.find s.sampleCnt h ≠ some 0) →
      exec (.sampleCountdown h) s = .next s) ∧
    (s.b PMC_S_CTL_EN = true → bit (s.f PMC_S_SHEAVES_BITS) h = true → PMap.find s.sampleCnt h = some 0 →
      let t := s.sampleDraw h
      (4 ≤ (s.tags.filter fun g => g.sheaf == h).length → exec (.sampleCountdown h) s = .next (t.satF PMC_S_STAT_LOST 0 0 1)) ∧
      ((s.tags.filter fun g => g.sheaf == h).length < 4 → exec (.sampleCountdown h) s =
        .next { t with tagNext := h :: s.tagNext.filter fun x => x != h }))) ∧
  (∀ (s : State) (code arg : Nat), code < 256 → arg < 2 ^ 56 → s.opens 0x06 0 = true →
    let c := s.glnCode code
    ((c.valid = false ∨ (0xF0 ≤ code ∧ code ≤ 0xF7)) → exec (.glnTrig 0 code arg) s = .next s) ∧
    (c.valid = true → (code < 0xF0 ∨ 0xF7 < code) →
      (s.glnTakes code = false → exec (.glnTrig 0 code arg) s = .next (s.setGln code { c with pending := min (c.pending + 1) 0xFFFFFFFF })) ∧
      (s.glnTakes code = true → ∃ t n, exec (.glnTrig 0 code arg) s = .next t ∧ n = s.f GLN_SEQ_SEQ + s.glnRecs.length + 1 ∧
        t.glnRecs = s.glnRecs ++ [{ seq := n, code := code, bytes := s.glnBody code true 0 arg [], at_ := s.now }] ∧
        (t.glnCode code).pending = 0 ∧ (t.glnCode code).count = (c.count + 1) % 2 ^ 32 ∧
        (t.glnCode code).tokens = (if c.period = 0 then c.tokens else c.tokens - 1) ∧ t.sameMem s ∧ t.regs = s.regs))) ∧
  (∀ (s : State) (code : Nat), let c := s.glnCode code
    ((c.period = 0 ∨ s.now < c.tokenAt + 65536000 * c.period) → exec (.gleanerToken code) s = .next s) ∧
    (c.period ≠ 0 → c.tokenAt + 65536000 * c.period ≤ s.now → exec (.gleanerToken code) s =
      .next (s.setGln code { c with tokens := min (c.tokens + 1) c.burst, tokenAt := c.tokenAt + 65536000 * c.period }))) ∧
  (∀ s : State,
    ((s.domOn 48 = false ∨ s.glnRecs = []) → exec .gleanerRecordWrite s = .next s) ∧
    (∀ r rs, s.domOn 48 = true → s.glnRecs = r :: rs →
      let t : State := { (s.store (s.glnSlot r.seq) (leBytes 8 (2 * r.seq + 1) ++ r.bytes)).setF GLN_SEQ_SEQ 0 0 r.seq with glnRecs := rs }
      ((t.glnCode r.code).evEn = false → s.f GLN_CTL_EV_CNT = 0 → exec .gleanerRecordWrite s = .next t) ∧
      ((t.glnCode r.code).evEn = true → s.f GLN_CTL_EV_CNT = 0 → exec .gleanerRecordWrite s = .next (t.post 0xB 0))))

/-- Frames of the Drueg chain, its links and walks, and DCH_CMD. While the chain port does not run no frame does anything; a damaged frame is
only counted. A WALK from downstream is not taken; one from upstream is two heads on the head and otherwise gives the unit the next
address up to 32, which it sends on downstream or answers with WALK_END. WALK_END at the head closes the walk under way. LEVEL_SET for the
unit sets the chain level. JOIN at the head starts a walk. WAKE for the unit is counted in RUN. A MSG for the unit at the chain level is
queued, or dropped with eight held. A frame for another address is repeated where the other link is up. A quiet pair beats after 4
microseconds, for 0.8 microseconds; 10 microseconds without a transition clear the link bit, a transition sets it. 10 ms without WALK_END
end the walk with CHAIN_BREAK. TAKE frees the head of the queue, SEND of an inadmissible frame sets RESERVED_ENC, WAKE sends a WAKE frame,
RELOAD starts the drain or ends as NOT_READY. The model's own choices and readings in it: log entries 2, 76. Rests on: R563, R564, R565,
R566, R567, R569, R570, R571, R573, R574. -/
def Obligations.DruegChain : Prop :=
  (∀ (s : State) (up : Bool) (f : List (BitVec 8)),
    let frame (k : Nat) : Instr := if k = 1 then .walk up f else if k = 2 then .walkEnd up f else if k = 3 then .levelSet up f
      else if k = 4 then .join up f else if k = 5 then .wake up f else if k = 6 then .msg up f else .chainFrameRepeat up f
    let s1 : State := { s with chain := if up then { s.chain with upRx := s.now } else { s.chain with downRx := s.now } }
    (s.chainRuns = false → ∀ k, exec (frame k) s = .next s) ∧
    (s.chainRuns = true → chainOk f = false →
      (cType f = 1 → exec (.walk up f) s = .next (s1.satF DCH_CNT_CRC_COUNT 0 0 1)) ∧
      (∀ k, 2 ≤ k → k ≤ 5 → cType f = k → s.chainMine f = true → exec (frame k) s = .next (s1.satF DCH_CNT_CRC_COUNT 0 0 1))) ∧
    (s.chainRuns = true → chainOk f = true → cType f = 1 → cLvl f = 0 →
      (up = false → exec (.walk up f) s = .next s1) ∧
      (up = true → s.isHead = true → exec (.walk up f) s = .next (s1.err DCH_ERR_TWO_HEADS 0)) ∧
      (up = true → s.isHead = false →
        let a := cArg f 0 + 1
        let lvl := min (cArg f 1) s1.effLvl
        (a ≤ 32 → let t := (s1.takeAddr a).setF DCH_STAT_OVERFLOW 0 0 0
          exec (.walk up f) s = .next (if t.b DCH_STAT_DOWN_LINK then t.chainSend false 0 0 0x01 (leBytes 1 a ++ leBytes 1 lvl)
            else t.chainSend true 1 0 0x02 (leBytes 1 a ++ leBytes 1 lvl ++ leBytes 1 0))) ∧
        (32 < a → exec (.walk up f) s = .next (((s1.takeAddr 0).setF DCH_STAT_OVERFLOW 0 0 1).chainSend true 1 0 0x02
          (leBytes 1 32 ++ leBytes 1 lvl ++ leBytes 1 1))))) ∧
    (s.chainRuns = true → chainOk f = true → cLvl f = 0 → s.isHead = true → cDst f = 1 →
      (cType f = 2 → s.chain.walkAt = none → exec (.walkEnd up f) s = .next s1) ∧
      (cType f = 2 → s.chain.walkAt.isSome = true → s.chain.again = false →
        let t := s1.walkResult (cArg f 0) (cArg f 1) (bit (cArg f 2) 0)
        t.chain.again = false → exec (.walkEnd up f) s =
          .next { t.setF DCH_STAT_WALKING 0 0 0 with chain := { t.chain with walkAt := none, again := false } }) ∧
      (cType f = 4 → s.chain.walkAt = none → exec (.join up f) s = .next s1.walkGo) ∧
      (cType f = 4 → s.chain.walkAt.isSome = true → exec (.join up f) s = .next { s1 with chain := { s1.chain with again := true } })) ∧
    (s.chainRuns = true → chainOk f = true → s.chainAddr ≠ 0 → cDst f = s.chainAddr → cDst f ≠ 0xFF →
      (cLvl f = 0 → cType f = 3 → exec (.levelSet up f) s = .next (s1.applyLvl (cArg f 0 % 16))) ∧
      (cLvl f = 0 → cType f = 5 → s.f PWR_STAT_STATE = 0 → s.power.target = none →
        exec (.wake up f) s = .next (s1.satF DCH_CNT_WAKE_IGNORED_COUNT 0 0 1)) ∧
      (cLvl f = 0 → cType f = 5 → (s.f PWR_STAT_STATE ≠ 0 ∨ s.power.target.isSome = true) → exec (.wake up f) s = .next (s1.wakeBy 2 0 0)) ∧
      (chainGated (cType f) = true → cLvl f = s.f DCH_STAT_LVL →
        (8 ≤ s.chain.rx.length → exec (.msg up f) s = .next (s1.satF DCH_CNT_RX_DROP_COUNT 0 0 1)) ∧
        (s.chain.rx.length < 8 → let t : State := { s1 with chain := { s1.chain with rx := s.chain.rx ++ [f] } }
          exec (.msg up f) s = .next (t.rxShow.err DCH_ERR_RX_MSG 0)))) ∧
    (s.chainRuns = true → chainOk f = true → cLvl f = 0 → 2 ≤ cType f → cType f ≤ 5 → s.chainMine f = false →
      let other := s.b (if up then DCH_STAT_DOWN_LINK else DCH_STAT_UP_LINK)
      (other = true → exec (.chainFrameRepeat up f) s = .next (s1.chainPass (!up) f)) ∧
      (other = false → exec (.chainFrameRepeat up f) s = .next s1))) ∧
  (∀ s : State,
    (s.chainRuns = false → exec (.linkBeat true) s = .next s ∧ exec (.chainLinkLoss true) s = .next s ∧ exec (.chainLinkGain true) s = .next s) ∧
    (s.chainRuns = true →
      let t := s.now + 52428800
      (s.chain.upQ = [] → s.chain.upTx + 262144000 ≤ s.now →
        exec (.linkBeat true) s = .next ((s.setChain { s.chain with upTx := t, upEnd := t }).emit (.beat true))) ∧
      (s.chain.downQ = [] → s.chain.downTx + 262144000 ≤ s.now →
        exec (.linkBeat false) s = .next ((s.setChain { s.chain with downTx := t, downEnd := t }).emit (.beat false))) ∧
      ((s.now < s.chain.upTx + 262144000 ∨ s.chain.upQ ≠ []) → exec (.linkBeat true) s = .next s) ∧
      (s.chain.upRx + 655360000 ≤ s.now → exec (.chainLinkLoss true) s = .next (s.setF DCH_STAT_UP_LINK 0 0 0)) ∧
      (s.chain.downRx + 655360000 ≤ s.now → exec (.chainLinkLoss false) s = .next (s.setF DCH_STAT_DOWN_LINK 0 0 0)) ∧
      (s.now < s.chain.upRx + 655360000 → exec (.chainLinkLoss true) s = .next s) ∧
      (let t : State := { s.setF DCH_STAT_UP_LINK 0 0 1 with chain := { s.chain with upRx := s.now } }
       exec (.chainLinkGain true) s = .next (if s.b DCH_STAT_UP_LINK then t else t.join)) ∧
      (let t : State := { s.setF DCH_STAT_DOWN_LINK 0 0 1 with chain := { s.chain with downRx := s.now } }
       exec (.chainLinkGain false) s = .next (if s.b DCH_STAT_DOWN_LINK then t else t.walkStart))) ∧
    (s.chain.walkAt = none → exec .walkTimeout s = .next s) ∧
    (∀ t, s.chain.walkAt = some t →
      (s.now < t + 655360000000 → exec .walkTimeout s = .next s) ∧
      (t + 655360000000 ≤ s.now → s.chainRuns = true → exec .walkTimeout s = .next ((s.err DCH_ERR_CHAIN_BREAK 0).walkOver State.walkGo)))) ∧
  (∀ (s : State) (d : Nat), s.opens 0x09 0 = true →
    (s.isHead = false → exec (.dchCmdWalk 0) s = .next s) ∧
    (s.isHead = true → s.chain.walkAt = none → exec (.dchCmdWalk 0) s = .next s.walkGo) ∧
    (exec (.dchCmdTake 0) s = .next ({ s with chain := { s.chain with rx := s.chain.rx.drop 1 } } : State).rxShow) ∧
    (chainDst d = false → exec (.dchCmdWake 0 d) s = .next (s.errOn PAGE_ERR_RESERVED_ENC 0x09 0)) ∧
    (chainDst d = true → (s.isHead = true ∨ s.chain.hadAddr = true) → exec (.dchCmdWake 0 d) s = .next (s.chainTo d 0 0x05 [])) ∧
    (chainDst d = true → s.isHead = false → s.chain.hadAddr = false → exec (.dchCmdWake 0 d) s = .next s) ∧
    (let ty := s.f DCH_TX_HDR_TYPE; let dst := s.f DCH_TX_HDR_DST; let lvl := s.f DCH_STAT_LVL
     ((s.chainAddr = 0 ∨ chainDst dst = false ∨ chainGated ty = false ∨ (ty = 0x10 ∧ lvl = 0)) →
       exec (.dchCmdSend 0) s = .next (s.errOn PAGE_ERR_RESERVED_ENC 0x09 0)) ∧
     (s.chainAddr ≠ 0 → chainDst dst = true → ty = 0x10 → 1 ≤ lvl → exec (.dchCmdSend 0) s =
       .next (s.chainTo dst lvl ty ((leBytes 64 (s.f DCH_TX_DATA)).take (s.f DCH_TX_HDR_LEN))))) ∧
    ((1 < s.f PWR_STAT_STATE ∨ s.f DEV_SERVICE_SERVICE ≠ 2 ∨ s.power.target.isSome = true) →
      exec (.dchCmdReload 0) s = .next (s.setF PWR_STAT_RESULT 0 0 0x22)) ∧
    (s.f PWR_STAT_STATE ≤ 1 → s.f DEV_SERVICE_SERVICE = 2 → s.power.target = none → exec (.dchCmdReload 0) s =
      .next { s.quiesceAll 1 with power := { s.power with target := some 3, reload := true, drainAt := s.now, wake := none } }))

/-- POR_N, the boot image, entropy, seedling and full service, REFCLK and the rails. POR_N low brings every register to its reset value and
leaves host memory, the repair map and the pins, from every state. Its release acts only while POR_N is low and then samples the straps
and starts up. In the boot both copies of the directory are read; of two whose CRC holds the later one counts, of one it alone. The slot
it names runs if its image passes its checks; else the other one, with BOOT_FALLBACK; else the device is in RECOVERY. Entropy is ready
with two or more good sources, three at most in service. Seedling service follows the boot with 32 sheaves and full service follows that
with 64. REFCLK lost while powered brings the point of no return; its return restarts a device that it had put in OFF. The rails in
tolerance start a device in OFF for the wake source that acted. The model's own choices and readings in it: log entries 2, 11, 73, 74.
Rests on: R583, R585, R587, R588, R595, R597, R598, R600, R601. -/
def Obligations.StartUp : Prop :=
  (∀ s : State, ∃ t, exec .porNAssert s = .next t ∧ t.boot.phase = 0 ∧ t.regs = [] ∧ t.shadow = [] ∧ t.tasks = [] ∧ t.irq = [] ∧ t.gln = [] ∧
    t.chain = {} ∧ t.devTime = 0 ∧ t.now = s.now ∧ t.mem = s.mem.filter (fun (c : Host.Cell) => decide (c.1 < 2 ^ 70)) ∧
    t.rsv.failed = s.rsv.failed ∧ t.boot.slots = s.boot.slots ∧ t.boot.dirs = s.boot.dirs ∧ t.boot.perst = s.boot.perst) ∧
  (∀ (s : State) (lead head : Nat),
    ((s.boot.phase ≠ 0 ∨ s.f PWR_STAT_STATE = 4) → exec (.porNRelease lead head) s = .next s) ∧
    (s.boot.phase = 0 → s.f PWR_STAT_STATE ≠ 4 → exec (.porNRelease lead head) s =
      .next ((((s.setF DEV_STRAPS_LEAD_HOST 0 0 lead).setF DEV_STRAPS_DCH_HEAD 0 0 head).setF DCH_STAT_HEAD 0 0 head).startUp 0))) ∧
  (∀ (s : State) (c0 c1 : List (BitVec 8)) (a b : Image) (l : List Nat), s.boot.slots = [] →
    let run : Instr := .imageAccepted (c0, c1) a b l
    let d := s.boot.dirs.getD (s.directory c0 c1)
    let r := (({ s.bump.bump with boot := { s.boot with dir := d } } : State).flashRead 0 0x1000).flashRead 0x1000 0x1000
    (s.boot.phase ≠ 1 → exec run s = .next s) ∧
    (s.boot.phase = 1 → d.1 = 0 → let v := r.imageRead 0 a
      (v.imageOk a = true → exec run s = .next (v.imageRuns 0 a l)) ∧
      (v.imageOk a = false → let t := (v.err SAGE_ERR_BOOT_FALLBACK 0).imageRead 1 b
        (t.imageOk b = true → exec run s = .next ((t.setF SAGE_STAT_FALLBACK 0 0 1).imageRuns 1 b l)) ∧
        (t.imageOk b = false → exec run s = .next { t.setF SAGE_STAT_BOOT 0 0 3 with boot := { t.boot with phase := 5 } }))) ∧
    (s.boot.phase = 1 → d.1 = 1 → (r.imageRead 1 b).imageOk b = true → exec run s = .next ((r.imageRead 1 b).imageRuns 1 b l)) ∧
    (∀ x y, dirOf c0 = some x → dirOf c1 = some y → s.directory c0 c1 = if later y.2 x.2 32 then y else x) ∧
    (∀ x, (dirOf c0 = some x → dirOf c1 = none → s.directory c0 c1 = x) ∧ (dirOf c0 = none → dirOf c1 = some x → s.directory c0 c1 = x))) ∧
  (∀ (s : State) (src : Nat),
    let good := (List.range 4).filter fun k => bit src k && bit s.boot.trng k
    ((s.boot.phase = 0 ∨ good.length < 2 ∨ s.b DEV_SERVICE_ENTROPY_READY = true ∨ s.b RNG_STAT_STARVED = true) → exec (.entropyReady src) s = .next s) ∧
    (s.boot.phase ≠ 0 → 2 ≤ good.length → s.b DEV_SERVICE_ENTROPY_READY = false → s.b RNG_STAT_STARVED = false →
      ∃ t, exec (.entropyReady src) s = .next t ∧ t.boot.trng = good.foldl setBit 0 ∧
        t.b DEV_SERVICE_ENTROPY_READY = true ∧ t.b RNG_STAT_READY = true ∧ t.f RNG_OUT_STATUS = 0 ∧ t.f RNG_STAT_SRC_OK = (good.take 3).foldl setBit 0 ∧
        t.boot.seedAt = s.now ∧ t.sameMem s ∧ t.tasks = s.tasks)) ∧
  (∀ (s : State) (cfg : List (Nat × Nat)),
    let ports (t : State) (k : State → Nat → State) (all : Bool) : State := t.each 96 fun s n =>
      if s.quadMode (n / 4) == 1 && !(s.absent 0x30 n) && (all || s.b KRP_CTL_ENABLE n) then k s n else s
    (s.boot.phase ≠ 2 → exec (.seedlingService cfg) s = .next s) ∧
    (s.boot.phase = 2 →
      let t := (((restDoms.foldl State.domUp s).imageConfig cfg).setF DEV_SERVICE_SERVICE 0 0 1).setF DEV_SERVICE_SHEAVES 0 0 32
      exec (.seedlingService cfg) s = .next (ports { t with boot := { t.boot with phase := 3 } } (fun s n => s.linkEnable n true) false)) ∧
    (s.boot.phase ≠ 3 → exec .fullService s = .next s) ∧
    (s.boot.phase = 3 →
      let t := (s.setF DEV_SERVICE_SERVICE 0 0 2).setF DEV_SERVICE_SHEAVES 0 0 64
      exec .fullService s = .next (ports { t with boot := { t.boot with phase := 4 }, rsv := { t.rsv with winnowAt := s.now } } State.linkSeed true))) ∧
  (∀ s : State, let gone (g : Bool) : State := { s with boot := { s.boot with refGone := g } }
    (s.powered = false → exec .refclkLoss s = .next (gone true)) ∧
    (s.powered = true → exec .refclkLoss s = .next ((gone true).noReturn 3)) ∧
    ((s.f PWR_STAT_STATE ≠ 4 ∨ s.power.why ≠ 3) → exec .refclkReturn s = .next (gone false)) ∧
    (s.f PWR_STAT_STATE = 4 → s.power.why = 3 → exec .refclkReturn s = .next (gone false).startSupply) ∧
    ((s.power.wake = none ∨ s.f PWR_STAT_STATE ≠ 4 ∨ s.boot.refGone = true) → exec .railsInTolerance s = .next s) ∧
    (∀ w, s.power.wake = some w → s.f PWR_STAT_STATE = 4 → s.boot.refGone = false → exec .railsInTolerance s = .next (s.startUp w.1)))

/-- SAGE_FL_CMD, the flash's programming, RNG_OUT, reseeds and a source that fails. While a flash command runs another one ends as BUSY with
FL_FAIL. WRITE of an image that fails its checks ends as BAD_ARGUMENT with FL_FAIL; of a good one it erases and programs the slot that
ACTIVE does not name and runs until that is done, which reads the slot back and writes both copies of the directory to name it, or ends
with FL_FAIL where the digest does not hold. COMMIT_SVN raises SVN_MIN to the running image's SVN and never lowers it. RESTART acts in
RECOVERY alone. A read of RNG_OUT of another size than 16 bytes gives 0 and takes nothing; of 16 bytes it gives NOT_READY before entropy
and fresh output after it. RESEED and the reseed timer reseed with two sources in service and starve with fewer. A source that fails its
health test is counted, leaves the sources in service and its reserve is to take over. The model's own choices and readings in it: log
entries 2, 73, 74, 97. Rests on: R596, R601, R602. -/
def Obligations.FlashAndEntropy : Prop :=
  (∀ s : State, s.opens 0x02 0 = true →
    let busy : State := (s.setF SAGE_FL_STAT_RESULT 0 0 0x24).err SAGE_ERR_FL_FAIL 0
    let ends (t : State) (r : Nat) : State := ({ t with boot := { t.boot with writing := none } }.setF SAGE_FL_STAT_RUNNING 0 0 0).setF SAGE_FL_STAT_RESULT 0 0 r
    let data := (List.range (s.f SAGE_FL_LEN_BYTES)).map fun i => s.byte (hostAt (s.f SAGE_FL_ADDR_ADDR + i))
    let m := flashImage data
    let p := s.flashProgram (slotAt (1 - s.boot.dir.1 % 2)) 0x400000 data
    let v := max (s.f SAGE_SEC_SVN_MIN) (s.f SAGE_SEC_SVN)
    (s.b SAGE_FL_STAT_RUNNING = true → exec (.sageFlCmdWrite 0) s = .next busy ∧ exec (.sageFlCmdRestart 0) s = .next busy ∧
      exec (.sageFlCmdCommitSvn 0) s = .next busy) ∧
    (s.b SAGE_FL_STAT_RUNNING = false →
      (s.imageOk m = true → exec (.sageFlCmdWrite 0) s =
        .next { p.setF SAGE_FL_STAT_RUNNING 0 0 1 with boot := { p.boot with writing := some m } }) ∧
      (s.imageOk m = false → exec (.sageFlCmdWrite 0) s = .next ((ends s 0x11).err SAGE_ERR_FL_FAIL 0)) ∧
      (s.f SAGE_STAT_BOOT ≠ 3 → exec (.sageFlCmdRestart 0) s = .next s) ∧
      (s.f SAGE_STAT_BOOT = 3 → exec (.sageFlCmdRestart 0) s = .next ((ends s 0).startUp 10)) ∧
      (exec (.sageFlCmdCommitSvn 0) s = .next (ends { s.setF SAGE_SEC_SVN_MIN 0 0 v with boot := { s.boot with svnMin := some v } } 0)))) ∧
  (∀ (s : State) (ok : Bool) (m : Image),
    let ends (t : State) (r : Nat) : State := ({ t with boot := { t.boot with writing := none } }.setF SAGE_FL_STAT_RUNNING 0 0 0).setF SAGE_FL_STAT_RESULT 0 0 r
    let slot := 1 - s.boot.dir.1 % 2
    let r := s.imageRead slot m
    (s.boot.writing = none → exec (.flashWriteDone ok) s = .next s) ∧
    (s.boot.writing = some m →
      exec (.flashWriteDone true) s =
        .next (ends (({ r with boot := { r.boot with slots := PMap.put r.boot.slots slot m } } : State).dirWrite slot) 0) ∧
      exec (.flashWriteDone false) s =
        .next ((ends { r with boot := { r.boot with slots := PMap.put r.boot.slots slot { m with digestOk := false } } } 0x11).err SAGE_ERR_FL_FAIL 0))) ∧
  (∀ (s : State) (size : Nat),
    (size ≠ 16 → exec (.rngOut 0 size) s = .next { s with rdata := 0 }) ∧
    (s.opens 0x08 0 = true →
      (s.b DEV_SERVICE_ENTROPY_READY = false → exec (.rngOut 0 16) s = .next { s with rdata := 0x220000000000000000 }) ∧
      (s.b DEV_SERVICE_ENTROPY_READY = true → exec (.rngOut 0 16) s =
        .next { s.bump with rdata := leNat ((List.range 8).map fun j => Config.drbg s.draws j), boot := { s.boot with asked := s.boot.asked + 1 } }))) ∧
  (∀ s : State,
    let seeded := s.b DEV_SERVICE_ENTROPY_READY = true ∨ s.b RNG_STAT_STARVED = true
    let due := s.boot.seedAt + 6553600000000 ≤ s.now ∨ 65536 ≤ s.boot.asked
    let good := 2 ≤ popcount 4 (s.f RNG_STAT_SRC_OK)
    let starved : State :=
      (let t := ((s.setF DEV_SERVICE_ENTROPY_READY 0 0 0).setF RNG_STAT_READY 0 0 0).setF RNG_OUT_STATUS 0 0 0x22
       ({ t.setF RNG_STAT_STARVED 0 0 1 with boot := { t.boot with asked := 0, seedAt := t.now } } : State).err RNG_ERR_STARVED 0)
    (s.opens 0x08 0 = true →
      (¬ seeded → exec (.rngCmdReseed 0) s = .next s) ∧
      (seeded → good → exec (.rngCmdReseed 0) s = .next (s.addF RNG_CNT_RESEED_COUNT 0 0 1).entropyUp) ∧
      (seeded → ¬ good → exec (.rngCmdReseed 0) s = .next starved)) ∧
    ((¬ seeded ∨ ¬ due) → exec .reseedTimer s = .next s) ∧
    (seeded → due → good → exec .reseedTimer s = .next (s.addF RNG_CNT_RESEED_COUNT 0 0 1).entropyUp) ∧
    (seeded → due → ¬ good → exec .reseedTimer s = .next starved)) ∧
  (∀ (s : State) (k : Nat),
    ((3 < k ∨ s.boot.phase = 0 ∨ s.domReady 45 = false ∨ bit s.boot.trng k = false) → exec (.healthTestFail k) s = .next s) ∧
    (k ≤ 3 → s.boot.phase ≠ 0 → s.domReady 45 = true → bit s.boot.trng k = true →
      let t := (s.satF RNG_STAT_HEALTH_FAILS 0 0 1).err RNG_ERR_HEALTH 0
      let u : State := { t with boot := { t.boot with trng := clrBit t.boot.trng k } }
      let o := u.f RNG_STAT_SRC_OK
      exec (.healthTestFail k) s = .next (if bit o k = true then
          (u.setF RNG_STAT_SRC_OK 0 0 (clrBit o k)).fault { kind := 8, dom := 45, unit := 0, place := k, cause := 6 }
        else (u.rsvUse 8 0).markFailed 8 0 k)))

/-- PERST_N, host links, VF Enable, unmasking, configuration requests, REF10M, remote fault and PMBus segments. PERST_N low is noted once; in
service it resets the port's functions, and elsewhere than on the lead port does no more. Its release is noted with its time. The active
link's fall takes the port's links down but leaves the other link's bit; an idle link's fall clears its own bit. A link comes up only with
PERST_N high and its domain ready, and shows speed, width of at most its lanes and FLIT, always at 64 GT/s, where it presents the
function. VF_ENABLE_SET sets INST_STAT.VF_ENABLED. An unmasked vector sends what it held pending. A configuration request to a named
function reaches nothing on a link that is down or before the responder has come; the link that does not present the function answers
Unsupported Request; the other one Request Retry Status, or normally: a write changes the field, a read gives it. REF10M's return sets
REF10_PRESENT and, with PPS_IN in holdover, ends it. Remote fault follows its signalling while the link is up. A segment's fault sets its
bit and PMB_FAULT. The model's own choices and readings in it: log entries 2, 3, 75. Rests on: R148, R186, R299, R451, R463, R483, R589,
R605. -/
def Obligations.PinsAndHostPorts : Prop :=
  (∀ (s : State) (p : Nat),
    ((3 < p ∨ p ∈ s.boot.perst) → exec (.perstNAssert p) s = .next s) ∧
    (p ≤ 3 → p ∉ s.boot.perst →
      let t : State := { s with boot := { s.boot with perst := s.boot.perst ++ [p] } }
      ((s.boot.phase < 2 ∨ s.f PWR_STAT_STATE = 4) → exec (.perstNAssert p) s = .next t) ∧
      (2 ≤ s.boot.phase → s.f PWR_STAT_STATE ≠ 4 → (t.hostReset p).leadPort ≠ p → exec (.perstNAssert p) s = .next (t.hostReset p)) ∧
      (2 ≤ s.boot.phase → s.f PWR_STAT_STATE ≠ 4 → (t.hostReset p).leadPort = p →
        exec (.perstNAssert p) s = .next ((t.hostReset p).wakeBy 7 p 0))) ∧
    (p ∉ s.boot.perst → exec (.perstNRelease p) s = .next s) ∧
    (p ∈ s.boot.perst → exec (.perstNRelease p) s =
      .next { s with boot := { s.boot with perst := s.boot.perst.filter (fun q => q != p), perstUp := PMap.put s.boot.perstUp p s.now } })) ∧
  (∀ (s : State) (p speed width : Nat) (flit : Bool), p ≤ 3 →
    (s.activeLink p 0 = true → exec (.hostLinkDown p 0) s = .next ((s.hostDown p).setF HOST_STAT_LINK_B_UP p 0 (s.f HOST_STAT_LINK_B_UP p))) ∧
    (s.activeLink p 0 = false → exec (.hostLinkDown p 0) s = .next (s.setF HOST_STAT_LINK_A_UP p 0 0)) ∧
    (s.activeLink p 1 = true → exec (.hostLinkDown p 1) s = .next ((s.hostDown p).setF HOST_STAT_LINK_A_UP p 0 (s.f HOST_STAT_LINK_A_UP p))) ∧
    (s.activeLink p 1 = false → exec (.hostLinkDown p 1) s = .next (s.setF HOST_STAT_LINK_B_UP p 0 0)) ∧
    ((p ∈ s.boot.perst ∨ s.domReady (33 + p) = false ∨ s.boot.phase = 0) → exec (.hostLinkUp p 0 speed width flit) s = .next s) ∧
    (s.b HOST_CTL_SPLIT p = false → exec (.hostLinkUp p 1 speed width flit) s = .next s) ∧
    (p ∉ s.boot.perst → s.domReady (33 + p) = true → s.boot.phase ≠ 0 → speed ≤ 6 → width ≤ 16 →
      let t := s.setF HOST_STAT_LINK_A_UP p 0 1
      exec (.hostLinkUp p 0 speed width flit) s = .next (if t.activeLink p 0 then
          (((t.setF HOST_STAT_SPEED p 0 speed).setF HOST_STAT_WIDTH p 0 (min width (if t.b HOST_CTL_SPLIT p then 8 else 16))).setF
            HOST_STAT_FLIT p 0 (if flit = true ∨ speed = 6 then 1 else 0)) else t))) ∧
  (∀ (s : State) (i v : Nat),
    ((s.boot.phase < 2 ∨ s.boot.phase = 5 ∨ i = 0 ∨ 64 < i) → exec (.vfEnableSet i) s = .next s) ∧
    (2 ≤ s.boot.phase → s.boot.phase ≠ 5 → 1 ≤ i → i ≤ 64 → exec (.vfEnableSet i) s =
      .next (({ s with fns := PMap.put s.fns i { s.fn i with vfEnable := true } } : State).setF INST_STAT_VF_ENABLED i 0 1)) ∧
    (64 < i → exec (.msiXUnmask i v) s = .next s) ∧
    (i ≤ 64 → let c := s.fn i
      let d : FnCfg := if v = 0 then { c with mask0 := false } else if v = 1 then { c with mask1 := false } else { c with maskAll := false }
      exec (.msiXUnmask i v) s = .next (({ s with fns := PMap.put s.fns i d } : State).msixFlush i))) ∧
  (∀ (s : State) (i l k v : Nat) (wr : Bool), i ≤ 64 → (i = 0 ∨ s.instState i ≠ 0) →
    let p := if i = 0 then s.leadPort else s.f INST_CTL_PORT i
    let c := s.fn i
    let silent := p ∈ s.boot.perst ∨ 1 < l ∨ s.b (if l = 0 then HOST_STAT_LINK_A_UP else HOST_STAT_LINK_B_UP) p = false ∨ s.boot.phase = 0 ∨
      (s.boot.phase = 1 ∧ s.now < s.boot.at_ + 1310720000000)
    (silent → exec (.configurationRequest ⟨i, l⟩ k v wr) s = .next s) ∧
    (¬ silent → s.activeLink p l = false → exec (.configurationRequest ⟨i, l⟩ k v wr) s = .next (s.emit (.config i 2 0))) ∧
    (¬ silent → s.activeLink p l = true → s.configRetry i p = true → exec (.configurationRequest ⟨i, l⟩ k v wr) s = .next (s.emit (.config i 1 0))) ∧
    (¬ silent → s.activeLink p l = true → s.configRetry i p = false →
      exec (.configurationRequest ⟨i, l⟩ k v true) s =
        .next ((({ s with fns := PMap.put s.fns i (c.write k v) } : State).msixFlush i).emit (.config i 0 0)) ∧
      (∀ x, c.field k = some x → exec (.configurationRequest ⟨i, l⟩ k v false) s = .next (s.emit (.config i 0 x))))) ∧
  (∀ (s : State) (pps on : Bool) (n : Nat),
    (s.live 0x24 0 = false → exec (.ref10mReturn pps) s = .next s) ∧
    (s.live 0x24 0 = true → let t := ({ s with tm := { s.tm with ref10 := true } } : State).setF TIME_STAT_REF10_PRESENT 0 0 1
      ((t.f TIME_CTL_MODE ≠ 1 ∨ t.b TIME_STAT_HOLDOVER = false ∨ pps = false) → exec (.ref10mReturn pps) s = .next t) ∧
      (t.f TIME_CTL_MODE = 1 → t.b TIME_STAT_HOLDOVER = true → pps = true →
        exec (.ref10mReturn pps) s = .next (({ t with tm := { t.tm with good := 0 } } : State).setF TIME_STAT_HOLDOVER 0 0 0))) ∧
    ((s.live 0x40 n = false ∨ s.b EMAC_STAT_LINK_UP n = false) → exec (.remoteFault n on) s = .next s) ∧
    (s.live 0x40 n = true → s.b EMAC_STAT_LINK_UP n = true →
      exec (.remoteFault n on) s = .next (s.setF EMAC_STAT_REMOTE_FAULT n 0 (if on then 1 else 0))) ∧
    ((1 < n ∨ s.domReady 45 = false) → exec (.pmbSegmentFault n) s = .next s) ∧
    (s.domReady 45 = true →
      exec (.pmbSegmentFault 0) s = .next ((s.setF KHUB_PMB_STAT_SEG0_FAULT 0 0 1).err KHUB_ERR_PMB_FAULT 0) ∧
      exec (.pmbSegmentFault 1) s = .next ((s.setF KHUB_PMB_STAT_SEG1_FAULT 0 0 1).err KHUB_ERR_PMB_FAULT 0)))
end

