-- ==== Sys2Proof/Laws/Maps.lean ====
section
/-! SUPPORT. What reading a map gives after a write, and that every map operation keeps the keys rising. -/
namespace Sys2Proof.Machine
variable {α : Type}

@[simp] theorem PMap.find_put_same (m : PMap α) (k : Nat) (v : α) : PMap.find (PMap.put m k v) k = some v := by
  induction m with
  | nil => simp [PMap.put, PMap.find]
  | cons e m ih =>
    obtain ⟨k', v'⟩ := e
    simp only [PMap.put]
    split
    · simp [PMap.find]
    · split
      · simp [PMap.find]
      · simp [PMap.find, *]

theorem PMap.find_put_ne (m : PMap α) {k k' : Nat} (v : α) (h : k' ≠ k) : PMap.find (PMap.put m k v) k' = PMap.find m k' := by
  induction m with
  | nil => simp [PMap.put, PMap.find, h]
  | cons e m ih =>
    obtain ⟨j, w⟩ := e
    simp only [PMap.put]
    split
    · simp [PMap.find, h]
    · split
      · rename_i hj; subst hj; simp [PMap.find, h]
      · simp [PMap.find, ih]

@[simp] theorem PMap.get_put_same (m : PMap α) (k : Nat) (v d : α) : PMap.get (PMap.put m k v) k d = v := by
  simp [PMap.get]

theorem PMap.get_put_ne (m : PMap α) {k k' : Nat} (v d : α) (h : k' ≠ k) : PMap.get (PMap.put m k v) k' d = PMap.get m k' d := by
  simp [PMap.get, PMap.find_put_ne m v h]

theorem PMap.find_del_ne (m : PMap α) {k k' : Nat} (h : k' ≠ k) : PMap.find (PMap.del m k) k' = PMap.find m k' := by
  induction m with
  | nil => rfl
  | cons e m ih =>
    obtain ⟨j, w⟩ := e
    simp only [PMap.del]
    split
    · rename_i hj; subst hj; simp [PMap.find, h]
    · simp [PMap.find, ih]

/-- No key below the bound of a rising map is listed. -/
theorem PMap.find_below {lo k : Nat} (m : PMap α) (h : PMap.risingFrom lo m = true) (hk : k < lo) : PMap.find m k = none := by
  induction m generalizing lo with
  | nil => rfl
  | cons e m ih =>
    obtain ⟨j, w⟩ := e
    simp only [PMap.risingFrom, Bool.and_eq_true, decide_eq_true_eq] at h
    rw [PMap.find, if_neg (by omega)]
    exact ih h.2 (by omega)

theorem PMap.find_del_same {lo : Nat} (m : PMap α) (k : Nat) (h : PMap.risingFrom lo m = true) : PMap.find (PMap.del m k) k = none := by
  induction m generalizing lo with
  | nil => rfl
  | cons e m ih =>
    obtain ⟨j, w⟩ := e
    simp only [PMap.risingFrom, Bool.and_eq_true, decide_eq_true_eq] at h
    simp only [PMap.del]
    split
    · rename_i hj; subst hj; exact PMap.find_below m h.2 (by omega)
    · rename_i hj; rw [PMap.find, if_neg hj]; exact ih h.2

theorem PMap.risingFrom_mono {lo lo' : Nat} (m : PMap α) (h : PMap.risingFrom lo m = true) (hl : lo' ≤ lo) :
    PMap.risingFrom lo' m = true := by
  cases m with
  | nil => rfl
  | cons e m =>
    obtain ⟨j, w⟩ := e
    simp only [PMap.risingFrom, Bool.and_eq_true, decide_eq_true_eq] at h ⊢
    exact ⟨by omega, h.2⟩

theorem PMap.risingFrom_put {lo k : Nat} (m : PMap α) (v : α) (h : PMap.risingFrom lo m = true) (hk : lo ≤ k) :
    PMap.risingFrom lo (PMap.put m k v) = true := by
  induction m generalizing lo with
  | nil => simpa [PMap.put, PMap.risingFrom] using hk
  | cons e m ih =>
    obtain ⟨j, w⟩ := e
    simp only [PMap.risingFrom, Bool.and_eq_true, decide_eq_true_eq] at h
    simp only [PMap.put]
    split
    · simp only [PMap.risingFrom, Bool.and_eq_true, decide_eq_true_eq]; exact ⟨hk, by omega, h.2⟩
    · split
      · rename_i hj; subst hj; simp only [PMap.risingFrom, Bool.and_eq_true, decide_eq_true_eq]; exact ⟨hk, h.2⟩
      · simp only [PMap.risingFrom, Bool.and_eq_true, decide_eq_true_eq]; exact ⟨h.1, ih h.2 (by omega)⟩

theorem PMap.risingFrom_filter {lo : Nat} (m : PMap α) (p : Nat × α → Bool) (h : PMap.risingFrom lo m = true) :
    PMap.risingFrom lo (m.filter p) = true := by
  induction m generalizing lo with
  | nil => rfl
  | cons e m ih =>
    obtain ⟨j, w⟩ := e
    simp only [PMap.risingFrom, Bool.and_eq_true, decide_eq_true_eq] at h
    simp only [List.filter_cons]
    split
    · simp only [PMap.risingFrom, Bool.and_eq_true, decide_eq_true_eq]; exact ⟨h.1, ih h.2⟩
    · exact PMap.risingFrom_mono _ (ih h.2) (by omega)

theorem PMap.risingFrom_del {lo : Nat} (m : PMap α) (k : Nat) (h : PMap.risingFrom lo m = true) :
    PMap.risingFrom lo (PMap.del m k) = true := by
  induction m generalizing lo with
  | nil => rfl
  | cons e m ih =>
    obtain ⟨j, w⟩ := e
    simp only [PMap.risingFrom, Bool.and_eq_true, decide_eq_true_eq] at h
    simp only [PMap.del]
    split
    · exact PMap.risingFrom_mono _ h.2 (by omega)
    · simp only [PMap.risingFrom, Bool.and_eq_true, decide_eq_true_eq]; exact ⟨h.1, ih h.2⟩

theorem PMap.rising_put (m : PMap α) (k : Nat) (v : α) (h : PMap.rising m = true) : PMap.rising (PMap.put m k v) = true :=
  PMap.risingFrom_put m v h (Nat.zero_le k)

theorem PMap.rising_del (m : PMap α) (k : Nat) (h : PMap.rising m = true) : PMap.rising (PMap.del m k) = true :=
  PMap.risingFrom_del m k h

theorem PMap.rising_filter (m : PMap α) (p : Nat × α → Bool) (h : PMap.rising m = true) : PMap.rising (m.filter p) = true :=
  PMap.risingFrom_filter m p h

theorem PMap.mem_put {m : PMap α} {k : Nat} {v : α} {e : Nat × α} (h : e ∈ PMap.put m k v) : e = (k, v) ∨ e ∈ m := by
  induction m with
  | nil => simpa [PMap.put] using h
  | cons x m ih =>
    obtain ⟨j, w⟩ := x
    simp only [PMap.put] at h
    split at h
    · simpa using h
    · split at h
      · simp only [List.mem_cons] at h ⊢; tauto
      · simp only [List.mem_cons] at h ⊢
        rcases h with h | h
        · exact .inr (.inl h)
        · exact (ih h).imp_right .inr

theorem PMap.mem_del {m : PMap α} {k : Nat} {e : Nat × α} (h : e ∈ PMap.del m k) : e ∈ m := by
  induction m with
  | nil => exact h
  | cons x m ih =>
    obtain ⟨j, w⟩ := x
    simp only [PMap.del] at h
    split at h
    · exact List.mem_cons_of_mem _ h
    · simp only [List.mem_cons] at h ⊢; exact h.imp_right ih

end Sys2Proof.Machine
end

