-- ==== Sys2Proof/Laws/State.lean ====
section
/-! SUPPORT. What the named updates of the state leave alone: one lemma per field and update, true by unfolding. -/
namespace Sys2Proof.Machine
variable (s : State)

@[simp] theorem State.setF_pending (F : Fld) (u i v : Nat) : (s.setF F u i v).pending = s.pending := rfl
@[simp] theorem State.setF_now (F : Fld) (u i v : Nat) : (s.setF F u i v).now = s.now := rfl
@[simp] theorem State.setF_devTime (F : Fld) (u i v : Nat) : (s.setF F u i v).devTime = s.devTime := rfl
@[simp] theorem State.setF_draws (F : Fld) (u i v : Nat) : (s.setF F u i v).draws = s.draws := rfl
@[simp] theorem State.setF_shadow (F : Fld) (u i v : Nat) : (s.setF F u i v).shadow = s.shadow := rfl
@[simp] theorem State.setF_latch (F : Fld) (u i v : Nat) : (s.setF F u i v).latch = s.latch := rfl
@[simp] theorem State.setF_cmts (F : Fld) (u i v : Nat) : (s.setF F u i v).cmts = s.cmts := rfl
@[simp] theorem State.setF_mem (F : Fld) (u i v : Nat) : (s.setF F u i v).mem = s.mem := rfl
@[simp] theorem State.setF_events (F : Fld) (u i v : Nat) : (s.setF F u i v).events = s.events := rfl
@[simp] theorem State.setF_out (F : Fld) (u i v : Nat) : (s.setF F u i v).out = s.out := rfl
@[simp] theorem State.setF_fenced (F : Fld) (u i v : Nat) : (s.setF F u i v).fenced = s.fenced := rfl
@[simp] theorem State.setF_fns (F : Fld) (u i v : Nat) : (s.setF F u i v).fns = s.fns := rfl
@[simp] theorem State.setF_tlb (F : Fld) (u i v : Nat) : (s.setF F u i v).tlb = s.tlb := rfl
@[simp] theorem State.setF_ats (F : Fld) (u i v : Nat) : (s.setF F u i v).ats = s.ats := rfl
@[simp] theorem State.setF_waiters (F : Fld) (u i v : Nat) : (s.setF F u i v).waiters = s.waiters := rfl
@[simp] theorem State.setF_xl (F : Fld) (u i v : Nat) : (s.setF F u i v).xl = s.xl := rfl
@[simp] theorem State.setF_irq (F : Fld) (u i v : Nat) : (s.setF F u i v).irq = s.irq := rfl
@[simp] theorem State.setF_irqReq (F : Fld) (u i v : Nat) : (s.setF F u i v).irqReq = s.irqReq := rfl
@[simp] theorem State.setF_hold (F : Fld) (u i v : Nat) : (s.setF F u i v).hold = s.hold := rfl
@[simp] theorem State.setF_rdata (F : Fld) (u i v : Nat) : (s.setF F u i v).rdata = s.rdata := rfl
@[simp] theorem State.setF_gln (F : Fld) (u i v : Nat) : (s.setF F u i v).gln = s.gln := rfl
@[simp] theorem State.setF_glnRecs (F : Fld) (u i v : Nat) : (s.setF F u i v).glnRecs = s.glnRecs := rfl
@[simp] theorem State.setF_glnTimes (F : Fld) (u i v : Nat) : (s.setF F u i v).glnTimes = s.glnTimes := rfl
@[simp] theorem State.setF_glnOff (F : Fld) (u i v : Nat) : (s.setF F u i v).glnOff = s.glnOff := rfl
@[simp] theorem State.setF_sampleCnt (F : Fld) (u i v : Nat) : (s.setF F u i v).sampleCnt = s.sampleCnt := rfl
@[simp] theorem State.setF_tagNext (F : Fld) (u i v : Nat) : (s.setF F u i v).tagNext = s.tagNext := rfl
@[simp] theorem State.setF_tags (F : Fld) (u i v : Nat) : (s.setF F u i v).tags = s.tags := rfl
@[simp] theorem State.setF_gatherNext (F : Fld) (u i v : Nat) : (s.setF F u i v).gatherNext = s.gatherNext := rfl
@[simp] theorem State.setF_gatherBusy (F : Fld) (u i v : Nat) : (s.setF F u i v).gatherBusy = s.gatherBusy := rfl
@[simp] theorem State.setF_prefs (F : Fld) (u i v : Nat) : (s.setF F u i v).prefs = s.prefs := rfl
@[simp] theorem State.setF_pcus (F : Fld) (u i v : Nat) : (s.setF F u i v).pcus = s.pcus := rfl
@[simp] theorem State.setF_pinQ (F : Fld) (u i v : Nat) : (s.setF F u i v).pinQ = s.pinQ := rfl
@[simp] theorem State.setF_pins (F : Fld) (u i v : Nat) : (s.setF F u i v).pins = s.pins := rfl
@[simp] theorem State.setF_tm (F : Fld) (u i v : Nat) : (s.setF F u i v).tm = s.tm := rfl
@[simp] theorem State.setF_wqs (F : Fld) (u i v : Nat) : (s.setF F u i v).wqs = s.wqs := rfl
@[simp] theorem State.setF_cqs (F : Fld) (u i v : Nat) : (s.setF F u i v).cqs = s.cqs := rfl
@[simp] theorem State.setF_wrrs (F : Fld) (u i v : Nat) : (s.setF F u i v).wrrs = s.wrrs := rfl
@[simp] theorem State.setF_refusals (F : Fld) (u i v : Nat) : (s.setF F u i v).refusals = s.refusals := rfl
@[simp] theorem State.setF_dmas (F : Fld) (u i v : Nat) : (s.setF F u i v).dmas = s.dmas := rfl
@[simp] theorem State.setF_progs (F : Fld) (u i v : Nat) : (s.setF F u i v).progs = s.progs := rfl
@[simp] theorem State.setF_loads (F : Fld) (u i v : Nat) : (s.setF F u i v).loads = s.loads := rfl
@[simp] theorem State.setF_taskSeq (F : Fld) (u i v : Nat) : (s.setF F u i v).taskSeq = s.taskSeq := rfl
@[simp] theorem State.setF_tasks (F : Fld) (u i v : Nat) : (s.setF F u i v).tasks = s.tasks := rfl
@[simp] theorem State.setF_ops (F : Fld) (u i v : Nat) : (s.setF F u i v).ops = s.ops := rfl
@[simp] theorem State.setF_nextOp (F : Fld) (u i v : Nat) : (s.setF F u i v).nextOp = s.nextOp := rfl
@[simp] theorem State.setF_placesOut (F : Fld) (u i v : Nat) : (s.setF F u i v).placesOut = s.placesOut := rfl
@[simp] theorem State.setF_links (F : Fld) (u i v : Nat) : (s.setF F u i v).links = s.links := rfl
@[simp] theorem State.setF_seqs (F : Fld) (u i v : Nat) : (s.setF F u i v).seqs = s.seqs := rfl
@[simp] theorem State.setF_trees (F : Fld) (u i v : Nat) : (s.setF F u i v).trees = s.trees := rfl
@[simp] theorem State.setF_ppwr (F : Fld) (u i v : Nat) : (s.setF F u i v).ppwr = s.ppwr := rfl
@[simp] theorem State.setF_staggered (F : Fld) (u i v : Nat) : (s.setF F u i v).staggered = s.staggered := rfl
@[simp] theorem State.setF_hub (F : Fld) (u i v : Nat) : (s.setF F u i v).hub = s.hub := rfl
@[simp] theorem State.setF_emacs (F : Fld) (u i v : Nat) : (s.setF F u i v).emacs = s.emacs := rfl
@[simp] theorem State.setF_steer (F : Fld) (u i v : Nat) : (s.setF F u i v).steer = s.steer := rfl
@[simp] theorem State.setF_em (F : Fld) (u i v : Nat) : (s.setF F u i v).em = s.em := rfl
@[simp] theorem State.setF_epochAt (F : Fld) (u i v : Nat) : (s.setF F u i v).epochAt = s.epochAt := rfl
@[simp] theorem State.setF_epochReq (F : Fld) (u i v : Nat) : (s.setF F u i v).epochReq = s.epochReq := rfl
@[simp] theorem State.setF_tabErrs (F : Fld) (u i v : Nat) : (s.setF F u i v).tabErrs = s.tabErrs := rfl
@[simp] theorem State.setF_insts (F : Fld) (u i v : Nat) : (s.setF F u i v).insts = s.insts := rfl
@[simp] theorem State.setF_mbxs (F : Fld) (u i v : Nat) : (s.setF F u i v).mbxs = s.mbxs := rfl
@[simp] theorem State.setF_rsv (F : Fld) (u i v : Nat) : (s.setF F u i v).rsv = s.rsv := rfl
@[simp] theorem State.setF_power (F : Fld) (u i v : Nat) : (s.setF F u i v).power = s.power := rfl
@[simp] theorem State.setF_nrgs (F : Fld) (u i v : Nat) : (s.setF F u i v).nrgs = s.nrgs := rfl
@[simp] theorem State.setF_chain (F : Fld) (u i v : Nat) : (s.setF F u i v).chain = s.chain := rfl
@[simp] theorem State.setF_boot (F : Fld) (u i v : Nat) : (s.setF F u i v).boot = s.boot := rfl
@[simp] theorem State.setF_epochPer (F : Fld) (u i v : Nat) : (s.setF F u i v).epochPer = s.epochPer := rfl
@[simp] theorem State.setF_timerAt (F : Fld) (u i v : Nat) : (s.setF F u i v).timerAt = s.timerAt := rfl
@[simp] theorem State.setF_slotUse (F : Fld) (u i v : Nat) : (s.setF F u i v).slotUse = s.slotUse := rfl
@[simp] theorem State.setF_msixSent (F : Fld) (u i v : Nat) : (s.setF F u i v).msixSent = s.msixSent := rfl
@[simp] theorem State.post_pending (k u : Nat) : (s.post k u).pending = s.pending := rfl
@[simp] theorem State.post_now (k u : Nat) : (s.post k u).now = s.now := rfl
@[simp] theorem State.post_devTime (k u : Nat) : (s.post k u).devTime = s.devTime := rfl
@[simp] theorem State.post_draws (k u : Nat) : (s.post k u).draws = s.draws := rfl
@[simp] theorem State.post_regs (k u : Nat) : (s.post k u).regs = s.regs := rfl
@[simp] theorem State.post_shadow (k u : Nat) : (s.post k u).shadow = s.shadow := rfl
@[simp] theorem State.post_latch (k u : Nat) : (s.post k u).latch = s.latch := rfl
@[simp] theorem State.post_cmts (k u : Nat) : (s.post k u).cmts = s.cmts := rfl
@[simp] theorem State.post_mem (k u : Nat) : (s.post k u).mem = s.mem := rfl
@[simp] theorem State.post_out (k u : Nat) : (s.post k u).out = s.out := rfl
@[simp] theorem State.post_fenced (k u : Nat) : (s.post k u).fenced = s.fenced := rfl
@[simp] theorem State.post_fns (k u : Nat) : (s.post k u).fns = s.fns := rfl
@[simp] theorem State.post_tlb (k u : Nat) : (s.post k u).tlb = s.tlb := rfl
@[simp] theorem State.post_ats (k u : Nat) : (s.post k u).ats = s.ats := rfl
@[simp] theorem State.post_waiters (k u : Nat) : (s.post k u).waiters = s.waiters := rfl
@[simp] theorem State.post_xl (k u : Nat) : (s.post k u).xl = s.xl := rfl
@[simp] theorem State.post_irq (k u : Nat) : (s.post k u).irq = s.irq := rfl
@[simp] theorem State.post_irqReq (k u : Nat) : (s.post k u).irqReq = s.irqReq := rfl
@[simp] theorem State.post_hold (k u : Nat) : (s.post k u).hold = s.hold := rfl
@[simp] theorem State.post_rdata (k u : Nat) : (s.post k u).rdata = s.rdata := rfl
@[simp] theorem State.post_gln (k u : Nat) : (s.post k u).gln = s.gln := rfl
@[simp] theorem State.post_glnRecs (k u : Nat) : (s.post k u).glnRecs = s.glnRecs := rfl
@[simp] theorem State.post_glnTimes (k u : Nat) : (s.post k u).glnTimes = s.glnTimes := rfl
@[simp] theorem State.post_glnOff (k u : Nat) : (s.post k u).glnOff = s.glnOff := rfl
@[simp] theorem State.post_sampleCnt (k u : Nat) : (s.post k u).sampleCnt = s.sampleCnt := rfl
@[simp] theorem State.post_tagNext (k u : Nat) : (s.post k u).tagNext = s.tagNext := rfl
@[simp] theorem State.post_tags (k u : Nat) : (s.post k u).tags = s.tags := rfl
@[simp] theorem State.post_gatherNext (k u : Nat) : (s.post k u).gatherNext = s.gatherNext := rfl
@[simp] theorem State.post_gatherBusy (k u : Nat) : (s.post k u).gatherBusy = s.gatherBusy := rfl
@[simp] theorem State.post_prefs (k u : Nat) : (s.post k u).prefs = s.prefs := rfl
@[simp] theorem State.post_pcus (k u : Nat) : (s.post k u).pcus = s.pcus := rfl
@[simp] theorem State.post_pinQ (k u : Nat) : (s.post k u).pinQ = s.pinQ := rfl
@[simp] theorem State.post_pins (k u : Nat) : (s.post k u).pins = s.pins := rfl
@[simp] theorem State.post_tm (k u : Nat) : (s.post k u).tm = s.tm := rfl
@[simp] theorem State.post_wqs (k u : Nat) : (s.post k u).wqs = s.wqs := rfl
@[simp] theorem State.post_cqs (k u : Nat) : (s.post k u).cqs = s.cqs := rfl
@[simp] theorem State.post_wrrs (k u : Nat) : (s.post k u).wrrs = s.wrrs := rfl
@[simp] theorem State.post_refusals (k u : Nat) : (s.post k u).refusals = s.refusals := rfl
@[simp] theorem State.post_dmas (k u : Nat) : (s.post k u).dmas = s.dmas := rfl
@[simp] theorem State.post_progs (k u : Nat) : (s.post k u).progs = s.progs := rfl
@[simp] theorem State.post_loads (k u : Nat) : (s.post k u).loads = s.loads := rfl
@[simp] theorem State.post_taskSeq (k u : Nat) : (s.post k u).taskSeq = s.taskSeq := rfl
@[simp] theorem State.post_tasks (k u : Nat) : (s.post k u).tasks = s.tasks := rfl
@[simp] theorem State.post_ops (k u : Nat) : (s.post k u).ops = s.ops := rfl
@[simp] theorem State.post_nextOp (k u : Nat) : (s.post k u).nextOp = s.nextOp := rfl
@[simp] theorem State.post_placesOut (k u : Nat) : (s.post k u).placesOut = s.placesOut := rfl
@[simp] theorem State.post_links (k u : Nat) : (s.post k u).links = s.links := rfl
@[simp] theorem State.post_seqs (k u : Nat) : (s.post k u).seqs = s.seqs := rfl
@[simp] theorem State.post_trees (k u : Nat) : (s.post k u).trees = s.trees := rfl
@[simp] theorem State.post_ppwr (k u : Nat) : (s.post k u).ppwr = s.ppwr := rfl
@[simp] theorem State.post_staggered (k u : Nat) : (s.post k u).staggered = s.staggered := rfl
@[simp] theorem State.post_hub (k u : Nat) : (s.post k u).hub = s.hub := rfl
@[simp] theorem State.post_emacs (k u : Nat) : (s.post k u).emacs = s.emacs := rfl
@[simp] theorem State.post_steer (k u : Nat) : (s.post k u).steer = s.steer := rfl
@[simp] theorem State.post_em (k u : Nat) : (s.post k u).em = s.em := rfl
@[simp] theorem State.post_epochAt (k u : Nat) : (s.post k u).epochAt = s.epochAt := rfl
@[simp] theorem State.post_epochReq (k u : Nat) : (s.post k u).epochReq = s.epochReq := rfl
@[simp] theorem State.post_tabErrs (k u : Nat) : (s.post k u).tabErrs = s.tabErrs := rfl
@[simp] theorem State.post_insts (k u : Nat) : (s.post k u).insts = s.insts := rfl
@[simp] theorem State.post_mbxs (k u : Nat) : (s.post k u).mbxs = s.mbxs := rfl
@[simp] theorem State.post_rsv (k u : Nat) : (s.post k u).rsv = s.rsv := rfl
@[simp] theorem State.post_power (k u : Nat) : (s.post k u).power = s.power := rfl
@[simp] theorem State.post_nrgs (k u : Nat) : (s.post k u).nrgs = s.nrgs := rfl
@[simp] theorem State.post_chain (k u : Nat) : (s.post k u).chain = s.chain := rfl
@[simp] theorem State.post_boot (k u : Nat) : (s.post k u).boot = s.boot := rfl
@[simp] theorem State.post_epochPer (k u : Nat) : (s.post k u).epochPer = s.epochPer := rfl
@[simp] theorem State.post_timerAt (k u : Nat) : (s.post k u).timerAt = s.timerAt := rfl
@[simp] theorem State.post_slotUse (k u : Nat) : (s.post k u).slotUse = s.slotUse := rfl
@[simp] theorem State.post_msixSent (k u : Nat) : (s.post k u).msixSent = s.msixSent := rfl
@[simp] theorem State.emit_pending (o : Out) : (s.emit o).pending = s.pending := rfl
@[simp] theorem State.emit_now (o : Out) : (s.emit o).now = s.now := rfl
@[simp] theorem State.emit_devTime (o : Out) : (s.emit o).devTime = s.devTime := rfl
@[simp] theorem State.emit_draws (o : Out) : (s.emit o).draws = s.draws := rfl
@[simp] theorem State.emit_regs (o : Out) : (s.emit o).regs = s.regs := rfl
@[simp] theorem State.emit_shadow (o : Out) : (s.emit o).shadow = s.shadow := rfl
@[simp] theorem State.emit_latch (o : Out) : (s.emit o).latch = s.latch := rfl
@[simp] theorem State.emit_cmts (o : Out) : (s.emit o).cmts = s.cmts := rfl
@[simp] theorem State.emit_mem (o : Out) : (s.emit o).mem = s.mem := rfl
@[simp] theorem State.emit_events (o : Out) : (s.emit o).events = s.events := rfl
@[simp] theorem State.emit_fenced (o : Out) : (s.emit o).fenced = s.fenced := rfl
@[simp] theorem State.emit_fns (o : Out) : (s.emit o).fns = s.fns := rfl
@[simp] theorem State.emit_tlb (o : Out) : (s.emit o).tlb = s.tlb := rfl
@[simp] theorem State.emit_ats (o : Out) : (s.emit o).ats = s.ats := rfl
@[simp] theorem State.emit_waiters (o : Out) : (s.emit o).waiters = s.waiters := rfl
@[simp] theorem State.emit_xl (o : Out) : (s.emit o).xl = s.xl := rfl
@[simp] theorem State.emit_irq (o : Out) : (s.emit o).irq = s.irq := rfl
@[simp] theorem State.emit_irqReq (o : Out) : (s.emit o).irqReq = s.irqReq := rfl
@[simp] theorem State.emit_hold (o : Out) : (s.emit o).hold = s.hold := rfl
@[simp] theorem State.emit_rdata (o : Out) : (s.emit o).rdata = s.rdata := rfl
@[simp] theorem State.emit_gln (o : Out) : (s.emit o).gln = s.gln := rfl
@[simp] theorem State.emit_glnRecs (o : Out) : (s.emit o).glnRecs = s.glnRecs := rfl
@[simp] theorem State.emit_glnTimes (o : Out) : (s.emit o).glnTimes = s.glnTimes := rfl
@[simp] theorem State.emit_glnOff (o : Out) : (s.emit o).glnOff = s.glnOff := rfl
@[simp] theorem State.emit_sampleCnt (o : Out) : (s.emit o).sampleCnt = s.sampleCnt := rfl
@[simp] theorem State.emit_tagNext (o : Out) : (s.emit o).tagNext = s.tagNext := rfl
@[simp] theorem State.emit_tags (o : Out) : (s.emit o).tags = s.tags := rfl
@[simp] theorem State.emit_gatherNext (o : Out) : (s.emit o).gatherNext = s.gatherNext := rfl
@[simp] theorem State.emit_gatherBusy (o : Out) : (s.emit o).gatherBusy = s.gatherBusy := rfl
@[simp] theorem State.emit_prefs (o : Out) : (s.emit o).prefs = s.prefs := rfl
@[simp] theorem State.emit_pcus (o : Out) : (s.emit o).pcus = s.pcus := rfl
@[simp] theorem State.emit_pinQ (o : Out) : (s.emit o).pinQ = s.pinQ := rfl
@[simp] theorem State.emit_pins (o : Out) : (s.emit o).pins = s.pins := rfl
@[simp] theorem State.emit_tm (o : Out) : (s.emit o).tm = s.tm := rfl
@[simp] theorem State.emit_wqs (o : Out) : (s.emit o).wqs = s.wqs := rfl
@[simp] theorem State.emit_cqs (o : Out) : (s.emit o).cqs = s.cqs := rfl
@[simp] theorem State.emit_wrrs (o : Out) : (s.emit o).wrrs = s.wrrs := rfl
@[simp] theorem State.emit_refusals (o : Out) : (s.emit o).refusals = s.refusals := rfl
@[simp] theorem State.emit_dmas (o : Out) : (s.emit o).dmas = s.dmas := rfl
@[simp] theorem State.emit_progs (o : Out) : (s.emit o).progs = s.progs := rfl
@[simp] theorem State.emit_loads (o : Out) : (s.emit o).loads = s.loads := rfl
@[simp] theorem State.emit_taskSeq (o : Out) : (s.emit o).taskSeq = s.taskSeq := rfl
@[simp] theorem State.emit_tasks (o : Out) : (s.emit o).tasks = s.tasks := rfl
@[simp] theorem State.emit_ops (o : Out) : (s.emit o).ops = s.ops := rfl
@[simp] theorem State.emit_nextOp (o : Out) : (s.emit o).nextOp = s.nextOp := rfl
@[simp] theorem State.emit_placesOut (o : Out) : (s.emit o).placesOut = s.placesOut := rfl
@[simp] theorem State.emit_links (o : Out) : (s.emit o).links = s.links := rfl
@[simp] theorem State.emit_seqs (o : Out) : (s.emit o).seqs = s.seqs := rfl
@[simp] theorem State.emit_trees (o : Out) : (s.emit o).trees = s.trees := rfl
@[simp] theorem State.emit_ppwr (o : Out) : (s.emit o).ppwr = s.ppwr := rfl
@[simp] theorem State.emit_staggered (o : Out) : (s.emit o).staggered = s.staggered := rfl
@[simp] theorem State.emit_hub (o : Out) : (s.emit o).hub = s.hub := rfl
@[simp] theorem State.emit_emacs (o : Out) : (s.emit o).emacs = s.emacs := rfl
@[simp] theorem State.emit_steer (o : Out) : (s.emit o).steer = s.steer := rfl
@[simp] theorem State.emit_em (o : Out) : (s.emit o).em = s.em := rfl
@[simp] theorem State.emit_epochAt (o : Out) : (s.emit o).epochAt = s.epochAt := rfl
@[simp] theorem State.emit_epochReq (o : Out) : (s.emit o).epochReq = s.epochReq := rfl
@[simp] theorem State.emit_tabErrs (o : Out) : (s.emit o).tabErrs = s.tabErrs := rfl
@[simp] theorem State.emit_insts (o : Out) : (s.emit o).insts = s.insts := rfl
@[simp] theorem State.emit_mbxs (o : Out) : (s.emit o).mbxs = s.mbxs := rfl
@[simp] theorem State.emit_rsv (o : Out) : (s.emit o).rsv = s.rsv := rfl
@[simp] theorem State.emit_power (o : Out) : (s.emit o).power = s.power := rfl
@[simp] theorem State.emit_nrgs (o : Out) : (s.emit o).nrgs = s.nrgs := rfl
@[simp] theorem State.emit_chain (o : Out) : (s.emit o).chain = s.chain := rfl
@[simp] theorem State.emit_boot (o : Out) : (s.emit o).boot = s.boot := rfl
@[simp] theorem State.emit_epochPer (o : Out) : (s.emit o).epochPer = s.epochPer := rfl
@[simp] theorem State.emit_timerAt (o : Out) : (s.emit o).timerAt = s.timerAt := rfl
@[simp] theorem State.emit_slotUse (o : Out) : (s.emit o).slotUse = s.slotUse := rfl
@[simp] theorem State.emit_msixSent (o : Out) : (s.emit o).msixSent = s.msixSent := rfl
@[simp] theorem State.bump_pending  : (s.bump).pending = s.pending := rfl
@[simp] theorem State.bump_now  : (s.bump).now = s.now := rfl
@[simp] theorem State.bump_devTime  : (s.bump).devTime = s.devTime := rfl
@[simp] theorem State.bump_regs  : (s.bump).regs = s.regs := rfl
@[simp] theorem State.bump_shadow  : (s.bump).shadow = s.shadow := rfl
@[simp] theorem State.bump_latch  : (s.bump).latch = s.latch := rfl
@[simp] theorem State.bump_cmts  : (s.bump).cmts = s.cmts := rfl
@[simp] theorem State.bump_mem  : (s.bump).mem = s.mem := rfl
@[simp] theorem State.bump_events  : (s.bump).events = s.events := rfl
@[simp] theorem State.bump_out  : (s.bump).out = s.out := rfl
@[simp] theorem State.bump_fenced  : (s.bump).fenced = s.fenced := rfl
@[simp] theorem State.bump_fns  : (s.bump).fns = s.fns := rfl
@[simp] theorem State.bump_tlb  : (s.bump).tlb = s.tlb := rfl
@[simp] theorem State.bump_ats  : (s.bump).ats = s.ats := rfl
@[simp] theorem State.bump_waiters  : (s.bump).waiters = s.waiters := rfl
@[simp] theorem State.bump_xl  : (s.bump).xl = s.xl := rfl
@[simp] theorem State.bump_irq  : (s.bump).irq = s.irq := rfl
@[simp] theorem State.bump_irqReq  : (s.bump).irqReq = s.irqReq := rfl
@[simp] theorem State.bump_hold  : (s.bump).hold = s.hold := rfl
@[simp] theorem State.bump_rdata  : (s.bump).rdata = s.rdata := rfl
@[simp] theorem State.bump_gln  : (s.bump).gln = s.gln := rfl
@[simp] theorem State.bump_glnRecs  : (s.bump).glnRecs = s.glnRecs := rfl
@[simp] theorem State.bump_glnTimes  : (s.bump).glnTimes = s.glnTimes := rfl
@[simp] theorem State.bump_glnOff  : (s.bump).glnOff = s.glnOff := rfl
@[simp] theorem State.bump_sampleCnt  : (s.bump).sampleCnt = s.sampleCnt := rfl
@[simp] theorem State.bump_tagNext  : (s.bump).tagNext = s.tagNext := rfl
@[simp] theorem State.bump_tags  : (s.bump).tags = s.tags := rfl
@[simp] theorem State.bump_gatherNext  : (s.bump).gatherNext = s.gatherNext := rfl
@[simp] theorem State.bump_gatherBusy  : (s.bump).gatherBusy = s.gatherBusy := rfl
@[simp] theorem State.bump_prefs  : (s.bump).prefs = s.prefs := rfl
@[simp] theorem State.bump_pcus  : (s.bump).pcus = s.pcus := rfl
@[simp] theorem State.bump_pinQ  : (s.bump).pinQ = s.pinQ := rfl
@[simp] theorem State.bump_pins  : (s.bump).pins = s.pins := rfl
@[simp] theorem State.bump_tm  : (s.bump).tm = s.tm := rfl
@[simp] theorem State.bump_wqs  : (s.bump).wqs = s.wqs := rfl
@[simp] theorem State.bump_cqs  : (s.bump).cqs = s.cqs := rfl
@[simp] theorem State.bump_wrrs  : (s.bump).wrrs = s.wrrs := rfl
@[simp] theorem State.bump_refusals  : (s.bump).refusals = s.refusals := rfl
@[simp] theorem State.bump_dmas  : (s.bump).dmas = s.dmas := rfl
@[simp] theorem State.bump_progs  : (s.bump).progs = s.progs := rfl
@[simp] theorem State.bump_loads  : (s.bump).loads = s.loads := rfl
@[simp] theorem State.bump_taskSeq  : (s.bump).taskSeq = s.taskSeq := rfl
@[simp] theorem State.bump_tasks  : (s.bump).tasks = s.tasks := rfl
@[simp] theorem State.bump_ops  : (s.bump).ops = s.ops := rfl
@[simp] theorem State.bump_nextOp  : (s.bump).nextOp = s.nextOp := rfl
@[simp] theorem State.bump_placesOut  : (s.bump).placesOut = s.placesOut := rfl
@[simp] theorem State.bump_links  : (s.bump).links = s.links := rfl
@[simp] theorem State.bump_seqs  : (s.bump).seqs = s.seqs := rfl
@[simp] theorem State.bump_trees  : (s.bump).trees = s.trees := rfl
@[simp] theorem State.bump_ppwr  : (s.bump).ppwr = s.ppwr := rfl
@[simp] theorem State.bump_staggered  : (s.bump).staggered = s.staggered := rfl
@[simp] theorem State.bump_hub  : (s.bump).hub = s.hub := rfl
@[simp] theorem State.bump_emacs  : (s.bump).emacs = s.emacs := rfl
@[simp] theorem State.bump_steer  : (s.bump).steer = s.steer := rfl
@[simp] theorem State.bump_em  : (s.bump).em = s.em := rfl
@[simp] theorem State.bump_epochAt  : (s.bump).epochAt = s.epochAt := rfl
@[simp] theorem State.bump_epochReq  : (s.bump).epochReq = s.epochReq := rfl
@[simp] theorem State.bump_tabErrs  : (s.bump).tabErrs = s.tabErrs := rfl
@[simp] theorem State.bump_insts  : (s.bump).insts = s.insts := rfl
@[simp] theorem State.bump_mbxs  : (s.bump).mbxs = s.mbxs := rfl
@[simp] theorem State.bump_rsv  : (s.bump).rsv = s.rsv := rfl
@[simp] theorem State.bump_power  : (s.bump).power = s.power := rfl
@[simp] theorem State.bump_nrgs  : (s.bump).nrgs = s.nrgs := rfl
@[simp] theorem State.bump_chain  : (s.bump).chain = s.chain := rfl
@[simp] theorem State.bump_boot  : (s.bump).boot = s.boot := rfl
@[simp] theorem State.bump_epochPer  : (s.bump).epochPer = s.epochPer := rfl
@[simp] theorem State.bump_timerAt  : (s.bump).timerAt = s.timerAt := rfl
@[simp] theorem State.bump_slotUse  : (s.bump).slotUse = s.slotUse := rfl
@[simp] theorem State.bump_msixSent  : (s.bump).msixSent = s.msixSent := rfl
@[simp] theorem State.setByte_pending (a : Nat) (v : BitVec 8) : (s.setByte a v).pending = s.pending := rfl
@[simp] theorem State.setByte_now (a : Nat) (v : BitVec 8) : (s.setByte a v).now = s.now := rfl
@[simp] theorem State.setByte_devTime (a : Nat) (v : BitVec 8) : (s.setByte a v).devTime = s.devTime := rfl
@[simp] theorem State.setByte_draws (a : Nat) (v : BitVec 8) : (s.setByte a v).draws = s.draws := rfl
@[simp] theorem State.setByte_regs (a : Nat) (v : BitVec 8) : (s.setByte a v).regs = s.regs := rfl
@[simp] theorem State.setByte_shadow (a : Nat) (v : BitVec 8) : (s.setByte a v).shadow = s.shadow := rfl
@[simp] theorem State.setByte_latch (a : Nat) (v : BitVec 8) : (s.setByte a v).latch = s.latch := rfl
@[simp] theorem State.setByte_cmts (a : Nat) (v : BitVec 8) : (s.setByte a v).cmts = s.cmts := rfl
@[simp] theorem State.setByte_events (a : Nat) (v : BitVec 8) : (s.setByte a v).events = s.events := rfl
@[simp] theorem State.setByte_out (a : Nat) (v : BitVec 8) : (s.setByte a v).out = s.out := rfl
@[simp] theorem State.setByte_fenced (a : Nat) (v : BitVec 8) : (s.setByte a v).fenced = s.fenced := rfl
@[simp] theorem State.setByte_fns (a : Nat) (v : BitVec 8) : (s.setByte a v).fns = s.fns := rfl
@[simp] theorem State.setByte_tlb (a : Nat) (v : BitVec 8) : (s.setByte a v).tlb = s.tlb := rfl
@[simp] theorem State.setByte_ats (a : Nat) (v : BitVec 8) : (s.setByte a v).ats = s.ats := rfl
@[simp] theorem State.setByte_waiters (a : Nat) (v : BitVec 8) : (s.setByte a v).waiters = s.waiters := rfl
@[simp] theorem State.setByte_xl (a : Nat) (v : BitVec 8) : (s.setByte a v).xl = s.xl := rfl
@[simp] theorem State.setByte_irq (a : Nat) (v : BitVec 8) : (s.setByte a v).irq = s.irq := rfl
@[simp] theorem State.setByte_irqReq (a : Nat) (v : BitVec 8) : (s.setByte a v).irqReq = s.irqReq := rfl
@[simp] theorem State.setByte_hold (a : Nat) (v : BitVec 8) : (s.setByte a v).hold = s.hold := rfl
@[simp] theorem State.setByte_rdata (a : Nat) (v : BitVec 8) : (s.setByte a v).rdata = s.rdata := rfl
@[simp] theorem State.setByte_gln (a : Nat) (v : BitVec 8) : (s.setByte a v).gln = s.gln := rfl
@[simp] theorem State.setByte_glnRecs (a : Nat) (v : BitVec 8) : (s.setByte a v).glnRecs = s.glnRecs := rfl
@[simp] theorem State.setByte_glnTimes (a : Nat) (v : BitVec 8) : (s.setByte a v).glnTimes = s.glnTimes := rfl
@[simp] theorem State.setByte_glnOff (a : Nat) (v : BitVec 8) : (s.setByte a v).glnOff = s.glnOff := rfl
@[simp] theorem State.setByte_sampleCnt (a : Nat) (v : BitVec 8) : (s.setByte a v).sampleCnt = s.sampleCnt := rfl
@[simp] theorem State.setByte_tagNext (a : Nat) (v : BitVec 8) : (s.setByte a v).tagNext = s.tagNext := rfl
@[simp] theorem State.setByte_tags (a : Nat) (v : BitVec 8) : (s.setByte a v).tags = s.tags := rfl
@[simp] theorem State.setByte_gatherNext (a : Nat) (v : BitVec 8) : (s.setByte a v).gatherNext = s.gatherNext := rfl
@[simp] theorem State.setByte_gatherBusy (a : Nat) (v : BitVec 8) : (s.setByte a v).gatherBusy = s.gatherBusy := rfl
@[simp] theorem State.setByte_prefs (a : Nat) (v : BitVec 8) : (s.setByte a v).prefs = s.prefs := rfl
@[simp] theorem State.setByte_pcus (a : Nat) (v : BitVec 8) : (s.setByte a v).pcus = s.pcus := rfl
@[simp] theorem State.setByte_pinQ (a : Nat) (v : BitVec 8) : (s.setByte a v).pinQ = s.pinQ := rfl
@[simp] theorem State.setByte_pins (a : Nat) (v : BitVec 8) : (s.setByte a v).pins = s.pins := rfl
@[simp] theorem State.setByte_tm (a : Nat) (v : BitVec 8) : (s.setByte a v).tm = s.tm := rfl
@[simp] theorem State.setByte_wqs (a : Nat) (v : BitVec 8) : (s.setByte a v).wqs = s.wqs := rfl
@[simp] theorem State.setByte_cqs (a : Nat) (v : BitVec 8) : (s.setByte a v).cqs = s.cqs := rfl
@[simp] theorem State.setByte_wrrs (a : Nat) (v : BitVec 8) : (s.setByte a v).wrrs = s.wrrs := rfl
@[simp] theorem State.setByte_refusals (a : Nat) (v : BitVec 8) : (s.setByte a v).refusals = s.refusals := rfl
@[simp] theorem State.setByte_dmas (a : Nat) (v : BitVec 8) : (s.setByte a v).dmas = s.dmas := rfl
@[simp] theorem State.setByte_progs (a : Nat) (v : BitVec 8) : (s.setByte a v).progs = s.progs := rfl
@[simp] theorem State.setByte_loads (a : Nat) (v : BitVec 8) : (s.setByte a v).loads = s.loads := rfl
@[simp] theorem State.setByte_taskSeq (a : Nat) (v : BitVec 8) : (s.setByte a v).taskSeq = s.taskSeq := rfl
@[simp] theorem State.setByte_tasks (a : Nat) (v : BitVec 8) : (s.setByte a v).tasks = s.tasks := rfl
@[simp] theorem State.setByte_ops (a : Nat) (v : BitVec 8) : (s.setByte a v).ops = s.ops := rfl
@[simp] theorem State.setByte_nextOp (a : Nat) (v : BitVec 8) : (s.setByte a v).nextOp = s.nextOp := rfl
@[simp] theorem State.setByte_placesOut (a : Nat) (v : BitVec 8) : (s.setByte a v).placesOut = s.placesOut := rfl
@[simp] theorem State.setByte_links (a : Nat) (v : BitVec 8) : (s.setByte a v).links = s.links := rfl
@[simp] theorem State.setByte_seqs (a : Nat) (v : BitVec 8) : (s.setByte a v).seqs = s.seqs := rfl
@[simp] theorem State.setByte_trees (a : Nat) (v : BitVec 8) : (s.setByte a v).trees = s.trees := rfl
@[simp] theorem State.setByte_ppwr (a : Nat) (v : BitVec 8) : (s.setByte a v).ppwr = s.ppwr := rfl
@[simp] theorem State.setByte_staggered (a : Nat) (v : BitVec 8) : (s.setByte a v).staggered = s.staggered := rfl
@[simp] theorem State.setByte_hub (a : Nat) (v : BitVec 8) : (s.setByte a v).hub = s.hub := rfl
@[simp] theorem State.setByte_emacs (a : Nat) (v : BitVec 8) : (s.setByte a v).emacs = s.emacs := rfl
@[simp] theorem State.setByte_steer (a : Nat) (v : BitVec 8) : (s.setByte a v).steer = s.steer := rfl
@[simp] theorem State.setByte_em (a : Nat) (v : BitVec 8) : (s.setByte a v).em = s.em := rfl
@[simp] theorem State.setByte_epochAt (a : Nat) (v : BitVec 8) : (s.setByte a v).epochAt = s.epochAt := rfl
@[simp] theorem State.setByte_epochReq (a : Nat) (v : BitVec 8) : (s.setByte a v).epochReq = s.epochReq := rfl
@[simp] theorem State.setByte_tabErrs (a : Nat) (v : BitVec 8) : (s.setByte a v).tabErrs = s.tabErrs := rfl
@[simp] theorem State.setByte_insts (a : Nat) (v : BitVec 8) : (s.setByte a v).insts = s.insts := rfl
@[simp] theorem State.setByte_mbxs (a : Nat) (v : BitVec 8) : (s.setByte a v).mbxs = s.mbxs := rfl
@[simp] theorem State.setByte_rsv (a : Nat) (v : BitVec 8) : (s.setByte a v).rsv = s.rsv := rfl
@[simp] theorem State.setByte_power (a : Nat) (v : BitVec 8) : (s.setByte a v).power = s.power := rfl
@[simp] theorem State.setByte_nrgs (a : Nat) (v : BitVec 8) : (s.setByte a v).nrgs = s.nrgs := rfl
@[simp] theorem State.setByte_chain (a : Nat) (v : BitVec 8) : (s.setByte a v).chain = s.chain := rfl
@[simp] theorem State.setByte_boot (a : Nat) (v : BitVec 8) : (s.setByte a v).boot = s.boot := rfl
@[simp] theorem State.setByte_epochPer (a : Nat) (v : BitVec 8) : (s.setByte a v).epochPer = s.epochPer := rfl
@[simp] theorem State.setByte_timerAt (a : Nat) (v : BitVec 8) : (s.setByte a v).timerAt = s.timerAt := rfl
@[simp] theorem State.setByte_slotUse (a : Nat) (v : BitVec 8) : (s.setByte a v).slotUse = s.slotUse := rfl
@[simp] theorem State.setByte_msixSent (a : Nat) (v : BitVec 8) : (s.setByte a v).msixSent = s.msixSent := rfl
@[simp] theorem State.refuse_pending (fn : Nat) : (s.refuse fn).pending = s.pending := rfl
@[simp] theorem State.refuse_now (fn : Nat) : (s.refuse fn).now = s.now := rfl
@[simp] theorem State.refuse_devTime (fn : Nat) : (s.refuse fn).devTime = s.devTime := rfl
@[simp] theorem State.refuse_draws (fn : Nat) : (s.refuse fn).draws = s.draws := rfl
@[simp] theorem State.refuse_shadow (fn : Nat) : (s.refuse fn).shadow = s.shadow := rfl
@[simp] theorem State.refuse_latch (fn : Nat) : (s.refuse fn).latch = s.latch := rfl
@[simp] theorem State.refuse_cmts (fn : Nat) : (s.refuse fn).cmts = s.cmts := rfl
@[simp] theorem State.refuse_mem (fn : Nat) : (s.refuse fn).mem = s.mem := rfl
@[simp] theorem State.refuse_events (fn : Nat) : (s.refuse fn).events = s.events := rfl
@[simp] theorem State.refuse_out (fn : Nat) : (s.refuse fn).out = s.out := rfl
@[simp] theorem State.refuse_fenced (fn : Nat) : (s.refuse fn).fenced = s.fenced := rfl
@[simp] theorem State.refuse_fns (fn : Nat) : (s.refuse fn).fns = s.fns := rfl
@[simp] theorem State.refuse_tlb (fn : Nat) : (s.refuse fn).tlb = s.tlb := rfl
@[simp] theorem State.refuse_ats (fn : Nat) : (s.refuse fn).ats = s.ats := rfl
@[simp] theorem State.refuse_waiters (fn : Nat) : (s.refuse fn).waiters = s.waiters := rfl
@[simp] theorem State.refuse_xl (fn : Nat) : (s.refuse fn).xl = s.xl := rfl
@[simp] theorem State.refuse_irq (fn : Nat) : (s.refuse fn).irq = s.irq := rfl
@[simp] theorem State.refuse_irqReq (fn : Nat) : (s.refuse fn).irqReq = s.irqReq := rfl
@[simp] theorem State.refuse_hold (fn : Nat) : (s.refuse fn).hold = s.hold := rfl
@[simp] theorem State.refuse_rdata (fn : Nat) : (s.refuse fn).rdata = s.rdata := rfl
@[simp] theorem State.refuse_gln (fn : Nat) : (s.refuse fn).gln = s.gln := rfl
@[simp] theorem State.refuse_glnRecs (fn : Nat) : (s.refuse fn).glnRecs = s.glnRecs := rfl
@[simp] theorem State.refuse_glnTimes (fn : Nat) : (s.refuse fn).glnTimes = s.glnTimes := rfl
@[simp] theorem State.refuse_glnOff (fn : Nat) : (s.refuse fn).glnOff = s.glnOff := rfl
@[simp] theorem State.refuse_sampleCnt (fn : Nat) : (s.refuse fn).sampleCnt = s.sampleCnt := rfl
@[simp] theorem State.refuse_tagNext (fn : Nat) : (s.refuse fn).tagNext = s.tagNext := rfl
@[simp] theorem State.refuse_tags (fn : Nat) : (s.refuse fn).tags = s.tags := rfl
@[simp] theorem State.refuse_gatherNext (fn : Nat) : (s.refuse fn).gatherNext = s.gatherNext := rfl
@[simp] theorem State.refuse_gatherBusy (fn : Nat) : (s.refuse fn).gatherBusy = s.gatherBusy := rfl
@[simp] theorem State.refuse_prefs (fn : Nat) : (s.refuse fn).prefs = s.prefs := rfl
@[simp] theorem State.refuse_pcus (fn : Nat) : (s.refuse fn).pcus = s.pcus := rfl
@[simp] theorem State.refuse_pinQ (fn : Nat) : (s.refuse fn).pinQ = s.pinQ := rfl
@[simp] theorem State.refuse_pins (fn : Nat) : (s.refuse fn).pins = s.pins := rfl
@[simp] theorem State.refuse_tm (fn : Nat) : (s.refuse fn).tm = s.tm := rfl
@[simp] theorem State.refuse_wqs (fn : Nat) : (s.refuse fn).wqs = s.wqs := rfl
@[simp] theorem State.refuse_cqs (fn : Nat) : (s.refuse fn).cqs = s.cqs := rfl
@[simp] theorem State.refuse_wrrs (fn : Nat) : (s.refuse fn).wrrs = s.wrrs := rfl
@[simp] theorem State.refuse_refusals (fn : Nat) : (s.refuse fn).refusals = s.refusals := rfl
@[simp] theorem State.refuse_dmas (fn : Nat) : (s.refuse fn).dmas = s.dmas := rfl
@[simp] theorem State.refuse_progs (fn : Nat) : (s.refuse fn).progs = s.progs := rfl
@[simp] theorem State.refuse_loads (fn : Nat) : (s.refuse fn).loads = s.loads := rfl
@[simp] theorem State.refuse_taskSeq (fn : Nat) : (s.refuse fn).taskSeq = s.taskSeq := rfl
@[simp] theorem State.refuse_tasks (fn : Nat) : (s.refuse fn).tasks = s.tasks := rfl
@[simp] theorem State.refuse_ops (fn : Nat) : (s.refuse fn).ops = s.ops := rfl
@[simp] theorem State.refuse_nextOp (fn : Nat) : (s.refuse fn).nextOp = s.nextOp := rfl
@[simp] theorem State.refuse_placesOut (fn : Nat) : (s.refuse fn).placesOut = s.placesOut := rfl
@[simp] theorem State.refuse_links (fn : Nat) : (s.refuse fn).links = s.links := rfl
@[simp] theorem State.refuse_seqs (fn : Nat) : (s.refuse fn).seqs = s.seqs := rfl
@[simp] theorem State.refuse_trees (fn : Nat) : (s.refuse fn).trees = s.trees := rfl
@[simp] theorem State.refuse_ppwr (fn : Nat) : (s.refuse fn).ppwr = s.ppwr := rfl
@[simp] theorem State.refuse_staggered (fn : Nat) : (s.refuse fn).staggered = s.staggered := rfl
@[simp] theorem State.refuse_hub (fn : Nat) : (s.refuse fn).hub = s.hub := rfl
@[simp] theorem State.refuse_emacs (fn : Nat) : (s.refuse fn).emacs = s.emacs := rfl
@[simp] theorem State.refuse_steer (fn : Nat) : (s.refuse fn).steer = s.steer := rfl
@[simp] theorem State.refuse_em (fn : Nat) : (s.refuse fn).em = s.em := rfl
@[simp] theorem State.refuse_epochAt (fn : Nat) : (s.refuse fn).epochAt = s.epochAt := rfl
@[simp] theorem State.refuse_epochReq (fn : Nat) : (s.refuse fn).epochReq = s.epochReq := rfl
@[simp] theorem State.refuse_tabErrs (fn : Nat) : (s.refuse fn).tabErrs = s.tabErrs := rfl
@[simp] theorem State.refuse_insts (fn : Nat) : (s.refuse fn).insts = s.insts := rfl
@[simp] theorem State.refuse_mbxs (fn : Nat) : (s.refuse fn).mbxs = s.mbxs := rfl
@[simp] theorem State.refuse_rsv (fn : Nat) : (s.refuse fn).rsv = s.rsv := rfl
@[simp] theorem State.refuse_power (fn : Nat) : (s.refuse fn).power = s.power := rfl
@[simp] theorem State.refuse_nrgs (fn : Nat) : (s.refuse fn).nrgs = s.nrgs := rfl
@[simp] theorem State.refuse_chain (fn : Nat) : (s.refuse fn).chain = s.chain := rfl
@[simp] theorem State.refuse_boot (fn : Nat) : (s.refuse fn).boot = s.boot := rfl
@[simp] theorem State.refuse_epochPer (fn : Nat) : (s.refuse fn).epochPer = s.epochPer := rfl
@[simp] theorem State.refuse_timerAt (fn : Nat) : (s.refuse fn).timerAt = s.timerAt := rfl
@[simp] theorem State.refuse_slotUse (fn : Nat) : (s.refuse fn).slotUse = s.slotUse := rfl
@[simp] theorem State.refuse_msixSent (fn : Nat) : (s.refuse fn).msixSent = s.msixSent := rfl
@[simp] theorem State.err_pending (F : Fld) (u : Nat) : (s.err F u).pending = s.pending := rfl
@[simp] theorem State.err_now (F : Fld) (u : Nat) : (s.err F u).now = s.now := rfl
@[simp] theorem State.err_devTime (F : Fld) (u : Nat) : (s.err F u).devTime = s.devTime := rfl
@[simp] theorem State.err_draws (F : Fld) (u : Nat) : (s.err F u).draws = s.draws := rfl
@[simp] theorem State.err_shadow (F : Fld) (u : Nat) : (s.err F u).shadow = s.shadow := rfl
@[simp] theorem State.err_latch (F : Fld) (u : Nat) : (s.err F u).latch = s.latch := rfl
@[simp] theorem State.err_cmts (F : Fld) (u : Nat) : (s.err F u).cmts = s.cmts := rfl
@[simp] theorem State.err_mem (F : Fld) (u : Nat) : (s.err F u).mem = s.mem := rfl
@[simp] theorem State.err_events (F : Fld) (u : Nat) : (s.err F u).events = s.events := rfl
@[simp] theorem State.err_out (F : Fld) (u : Nat) : (s.err F u).out = s.out := rfl
@[simp] theorem State.err_fenced (F : Fld) (u : Nat) : (s.err F u).fenced = s.fenced := rfl
@[simp] theorem State.err_fns (F : Fld) (u : Nat) : (s.err F u).fns = s.fns := rfl
@[simp] theorem State.err_tlb (F : Fld) (u : Nat) : (s.err F u).tlb = s.tlb := rfl
@[simp] theorem State.err_ats (F : Fld) (u : Nat) : (s.err F u).ats = s.ats := rfl
@[simp] theorem State.err_waiters (F : Fld) (u : Nat) : (s.err F u).waiters = s.waiters := rfl
@[simp] theorem State.err_xl (F : Fld) (u : Nat) : (s.err F u).xl = s.xl := rfl
@[simp] theorem State.err_irq (F : Fld) (u : Nat) : (s.err F u).irq = s.irq := rfl
@[simp] theorem State.err_irqReq (F : Fld) (u : Nat) : (s.err F u).irqReq = s.irqReq := rfl
@[simp] theorem State.err_hold (F : Fld) (u : Nat) : (s.err F u).hold = s.hold := rfl
@[simp] theorem State.err_rdata (F : Fld) (u : Nat) : (s.err F u).rdata = s.rdata := rfl
@[simp] theorem State.err_gln (F : Fld) (u : Nat) : (s.err F u).gln = s.gln := rfl
@[simp] theorem State.err_glnRecs (F : Fld) (u : Nat) : (s.err F u).glnRecs = s.glnRecs := rfl
@[simp] theorem State.err_glnTimes (F : Fld) (u : Nat) : (s.err F u).glnTimes = s.glnTimes := rfl
@[simp] theorem State.err_glnOff (F : Fld) (u : Nat) : (s.err F u).glnOff = s.glnOff := rfl
@[simp] theorem State.err_sampleCnt (F : Fld) (u : Nat) : (s.err F u).sampleCnt = s.sampleCnt := rfl
@[simp] theorem State.err_tagNext (F : Fld) (u : Nat) : (s.err F u).tagNext = s.tagNext := rfl
@[simp] theorem State.err_tags (F : Fld) (u : Nat) : (s.err F u).tags = s.tags := rfl
@[simp] theorem State.err_gatherNext (F : Fld) (u : Nat) : (s.err F u).gatherNext = s.gatherNext := rfl
@[simp] theorem State.err_gatherBusy (F : Fld) (u : Nat) : (s.err F u).gatherBusy = s.gatherBusy := rfl
@[simp] theorem State.err_prefs (F : Fld) (u : Nat) : (s.err F u).prefs = s.prefs := rfl
@[simp] theorem State.err_pcus (F : Fld) (u : Nat) : (s.err F u).pcus = s.pcus := rfl
@[simp] theorem State.err_pinQ (F : Fld) (u : Nat) : (s.err F u).pinQ = s.pinQ := rfl
@[simp] theorem State.err_pins (F : Fld) (u : Nat) : (s.err F u).pins = s.pins := rfl
@[simp] theorem State.err_tm (F : Fld) (u : Nat) : (s.err F u).tm = s.tm := rfl
@[simp] theorem State.err_wqs (F : Fld) (u : Nat) : (s.err F u).wqs = s.wqs := rfl
@[simp] theorem State.err_cqs (F : Fld) (u : Nat) : (s.err F u).cqs = s.cqs := rfl
@[simp] theorem State.err_wrrs (F : Fld) (u : Nat) : (s.err F u).wrrs = s.wrrs := rfl
@[simp] theorem State.err_refusals (F : Fld) (u : Nat) : (s.err F u).refusals = s.refusals := rfl
@[simp] theorem State.err_dmas (F : Fld) (u : Nat) : (s.err F u).dmas = s.dmas := rfl
@[simp] theorem State.err_progs (F : Fld) (u : Nat) : (s.err F u).progs = s.progs := rfl
@[simp] theorem State.err_loads (F : Fld) (u : Nat) : (s.err F u).loads = s.loads := rfl
@[simp] theorem State.err_taskSeq (F : Fld) (u : Nat) : (s.err F u).taskSeq = s.taskSeq := rfl
@[simp] theorem State.err_tasks (F : Fld) (u : Nat) : (s.err F u).tasks = s.tasks := rfl
@[simp] theorem State.err_ops (F : Fld) (u : Nat) : (s.err F u).ops = s.ops := rfl
@[simp] theorem State.err_nextOp (F : Fld) (u : Nat) : (s.err F u).nextOp = s.nextOp := rfl
@[simp] theorem State.err_placesOut (F : Fld) (u : Nat) : (s.err F u).placesOut = s.placesOut := rfl
@[simp] theorem State.err_links (F : Fld) (u : Nat) : (s.err F u).links = s.links := rfl
@[simp] theorem State.err_seqs (F : Fld) (u : Nat) : (s.err F u).seqs = s.seqs := rfl
@[simp] theorem State.err_trees (F : Fld) (u : Nat) : (s.err F u).trees = s.trees := rfl
@[simp] theorem State.err_ppwr (F : Fld) (u : Nat) : (s.err F u).ppwr = s.ppwr := rfl
@[simp] theorem State.err_staggered (F : Fld) (u : Nat) : (s.err F u).staggered = s.staggered := rfl
@[simp] theorem State.err_hub (F : Fld) (u : Nat) : (s.err F u).hub = s.hub := rfl
@[simp] theorem State.err_emacs (F : Fld) (u : Nat) : (s.err F u).emacs = s.emacs := rfl
@[simp] theorem State.err_steer (F : Fld) (u : Nat) : (s.err F u).steer = s.steer := rfl
@[simp] theorem State.err_em (F : Fld) (u : Nat) : (s.err F u).em = s.em := rfl
@[simp] theorem State.err_epochAt (F : Fld) (u : Nat) : (s.err F u).epochAt = s.epochAt := rfl
@[simp] theorem State.err_epochReq (F : Fld) (u : Nat) : (s.err F u).epochReq = s.epochReq := rfl
@[simp] theorem State.err_tabErrs (F : Fld) (u : Nat) : (s.err F u).tabErrs = s.tabErrs := rfl
@[simp] theorem State.err_insts (F : Fld) (u : Nat) : (s.err F u).insts = s.insts := rfl
@[simp] theorem State.err_mbxs (F : Fld) (u : Nat) : (s.err F u).mbxs = s.mbxs := rfl
@[simp] theorem State.err_rsv (F : Fld) (u : Nat) : (s.err F u).rsv = s.rsv := rfl
@[simp] theorem State.err_power (F : Fld) (u : Nat) : (s.err F u).power = s.power := rfl
@[simp] theorem State.err_nrgs (F : Fld) (u : Nat) : (s.err F u).nrgs = s.nrgs := rfl
@[simp] theorem State.err_chain (F : Fld) (u : Nat) : (s.err F u).chain = s.chain := rfl
@[simp] theorem State.err_boot (F : Fld) (u : Nat) : (s.err F u).boot = s.boot := rfl
@[simp] theorem State.err_epochPer (F : Fld) (u : Nat) : (s.err F u).epochPer = s.epochPer := rfl
@[simp] theorem State.err_timerAt (F : Fld) (u : Nat) : (s.err F u).timerAt = s.timerAt := rfl
@[simp] theorem State.err_slotUse (F : Fld) (u : Nat) : (s.err F u).slotUse = s.slotUse := rfl
@[simp] theorem State.err_msixSent (F : Fld) (u : Nat) : (s.err F u).msixSent = s.msixSent := rfl
@[simp] theorem State.errOn_pending (F : Fld) (b u : Nat) : (s.errOn F b u).pending = s.pending := rfl
@[simp] theorem State.errOn_now (F : Fld) (b u : Nat) : (s.errOn F b u).now = s.now := rfl
@[simp] theorem State.errOn_devTime (F : Fld) (b u : Nat) : (s.errOn F b u).devTime = s.devTime := rfl
@[simp] theorem State.errOn_draws (F : Fld) (b u : Nat) : (s.errOn F b u).draws = s.draws := rfl
@[simp] theorem State.errOn_shadow (F : Fld) (b u : Nat) : (s.errOn F b u).shadow = s.shadow := rfl
@[simp] theorem State.errOn_latch (F : Fld) (b u : Nat) : (s.errOn F b u).latch = s.latch := rfl
@[simp] theorem State.errOn_cmts (F : Fld) (b u : Nat) : (s.errOn F b u).cmts = s.cmts := rfl
@[simp] theorem State.errOn_mem (F : Fld) (b u : Nat) : (s.errOn F b u).mem = s.mem := rfl
@[simp] theorem State.errOn_events (F : Fld) (b u : Nat) : (s.errOn F b u).events = s.events := rfl
@[simp] theorem State.errOn_out (F : Fld) (b u : Nat) : (s.errOn F b u).out = s.out := rfl
@[simp] theorem State.errOn_fenced (F : Fld) (b u : Nat) : (s.errOn F b u).fenced = s.fenced := rfl
@[simp] theorem State.errOn_fns (F : Fld) (b u : Nat) : (s.errOn F b u).fns = s.fns := rfl
@[simp] theorem State.errOn_tlb (F : Fld) (b u : Nat) : (s.errOn F b u).tlb = s.tlb := rfl
@[simp] theorem State.errOn_ats (F : Fld) (b u : Nat) : (s.errOn F b u).ats = s.ats := rfl
@[simp] theorem State.errOn_waiters (F : Fld) (b u : Nat) : (s.errOn F b u).waiters = s.waiters := rfl
@[simp] theorem State.errOn_xl (F : Fld) (b u : Nat) : (s.errOn F b u).xl = s.xl := rfl
@[simp] theorem State.errOn_irq (F : Fld) (b u : Nat) : (s.errOn F b u).irq = s.irq := rfl
@[simp] theorem State.errOn_irqReq (F : Fld) (b u : Nat) : (s.errOn F b u).irqReq = s.irqReq := rfl
@[simp] theorem State.errOn_hold (F : Fld) (b u : Nat) : (s.errOn F b u).hold = s.hold := rfl
@[simp] theorem State.errOn_rdata (F : Fld) (b u : Nat) : (s.errOn F b u).rdata = s.rdata := rfl
@[simp] theorem State.errOn_gln (F : Fld) (b u : Nat) : (s.errOn F b u).gln = s.gln := rfl
@[simp] theorem State.errOn_glnRecs (F : Fld) (b u : Nat) : (s.errOn F b u).glnRecs = s.glnRecs := rfl
@[simp] theorem State.errOn_glnTimes (F : Fld) (b u : Nat) : (s.errOn F b u).glnTimes = s.glnTimes := rfl
@[simp] theorem State.errOn_glnOff (F : Fld) (b u : Nat) : (s.errOn F b u).glnOff = s.glnOff := rfl
@[simp] theorem State.errOn_sampleCnt (F : Fld) (b u : Nat) : (s.errOn F b u).sampleCnt = s.sampleCnt := rfl
@[simp] theorem State.errOn_tagNext (F : Fld) (b u : Nat) : (s.errOn F b u).tagNext = s.tagNext := rfl
@[simp] theorem State.errOn_tags (F : Fld) (b u : Nat) : (s.errOn F b u).tags = s.tags := rfl
@[simp] theorem State.errOn_gatherNext (F : Fld) (b u : Nat) : (s.errOn F b u).gatherNext = s.gatherNext := rfl
@[simp] theorem State.errOn_gatherBusy (F : Fld) (b u : Nat) : (s.errOn F b u).gatherBusy = s.gatherBusy := rfl
@[simp] theorem State.errOn_prefs (F : Fld) (b u : Nat) : (s.errOn F b u).prefs = s.prefs := rfl
@[simp] theorem State.errOn_pcus (F : Fld) (b u : Nat) : (s.errOn F b u).pcus = s.pcus := rfl
@[simp] theorem State.errOn_pinQ (F : Fld) (b u : Nat) : (s.errOn F b u).pinQ = s.pinQ := rfl
@[simp] theorem State.errOn_pins (F : Fld) (b u : Nat) : (s.errOn F b u).pins = s.pins := rfl
@[simp] theorem State.errOn_tm (F : Fld) (b u : Nat) : (s.errOn F b u).tm = s.tm := rfl
@[simp] theorem State.errOn_wqs (F : Fld) (b u : Nat) : (s.errOn F b u).wqs = s.wqs := rfl
@[simp] theorem State.errOn_cqs (F : Fld) (b u : Nat) : (s.errOn F b u).cqs = s.cqs := rfl
@[simp] theorem State.errOn_wrrs (F : Fld) (b u : Nat) : (s.errOn F b u).wrrs = s.wrrs := rfl
@[simp] theorem State.errOn_refusals (F : Fld) (b u : Nat) : (s.errOn F b u).refusals = s.refusals := rfl
@[simp] theorem State.errOn_dmas (F : Fld) (b u : Nat) : (s.errOn F b u).dmas = s.dmas := rfl
@[simp] theorem State.errOn_progs (F : Fld) (b u : Nat) : (s.errOn F b u).progs = s.progs := rfl
@[simp] theorem State.errOn_loads (F : Fld) (b u : Nat) : (s.errOn F b u).loads = s.loads := rfl
@[simp] theorem State.errOn_taskSeq (F : Fld) (b u : Nat) : (s.errOn F b u).taskSeq = s.taskSeq := rfl
@[simp] theorem State.errOn_tasks (F : Fld) (b u : Nat) : (s.errOn F b u).tasks = s.tasks := rfl
@[simp] theorem State.errOn_ops (F : Fld) (b u : Nat) : (s.errOn F b u).ops = s.ops := rfl
@[simp] theorem State.errOn_nextOp (F : Fld) (b u : Nat) : (s.errOn F b u).nextOp = s.nextOp := rfl
@[simp] theorem State.errOn_placesOut (F : Fld) (b u : Nat) : (s.errOn F b u).placesOut = s.placesOut := rfl
@[simp] theorem State.errOn_links (F : Fld) (b u : Nat) : (s.errOn F b u).links = s.links := rfl
@[simp] theorem State.errOn_seqs (F : Fld) (b u : Nat) : (s.errOn F b u).seqs = s.seqs := rfl
@[simp] theorem State.errOn_trees (F : Fld) (b u : Nat) : (s.errOn F b u).trees = s.trees := rfl
@[simp] theorem State.errOn_ppwr (F : Fld) (b u : Nat) : (s.errOn F b u).ppwr = s.ppwr := rfl
@[simp] theorem State.errOn_staggered (F : Fld) (b u : Nat) : (s.errOn F b u).staggered = s.staggered := rfl
@[simp] theorem State.errOn_hub (F : Fld) (b u : Nat) : (s.errOn F b u).hub = s.hub := rfl
@[simp] theorem State.errOn_emacs (F : Fld) (b u : Nat) : (s.errOn F b u).emacs = s.emacs := rfl
@[simp] theorem State.errOn_steer (F : Fld) (b u : Nat) : (s.errOn F b u).steer = s.steer := rfl
@[simp] theorem State.errOn_em (F : Fld) (b u : Nat) : (s.errOn F b u).em = s.em := rfl
@[simp] theorem State.errOn_epochAt (F : Fld) (b u : Nat) : (s.errOn F b u).epochAt = s.epochAt := rfl
@[simp] theorem State.errOn_epochReq (F : Fld) (b u : Nat) : (s.errOn F b u).epochReq = s.epochReq := rfl
@[simp] theorem State.errOn_tabErrs (F : Fld) (b u : Nat) : (s.errOn F b u).tabErrs = s.tabErrs := rfl
@[simp] theorem State.errOn_insts (F : Fld) (b u : Nat) : (s.errOn F b u).insts = s.insts := rfl
@[simp] theorem State.errOn_mbxs (F : Fld) (b u : Nat) : (s.errOn F b u).mbxs = s.mbxs := rfl
@[simp] theorem State.errOn_rsv (F : Fld) (b u : Nat) : (s.errOn F b u).rsv = s.rsv := rfl
@[simp] theorem State.errOn_power (F : Fld) (b u : Nat) : (s.errOn F b u).power = s.power := rfl
@[simp] theorem State.errOn_nrgs (F : Fld) (b u : Nat) : (s.errOn F b u).nrgs = s.nrgs := rfl
@[simp] theorem State.errOn_chain (F : Fld) (b u : Nat) : (s.errOn F b u).chain = s.chain := rfl
@[simp] theorem State.errOn_boot (F : Fld) (b u : Nat) : (s.errOn F b u).boot = s.boot := rfl
@[simp] theorem State.errOn_epochPer (F : Fld) (b u : Nat) : (s.errOn F b u).epochPer = s.epochPer := rfl
@[simp] theorem State.errOn_timerAt (F : Fld) (b u : Nat) : (s.errOn F b u).timerAt = s.timerAt := rfl
@[simp] theorem State.errOn_slotUse (F : Fld) (b u : Nat) : (s.errOn F b u).slotUse = s.slotUse := rfl
@[simp] theorem State.errOn_msixSent (F : Fld) (b u : Nat) : (s.errOn F b u).msixSent = s.msixSent := rfl
@[simp] theorem State.addF_pending (F : Fld) (u i n : Nat) : (s.addF F u i n).pending = s.pending := rfl
@[simp] theorem State.addF_now (F : Fld) (u i n : Nat) : (s.addF F u i n).now = s.now := rfl
@[simp] theorem State.addF_devTime (F : Fld) (u i n : Nat) : (s.addF F u i n).devTime = s.devTime := rfl
@[simp] theorem State.addF_draws (F : Fld) (u i n : Nat) : (s.addF F u i n).draws = s.draws := rfl
@[simp] theorem State.addF_shadow (F : Fld) (u i n : Nat) : (s.addF F u i n).shadow = s.shadow := rfl
@[simp] theorem State.addF_latch (F : Fld) (u i n : Nat) : (s.addF F u i n).latch = s.latch := rfl
@[simp] theorem State.addF_cmts (F : Fld) (u i n : Nat) : (s.addF F u i n).cmts = s.cmts := rfl
@[simp] theorem State.addF_mem (F : Fld) (u i n : Nat) : (s.addF F u i n).mem = s.mem := rfl
@[simp] theorem State.addF_events (F : Fld) (u i n : Nat) : (s.addF F u i n).events = s.events := rfl
@[simp] theorem State.addF_out (F : Fld) (u i n : Nat) : (s.addF F u i n).out = s.out := rfl
@[simp] theorem State.addF_fenced (F : Fld) (u i n : Nat) : (s.addF F u i n).fenced = s.fenced := rfl
@[simp] theorem State.addF_fns (F : Fld) (u i n : Nat) : (s.addF F u i n).fns = s.fns := rfl
@[simp] theorem State.addF_tlb (F : Fld) (u i n : Nat) : (s.addF F u i n).tlb = s.tlb := rfl
@[simp] theorem State.addF_ats (F : Fld) (u i n : Nat) : (s.addF F u i n).ats = s.ats := rfl
@[simp] theorem State.addF_waiters (F : Fld) (u i n : Nat) : (s.addF F u i n).waiters = s.waiters := rfl
@[simp] theorem State.addF_xl (F : Fld) (u i n : Nat) : (s.addF F u i n).xl = s.xl := rfl
@[simp] theorem State.addF_irq (F : Fld) (u i n : Nat) : (s.addF F u i n).irq = s.irq := rfl
@[simp] theorem State.addF_irqReq (F : Fld) (u i n : Nat) : (s.addF F u i n).irqReq = s.irqReq := rfl
@[simp] theorem State.addF_hold (F : Fld) (u i n : Nat) : (s.addF F u i n).hold = s.hold := rfl
@[simp] theorem State.addF_rdata (F : Fld) (u i n : Nat) : (s.addF F u i n).rdata = s.rdata := rfl
@[simp] theorem State.addF_gln (F : Fld) (u i n : Nat) : (s.addF F u i n).gln = s.gln := rfl
@[simp] theorem State.addF_glnRecs (F : Fld) (u i n : Nat) : (s.addF F u i n).glnRecs = s.glnRecs := rfl
@[simp] theorem State.addF_glnTimes (F : Fld) (u i n : Nat) : (s.addF F u i n).glnTimes = s.glnTimes := rfl
@[simp] theorem State.addF_glnOff (F : Fld) (u i n : Nat) : (s.addF F u i n).glnOff = s.glnOff := rfl
@[simp] theorem State.addF_sampleCnt (F : Fld) (u i n : Nat) : (s.addF F u i n).sampleCnt = s.sampleCnt := rfl
@[simp] theorem State.addF_tagNext (F : Fld) (u i n : Nat) : (s.addF F u i n).tagNext = s.tagNext := rfl
@[simp] theorem State.addF_tags (F : Fld) (u i n : Nat) : (s.addF F u i n).tags = s.tags := rfl
@[simp] theorem State.addF_gatherNext (F : Fld) (u i n : Nat) : (s.addF F u i n).gatherNext = s.gatherNext := rfl
@[simp] theorem State.addF_gatherBusy (F : Fld) (u i n : Nat) : (s.addF F u i n).gatherBusy = s.gatherBusy := rfl
@[simp] theorem State.addF_prefs (F : Fld) (u i n : Nat) : (s.addF F u i n).prefs = s.prefs := rfl
@[simp] theorem State.addF_pcus (F : Fld) (u i n : Nat) : (s.addF F u i n).pcus = s.pcus := rfl
@[simp] theorem State.addF_pinQ (F : Fld) (u i n : Nat) : (s.addF F u i n).pinQ = s.pinQ := rfl
@[simp] theorem State.addF_pins (F : Fld) (u i n : Nat) : (s.addF F u i n).pins = s.pins := rfl
@[simp] theorem State.addF_tm (F : Fld) (u i n : Nat) : (s.addF F u i n).tm = s.tm := rfl
@[simp] theorem State.addF_wqs (F : Fld) (u i n : Nat) : (s.addF F u i n).wqs = s.wqs := rfl
@[simp] theorem State.addF_cqs (F : Fld) (u i n : Nat) : (s.addF F u i n).cqs = s.cqs := rfl
@[simp] theorem State.addF_wrrs (F : Fld) (u i n : Nat) : (s.addF F u i n).wrrs = s.wrrs := rfl
@[simp] theorem State.addF_refusals (F : Fld) (u i n : Nat) : (s.addF F u i n).refusals = s.refusals := rfl
@[simp] theorem State.addF_dmas (F : Fld) (u i n : Nat) : (s.addF F u i n).dmas = s.dmas := rfl
@[simp] theorem State.addF_progs (F : Fld) (u i n : Nat) : (s.addF F u i n).progs = s.progs := rfl
@[simp] theorem State.addF_loads (F : Fld) (u i n : Nat) : (s.addF F u i n).loads = s.loads := rfl
@[simp] theorem State.addF_taskSeq (F : Fld) (u i n : Nat) : (s.addF F u i n).taskSeq = s.taskSeq := rfl
@[simp] theorem State.addF_tasks (F : Fld) (u i n : Nat) : (s.addF F u i n).tasks = s.tasks := rfl
@[simp] theorem State.addF_ops (F : Fld) (u i n : Nat) : (s.addF F u i n).ops = s.ops := rfl
@[simp] theorem State.addF_nextOp (F : Fld) (u i n : Nat) : (s.addF F u i n).nextOp = s.nextOp := rfl
@[simp] theorem State.addF_placesOut (F : Fld) (u i n : Nat) : (s.addF F u i n).placesOut = s.placesOut := rfl
@[simp] theorem State.addF_links (F : Fld) (u i n : Nat) : (s.addF F u i n).links = s.links := rfl
@[simp] theorem State.addF_seqs (F : Fld) (u i n : Nat) : (s.addF F u i n).seqs = s.seqs := rfl
@[simp] theorem State.addF_trees (F : Fld) (u i n : Nat) : (s.addF F u i n).trees = s.trees := rfl
@[simp] theorem State.addF_ppwr (F : Fld) (u i n : Nat) : (s.addF F u i n).ppwr = s.ppwr := rfl
@[simp] theorem State.addF_staggered (F : Fld) (u i n : Nat) : (s.addF F u i n).staggered = s.staggered := rfl
@[simp] theorem State.addF_hub (F : Fld) (u i n : Nat) : (s.addF F u i n).hub = s.hub := rfl
@[simp] theorem State.addF_emacs (F : Fld) (u i n : Nat) : (s.addF F u i n).emacs = s.emacs := rfl
@[simp] theorem State.addF_steer (F : Fld) (u i n : Nat) : (s.addF F u i n).steer = s.steer := rfl
@[simp] theorem State.addF_em (F : Fld) (u i n : Nat) : (s.addF F u i n).em = s.em := rfl
@[simp] theorem State.addF_epochAt (F : Fld) (u i n : Nat) : (s.addF F u i n).epochAt = s.epochAt := rfl
@[simp] theorem State.addF_epochReq (F : Fld) (u i n : Nat) : (s.addF F u i n).epochReq = s.epochReq := rfl
@[simp] theorem State.addF_tabErrs (F : Fld) (u i n : Nat) : (s.addF F u i n).tabErrs = s.tabErrs := rfl
@[simp] theorem State.addF_insts (F : Fld) (u i n : Nat) : (s.addF F u i n).insts = s.insts := rfl
@[simp] theorem State.addF_mbxs (F : Fld) (u i n : Nat) : (s.addF F u i n).mbxs = s.mbxs := rfl
@[simp] theorem State.addF_rsv (F : Fld) (u i n : Nat) : (s.addF F u i n).rsv = s.rsv := rfl
@[simp] theorem State.addF_power (F : Fld) (u i n : Nat) : (s.addF F u i n).power = s.power := rfl
@[simp] theorem State.addF_nrgs (F : Fld) (u i n : Nat) : (s.addF F u i n).nrgs = s.nrgs := rfl
@[simp] theorem State.addF_chain (F : Fld) (u i n : Nat) : (s.addF F u i n).chain = s.chain := rfl
@[simp] theorem State.addF_boot (F : Fld) (u i n : Nat) : (s.addF F u i n).boot = s.boot := rfl
@[simp] theorem State.addF_epochPer (F : Fld) (u i n : Nat) : (s.addF F u i n).epochPer = s.epochPer := rfl
@[simp] theorem State.addF_timerAt (F : Fld) (u i n : Nat) : (s.addF F u i n).timerAt = s.timerAt := rfl
@[simp] theorem State.addF_slotUse (F : Fld) (u i n : Nat) : (s.addF F u i n).slotUse = s.slotUse := rfl
@[simp] theorem State.addF_msixSent (F : Fld) (u i n : Nat) : (s.addF F u i n).msixSent = s.msixSent := rfl
@[simp] theorem State.satF_pending (F : Fld) (u i n : Nat) : (s.satF F u i n).pending = s.pending := rfl
@[simp] theorem State.satF_now (F : Fld) (u i n : Nat) : (s.satF F u i n).now = s.now := rfl
@[simp] theorem State.satF_devTime (F : Fld) (u i n : Nat) : (s.satF F u i n).devTime = s.devTime := rfl
@[simp] theorem State.satF_draws (F : Fld) (u i n : Nat) : (s.satF F u i n).draws = s.draws := rfl
@[simp] theorem State.satF_shadow (F : Fld) (u i n : Nat) : (s.satF F u i n).shadow = s.shadow := rfl
@[simp] theorem State.satF_latch (F : Fld) (u i n : Nat) : (s.satF F u i n).latch = s.latch := rfl
@[simp] theorem State.satF_cmts (F : Fld) (u i n : Nat) : (s.satF F u i n).cmts = s.cmts := rfl
@[simp] theorem State.satF_mem (F : Fld) (u i n : Nat) : (s.satF F u i n).mem = s.mem := rfl
@[simp] theorem State.satF_events (F : Fld) (u i n : Nat) : (s.satF F u i n).events = s.events := rfl
@[simp] theorem State.satF_out (F : Fld) (u i n : Nat) : (s.satF F u i n).out = s.out := rfl
@[simp] theorem State.satF_fenced (F : Fld) (u i n : Nat) : (s.satF F u i n).fenced = s.fenced := rfl
@[simp] theorem State.satF_fns (F : Fld) (u i n : Nat) : (s.satF F u i n).fns = s.fns := rfl
@[simp] theorem State.satF_tlb (F : Fld) (u i n : Nat) : (s.satF F u i n).tlb = s.tlb := rfl
@[simp] theorem State.satF_ats (F : Fld) (u i n : Nat) : (s.satF F u i n).ats = s.ats := rfl
@[simp] theorem State.satF_waiters (F : Fld) (u i n : Nat) : (s.satF F u i n).waiters = s.waiters := rfl
@[simp] theorem State.satF_xl (F : Fld) (u i n : Nat) : (s.satF F u i n).xl = s.xl := rfl
@[simp] theorem State.satF_irq (F : Fld) (u i n : Nat) : (s.satF F u i n).irq = s.irq := rfl
@[simp] theorem State.satF_irqReq (F : Fld) (u i n : Nat) : (s.satF F u i n).irqReq = s.irqReq := rfl
@[simp] theorem State.satF_hold (F : Fld) (u i n : Nat) : (s.satF F u i n).hold = s.hold := rfl
@[simp] theorem State.satF_rdata (F : Fld) (u i n : Nat) : (s.satF F u i n).rdata = s.rdata := rfl
@[simp] theorem State.satF_gln (F : Fld) (u i n : Nat) : (s.satF F u i n).gln = s.gln := rfl
@[simp] theorem State.satF_glnRecs (F : Fld) (u i n : Nat) : (s.satF F u i n).glnRecs = s.glnRecs := rfl
@[simp] theorem State.satF_glnTimes (F : Fld) (u i n : Nat) : (s.satF F u i n).glnTimes = s.glnTimes := rfl
@[simp] theorem State.satF_glnOff (F : Fld) (u i n : Nat) : (s.satF F u i n).glnOff = s.glnOff := rfl
@[simp] theorem State.satF_sampleCnt (F : Fld) (u i n : Nat) : (s.satF F u i n).sampleCnt = s.sampleCnt := rfl
@[simp] theorem State.satF_tagNext (F : Fld) (u i n : Nat) : (s.satF F u i n).tagNext = s.tagNext := rfl
@[simp] theorem State.satF_tags (F : Fld) (u i n : Nat) : (s.satF F u i n).tags = s.tags := rfl
@[simp] theorem State.satF_gatherNext (F : Fld) (u i n : Nat) : (s.satF F u i n).gatherNext = s.gatherNext := rfl
@[simp] theorem State.satF_gatherBusy (F : Fld) (u i n : Nat) : (s.satF F u i n).gatherBusy = s.gatherBusy := rfl
@[simp] theorem State.satF_prefs (F : Fld) (u i n : Nat) : (s.satF F u i n).prefs = s.prefs := rfl
@[simp] theorem State.satF_pcus (F : Fld) (u i n : Nat) : (s.satF F u i n).pcus = s.pcus := rfl
@[simp] theorem State.satF_pinQ (F : Fld) (u i n : Nat) : (s.satF F u i n).pinQ = s.pinQ := rfl
@[simp] theorem State.satF_pins (F : Fld) (u i n : Nat) : (s.satF F u i n).pins = s.pins := rfl
@[simp] theorem State.satF_tm (F : Fld) (u i n : Nat) : (s.satF F u i n).tm = s.tm := rfl
@[simp] theorem State.satF_wqs (F : Fld) (u i n : Nat) : (s.satF F u i n).wqs = s.wqs := rfl
@[simp] theorem State.satF_cqs (F : Fld) (u i n : Nat) : (s.satF F u i n).cqs = s.cqs := rfl
@[simp] theorem State.satF_wrrs (F : Fld) (u i n : Nat) : (s.satF F u i n).wrrs = s.wrrs := rfl
@[simp] theorem State.satF_refusals (F : Fld) (u i n : Nat) : (s.satF F u i n).refusals = s.refusals := rfl
@[simp] theorem State.satF_dmas (F : Fld) (u i n : Nat) : (s.satF F u i n).dmas = s.dmas := rfl
@[simp] theorem State.satF_progs (F : Fld) (u i n : Nat) : (s.satF F u i n).progs = s.progs := rfl
@[simp] theorem State.satF_loads (F : Fld) (u i n : Nat) : (s.satF F u i n).loads = s.loads := rfl
@[simp] theorem State.satF_taskSeq (F : Fld) (u i n : Nat) : (s.satF F u i n).taskSeq = s.taskSeq := rfl
@[simp] theorem State.satF_tasks (F : Fld) (u i n : Nat) : (s.satF F u i n).tasks = s.tasks := rfl
@[simp] theorem State.satF_ops (F : Fld) (u i n : Nat) : (s.satF F u i n).ops = s.ops := rfl
@[simp] theorem State.satF_nextOp (F : Fld) (u i n : Nat) : (s.satF F u i n).nextOp = s.nextOp := rfl
@[simp] theorem State.satF_placesOut (F : Fld) (u i n : Nat) : (s.satF F u i n).placesOut = s.placesOut := rfl
@[simp] theorem State.satF_links (F : Fld) (u i n : Nat) : (s.satF F u i n).links = s.links := rfl
@[simp] theorem State.satF_seqs (F : Fld) (u i n : Nat) : (s.satF F u i n).seqs = s.seqs := rfl
@[simp] theorem State.satF_trees (F : Fld) (u i n : Nat) : (s.satF F u i n).trees = s.trees := rfl
@[simp] theorem State.satF_ppwr (F : Fld) (u i n : Nat) : (s.satF F u i n).ppwr = s.ppwr := rfl
@[simp] theorem State.satF_staggered (F : Fld) (u i n : Nat) : (s.satF F u i n).staggered = s.staggered := rfl
@[simp] theorem State.satF_hub (F : Fld) (u i n : Nat) : (s.satF F u i n).hub = s.hub := rfl
@[simp] theorem State.satF_emacs (F : Fld) (u i n : Nat) : (s.satF F u i n).emacs = s.emacs := rfl
@[simp] theorem State.satF_steer (F : Fld) (u i n : Nat) : (s.satF F u i n).steer = s.steer := rfl
@[simp] theorem State.satF_em (F : Fld) (u i n : Nat) : (s.satF F u i n).em = s.em := rfl
@[simp] theorem State.satF_epochAt (F : Fld) (u i n : Nat) : (s.satF F u i n).epochAt = s.epochAt := rfl
@[simp] theorem State.satF_epochReq (F : Fld) (u i n : Nat) : (s.satF F u i n).epochReq = s.epochReq := rfl
@[simp] theorem State.satF_tabErrs (F : Fld) (u i n : Nat) : (s.satF F u i n).tabErrs = s.tabErrs := rfl
@[simp] theorem State.satF_insts (F : Fld) (u i n : Nat) : (s.satF F u i n).insts = s.insts := rfl
@[simp] theorem State.satF_mbxs (F : Fld) (u i n : Nat) : (s.satF F u i n).mbxs = s.mbxs := rfl
@[simp] theorem State.satF_rsv (F : Fld) (u i n : Nat) : (s.satF F u i n).rsv = s.rsv := rfl
@[simp] theorem State.satF_power (F : Fld) (u i n : Nat) : (s.satF F u i n).power = s.power := rfl
@[simp] theorem State.satF_nrgs (F : Fld) (u i n : Nat) : (s.satF F u i n).nrgs = s.nrgs := rfl
@[simp] theorem State.satF_chain (F : Fld) (u i n : Nat) : (s.satF F u i n).chain = s.chain := rfl
@[simp] theorem State.satF_boot (F : Fld) (u i n : Nat) : (s.satF F u i n).boot = s.boot := rfl
@[simp] theorem State.satF_epochPer (F : Fld) (u i n : Nat) : (s.satF F u i n).epochPer = s.epochPer := rfl
@[simp] theorem State.satF_timerAt (F : Fld) (u i n : Nat) : (s.satF F u i n).timerAt = s.timerAt := rfl
@[simp] theorem State.satF_slotUse (F : Fld) (u i n : Nat) : (s.satF F u i n).slotUse = s.slotUse := rfl
@[simp] theorem State.satF_msixSent (F : Fld) (u i n : Nat) : (s.satF F u i n).msixSent = s.msixSent := rfl
@[simp] theorem State.setSrc_pending (k : Nat) (v : IrqSrc) : (s.setSrc k v).pending = s.pending := rfl
@[simp] theorem State.setSrc_now (k : Nat) (v : IrqSrc) : (s.setSrc k v).now = s.now := rfl
@[simp] theorem State.setSrc_devTime (k : Nat) (v : IrqSrc) : (s.setSrc k v).devTime = s.devTime := rfl
@[simp] theorem State.setSrc_draws (k : Nat) (v : IrqSrc) : (s.setSrc k v).draws = s.draws := rfl
@[simp] theorem State.setSrc_regs (k : Nat) (v : IrqSrc) : (s.setSrc k v).regs = s.regs := rfl
@[simp] theorem State.setSrc_shadow (k : Nat) (v : IrqSrc) : (s.setSrc k v).shadow = s.shadow := rfl
@[simp] theorem State.setSrc_latch (k : Nat) (v : IrqSrc) : (s.setSrc k v).latch = s.latch := rfl
@[simp] theorem State.setSrc_cmts (k : Nat) (v : IrqSrc) : (s.setSrc k v).cmts = s.cmts := rfl
@[simp] theorem State.setSrc_mem (k : Nat) (v : IrqSrc) : (s.setSrc k v).mem = s.mem := rfl
@[simp] theorem State.setSrc_events (k : Nat) (v : IrqSrc) : (s.setSrc k v).events = s.events := rfl
@[simp] theorem State.setSrc_out (k : Nat) (v : IrqSrc) : (s.setSrc k v).out = s.out := rfl
@[simp] theorem State.setSrc_fenced (k : Nat) (v : IrqSrc) : (s.setSrc k v).fenced = s.fenced := rfl
@[simp] theorem State.setSrc_fns (k : Nat) (v : IrqSrc) : (s.setSrc k v).fns = s.fns := rfl
@[simp] theorem State.setSrc_tlb (k : Nat) (v : IrqSrc) : (s.setSrc k v).tlb = s.tlb := rfl
@[simp] theorem State.setSrc_ats (k : Nat) (v : IrqSrc) : (s.setSrc k v).ats = s.ats := rfl
@[simp] theorem State.setSrc_waiters (k : Nat) (v : IrqSrc) : (s.setSrc k v).waiters = s.waiters := rfl
@[simp] theorem State.setSrc_xl (k : Nat) (v : IrqSrc) : (s.setSrc k v).xl = s.xl := rfl
@[simp] theorem State.setSrc_irqReq (k : Nat) (v : IrqSrc) : (s.setSrc k v).irqReq = s.irqReq := rfl
@[simp] theorem State.setSrc_hold (k : Nat) (v : IrqSrc) : (s.setSrc k v).hold = s.hold := rfl
@[simp] theorem State.setSrc_rdata (k : Nat) (v : IrqSrc) : (s.setSrc k v).rdata = s.rdata := rfl
@[simp] theorem State.setSrc_gln (k : Nat) (v : IrqSrc) : (s.setSrc k v).gln = s.gln := rfl
@[simp] theorem State.setSrc_glnRecs (k : Nat) (v : IrqSrc) : (s.setSrc k v).glnRecs = s.glnRecs := rfl
@[simp] theorem State.setSrc_glnTimes (k : Nat) (v : IrqSrc) : (s.setSrc k v).glnTimes = s.glnTimes := rfl
@[simp] theorem State.setSrc_glnOff (k : Nat) (v : IrqSrc) : (s.setSrc k v).glnOff = s.glnOff := rfl
@[simp] theorem State.setSrc_sampleCnt (k : Nat) (v : IrqSrc) : (s.setSrc k v).sampleCnt = s.sampleCnt := rfl
@[simp] theorem State.setSrc_tagNext (k : Nat) (v : IrqSrc) : (s.setSrc k v).tagNext = s.tagNext := rfl
@[simp] theorem State.setSrc_tags (k : Nat) (v : IrqSrc) : (s.setSrc k v).tags = s.tags := rfl
@[simp] theorem State.setSrc_gatherNext (k : Nat) (v : IrqSrc) : (s.setSrc k v).gatherNext = s.gatherNext := rfl
@[simp] theorem State.setSrc_gatherBusy (k : Nat) (v : IrqSrc) : (s.setSrc k v).gatherBusy = s.gatherBusy := rfl
@[simp] theorem State.setSrc_prefs (k : Nat) (v : IrqSrc) : (s.setSrc k v).prefs = s.prefs := rfl
@[simp] theorem State.setSrc_pcus (k : Nat) (v : IrqSrc) : (s.setSrc k v).pcus = s.pcus := rfl
@[simp] theorem State.setSrc_pinQ (k : Nat) (v : IrqSrc) : (s.setSrc k v).pinQ = s.pinQ := rfl
@[simp] theorem State.setSrc_pins (k : Nat) (v : IrqSrc) : (s.setSrc k v).pins = s.pins := rfl
@[simp] theorem State.setSrc_tm (k : Nat) (v : IrqSrc) : (s.setSrc k v).tm = s.tm := rfl
@[simp] theorem State.setSrc_wqs (k : Nat) (v : IrqSrc) : (s.setSrc k v).wqs = s.wqs := rfl
@[simp] theorem State.setSrc_cqs (k : Nat) (v : IrqSrc) : (s.setSrc k v).cqs = s.cqs := rfl
@[simp] theorem State.setSrc_wrrs (k : Nat) (v : IrqSrc) : (s.setSrc k v).wrrs = s.wrrs := rfl
@[simp] theorem State.setSrc_refusals (k : Nat) (v : IrqSrc) : (s.setSrc k v).refusals = s.refusals := rfl
@[simp] theorem State.setSrc_dmas (k : Nat) (v : IrqSrc) : (s.setSrc k v).dmas = s.dmas := rfl
@[simp] theorem State.setSrc_progs (k : Nat) (v : IrqSrc) : (s.setSrc k v).progs = s.progs := rfl
@[simp] theorem State.setSrc_loads (k : Nat) (v : IrqSrc) : (s.setSrc k v).loads = s.loads := rfl
@[simp] theorem State.setSrc_taskSeq (k : Nat) (v : IrqSrc) : (s.setSrc k v).taskSeq = s.taskSeq := rfl
@[simp] theorem State.setSrc_tasks (k : Nat) (v : IrqSrc) : (s.setSrc k v).tasks = s.tasks := rfl
@[simp] theorem State.setSrc_ops (k : Nat) (v : IrqSrc) : (s.setSrc k v).ops = s.ops := rfl
@[simp] theorem State.setSrc_nextOp (k : Nat) (v : IrqSrc) : (s.setSrc k v).nextOp = s.nextOp := rfl
@[simp] theorem State.setSrc_placesOut (k : Nat) (v : IrqSrc) : (s.setSrc k v).placesOut = s.placesOut := rfl
@[simp] theorem State.setSrc_links (k : Nat) (v : IrqSrc) : (s.setSrc k v).links = s.links := rfl
@[simp] theorem State.setSrc_seqs (k : Nat) (v : IrqSrc) : (s.setSrc k v).seqs = s.seqs := rfl
@[simp] theorem State.setSrc_trees (k : Nat) (v : IrqSrc) : (s.setSrc k v).trees = s.trees := rfl
@[simp] theorem State.setSrc_ppwr (k : Nat) (v : IrqSrc) : (s.setSrc k v).ppwr = s.ppwr := rfl
@[simp] theorem State.setSrc_staggered (k : Nat) (v : IrqSrc) : (s.setSrc k v).staggered = s.staggered := rfl
@[simp] theorem State.setSrc_hub (k : Nat) (v : IrqSrc) : (s.setSrc k v).hub = s.hub := rfl
@[simp] theorem State.setSrc_emacs (k : Nat) (v : IrqSrc) : (s.setSrc k v).emacs = s.emacs := rfl
@[simp] theorem State.setSrc_steer (k : Nat) (v : IrqSrc) : (s.setSrc k v).steer = s.steer := rfl
@[simp] theorem State.setSrc_em (k : Nat) (v : IrqSrc) : (s.setSrc k v).em = s.em := rfl
@[simp] theorem State.setSrc_epochAt (k : Nat) (v : IrqSrc) : (s.setSrc k v).epochAt = s.epochAt := rfl
@[simp] theorem State.setSrc_epochReq (k : Nat) (v : IrqSrc) : (s.setSrc k v).epochReq = s.epochReq := rfl
@[simp] theorem State.setSrc_tabErrs (k : Nat) (v : IrqSrc) : (s.setSrc k v).tabErrs = s.tabErrs := rfl
@[simp] theorem State.setSrc_insts (k : Nat) (v : IrqSrc) : (s.setSrc k v).insts = s.insts := rfl
@[simp] theorem State.setSrc_mbxs (k : Nat) (v : IrqSrc) : (s.setSrc k v).mbxs = s.mbxs := rfl
@[simp] theorem State.setSrc_rsv (k : Nat) (v : IrqSrc) : (s.setSrc k v).rsv = s.rsv := rfl
@[simp] theorem State.setSrc_power (k : Nat) (v : IrqSrc) : (s.setSrc k v).power = s.power := rfl
@[simp] theorem State.setSrc_nrgs (k : Nat) (v : IrqSrc) : (s.setSrc k v).nrgs = s.nrgs := rfl
@[simp] theorem State.setSrc_chain (k : Nat) (v : IrqSrc) : (s.setSrc k v).chain = s.chain := rfl
@[simp] theorem State.setSrc_boot (k : Nat) (v : IrqSrc) : (s.setSrc k v).boot = s.boot := rfl
@[simp] theorem State.setSrc_epochPer (k : Nat) (v : IrqSrc) : (s.setSrc k v).epochPer = s.epochPer := rfl
@[simp] theorem State.setSrc_timerAt (k : Nat) (v : IrqSrc) : (s.setSrc k v).timerAt = s.timerAt := rfl
@[simp] theorem State.setSrc_slotUse (k : Nat) (v : IrqSrc) : (s.setSrc k v).slotUse = s.slotUse := rfl
@[simp] theorem State.setSrc_msixSent (k : Nat) (v : IrqSrc) : (s.setSrc k v).msixSent = s.msixSent := rfl
@[simp] theorem State.setInst_pending (i : Nat) (x : InstSt) : (s.setInst i x).pending = s.pending := rfl
@[simp] theorem State.setInst_now (i : Nat) (x : InstSt) : (s.setInst i x).now = s.now := rfl
@[simp] theorem State.setInst_devTime (i : Nat) (x : InstSt) : (s.setInst i x).devTime = s.devTime := rfl
@[simp] theorem State.setInst_draws (i : Nat) (x : InstSt) : (s.setInst i x).draws = s.draws := rfl
@[simp] theorem State.setInst_regs (i : Nat) (x : InstSt) : (s.setInst i x).regs = s.regs := rfl
@[simp] theorem State.setInst_shadow (i : Nat) (x : InstSt) : (s.setInst i x).shadow = s.shadow := rfl
@[simp] theorem State.setInst_latch (i : Nat) (x : InstSt) : (s.setInst i x).latch = s.latch := rfl
@[simp] theorem State.setInst_cmts (i : Nat) (x : InstSt) : (s.setInst i x).cmts = s.cmts := rfl
@[simp] theorem State.setInst_mem (i : Nat) (x : InstSt) : (s.setInst i x).mem = s.mem := rfl
@[simp] theorem State.setInst_events (i : Nat) (x : InstSt) : (s.setInst i x).events = s.events := rfl
@[simp] theorem State.setInst_out (i : Nat) (x : InstSt) : (s.setInst i x).out = s.out := rfl
@[simp] theorem State.setInst_fenced (i : Nat) (x : InstSt) : (s.setInst i x).fenced = s.fenced := rfl
@[simp] theorem State.setInst_fns (i : Nat) (x : InstSt) : (s.setInst i x).fns = s.fns := rfl
@[simp] theorem State.setInst_tlb (i : Nat) (x : InstSt) : (s.setInst i x).tlb = s.tlb := rfl
@[simp] theorem State.setInst_ats (i : Nat) (x : InstSt) : (s.setInst i x).ats = s.ats := rfl
@[simp] theorem State.setInst_waiters (i : Nat) (x : InstSt) : (s.setInst i x).waiters = s.waiters := rfl
@[simp] theorem State.setInst_xl (i : Nat) (x : InstSt) : (s.setInst i x).xl = s.xl := rfl
@[simp] theorem State.setInst_irq (i : Nat) (x : InstSt) : (s.setInst i x).irq = s.irq := rfl
@[simp] theorem State.setInst_irqReq (i : Nat) (x : InstSt) : (s.setInst i x).irqReq = s.irqReq := rfl
@[simp] theorem State.setInst_hold (i : Nat) (x : InstSt) : (s.setInst i x).hold = s.hold := rfl
@[simp] theorem State.setInst_rdata (i : Nat) (x : InstSt) : (s.setInst i x).rdata = s.rdata := rfl
@[simp] theorem State.setInst_gln (i : Nat) (x : InstSt) : (s.setInst i x).gln = s.gln := rfl
@[simp] theorem State.setInst_glnRecs (i : Nat) (x : InstSt) : (s.setInst i x).glnRecs = s.glnRecs := rfl
@[simp] theorem State.setInst_glnTimes (i : Nat) (x : InstSt) : (s.setInst i x).glnTimes = s.glnTimes := rfl
@[simp] theorem State.setInst_glnOff (i : Nat) (x : InstSt) : (s.setInst i x).glnOff = s.glnOff := rfl
@[simp] theorem State.setInst_sampleCnt (i : Nat) (x : InstSt) : (s.setInst i x).sampleCnt = s.sampleCnt := rfl
@[simp] theorem State.setInst_tagNext (i : Nat) (x : InstSt) : (s.setInst i x).tagNext = s.tagNext := rfl
@[simp] theorem State.setInst_tags (i : Nat) (x : InstSt) : (s.setInst i x).tags = s.tags := rfl
@[simp] theorem State.setInst_gatherNext (i : Nat) (x : InstSt) : (s.setInst i x).gatherNext = s.gatherNext := rfl
@[simp] theorem State.setInst_gatherBusy (i : Nat) (x : InstSt) : (s.setInst i x).gatherBusy = s.gatherBusy := rfl
@[simp] theorem State.setInst_prefs (i : Nat) (x : InstSt) : (s.setInst i x).prefs = s.prefs := rfl
@[simp] theorem State.setInst_pcus (i : Nat) (x : InstSt) : (s.setInst i x).pcus = s.pcus := rfl
@[simp] theorem State.setInst_pinQ (i : Nat) (x : InstSt) : (s.setInst i x).pinQ = s.pinQ := rfl
@[simp] theorem State.setInst_pins (i : Nat) (x : InstSt) : (s.setInst i x).pins = s.pins := rfl
@[simp] theorem State.setInst_tm (i : Nat) (x : InstSt) : (s.setInst i x).tm = s.tm := rfl
@[simp] theorem State.setInst_wqs (i : Nat) (x : InstSt) : (s.setInst i x).wqs = s.wqs := rfl
@[simp] theorem State.setInst_cqs (i : Nat) (x : InstSt) : (s.setInst i x).cqs = s.cqs := rfl
@[simp] theorem State.setInst_wrrs (i : Nat) (x : InstSt) : (s.setInst i x).wrrs = s.wrrs := rfl
@[simp] theorem State.setInst_refusals (i : Nat) (x : InstSt) : (s.setInst i x).refusals = s.refusals := rfl
@[simp] theorem State.setInst_dmas (i : Nat) (x : InstSt) : (s.setInst i x).dmas = s.dmas := rfl
@[simp] theorem State.setInst_progs (i : Nat) (x : InstSt) : (s.setInst i x).progs = s.progs := rfl
@[simp] theorem State.setInst_loads (i : Nat) (x : InstSt) : (s.setInst i x).loads = s.loads := rfl
@[simp] theorem State.setInst_taskSeq (i : Nat) (x : InstSt) : (s.setInst i x).taskSeq = s.taskSeq := rfl
@[simp] theorem State.setInst_tasks (i : Nat) (x : InstSt) : (s.setInst i x).tasks = s.tasks := rfl
@[simp] theorem State.setInst_ops (i : Nat) (x : InstSt) : (s.setInst i x).ops = s.ops := rfl
@[simp] theorem State.setInst_nextOp (i : Nat) (x : InstSt) : (s.setInst i x).nextOp = s.nextOp := rfl
@[simp] theorem State.setInst_placesOut (i : Nat) (x : InstSt) : (s.setInst i x).placesOut = s.placesOut := rfl
@[simp] theorem State.setInst_links (i : Nat) (x : InstSt) : (s.setInst i x).links = s.links := rfl
@[simp] theorem State.setInst_seqs (i : Nat) (x : InstSt) : (s.setInst i x).seqs = s.seqs := rfl
@[simp] theorem State.setInst_trees (i : Nat) (x : InstSt) : (s.setInst i x).trees = s.trees := rfl
@[simp] theorem State.setInst_ppwr (i : Nat) (x : InstSt) : (s.setInst i x).ppwr = s.ppwr := rfl
@[simp] theorem State.setInst_staggered (i : Nat) (x : InstSt) : (s.setInst i x).staggered = s.staggered := rfl
@[simp] theorem State.setInst_hub (i : Nat) (x : InstSt) : (s.setInst i x).hub = s.hub := rfl
@[simp] theorem State.setInst_emacs (i : Nat) (x : InstSt) : (s.setInst i x).emacs = s.emacs := rfl
@[simp] theorem State.setInst_steer (i : Nat) (x : InstSt) : (s.setInst i x).steer = s.steer := rfl
@[simp] theorem State.setInst_em (i : Nat) (x : InstSt) : (s.setInst i x).em = s.em := rfl
@[simp] theorem State.setInst_epochAt (i : Nat) (x : InstSt) : (s.setInst i x).epochAt = s.epochAt := rfl
@[simp] theorem State.setInst_epochReq (i : Nat) (x : InstSt) : (s.setInst i x).epochReq = s.epochReq := rfl
@[simp] theorem State.setInst_tabErrs (i : Nat) (x : InstSt) : (s.setInst i x).tabErrs = s.tabErrs := rfl
@[simp] theorem State.setInst_mbxs (i : Nat) (x : InstSt) : (s.setInst i x).mbxs = s.mbxs := rfl
@[simp] theorem State.setInst_rsv (i : Nat) (x : InstSt) : (s.setInst i x).rsv = s.rsv := rfl
@[simp] theorem State.setInst_power (i : Nat) (x : InstSt) : (s.setInst i x).power = s.power := rfl
@[simp] theorem State.setInst_nrgs (i : Nat) (x : InstSt) : (s.setInst i x).nrgs = s.nrgs := rfl
@[simp] theorem State.setInst_chain (i : Nat) (x : InstSt) : (s.setInst i x).chain = s.chain := rfl
@[simp] theorem State.setInst_boot (i : Nat) (x : InstSt) : (s.setInst i x).boot = s.boot := rfl
@[simp] theorem State.setInst_epochPer (i : Nat) (x : InstSt) : (s.setInst i x).epochPer = s.epochPer := rfl
@[simp] theorem State.setInst_timerAt (i : Nat) (x : InstSt) : (s.setInst i x).timerAt = s.timerAt := rfl
@[simp] theorem State.setInst_slotUse (i : Nat) (x : InstSt) : (s.setInst i x).slotUse = s.slotUse := rfl
@[simp] theorem State.setInst_msixSent (i : Nat) (x : InstSt) : (s.setInst i x).msixSent = s.msixSent := rfl

end Sys2Proof.Machine
end

