-- ==== Sys2Proof/Laws/Fields.lean ====
section
/-! SUPPORT. Register fields: what a field reads after a write of it, of another field, and after the updates that write no field. -/
namespace Sys2Proof.Machine
variable (s : State)

/-- Reading a field after it is set. -/
@[simp] theorem State.f_setF_same (F : Fld) (u i v : Nat) : (s.setF F u i v).f F u i = v % 2 ^ F.w := by
  simp [State.f, State.setF]

/-- Setting a field leaves every field at another address alone. -/
theorem State.f_setF_ne {F G : Fld} {u i u' i' : Nat} (v : Nat) (h : G.addr u' i' ≠ F.addr u i) :
    (s.setF F u i v).f G u' i' = s.f G u' i' := by
  simp [State.f, State.setF, PMap.find_put_ne s.regs _ h]

/-- The fields depend on the register map alone. -/
theorem State.f_congr {s t : State} (h : t.regs = s.regs) (F : Fld) (u i : Nat) : t.f F u i = s.f F u i := by
  simp [State.f, h]

theorem State.b_congr {s t : State} (h : t.regs = s.regs) (F : Fld) (u i : Nat) : t.b F u i = s.b F u i := by
  simp [State.b, State.f_congr h]

@[simp] theorem State.f_addF_same (F : Fld) (u i n : Nat) : (s.addF F u i n).f F u i = (s.f F u i + n) % 2 ^ F.w := by
  simp [State.addF]

theorem State.f_satF_same (F : Fld) (u i n : Nat) : (s.satF F u i n).f F u i = min (s.f F u i + n) (2 ^ F.w - 1) := by
  have h : 0 < 2 ^ F.w := Nat.two_pow_pos _
  rw [State.satF, State.f_setF_same, Nat.mod_eq_of_lt (by omega)]

theorem State.setF_regs (F : Fld) (u i v : Nat) : (s.setF F u i v).regs = PMap.put s.regs (F.addr u i) (v % 2 ^ F.w) := rfl

/-- Setting a field keeps the register map rising. -/
theorem State.setF_rising {s : State} (F : Fld) (u i v : Nat) (h : PMap.rising s.regs = true) :
    PMap.rising (s.setF F u i v).regs = true := PMap.rising_put _ _ _ h

/-- A refusal counts on the instance's page and changes nothing else. -/
theorem State.refuse_count (fn : Nat) :
    (s.refuse fn).f INST_REFUSED_COUNT fn = min (s.f INST_REFUSED_COUNT fn + 1) (2 ^ INST_REFUSED_COUNT.w - 1) :=
  State.f_satF_same s INST_REFUSED_COUNT fn 0 1

/-- Fields of two pages, or two fields of a page, lie at different addresses when they lie at different registers. -/
theorem Fld.addr_ne_of_reg {F G : Fld} {u i u' i' : Nat} (hF : F.lo < 8) (hG : G.lo < 8)
    (h : F.blk * 2 ^ 20 + u * 2 ^ 12 + F.off + i * F.stride ≠ G.blk * 2 ^ 20 + u' * 2 ^ 12 + G.off + i' * G.stride) :
    F.addr u i ≠ G.addr u' i' := by
  unfold Fld.addr; omega

end Sys2Proof.Machine
end

