-- ==== Sys2Proof/Laws/Memory.lean ====
section
/-! SUPPORT. Memory: a read after a write, and the canonical form that every memory operation keeps. -/
namespace Sys2Proof.Machine

theorem Memory.wf_iff (m : List Host.Cell) : Memory.wf m = true ↔ PMap.rising m = true ∧ ∀ c ∈ m, c.2 ≠ memDefault := by
  simp [Memory.wf, List.all_eq_true]

/-- Writing a byte keeps the canonical form. -/
theorem State.setByte_wf {s : State} (a : Nat) (v : BitVec 8) (h : Memory.wf s.mem = true) : Memory.wf (s.setByte a v).mem = true := by
  rw [Memory.wf_iff] at h ⊢
  simp only [State.setByte, PMap.putD]
  split
  · exact ⟨PMap.rising_del _ _ h.1, fun c hc => h.2 c (PMap.mem_del hc)⟩
  · rename_i hv
    refine ⟨PMap.rising_put _ _ _ h.1, fun c hc => ?_⟩
    rcases PMap.mem_put hc with rfl | hc
    · exact hv
    · exact h.2 c hc

/-- Storing bytes keeps the canonical form. -/
theorem State.store_wf {s : State} (a : Nat) (vs : List (BitVec 8)) (h : Memory.wf s.mem = true) : Memory.wf (s.store a vs).mem = true := by
  induction vs generalizing s a with
  | nil => exact h
  | cons v vs ih => exact ih (a + 1) (State.setByte_wf a v h)

/-- Removing entries keeps the canonical form. -/
theorem Memory.wf_filter (m : List Host.Cell) (p : Host.Cell → Bool) (h : Memory.wf m = true) : Memory.wf (m.filter p) = true := by
  rw [Memory.wf_iff] at h ⊢
  exact ⟨PMap.rising_filter m p h.1, fun c hc => h.2 c (List.mem_of_mem_filter hc)⟩

/-- A read of a byte just written. -/
theorem State.byte_setByte_same {s : State} (a : Nat) (v : BitVec 8) (h : Memory.wf s.mem = true) : (s.setByte a v).byte a = v := by
  simp only [State.byte, State.setByte, PMap.putD]
  split
  · rename_i hv
    have hr := ((Memory.wf_iff _).1 h).1
    simp [PMap.get, PMap.find_del_same s.mem a hr, hv]
  · simp

/-- A write leaves every other byte alone. -/
theorem State.byte_setByte_ne (s : State) {a b : Nat} (v : BitVec 8) (h : b ≠ a) : (s.setByte a v).byte b = s.byte b := by
  simp only [State.byte, State.setByte, PMap.putD]
  split
  · simp [PMap.get, PMap.find_del_ne s.mem h]
  · exact PMap.get_put_ne s.mem v memDefault h

/-- Storing bytes leaves the bytes outside them alone. -/
theorem State.byte_store_outside (s : State) (a b : Nat) (vs : List (BitVec 8)) (h : b < a ∨ a + vs.length ≤ b) :
    (s.store a vs).byte b = s.byte b := by
  induction vs generalizing s a with
  | nil => rfl
  | cons v vs ih =>
    simp only [List.length_cons] at h
    rw [State.store, ih _ _ (by omega), State.byte_setByte_ne s v (by omega)]

end Sys2Proof.Machine
end

