-- ==== Sys2Proof/Laws/Step.lean ====
section
/-! SUPPORT. The step, and the guards under which register writes reach their page: what each answers. -/
namespace Sys2Proof.Machine

/-- A command at the front of the queue runs with the queue's rest. -/
theorem step_front (s : State) (c : Instr) (rest : List Instr) (h : s.pending = c :: rest) :
    step s = exec c { s with pending := rest } := by simp [step, h]

/-- On an empty queue time passes. -/
theorem step_idle (s : State) (h : s.pending = []) : step s = .next s.tick := by simp [step, h]

/-- A write of the manager that reaches a page which is there acts. -/
theorem State.act_manager {s : State} {blk u : Nat} {m : Bool} (k : State → State) (hl : s.live blk u = true)
    (hr : s.resetting 0 = false) : s.act 0 blk u m k = k s := by
  have hs : s.serves blk = true := by
    simp only [State.live, Bool.and_eq_true] at hl; exact hl.1.1.1.1
  simp [State.act, hs, hr, hl]

/-- A write of the manager to a page that is not there is dropped. -/
theorem State.act_absent {s : State} {blk u : Nat} {m : Bool} (k : State → State) (hl : s.live blk u = false)
    (hr : s.resetting 0 = false) : s.act 0 blk u m k = s := by
  simp [State.act, hr, hl]

/-- An instance's write of a manager-only register is refused. -/
theorem State.act_managerOnly {s : State} {fn blk u : Nat} (k : State → State) (hs : s.serves blk = true) (hf : fn ≠ 0) :
    s.act fn blk u true k = s.refuse fn := by
  simp [State.act, hs, hf]

/-- A write of a function that resets is refused. -/
theorem State.act_resetting {s : State} {fn blk u : Nat} {m : Bool} (k : State → State) (hs : s.serves blk = true)
    (hr : s.resetting fn = true) : s.act fn blk u m k = s.refuse fn := by
  simp [State.act, hs, hr]

/-- Registers of an instance's fixed slots: the manager and the instance itself reach them. -/
theorem State.actOwn_own {s : State} {fn i : Nat} (k : State → State) (hs : s.serves 0 = true) (hf : fn = 0 ∨ fn = i)
    (hr : s.resetting fn = false) : s.actOwn fn i k = k s := by
  rcases hf with rfl | rfl <;> simp [State.actOwn, hs, hr]

end Sys2Proof.Machine
end

