-- ==== Sys2Proof/Laws/Tiller.lean ====
section
/-! SUPPORT. The one law of the tiller: what a task does that executes a word (chapter 12). -/
namespace Sys2Proof.Machine

/-- Where a task executes the word `w`, a command of its instruction is the instruction's body, and its answer is what follows. -/
theorem State.tiller_runs {s : State} {t : Task} {w : Nat} (hr : s.runsWord t w = true) (is : Nat → Bool)
    (body : State → Task → Nat → Ans) (hw : is w = true) :
    s.tiller t.sheaf t.seq is body = match body (s.issued t w) t w with
      | .exc cause detail => (s.issued t w).except t cause detail
      | .wait => s
      | .gone u => u
      | .next u x => u.retires x x.ctx
      | .branch u x target leave => u.branches x target leave
      | .goto u x => u.setTask x.retire := by
  simp only [State.runsWord, Bool.and_eq_true, decide_eq_true_eq, beq_iff_eq, bne_iff_ne, Option.isNone_iff_eq_none, Bool.or_eq_true] at hr
  obtain ⟨⟨⟨⟨⟨⟨⟨⟨⟨⟨h1, h2⟩, h3⟩, h4⟩, h5⟩, h6⟩, h7⟩, h8⟩, h9⟩, h10⟩, h11⟩ := hr
  subst h2
  have e1 : (t.src != 5 && t.base.isNone) = false := by
    rcases h7 with h7 | h7
    · simp [h7]
    · cases hb : t.base <;> simp_all
  have e2 : (t.base.isSome && t.budget == 0) = false := by
    rcases h8 with h8 | h8
    · simp [h8]
    · simp [h8]
  simp only [State.tiller, h1, h3, h4, h5, h6, e1, e2, h9, h10, h11, hw, State.issued]
  cases body (s.sampleIssue t (s.fetch t) (s.progSlot t)) t (s.fetch t) <;> simp <;> rfl

/-- A task that is not there executes nothing. -/
theorem State.tiller_none {s : State} {h q : Nat} (hn : s.taskOf h q = none) (is : Nat → Bool) (body : State → Task → Nat → Ans) :
    s.tiller h q is body = s := by simp [State.tiller, hn]

end Sys2Proof.Machine
end

