-- ==== Sys2Proof/Machine/Package.lean ====
section
/-! DEFINITION. The package: which ball carries what (R576 to R579), and the test port (R3, R591). No command reads these; a board does. -/
namespace Sys2Proof.Machine

/-- The letters that name rows of balls (R576). -/
def ballLetters : List Char := "ABCDEFGHJKLMNPTUVWY".toList

/-- The name of row `r`, 1 to 72 (R576). -/
def ballRow (r : Nat) : List Char :=
  let l (k : Nat) : Char := ballLetters.getD k 'A'
  if r ≤ 19 then [l (r - 1)] else [l ((r - 20) / 19), l ((r - 20) % 19)]

/-- A ball: its row and its column, both 1 to 72. -/
structure Ball where
  row : Nat
  col : Nat
deriving DecidableEq, Repr

/-- The row of the transmitters of the lanes of chiplet `c`, and that of their receivers (Table 20-2). -/
def laneRow (c : Nat) (rx : Bool) : Nat :=
  let rows : Nat × Nat := if c == 0 then (2, 5) else if c == 1 then (8, 11) else if c == 2 then (71, 68) else (65, 62)
  if rx then rows.2 else rows.1

/-- The ball of SRDS lane `n`: receiver or transmitter, negative or positive half (R577). -/
def laneBall (n : Nat) (rx neg : Bool) : Ball := ⟨laneRow (n / 24) rx, 3 * (n % 24) + (if neg then 2 else 1)⟩

/-- The ball of lane `k` of host port `p` (R578). -/
def pcieBall (p k : Nat) (rx neg : Bool) : Ball :=
  let g := k / 8
  let row := (if p ≤ 1 then 13 else 37) + 3 * (k % 8) + (if neg then 1 else 0)
  ⟨row, if p % 2 == 0 then (if rx then 4 else 2) + 4 * g else (if rx then 69 else 71) - 4 * g⟩

/-- What a ball carries, apart from its number within the kind. -/
inductive BallUse
  | lane
  | pcie
  | signal
  | rsvd
  | vin
  | vddHbm
  | vddSrds
  | vddhSrds
  | vddIo
  | vaux
  | vss
deriving DecidableEq, Repr

/-- Columns of the signal balls of a row in Table 20-4. -/
def signalCols (row : Nat) : List Nat :=
  if row == 13 then [9, 10, 12, 13, 15, 16, 18, 19, 21, 22, 25, 26, 27, 28, 29, 30]
  else if row == 14 then [9, 10, 12, 13, 15, 18, 19, 21, 22, 24, 25, 27, 28]
  else if row == 15 then [9, 10, 12, 13, 14, 15, 17, 18, 20, 21, 22, 25, 26, 27, 28, 29, 31]
  else if row == 57 then (List.range 24).map (· + 9)
  else if row == 58 then (List.range 32).map (· + 9)
  else if row == 59 then [9, 10, 12]
  else []

/-- What the ball carries (R577 to R579, Tables 20-3 and 20-4); one that no table names is VSS. -/
def ballUse (b : Ball) : BallUse :=
  let inner := decide (9 ≤ b.col) && decide (b.col ≤ 64)
  if [2, 5, 8, 11, 62, 65, 68, 71].contains b.row then (if b.col % 3 == 0 then .vss else .lane)
  else if b.row ≤ 12 || 61 ≤ b.row then .vss
  else if !inner then
    (if (b.row - 13) % 3 != 2 && b.row ≤ 60 && [2, 4, 6, 8, 71, 69, 67, 65].contains b.col then .pcie else .vss)
  else if (signalCols b.row).contains b.col then .signal
  else if b.row == 13 && decide (33 ≤ b.col) && decide (b.col ≤ 36) then .rsvd
  else if b.row == 16 then
    (if b.col % 2 == 0 && decide (10 ≤ b.col) && decide (b.col ≤ 24) then .vddIo
     else if b.col % 2 == 0 && decide (40 ≤ b.col) && decide (b.col ≤ 46) then .vaux else .vss)
  else if b.row == 60 && b.col % 2 == 0 && decide (10 ≤ b.col) && decide (b.col ≤ 24) then .vddIo
  else if b.row == 17 || b.row == 18 || b.row == 55 || b.row == 56 then (if b.col % 2 == 0 then .vddSrds else .vss)
  else if b.row == 19 || b.row == 54 then (if b.col % 2 == 0 then .vddhSrds else .vss)
  else if b.row == 20 || b.row == 21 || b.row == 52 || b.row == 53 then (if b.col % 2 == 0 then .vddHbm else .vss)
  else if 22 ≤ b.row && b.row ≤ 51 then (if (b.row + b.col) % 2 == 0 then .vin else .vss)
  else .vss

/-- The columns of row `r` that carry `u`. -/
def ballsIn (u : BallUse) (r : Nat) : Nat := ((List.range 72).filter fun c => ballUse ⟨r, c + 1⟩ == u).length

/-- The instructions of the test port (R591). -/
inductive Jtag
  | bypass
  | idcode
  | extest
  | samplePreload
  | ac
deriving DecidableEq, Repr

/-- The TAP carries the instruction out: EXTEST, SAMPLE/PRELOAD and those of IEEE 1149.6 (`ac`) while POR_N is low alone. With TRST_N low
the TAP is in reset. Nothing of this reaches the state (R3). -/
def jtagActs (porN trstN : Bool) (i : Jtag) : Bool := trstN && (!porN || i == .bypass || i == .idcode)

end Sys2Proof.Machine
end

