-- ==== Sys2Proof/WellFormed.lean ====
section
/-! DEFINITION. The ranges of a command's operands: which units, functions and indices the device has. -/
namespace Sys2Proof

/-- Bytes of a function's BAR0: 256 MiB for the manager (R33), 1 MiB for an instance (R63). -/
def barBytes (fn : Nat) : Nat := if fn == 0 then 2 ^ 28 else 2 ^ 20

/-- The operands of a command lie in the ranges that the device has: functions and instances 0 to 64, root ports and Ethernet ports 0 to 95, host
ports 0 to 3, sheaves 0 to 63, queues and rings 0 to 16,383, DMA channels and compare units 0 to 511, references 0 to 7, and so on. -/
def wellFormed : Instr → Bool
  | .registerWrite fn off size value => decide (fn ≤ 64) && decide (off < barBytes fn) && decide (1 ≤ size) && decide (size ≤ 4096) && decide (value < 256 ^ size)
  | .pageCrossingRead fn off size => decide (fn ≤ 64) && decide (off < barBytes fn) && decide (1 ≤ size) && decide (size ≤ 4096)
  | .pageCommitCancel fn blk unit => decide (fn ≤ 64) && decide (blk < 256) && decide (unit < 256)
  | .pageCommitNow fn blk unit arg => decide (fn ≤ 64) && decide (blk < 256) && decide (unit < 256) && decide (arg < 2 ^ 24)
  | .pageCommitFrame fn blk unit arg => decide (fn ≤ 64) && decide (blk < 256) && decide (unit < 256) && decide (arg < 2 ^ 24)
  | .pageCommitEpoch fn blk unit arg => decide (fn ≤ 64) && decide (blk < 256) && decide (unit < 256) && decide (arg < 2 ^ 24)
  | .pageCommitPosition fn blk unit arg => decide (fn ≤ 64) && decide (blk < 256) && decide (unit < 256) && decide (arg < 2 ^ 24)
  | .pageCtlDiscard fn blk unit value => decide (fn ≤ 64) && decide (blk < 256) && decide (unit < 256) && decide (value < 2 ^ 32)
  | .pageCtlRelease fn blk unit value => decide (fn ≤ 64) && decide (blk < 256) && decide (unit < 256) && decide (value < 2 ^ 32)
  | .pageCtlSnap fn blk unit value => decide (fn ≤ 64) && decide (blk < 256) && decide (unit < 256) && decide (value < 2 ^ 32)
  | .snapshotTimeout fn => decide (fn ≤ 64)
  | .epochAdvance fn => decide (fn ≤ 64)
  | .epochTimerExpiry => true
  | .epochBoundary => true
  | .instanceRefusedAccess fn off _ => decide (fn ≤ 64) && decide (off < barBytes fn)
  | .refusalDone fn => decide (fn ≤ 64)
  | .ts port lane _ => decide (port < 96) && decide (lane < 96)
  | .eie port lane => decide (port < 96) && decide (lane < 96)
  | .eix port lane => decide (port < 96) && decide (lane < 96)
  | .wsw port _ => decide (port < 96)
  | .fecUncorrectable port lane _ => decide (port < 96) && decide (lane < 96)
  | .blockLockLoss port => decide (port < 96)
  | .presentTimeout port => decide (port < 96)
  | .configTimeout port => decide (port < 96)
  | .retrainTimeout port => decide (port < 96)
  | .dat port pkt => decide (port < 96) && pkt.hdr.length == 16
  | .ack port pkt => decide (port < 96) && pkt.hdr.length == 16
  | .nak port pkt => decide (port < 96) && pkt.hdr.length == 16
  | .kpbStl port pkt => decide (port < 96) && pkt.hdr.length == 16
  | .bur port pkt => decide (port < 96) && pkt.hdr.length == 16
  | .hub port pkt => decide (port < 96) && pkt.hdr.length == 16
  | .ping port pkt => decide (port < 96) && pkt.hdr.length == 16
  | .pong port pkt => decide (port < 96) && pkt.hdr.length == 16
  | .shedAck port pkt => decide (port < 96) && pkt.hdr.length == 16
  | .widenAck port pkt => decide (port < 96) && pkt.hdr.length == 16
  | .stepAck port pkt => decide (port < 96) && pkt.hdr.length == 16
  | .refuse port pkt => decide (port < 96) && pkt.hdr.length == 16
  | .shedReq port pkt => decide (port < 96) && pkt.hdr.length == 16
  | .widenReq port pkt => decide (port < 96) && pkt.hdr.length == 16
  | .stepReq port pkt => decide (port < 96) && pkt.hdr.length == 16
  | .hubRoleDownstreamPacket port pkt => decide (port < 96) && pkt.hdr.length == 16
  | .responseTimeout port => decide (port < 96)
  | .krpCmdRetrain fn port => decide (fn ≤ 64) && decide (port < 96)
  | .krpCmdWiden fn port => decide (fn ≤ 64) && decide (port < 96)
  | .kpbUtilWindow port _ => decide (port < 96)
  | .kpbShedStart port => decide (port < 96)
  | .kpbStepDownStart port => decide (port < 96)
  | .kpbWidenStart port => decide (port < 96)
  | .stepWaitLimit port => decide (port < 96)
  | .pingTimer port => decide (port < 96)
  | .portResetIdleEnd port => decide (port < 96)
  | .enumDebounceEnd port hub hport => decide (port < 96) && decide (hub < 256) && decide (hport < 16)
  | .enumPortTurn port => decide (port < 96)
  | .enumWaitEnd port => decide (port < 96)
  | .enumAttemptTimeout port => decide (port < 96)
  | .hubStatusPoll port hub => decide (port < 96) && decide (hub < 256)
  | .khubTreeBaseWrite fn port value => decide (fn ≤ 64) && decide (port < 96) && decide (value < 2 ^ 64)
  | .khubTreeAckWrite fn port value => decide (fn ≤ 64) && decide (port < 96) && decide (value < 2 ^ 32)
  | .enumEnWrite fn port _ => decide (fn ≤ 64) && decide (port < 96)
  | .rescan fn port => decide (fn ≤ 64) && decide (port < 96)
  | .portPowerOn fn port => decide (fn ≤ 64) && decide (port < 96)
  | .portPowerOff fn port => decide (fn ≤ 64) && decide (port < 96)
  | .powerStaggerAllows port => decide (port < 96)
  | .powerGood port => decide (port < 96)
  | .powerGoodTimeout port => decide (port < 96)
  | .pmbAlert _ _ => true
  | .telemetryPoll port status pin _ => decide (port < 96) && decide (status < 65536) && decide (pin < 65536)
  | .encoderEdge ref chan => decide (ref < 8) && decide (chan < 2)
  | .glitch ref chan => decide (ref < 8) && decide (chan < 2)
  | .indexEdge ref _ => decide (ref < 8)
  | .standstill ref => decide (ref < 8)
  | .srcLost ref => decide (ref < 8)
  | .prefSet fn ref value => decide (fn ≤ 64) && decide (ref < 8) && decide (value < 2 ^ 64)
  | .prefHostMove fn ref value => decide (fn ≤ 64) && decide (ref < 8) && decide (value < 2 ^ 64)
  | .prefHostVel fn ref value => decide (fn ≤ 64) && decide (ref < 8) && decide (value < 2 ^ 64)
  | .pcuFire unit => decide (unit < 512)
  | .pcuArmArm fn unit _ => decide (fn ≤ 64) && decide (unit < 512)
  | .pcuArmDisarm fn unit => decide (fn ≤ 64) && decide (unit < 512)
  | .pinAction pin => decide (pin < 32)
  | .pulseEnd pin => decide (pin < 32)
  | .ppsIn _ => true
  | .ref10mLoss => true
  | .ppsMissing => true
  | .timeCmdSet fn _ => decide (fn ≤ 64)
  | .timeCmdStep fn => decide (fn ≤ 64)
  | .timeRateWrite fn value => decide (fn ≤ 64) && decide (value < 2 ^ 32)
  | .ppsOutSecond => true
  | .ppsOutPulseEnd => true
  | .positionBoundary port => decide (port < 96)
  | .timeBoundary port => decide (port < 96)
  | .fillerBoundary port => decide (port < 96)
  | .frmDepart port => decide (port < 96)
  | .serviceEnd port => decide (port < 96)
  | .serviceResponseTimeout port => decide (port < 96)
  | .controlTurnTimer port => decide (port < 96)
  | .kschCmdAdmit fn port => decide (fn ≤ 64) && decide (port < 96)
  | .admissionDone port => decide (port < 96)
  | .candValid port => decide (port < 96)
  | .kschCmdDropCand fn port => decide (fn ≤ 64) && decide (port < 96)
  | .doorbellTail fn slot value size => decide (fn ≤ 64) && decide (slot < 1024) && decide (value < 2 ^ 32) && decide (1 ≤ size) && decide (size ≤ 4096)
  | .doorbellInvalidate fn slot value size => decide (fn ≤ 64) && decide (slot < 1024) && decide (value < 2 ^ 32) && decide (1 ≤ size) && decide (size ≤ 4096)
  | .pushWindowWrite fn slot offset _ => decide (fn ≤ 64) && decide (slot < 1024) && decide (offset < 512)
  | .descriptorFetch queue index => decide (queue < 16384) && decide (index < 65536)
  | .descriptorAccept queue => decide (queue < 16384)
  | .wqEnable fn queue value => decide (fn ≤ 64) && decide (queue < 16384) && decide (value < 2 ^ 32)
  | .wqDisable fn queue value => decide (fn ≤ 64) && decide (queue < 16384) && decide (value < 2 ^ 32)
  | .wqCmdResume fn queue => decide (fn ≤ 64) && decide (queue < 16384)
  | .wqCmdAbort fn queue => decide (fn ≤ 64) && decide (queue < 16384)
  | .wqRsyCtlQuiesce fn inst => decide (fn ≤ 64) && decide (inst ≤ 64)
  | .wqRsyCtlResume fn inst => decide (fn ≤ 64) && decide (inst ≤ 64)
  | .wqRsyCtlSquash fn inst => decide (fn ≤ 64) && decide (inst ≤ 64)
  | .cqEnable fn ring value => decide (fn ≤ 64) && decide (ring < 16384) && decide (value < 2 ^ 32)
  | .cqHeadWrite fn ring value => decide (fn ≤ 64) && decide (ring < 16384) && decide (value < 2 ^ 32)
  | .cqArm fn ring => decide (fn ≤ 64) && decide (ring < 16384)
  | .coalesceTimeout ring => decide (ring < 16384)
  | .dmaEnable fn chan ctl => decide (fn ≤ 64) && decide (chan < 512) && decide (ctl < 2 ^ 32)
  | .dmaDisable fn chan ctl => decide (fn ≤ 64) && decide (chan < 512) && decide (ctl < 2 ^ 32)
  | .dmaCmdKick fn chan => decide (fn ≤ 64) && decide (chan < 512)
  | .dmaCmdStop fn chan => decide (fn ≤ 64) && decide (chan < 512)
  | .dmaCmdGo fn chan => decide (fn ≤ 64) && decide (chan < 512)
  | .dmaCmdDiscardParked fn chan => decide (fn ≤ 64) && decide (chan < 512)
  | .dmaPoll chan => decide (chan < 512)
  | .dmaRingRead chan => decide (chan < 512)
  | .dmaDescriptorEnd chan => decide (chan < 512)
  | .txFrameFetched queue => decide (queue < 16384)
  | .txFrameStart port => decide (port < 96)
  | .txFrameEnd port => decide (port < 96)
  | .rxFrame port _ _ _ => decide (port < 96)
  | .emacLinkUp port _ => decide (port < 96)
  | .emacLinkDown port _ _ _ => decide (port < 96)
  | .emacCmdRetrain fn port => decide (fn ≤ 64) && decide (port < 96)
  | .emacCmdWiden fn port => decide (fn ≤ 64) && decide (port < 96)
  | .hello port _ arg nonce => decide (port < 96) && decide (arg < 256) && decide (nonce < 2 ^ 32)
  | .helloTimer port => decide (port < 96)
  | .helloAbsence port => decide (port < 96)
  | .lsxShedReq port arg nonce => decide (port < 96) && decide (arg < 256) && decide (nonce < 2 ^ 32)
  | .lsxShedAck port arg nonce => decide (port < 96) && decide (arg < 256) && decide (nonce < 2 ^ 32)
  | .lsxWidenReq port arg nonce => decide (port < 96) && decide (arg < 256) && decide (nonce < 2 ^ 32)
  | .lsxWidenAck port arg nonce => decide (port < 96) && decide (arg < 256) && decide (nonce < 2 ^ 32)
  | .lsxRefuse port arg nonce => decide (port < 96) && decide (arg < 256) && decide (nonce < 2 ^ 32)
  | .lsxShedStart port => decide (port < 96)
  | .lsxWidenStart port => decide (port < 96)
  | .lsxAnswerTimeout port => decide (port < 96)
  | .lsxSwitch port => decide (port < 96)
  | .lsxRealigned port => decide (port < 96)
  | .lsxRealignFail port => decide (port < 96)
  | .pauseFrame port quanta => decide (port < 96) && decide (quanta < 65536)
  | .pfcFrame port vec times => decide (port < 96) && decide (vec < 256) && times.length == 8
  | .pauseTimerExpiry port cls => decide (port < 96) && decide (cls < 8)
  | .pauseResend port => decide (port < 96)
  | .estrLoadCmdClear fn => decide (fn ≤ 64)
  | .estrLoadCmdCopy fn => decide (fn ≤ 64)
  | .estrLoadCmdLoad fn => decide (fn ≤ 64)
  | .steeringCommandDone => true
  | .estrCmdRekey fn port => decide (fn ≤ 64) && decide (port < 96)
  | .imbalanceWindow port => decide (port < 96)
  | .steeringDrainEnd port => decide (port < 96)
  | .efltWakeCmdLoad fn port => decide (fn ≤ 64) && decide (port < 96)
  | .wakeLoadDone port => decide (port < 96)
  | .msecKeyCmdLoad fn port value => decide (fn ≤ 64) && decide (port < 96) && decide (value < 2 ^ 32)
  | .taskDispatch sheaf => decide (sheaf < 64)
  | .commitInstant sheaf seq => decide (sheaf < 64) && decide (seq < 2 ^ 32)
  | .taskDeadlineMiss sheaf => decide (sheaf < 64)
  | .tillerFailure sheaf seq => decide (sheaf < 64) && decide (seq < 2 ^ 32)
  | .shfLoadCmdLoad fn sheaf inst slot len => decide (fn ≤ 64) && decide (sheaf < 64) && decide (inst ≤ 64) && decide (slot < 32) && decide (len < 2048)
  | .programLoadDone sheaf => decide (sheaf < 64)
  | .add sheaf seq => decide (sheaf < 64) && decide (seq < 2 ^ 32)
  | .sub sheaf seq => decide (sheaf < 64) && decide (seq < 2 ^ 32)
  | .and sheaf seq => decide (sheaf < 64) && decide (seq < 2 ^ 32)
  | .or sheaf seq => decide (sheaf < 64) && decide (seq < 2 ^ 32)
  | .xor sheaf seq => decide (sheaf < 64) && decide (seq < 2 ^ 32)
  | .nor sheaf seq => decide (sheaf < 64) && decide (seq < 2 ^ 32)
  | .slt sheaf seq => decide (sheaf < 64) && decide (seq < 2 ^ 32)
  | .sltu sheaf seq => decide (sheaf < 64) && decide (seq < 2 ^ 32)
  | .sll sheaf seq => decide (sheaf < 64) && decide (seq < 2 ^ 32)
  | .srl sheaf seq => decide (sheaf < 64) && decide (seq < 2 ^ 32)
  | .sra sheaf seq => decide (sheaf < 64) && decide (seq < 2 ^ 32)
  | .ror sheaf seq => decide (sheaf < 64) && decide (seq < 2 ^ 32)
  | .mul sheaf seq => decide (sheaf < 64) && decide (seq < 2 ^ 32)
  | .mulhu sheaf seq => decide (sheaf < 64) && decide (seq < 2 ^ 32)
  | .min sheaf seq => decide (sheaf < 64) && decide (seq < 2 ^ 32)
  | .max sheaf seq => decide (sheaf < 64) && decide (seq < 2 ^ 32)
  | .minu sheaf seq => decide (sheaf < 64) && decide (seq < 2 ^ 32)
  | .maxu sheaf seq => decide (sheaf < 64) && decide (seq < 2 ^ 32)
  | .clz sheaf seq => decide (sheaf < 64) && decide (seq < 2 ^ 32)
  | .popc sheaf seq => decide (sheaf < 64) && decide (seq < 2 ^ 32)
  | .bswap sheaf seq => decide (sheaf < 64) && decide (seq < 2 ^ 32)
  | .addi sheaf seq => decide (sheaf < 64) && decide (seq < 2 ^ 32)
  | .andi sheaf seq => decide (sheaf < 64) && decide (seq < 2 ^ 32)
  | .ori sheaf seq => decide (sheaf < 64) && decide (seq < 2 ^ 32)
  | .xori sheaf seq => decide (sheaf < 64) && decide (seq < 2 ^ 32)
  | .slti sheaf seq => decide (sheaf < 64) && decide (seq < 2 ^ 32)
  | .sltiu sheaf seq => decide (sheaf < 64) && decide (seq < 2 ^ 32)
  | .lui sheaf seq => decide (sheaf < 64) && decide (seq < 2 ^ 32)
  | .shi sheaf seq => decide (sheaf < 64) && decide (seq < 2 ^ 32)
  | .shfiSll sheaf seq => decide (sheaf < 64) && decide (seq < 2 ^ 32)
  | .shfiSrl sheaf seq => decide (sheaf < 64) && decide (seq < 2 ^ 32)
  | .shfiSra sheaf seq => decide (sheaf < 64) && decide (seq < 2 ^ 32)
  | .shfiRor sheaf seq => decide (sheaf < 64) && decide (seq < 2 ^ 32)
  | .ldl sheaf seq => decide (sheaf < 64) && decide (seq < 2 ^ 32)
  | .stl sheaf seq => decide (sheaf < 64) && decide (seq < 2 ^ 32)
  | .ldx sheaf seq => decide (sheaf < 64) && decide (seq < 2 ^ 32)
  | .stx sheaf seq => decide (sheaf < 64) && decide (seq < 2 ^ 32)
  | .stxw sheaf seq => decide (sheaf < 64) && decide (seq < 2 ^ 32)
  | .beq sheaf seq => decide (sheaf < 64) && decide (seq < 2 ^ 32)
  | .bne sheaf seq => decide (sheaf < 64) && decide (seq < 2 ^ 32)
  | .blt sheaf seq => decide (sheaf < 64) && decide (seq < 2 ^ 32)
  | .bge sheaf seq => decide (sheaf < 64) && decide (seq < 2 ^ 32)
  | .bltu sheaf seq => decide (sheaf < 64) && decide (seq < 2 ^ 32)
  | .bgeu sheaf seq => decide (sheaf < 64) && decide (seq < 2 ^ 32)
  | .j sheaf seq => decide (sheaf < 64) && decide (seq < 2 ^ 32)
  | .jal sheaf seq => decide (sheaf < 64) && decide (seq < 2 ^ 32)
  | .jr sheaf seq => decide (sheaf < 64) && decide (seq < 2 ^ 32)
  | .jalr sheaf seq => decide (sheaf < 64) && decide (seq < 2 ^ 32)
  | .mfs sheaf seq => decide (sheaf < 64) && decide (seq < 2 ^ 32)
  | .mts sheaf seq => decide (sheaf < 64) && decide (seq < 2 ^ 32)
  | .eret sheaf seq => decide (sheaf < 64) && decide (seq < 2 ^ 32)
  | .endTask sheaf seq => decide (sheaf < 64) && decide (seq < 2 ^ 32)
  | .cmt sheaf seq => decide (sheaf < 64) && decide (seq < 2 ^ 32)
  | .trap sheaf seq => decide (sheaf < 64) && decide (seq < 2 ^ 32)
  | .loop sheaf seq => decide (sheaf < 64) && decide (seq < 2 ^ 32)
  | .mode sheaf seq => decide (sheaf < 64) && decide (seq < 2 ^ 32)
  | .dbell sheaf seq => decide (sheaf < 64) && decide (seq < 2 ^ 32)
  | .pgw sheaf seq => decide (sheaf < 64) && decide (seq < 2 ^ 32)
  | .sdma sheaf seq => decide (sheaf < 64) && decide (seq < 2 ^ 32)
  | .sget sheaf seq => decide (sheaf < 64) && decide (seq < 2 ^ 32)
  | .sput sheaf seq => decide (sheaf < 64) && decide (seq < 2 ^ 32)
  | .swait sheaf seq => decide (sheaf < 64) && decide (seq < 2 ^ 32)
  | .streamOpEnd sheaf seq tag => decide (sheaf < 64) && decide (seq < 2 ^ 32) && decide (tag < 16)
  | .walkComplete die inst vaddr _ _ => decide (die < 2) && decide (inst ≤ 64) && decide (vaddr < 2 ^ 64)
  | .atsCompletion die inst page _ _ _ _ => decide (die < 2) && decide (inst ≤ 64) && decide (page < 2 ^ 52)
  | .atsInvalidateRequest inst page count tag => decide (inst ≤ 64) && decide (page < 2 ^ 52) && decide (count < 2 ^ 52) && decide (tag < 32)
  | .atsInvalidateCompletion inst tag => decide (inst ≤ 64) && decide (tag < 32)
  | .priResponse inst group code => decide (inst ≤ 64) && decide (group < 65536) && decide (code < 16)
  | .priTimeout inst fid => decide (inst ≤ 64) && decide (fid < 65536)
  | .dlogInv fn inst value => decide (fn ≤ 64) && decide (inst ≤ 64) && decide (value < 2 ^ 64)
  | .invalidationDone inst => decide (inst ≤ 64)
  | .dlogResumeRetry fn inst fid => decide (fn ≤ 64) && decide (inst ≤ 64) && decide (fid < 65536)
  | .dlogResumeAbort fn inst fid => decide (fn ≤ 64) && decide (inst ≤ 64) && decide (fid < 65536)
  | .dlogResumeRetryAll fn inst => decide (fn ≤ 64) && decide (inst ≤ 64)
  | .dlogFqHeadWrite fn inst value => decide (fn ≤ 64) && decide (inst ≤ 64) && decide (value < 2 ^ 32)
  | .dlogSpillTailWrite fn inst value => decide (fn ≤ 64) && decide (inst ≤ 64) && decide (value < 2 ^ 32)
  | .dirtyLogFlushDone inst => decide (inst ≤ 64)
  | .instCmdStart fn inst => decide (fn ≤ 64) && decide (inst ≤ 64)
  | .instCmdReset fn inst => decide (fn ≤ 64) && decide (inst ≤ 64)
  | .instCmdFreeze fn inst => decide (fn ≤ 64) && decide (inst ≤ 64)
  | .instCmdThaw fn inst => decide (fn ≤ 64) && decide (inst ≤ 64)
  | .instCmdSave fn inst => decide (fn ≤ 64) && decide (inst ≤ 64)
  | .instCmdRestore fn inst => decide (fn ≤ 64) && decide (inst ≤ 64)
  | .instCmdDestroy fn inst => decide (fn ≤ 64) && decide (inst ≤ 64)
  | .flr inst => decide (inst ≤ 64)
  | .vfEnableClear inst => decide (inst ≤ 64)
  | .busMasterEnableChange inst _ => decide (inst ≤ 64)
  | .instResetCut inst => decide (inst ≤ 64)
  | .instResetDrained inst => decide (inst ≤ 64)
  | .freezeDrained inst => decide (inst ≤ 64)
  | .freezeTimeout inst => decide (inst ≤ 64)
  | .saveDone inst => decide (inst ≤ 64)
  | .restoreDone inst => decide (inst ≤ 64)
  | .mbxCmdSend fn inst => decide (fn ≤ 64) && decide (inst ≤ 64)
  | .mbxCmdTake fn inst => decide (fn ≤ 64) && decide (inst ≤ 64)
  | .mbxTimeout inst _ => decide (inst ≤ 64)
  | .sourceSignal kind unit => decide (1 ≤ kind) && decide (kind ≤ 11) && decide (unit < 65536)
  | .irqClaim fn target size => decide (fn ≤ 64) && decide (64 ≤ target) && decide (target ≤ 196) && decide (1 ≤ size) && decide (size ≤ 4096)
  | .irqComplete fn target source => decide (fn ≤ 64) && decide (64 ≤ target) && decide (target ≤ 196) && decide (source < 8192)
  | .holdoffExpiry group => decide (group < 256)
  | .stormWindowEnd page => decide (page < 64)
  | .irqPendWrite fn page word value => decide (fn ≤ 64) && decide (page < 64) && decide (word < 4) && decide (value < 2 ^ 32)
  | .irqEnWrite fn page word value => decide (fn ≤ 64) && decide (page < 64) && decide (word < 4) && decide (value < 2 ^ 32)
  | .irqSrcCfgWrite fn source part value => decide (fn ≤ 64) && decide (source < 8192) && decide (part < 3) && decide (value < 2 ^ 64)
  | .faultDetect kind dom unit place _ => decide (1 ≤ kind) && decide (kind ≤ 11) && decide (1 ≤ dom) && decide (dom ≤ 50) && decide (unit < 65536) && decide (place < 65536)
  | .dualCopyMismatch blk unit => decide (blk < 256) && decide (unit < 65536)
  | .takeoverResume kind unit => decide (1 ≤ kind) && decide (kind ≤ 11) && decide (unit < 65536)
  | .retire kind unit => decide (1 ≤ kind) && decide (kind ≤ 11) && decide (unit < 65536)
  | .ageingSample _ => true
  | .phaseCurrentSample _ => true
  | .winnowTimer => true
  | .winnowDone kind unit place _ => decide (1 ≤ kind) && decide (kind ≤ 11) && decide (unit < 65536) && decide (place < 65536)
  | .pwrCmdRun fn => decide (fn ≤ 64)
  | .pwrCmdIdle fn => decide (fn ≤ 64)
  | .pwrCmdSleep fn => decide (fn ≤ 64)
  | .pwrCmdDsleep fn => decide (fn ≤ 64)
  | .pwrCmdOff fn => decide (fn ≤ 64)
  | .powerEntry _ => true
  | .drainTimeout => true
  | .wakeN => true
  | .supplyWarning => true
  | .supplyRecovery => true
  | .pointOfNoReturn => true
  | .shutdownSaveDone => true
  | .supplyRestart => true
  | .phaseFail stook phase => decide (stook < 8) && decide (phase < 16)
  | .reservePhaseIn stook => decide (stook < 8)
  | .phaseSenseFail stook phase => decide (stook < 8) && decide (phase < 16)
  | .thermalThrottleTick stook temp => decide (stook < 8) && decide (temp < 256)
  | .thermalRaiseTick stook temp => decide (stook < 8) && decide (temp < 256)
  | .thermalTrip dom temp => decide (1 ≤ dom) && decide (dom ≤ 50) && decide (temp < 256)
  | .demandIntervalEnd => true
  | .tariffPoint => true
  | .pwrTariffSet fn band => decide (fn ≤ 64) && decide (band < 4)
  | .nrgCmdClearAcc fn port => decide (fn ≤ 64) && decide (port < 96)
  | .nrgCmdClearMax fn port => decide (fn ≤ 64) && decide (port < 96)
  | .pmcCntWrite fn bank counter value => decide (fn ≤ 64) && decide (1 ≤ bank) && decide (bank ≤ 255) && decide (counter < 16) && decide (value < 2 ^ 64)
  | .counterOverflow bank counter => decide (1 ≤ bank) && decide (bank ≤ 255) && decide (counter < 16)
  | .gathererSnapshot => true
  | .sampleCountdown sheaf => decide (sheaf < 64)
  | .glnTrig fn code arg => decide (fn ≤ 64) && decide (code < 256) && decide (arg < 2 ^ 56)
  | .gleanerToken code => decide (code < 256)
  | .gleanerRecordWrite => true
  | .walk _ _ => true
  | .walkEnd _ _ => true
  | .levelSet _ _ => true
  | .join _ _ => true
  | .wake _ _ => true
  | .msg _ _ => true
  | .chainFrameRepeat _ _ => true
  | .linkBeat _ => true
  | .chainLinkLoss _ => true
  | .chainLinkGain _ => true
  | .walkTimeout => true
  | .dchCmdWalk fn => decide (fn ≤ 64)
  | .dchCmdSend fn => decide (fn ≤ 64)
  | .dchCmdTake fn => decide (fn ≤ 64)
  | .dchCmdWake fn dst => decide (fn ≤ 64) && decide (dst < 256)
  | .dchCmdReload fn => decide (fn ≤ 64)
  | .porNAssert => true
  | .porNRelease lead head => decide (lead < 4) && decide (head < 2)
  | .imageAccepted _ _ _ _ => true
  | .entropyReady sources => decide (sources < 16)
  | .seedlingService _ => true
  | .fullService => true
  | .perstNAssert port => decide (port < 4)
  | .perstNRelease port => decide (port < 4)
  | .refclkLoss => true
  | .refclkReturn => true
  | .sageFlCmdWrite fn => decide (fn ≤ 64)
  | .flashWriteDone _ => true
  | .sageFlCmdRestart fn => decide (fn ≤ 64)
  | .sageFlCmdCommitSvn fn => decide (fn ≤ 64)
  | .rngOut fn size => decide (fn ≤ 64) && decide (1 ≤ size) && decide (size ≤ 4096)
  | .rngCmdReseed fn => decide (fn ≤ 64)
  | .reseedTimer => true
  | .healthTestFail source => decide (source < 4)
  | .ref10mReturn _ => true
  | .remoteFault port _ => decide (port < 96)
  | .hostLinkDown port link => decide (port < 4) && decide (link < 2)
  | .hostLinkUp port link _ _ _ => decide (port < 4) && decide (link < 2)
  | .vfEnableSet inst => decide (inst ≤ 64)
  | .msiXUnmask fn vector => decide (fn ≤ 64) && decide (vector < 3)
  | .configurationRequest dest _ value _ => decide (dest.fn ≤ 64) && decide (dest.link < 2) && decide (value < 2 ^ 32)
  | .railsInTolerance => true
  | .pmbSegmentFault segment => decide (segment < 2)

end Sys2Proof
end

