-- ==== Sys2Proof/Tests/Slice0.lean ====
section
/-! SUPPORT. Tests: ill-formed operands, states that meet the statements' hypotheses, and effects of single commands as the spec gives
them. -/
set_option linter.unusedVariables false
set_option Elab.async false
namespace Sys2Proof.Tests
open Sys2Proof Sys2Proof.Machine

/-! ### Well-formed operands -/

/-- One ill-formed term for each check: each is refused. -/
theorem test_wellFormed_refuses_1 : (([
    .registerWrite 65 0 1 0,
    .registerWrite 0 (2 ^ 28) 1 0,
    .registerWrite 0 0 0 0,
    .registerWrite 0 0 4097 0,
    .registerWrite 0 0 1 256,
    .pageCommitCancel 0 (256) 0,
    .pageCommitCancel 0 0 (256),
    .pageCommitNow 0 0 0 (2 ^ 24),
    .pageCtlDiscard 0 0 0 (2 ^ 32),
    .ts (96) 0 [],
    .ts 0 (96) [],
    .dat 0 ({ hdr := leBytes 15 0 }),
    .enumDebounceEnd 0 (256) 0,
    .enumDebounceEnd 0 0 (16),
    .khubTreeBaseWrite 0 0 (2 ^ 64),
    .telemetryPoll 0 (65536) 0 false,
    .telemetryPoll 0 0 (65536) false,
    .encoderEdge (8) 0,
    .encoderEdge 0 (2),
    .pcuFire (512)] : List Instr).any wellFormed) = false := by decide +kernel
/-- One ill-formed term for each check: each is refused. -/
theorem test_wellFormed_refuses_2 : (([
    .pinAction (32),
    .doorbellTail 0 (1024) 0 1,
    .pushWindowWrite 0 0 (512) [],
    .descriptorFetch (16384) 0,
    .descriptorFetch 0 (65536),
    .wqRsyCtlQuiesce 0 65,
    .cqEnable 0 (16384) 0,
    .dmaEnable 0 (512) 0,
    .dmaEnable 0 0 (2 ^ 32),
    .hello 0 0 (256) 0,
    .hello 0 0 0 (2 ^ 32),
    .pauseFrame 0 (65536),
    .pfcFrame 0 (256) [0, 0, 0, 0, 0, 0, 0, 0],
    .pfcFrame 0 0 [0, 0, 0, 0, 0, 0, 0],
    .pauseTimerExpiry 0 (8),
    .taskDispatch (64),
    .commitInstant 0 (2 ^ 32),
    .shfLoadCmdLoad 0 0 0 (32) 0,
    .shfLoadCmdLoad 0 0 0 0 (2048),
    .streamOpEnd 0 0 (16)] : List Instr).any wellFormed) = false := by decide +kernel
/-- One ill-formed term for each check: each is refused. -/
theorem test_wellFormed_refuses_3 : (([
    .walkComplete (2) 0 0 false 0,
    .walkComplete 0 0 (2 ^ 64) false 0,
    .atsCompletion 0 0 (2 ^ 52) 0 false false false,
    .atsInvalidateRequest 0 0 (2 ^ 52) 0,
    .atsInvalidateRequest 0 0 0 (32),
    .priResponse 0 (65536) 0,
    .priResponse 0 0 (16),
    .priTimeout 0 (65536),
    .sourceSignal 0 0,
    .sourceSignal 12 0,
    .sourceSignal 1 (65536),
    .irqClaim 0 63 1,
    .irqClaim 0 197 1,
    .irqComplete 0 64 (8192),
    .holdoffExpiry (256),
    .stormWindowEnd (64),
    .irqPendWrite 0 0 (4) 0,
    .irqSrcCfgWrite 0 0 (3) 0,
    .faultDetect 1 0 0 0 false,
    .faultDetect 1 51 0 0 false] : List Instr).any wellFormed) = false := by decide +kernel
/-- One ill-formed term for each check: each is refused. -/
theorem test_wellFormed_refuses_4 : (([
    .faultDetect 1 1 0 (65536) false,
    .phaseFail (8) 0,
    .phaseFail 0 (16),
    .thermalThrottleTick 0 (256),
    .pwrTariffSet 0 (4),
    .pmcCntWrite 0 0 0 0,
    .pmcCntWrite 0 256 0 0,
    .pmcCntWrite 0 1 (16) 0,
    .glnTrig 0 (256) 0,
    .glnTrig 0 0 (2 ^ 56),
    .dchCmdWake 0 (256),
    .porNRelease (4) 0,
    .porNRelease 0 (2),
    .entropyReady (16),
    .perstNAssert (4),
    .healthTestFail (4),
    .hostLinkDown 0 (2),
    .msiXUnmask 0 (3),
    .configurationRequest ⟨65, 0⟩ 0 0 false,
    .configurationRequest ⟨0, 2⟩ 0 0 false] : List Instr).any wellFormed) = false := by decide +kernel
/-- One ill-formed term for each check: each is refused. -/
theorem test_wellFormed_refuses_5 : (([
    .pmbSegmentFault (2)] : List Instr).any wellFormed) = false := by decide +kernel
/-- The same commands with operands in range are well formed. -/
theorem test_wellFormed_takes_1 : (([
    .registerWrite 0 0 1 0,
    .pageCommitCancel 0 0 0,
    .pageCommitNow 0 0 0 0,
    .pageCtlDiscard 0 0 0 0,
    .ts 0 0 [],
    .dat 0 ({ hdr := leBytes 16 0 }),
    .enumDebounceEnd 0 0 0,
    .khubTreeBaseWrite 0 0 0,
    .telemetryPoll 0 0 0 false,
    .encoderEdge 0 0,
    .pcuFire 0,
    .pinAction 0,
    .doorbellTail 0 0 0 1,
    .pushWindowWrite 0 0 0 [],
    .descriptorFetch 0 0,
    .wqRsyCtlQuiesce 0 0,
    .cqEnable 0 0 0,
    .dmaEnable 0 0 0,
    .hello 0 0 0 0,
    .pauseFrame 0 0,
    .pfcFrame 0 0 [0, 0, 0, 0, 0, 0, 0, 0],
    .pauseTimerExpiry 0 0,
    .taskDispatch 0,
    .commitInstant 0 0,
    .shfLoadCmdLoad 0 0 0 0 0] : List Instr).all wellFormed) = true := by decide +kernel
/-- The same commands with operands in range are well formed. -/
theorem test_wellFormed_takes_2 : (([
    .streamOpEnd 0 0 0,
    .walkComplete 0 0 0 false 0,
    .atsCompletion 0 0 0 0 false false false,
    .atsInvalidateRequest 0 0 0 0,
    .priResponse 0 0 0,
    .priTimeout 0 0,
    .sourceSignal 1 0,
    .irqClaim 0 64 1,
    .irqComplete 0 64 0,
    .holdoffExpiry 0,
    .stormWindowEnd 0,
    .irqPendWrite 0 0 0 0,
    .irqSrcCfgWrite 0 0 0 0,
    .faultDetect 1 1 0 0 false,
    .phaseFail 0 0,
    .thermalThrottleTick 0 0,
    .pwrTariffSet 0 0,
    .pmcCntWrite 0 1 0 0,
    .glnTrig 0 0 0,
    .dchCmdWake 0 0,
    .porNRelease 0 0,
    .entropyReady 0,
    .perstNAssert 0,
    .healthTestFail 0,
    .hostLinkDown 0 0] : List Instr).all wellFormed) = true := by decide +kernel
/-- The same commands with operands in range are well formed. -/
theorem test_wellFormed_takes_3 : (([
    .msiXUnmask 0 0,
    .configurationRequest ⟨0, 0⟩ 0 0 false,
    .pmbSegmentFault 0] : List Instr).all wellFormed) = true := by decide +kernel

/-- No row of the table has bits: no word spells a command. -/
theorem test_decode_none (n w : Nat) : decodeTableWord n w = none := rfl

/-! ### Package and code -/

/-- The balls of KRP12 and EMAC48 in the worked example under Table 20-2. -/
theorem test_laneBall : (laneBall 12 false false = ⟨2, 37⟩ ∧ laneBall 12 true true = ⟨5, 38⟩ ∧ laneBall 48 true false = ⟨68, 1⟩) ∧
    String.ofList (ballRow 2) = "B" ∧ String.ofList (ballRow 5) = "E" ∧ String.ofList (ballRow 71) = "CP" ∧ String.ofList (ballRow 68) = "CL" := by decide
/-- The balls of lane 11 of HP2 in the same example. -/
theorem test_pcieBall : pcieBall 2 11 false false = ⟨46, 6⟩ ∧ pcieBall 2 11 true true = ⟨47, 8⟩ ∧ String.ofList (ballRow 46) = "BH" := by decide
/-- α^0 to α^13 are roots of the generator, so also of data with its parity (R80); a changed symbol shows. -/
theorem test_fecGen : ((List.range 14).all fun i => fecAt fecGen (Sym.pow i) == 0) = true ∧ fecGen.length = 15 ∧
    (fecSyndromes (fecCode [1, 2, 1023])).all (· == 0) = true ∧ (fecSyndromes (5 :: (fecCode [1, 2, 1023]).tail)).all (· == 0) = false := by
  decide +kernel

/-! ### States that meet the hypotheses -/

/-- A state in full service: every domain ready, quads 0 and 1 in KPB mode and quad 2 in Ethernet mode, every other register at its
reset value. -/
def up : State :=
  (((({ State.reset with boot := { phase := 4 } }.each 49 fun s d => s.setF PWR_DOM_STAT_DSTATE d 0 3)).setF SRDS_CTL_MODE 0 0 1).setF SRDS_CTL_MODE 1 0 1).setF SRDS_CTL_MODE 2 0 2
/-- `r` answers the next state `t`. -/
def ansIs (r : Res) (t : State) : Bool := match r with | .next u => decide (u = t) | _ => false
/-- `up` with root port 4 in link state FULL. -/
def up4 : State := up.setF KRP_STAT_LSTATE 4 0 4
/-- `up` with quad 0 in hub role and its upstream link in FULL. -/
def uph : State := (up.setF SRDS_CTL_HUB_ROLE 0 0 1).setF KRP_STAT_LSTATE 0 0 4
/-- A packet by TYPE, ADDR, SEL, byte 3 (FLAGS and LVL) and body. -/
def hp (ty addr sel x : Nat) (body : List Nat) : Pkt :=
  { hdr := mkHdr ty addr sel (x / 16) (x % 16) (body.map (BitVec.ofNat 8)), dcrc := crc32c [] }
/-- A step that waits. -/
def wstep (k a e : Nat) : Step := { kind := k, addr := a, ep := e }
/-- Root port 4 with a step that waits. -/
def wst (k a e : Nat) : State := up4.setSq 4 { steps := [wstep k a e] }
/-- Root port 4 with a link. -/
def wl (l : Link) : State := up4.setLink 4 l
/-- A valid training block, not READY. -/
def wts : List (BitVec 8) :=
  let b := [0xF1, 0, 0, 0x13, 5, 0, 0, 0, 0, 0, 0, 0, 0, 0].map (BitVec.ofNat 8)
  b ++ leBytes 2 (crc32c b)
/-- Root port 4 in FULL with low utilisation for DWELL, LPM_EN and a width above MIN_WIDTH, trained at rate 0b10. -/
def wlow : State :=
  let s := (((up4.setF KRP_CTL_LPM_EN 4 0 1).setF KRP_STAT_WIDTH 4 0 1).setF KRP_CTL_MIN_WIDTH 4 0 0).setF KRP_CTL_MIN_RATE 4 0 0
  { s with now := 65536000000000 }.setLink 4 { tRate := 2, low := some 0 }
/-- Compare unit 511 armed in time mode at a target that device time has reached. -/
def wpcu : State :=
  { ((up.setF PCU_CTL_MODE 511 0 2).setF PCU_STAT_ARMED 511 0 1).setPcu 511 { next := 65536, prev := 0 } with devTime := 65536 }
/-- Root port 4 with a sequencer that runs, clocked by reference 0. -/
def wsq : State := up.setF KSCH_STAT_RUNNING 4 0 1
/-- The same with a sequencer state of one's own, 10 ms after the start, reference 0 one count on. -/
def wsqx (q : SeqSt) : State := { (wsq.setSq 4 q).setPref 0 { base := 65536, cnt := 1 } with now := 655360000000 }
/-- Device queue 1023 enabled, of 16 entries. -/
def wwq : State := (up.setQ WQ_CFG_ENABLE 1023 1).setQ WQ_CFG_SIZE_LOG2 1023 4
/-- A receive buffer descriptor of 256 bytes. -/
def wbuf : List (BitVec 8) := leBytes 8 1 ++ leBytes 8 0x1000 ++ leBytes 2 256 ++ leBytes 46 0
/-- The queue is a receive queue with two descriptors announced and the first held, and its ring has room. -/
def wwqa : State :=
  ((((wwq.setQ WQ_CFG_TYPE 1023 4).setQ WQ_IDX_TAIL 1023 2).setQ CQ_CFG_ENABLE 0 1).setQ CQ_CFG_SIZE_LOG2 0 6).setWq 1023 { cached := [(0, wbuf)] }
/-- DMA channel 511 enabled in a state. -/
def wdma (st : Nat) : State := (up.setF DMA_CTL_ENABLE 511 0 1).setF DMA_STAT_STATE 511 0 st
/-- `r` gives the bytes `b`. -/
def readsTo (r : Except XErr (List (BitVec 8))) (b : List (BitVec 8)) : Bool := match r with | .ok x => decide (x = b) | _ => false
/-- The receive queue's state with the spill window of instance 0 mapped at address 0, so that reads there are answered. -/
def wmap : State := (wwqa.setF DLOG_SPILL_VA_VALID 0 0 1).setF DLOG_SPILL_SIZE_UNITS 0 0 1024
/-- Ethernet port 8 with its link up. -/
def weth : State := (up.setF EMAC_STAT_LINK_UP 8 0 1).setF EMAC_CTL_ENABLE 8 0 1
/-- The same with four lanes at full width and two of them in use. -/
def wshed : State := ((weth.setF EMAC_CFG_TYPE 8 0 5).setF EMAC_STAT_LANES 8 0 1).setF EMAC_STAT_LSX_STATE 8 0 1
/-- Device queue 1023 as a transmit queue of port 8 with one accepted descriptor. -/
def wtx (b : List (BitVec 8)) : State :=
  (((weth.setQ WQ_CFG_ENABLE 1023 1).setQ WQ_CFG_TYPE 1023 3).setQ WQ_BIND_TARGET 1023 8).setWq 1023 { acc := [{ bytes := b }] }
/-- A transmit descriptor of one segment of 60 bytes at address 0, in the mapped spill window. -/
def wtxd : List (BitVec 8) := leBytes 8 1 ++ leBytes 24 0 ++ leBytes 2 60 ++ leBytes 30 0
/-- A frame of 60 bytes. -/
def wfr : List (BitVec 8) := beBytes 6 0x0180C200000E ++ leBytes 6 0 ++ beBytes 2 0x88B5 ++ leBytes 46 0
/-- `r` is a translation fault. -/
def readsErr (r : Except XErr (List (BitVec 8))) : Bool := match r with | .error e => e.reason != 0 | _ => false
/-- `r` gives bytes. -/
def readsOk (r : Except XErr (List (BitVec 8))) : Bool := match r with | .ok _ => true | _ => false
/-- A task of sheaf 0 whose next instruction is at offset 64 of its program, in context `c`. -/
def wtask (c : Ctx) : Task :=
  { sheaf := 0, seq := 5, inst := 0, src := 5, phase := 1, prog := 16, ctx := { c with pc := 64 }, win := leBytes 128 0 }
/-- A state in which task `t` has the word `w` before it; its program's handler is at offset 128. -/
def wrun (t : Task) (w : Nat) : State :=
  { up with tasks := [t], progs := [(16, { image := leBytes 8 0 ++ leBytes 4 128 ++ leBytes 52 0 ++ leBytes 4 w })] }
/-- The task is about to execute `w`, whose instruction has code `k`. -/
def wgo (w k : Nat) : Bool := (wrun (wtask {}) w).runsWord (wtask {}) w && insn w == k
/-- An instruction word by opcode, rd, ra and the low 16 bits. -/
def wi (op rd ra low : Nat) : Nat := op * 2 ^ 26 + rd * 2 ^ 21 + ra * 2 ^ 16 + low
/-- Instance 0's spill window mapped at address 0 in a state. -/
def wspill (s : State) : State := (s.setF DLOG_SPILL_VA_VALID 0 0 1).setF DLOG_SPILL_SIZE_UNITS 0 0 1024
/-- Instance 64 in a state `x`, with its function's Bus Master Enable. -/
def winst (x : Nat) : State := { up.setF INST_STAT_STATE 64 0 x with fns := [(64, { bme := true })] }
/-- Instance 64's root valid, its table nowhere. -/
def wroot : State := (winst 2).setF DLOG_ROOT_VALID 64 0 1
/-- A fault of instance 64 that waits, its record written. -/
def wwait : State := { winst 2 with waiters := [{ inst := 64, fid := 7, kind := 9, recSt := 2 }] }
/-- Source 8191 pending and enabled at the manager's target. -/
def wirq : State := { up with irq := [(8191, { en := true, pend := true, prio := 15, kind := 2, unit := 9 })] }
/-- `up` in full service. -/
def wfull : State := up.setF DEV_SERVICE_SERVICE 0 0 2
/-- Full service with a takeover that waits and a nominated unit of a kind, WINNOW_H hours on, and phase 13 of stook 7 outside its share. -/
def wworn (kind u : Nat) : State :=
  let w : Worn := { kind := kind, dom := 9 + u, unit := u, place := 1, cause := 2 }
  { wfull with now := 65536000000000 * (3600 * wfull.f SAGE_WINNOW_WINNOW_H),
               rsv := { wfull.rsv with takes := [w], noms := [w], winnowing := true, phaseOut := [(7, 13, 0)] } }
/-- Full service in a power state with every wake source enabled. -/
def wpst (x : Nat) : State := (wfull.setF PWR_STAT_STATE 0 0 x).setF PWR_WAKE_EN_EN 0 0 0x7F
/-- A drain toward SLEEP whose DRAIN_MS has passed. -/
def wdrain : State := { wfull with now := 65536000000 * wfull.f PWR_CTL_DRAIN_MS, power := { wfull.power with target := some 2 } }
/-- The supply has been low since time 0, at time `t`. -/
def wlowv (t : Nat) : State := { wfull.setF PWR_STAT_SUPPLY_LOW 0 0 1 with now := t, power := { wfull.power with lowAt := some 0 } }
/-- OFF since time 0 for a reason, 10 ms on. -/
def woff (why : Nat) : State := { wfull.setF PWR_STAT_STATE 0 0 4 with now := 655360000000, power := { wfull.power with why := why } }
/-- The point of no return has passed. -/
def wpnr : State := { wfull with power := { wfull.power with pnrAt := some 0 } }
/-- A drain toward SLEEP that holds: every instance is quiesced. -/
def wready : State :=
  { wfull.each 65 (fun s i => s.setF WQ_RSY_STAT_QUIESCED i 0 1) with now := 655360000, power := { wfull.power with target := some 2 } }
/-- A takeover of phase 13 of stook 7 waits. -/
def wphase : State := { wfull with rsv := { wfull.rsv with takes := [{ kind := 2, dom := 8, unit := 7, place := 13 }] } }
/-- Full service 1 s on. -/
def wlate : State := { wfull with now := 65536000000000 }
/-- Full service with a switch fitted at port 95 and its power on. -/
def wtele : State := (wfull.setF KHUB_PWR_MAP_FITTED 0 95 1).setF KHUB_PWR_STAT_PSTATE 0 95 2
/-- Device time set to 1,000 s, a tariff point of band 3 at that second, an open interval of port 95. -/
def wtar : State :=
  { (((wfull.setF TIME_STAT_SET_ONCE 0 0 1).setF PWR_TOD_VALID 0 7 1).setF PWR_TOD_SECOND 0 7 1000).setF PWR_TOD_BAND 0 7 3 with
      nrgs := [(95, { isOpen := true })], devTime := 65536000000000000 }
/-- Counter 15 of bank 96 counts and stands at all ones. -/
def wpmc : State := (up.setF PMC_EVSEL_EN 96 15 1).setF PMC_CNT_COUNT 96 15 (2 ^ 48 - 1)
/-- The gatherer on, busy until `t`. -/
def wgat (t : Nat) : State := { up.setF PMC_G_CTL_EN 0 0 1 with gatherBusy := t }
/-- The sampler on for sheaf 63, its countdown at 0, with `k` tags taken. -/
def wsmp (k : Nat) : State :=
  { (up.setF PMC_S_CTL_EN 0 0 1).setF PMC_S_SHEAVES_BITS 0 0 (2 ^ 63) with
      sampleCnt := [(63, 0)], tags := (List.range k).map fun j => ({ sheaf := 63, seq := j } : Tag) }
/-- Gleaner code 0xEF valid, with `k` tokens of one. -/
def wgln (k : Nat) : State := { up.setGln 0xEF { valid := true, period := 1, tokens := k } with now := 65536000 }
/-- A record of code 7 taken and not yet written. -/
def wrec : State := { up with glnRecs := [{ seq := 1, code := 7, bytes := leBytes 120 0, at_ := 0 }] }
/-- A chain frame of level 0 by DST, TYPE and payload. -/
def wcf (dst ty : Nat) (p : List Nat) : List (BitVec 8) :=
  let b := [dst, 1, 0, ty, p.length, 0, 0, 0].map (BitVec.ofNat 8) ++ p.map (BitVec.ofNat 8)
  b ++ leBytes 4 (crc32c b)
/-- The head of a chain, 10 ms on, with a walk under way or not. -/
def whead (w : Option Nat) : State :=
  { up.setF DEV_STRAPS_DCH_HEAD 0 0 1 with now := 655360000000, chain := { up.chain with walkAt := w } }
/-- The unit of address 32, with its downstream link up, 10 ms on. -/
def wunit : State := { (up.setF DCH_STAT_ADDR 0 0 32).setF DCH_STAT_DOWN_LINK 0 0 1 with now := 655360000000 }
/-- The same at chain level 1 with a MSG for address 1 staged. -/
def wmsg : State := ((wunit.setF DCH_STAT_LVL 0 0 1).setF DCH_TX_HDR_DST 0 0 1).setF DCH_TX_HDR_TYPE 0 0 0x10
/-- `up` in a phase of start-up. -/
def wboot (p : Nat) : State := { up with boot := { phase := p } }
/-- Start-up with the TRNG sources of a set. -/
def wtrng (k : Nat) : State := { up with boot := { phase := 2, trng := k } }
/-- OFF with PWR_REQ risen for WAKE_N. -/
def wrails : State := { woff 0 with power := { wake := some (1, 0, 0, 0) } }
/-- The flash is being programmed. -/
def wwrite : State := { up with boot := { up.boot with writing := some {} } }
/-- The DRBG seeded by three of four sources, 100 ms ago. -/
def went : State :=
  { (up.setF DEV_SERVICE_ENTROPY_READY 0 0 1).setF RNG_STAT_SRC_OK 0 0 7 with boot := { phase := 4, trng := 0xF }, now := 6553600000000 }
/-- PERST_N of port 3 is low. -/
def wperst : State := { up with boot := { phase := 4, perst := [3] } }
/-- Port 3 is split, and its link B presents the function. -/
def wsplit : State := (up.setF HOST_CTL_SPLIT 3 0 1).setF HOST_CTL_ACTIVE 3 0 1
/-- Instance 64 on host port 3, whose link A is up. -/
def whost : State := ((winst 2).setF INST_CTL_PORT 64 0 3).setF HOST_STAT_LINK_A_UP 3 0 1
/-- PERST_N of port 3 has just risen. -/
def wretry : State := { whost with boot := { phase := 4, perstUp := [(3, 0)] } }
/-- Device time in holdover in REF mode. -/
def whold : State := (up.setF TIME_CTL_MODE 0 0 1).setF TIME_STAT_HOLDOVER 0 0 1
/-- Root port 4 in DETECT, seven valid training blocks in. -/
def wdet : State := (up.setF KRP_STAT_LSTATE 4 0 1).setLink 4 { runs := [(4, (tsKind wts false, 7))] }
/-- Root port 4 in a state, its link full for the last 5 µs, 1 ms on. -/
def wbusy (x : Nat) : State :=
  { (up.setF KRP_STAT_LSTATE 4 0 x).setLink 4 { recent := [(0, 0, 65536000000)] } with now := 65536000000 }
/-- Root port 4 in FULL, enumeration on, the root's own port due. -/
def wturn : State := (up4.setF KHUB_TREE_CTL_ENUM_EN 0 4 1).setTree 4 { queue := [(⟨0, 0⟩, 0, true)] }
/-- A DMA descriptor that copies one byte from address 0 to address 64. -/
def wdbs : List (BitVec 8) := leBytes 8 1 ++ leBytes 8 0 ++ leBytes 8 64 ++ leBytes 4 1 ++ leBytes 2 1 ++ leBytes 2 0x1100 ++ leBytes 32 0
/-- Instance 0's addresses 0 to 2 MiB mapped to its device memory, to read and to write, in a state. -/
def wrw (s : State) : State :=
  [(0, 0x01), (1, 0x10), (4096, 0x01), (4097, 0x20), (8192, 0x1F), (8194, 0x20)].foldl
    (fun s e => s.setByte (devAt 0 e.1) (BitVec.ofNat 8 e.2)) ((s.setF DLOG_ROOT_VALID 0 0 1).setF INST_MEM_DEV 0 0 2)
/-- The transmit queue's descriptor with its frame fetched. -/
def wtxr : State :=
  ((wtx wtxd).setWq 1023 { acc := [{ bytes := wtxd, phase := 1 }] }).setEmac 8 { frames := [{ q := 1023, bytes := leBytes 60 0 }] }

/-- Where instance 64 is granted no channel, it holds none. -/
theorem chans64 (s : State) (h : ((List.range 8).all fun k => s.f INST_DMA_MAP_BITS 64 k == 0) = true) : s.chansOf 64 = [] := by
  simp only [State.chansOf, List.filter_eq_nil_iff]
  intro c hc hd
  have h8 : c / 64 < 8 := by have := List.mem_range.1 hc; omega
  have hz : s.f INST_DMA_MAP_BITS 64 (c / 64) = 0 := by simpa using List.all_eq_true.1 h _ (List.mem_range.2 h8)
  simp only [State.dmaOwner, holder, beq_iff_eq] at hd
  cases hf : List.find? (fun i => i != 0 && s.holdsDma i c) (List.range 65) with
  | none => rw [hf] at hd; simp at hd
  | some j =>
    have hp := List.find?_some hf
    rw [hf] at hd
    simp only [Option.getD_some] at hd
    subst hd
    simp [State.holdsDma, hz, bit] at hp
/-- Instance 64 in a reset with nothing left to run. -/
def wreset : State := (winst 3).setInst 64 { resetAt := some 0 }
theorem test_witness_InstanceReset : (wreset.inst 64).resetAt = some 0 ∧ wreset.nothingRuns 64 = true ∧
    ({ wreset with waiters := [{ inst := 64 }] } : State).nothingRuns 64 = false := by
  refine ⟨by decide +kernel, ?_, ?_⟩
  · rw [State.nothingRuns, chans64 wreset (by decide +kernel)]; decide +kernel
  · rw [State.nothingRuns, chans64 { wreset with waiters := [{ inst := 64 }] } (by decide +kernel)]; decide +kernel
/-- Instance 64 in a freeze with nothing left to drain. -/
def wfreeze : State := (winst 2).setInst 64 { freezeAt := some 0, cmd := 3 }
theorem test_witness_InstanceFreeze : (wfreeze.inst 64).freezeAt = some 0 ∧ wfreeze.drained 64 = true ∧
    ({ wfreeze with waiters := [{ inst := 64 }] } : State).drained 64 = false := by
  refine ⟨by decide +kernel, ?_, ?_⟩
  · rw [State.drained, chans64 wfreeze (by decide +kernel)]; decide +kernel
  · rw [State.drained, chans64 { wfreeze with waiters := [{ inst := 64 }] } (by decide +kernel)]; decide +kernel

theorem test_witness_StepRunsFrontCommand : ({ ({} : State) with pending := [.snapshotTimeout 0] }).pending = .snapshotTimeout 0 :: [] := by decide +kernel
theorem test_witness_IdleStepPassesOneNanosecond : ({} : State).pending = [] := by decide +kernel
theorem test_witness_CommandKeepsQueueAndTime : ∃ t, exec (.epochAdvance 0) {} = .next t ∧ ({} : State).sound = true := by exact ⟨_, rfl, by decide⟩
theorem test_witness_StepKeepsSound : ({} : State).sound = true ∧ ∃ t, step { ({} : State) with pending := [.epochAdvance 0] } = .next t := by exact ⟨by decide, _, rfl⟩
theorem test_witness_RegisterWriteShadows : up.opens 0x01 0 = true ∧ up.armed 0x01 0 = none ∧ ({ up with cmts := [(4096, {})] }).opens 0x01 0 = true ∧ (({ up with cmts := [(4096, {})] }).armed 0x01 0).isSome = true := by decide +kernel
theorem test_RegisterWriteShadows : ansIs (exec (.registerWrite 0 0x100058 4 0x12345) up) ({ up with shadow := PMap.put up.shadow (DEV_EPOCH_PERIOD_PERIOD.addr 0 0) 0x2345 }) = true := by decide +kernel
theorem test_RegisterWriteShadows_1 : ansIs (exec (.registerWrite 0 0x100058 4 5) { up with cmts := [(4096, {})] }) ((({ up with cmts := [(4096, {})] }).errOn PAGE_ERR_SHADOW_LOCKED 0x01 0)) = true := by decide +kernel
theorem test_RegisterWriteShadows_2 : ansIs (exec (.registerWrite 0 0x100014 4 0x1FFFFFFFF) up) ((up.setF (hd PAGE_ERR_MASK 0x01) 0 0 0xFFFFFFFF)) = true := by decide +kernel
theorem test_witness_CrossingReadReadsZero : up.opens 0x32 0 = true ∧ up.opens 0x01 0 = true ∧ 4096 < 4095 + 2 := by decide +kernel
theorem test_CrossingReadReadsZero : ansIs (exec (.pageCrossingRead 0 0x3200FFF 2) { up with rdata := 7 }) ((up.errOn PAGE_ERR_ACCESS 0x32 0)) = true := by decide +kernel
theorem test_witness_CommitRefused : up.opens 0x05 0 = true ∧ isLivePage 0x05 = true ∧ up.opens 0x32 0 = true ∧ allowsPoint 0x32 5 = false ∧ allowsPoint 0x32 3 = false ∧ up.opens 0x20 7 = true ∧ 511 < 512 ∧ ({ up with cmts := [(0x32000, {})] }).opens 0x32 0 = true ∧ (({ up with cmts := [(0x32000, {})] }).armed 0x32 0).isSome = true := by decide +kernel
theorem test_CommitRefused : ansIs (exec (.pageCommitPosition 0 0x20 7 512) up) ((up.errOn PAGE_ERR_COMMIT_REFUSED 0x20 7)) = true := by decide +kernel
theorem test_CommitRefused_1 : ansIs (exec (.registerWrite 0 0x3200018 8 15) up) ((up.errOn PAGE_ERR_COMMIT_REFUSED 0x32 0)) = true := by decide +kernel
theorem test_witness_CommitArms : up.opens 0x30 4 = true ∧ isLivePage 0x30 = false ∧ up.armed 0x30 4 = none ∧ up.opens 0x19 64 = true ∧ allowsPoint 0x19 3 = true ∧ up.opens 0x20 7 = true ∧ allowsPoint 0x20 4 = true ∧ up.opens 0x32 0 = true ∧ up.opens 0x18 1 = true ∧ up.sound = true := by decide +kernel
theorem test_CommitArms : ansIs (exec (.pageCommitFrame 0 0x30 4 95) up) ({ up with cmts := [(0x30004, ⟨2, 95, 0⟩)] }) = true := by decide +kernel
theorem test_witness_PageCtl : up.opens 0x32 0 = true ∧ isLivePage 0x32 = false ∧ up.armed 0x32 0 = none ∧ (({ up with cmts := [(0x32000, {})] }).armed 0x32 0).isSome = true ∧ ({ up with cmts := [(0x32000, {})] }).opens 0x32 0 = true ∧ up.opens 0x08 0 = true ∧ isLivePage 0x08 = true := by decide +kernel
theorem test_PageCtl : ansIs (exec (.pageCtlSnap 0 0x08 0 9) up) ((up.setF (hd PAGE_CTL_COMMIT_EV_EN 0x08) 0 0 1)) = true := by decide +kernel
theorem test_witness_LatchAndEpoch : up.opens 0x01 0 = true ∧ up.serves 0x01 = true ∧ ({ up with epochReq := true, now := 655360000 }).serves 0x01 = true ∧ (∀ n < 96, (({ up with epochReq := true, now := 655360000 }).emac n).rekey = false ∧ (({ up with epochReq := true, now := 655360000 }).b ESTR_STAT_PROVISIONAL n && up.b DEV_SERVICE_ENTROPY_READY) = false) ∧ PMap.find ({ up with latch := [(3, {})] }).latch 3 = some {} := by decide +kernel
theorem test_LatchAndEpoch : ansIs (exec .epochBoundary { up with epochReq := true, now := 655360000 }) ({ up.setF DEV_EPOCH_EPOCH 0 0 1 with now := 655360000, epochAt := 655360000, timerAt := 655360000 }) = true := by decide +kernel
theorem test_witness_RefusedAccess : up.serves 0 = true ∧ up.resetting 64 = false ∧ ({ up with refusals := [{ fn := 9, kind := 1 }] }).refusals = [{ fn := 9, kind := 1 }] := by decide +kernel
theorem test_RefusedAccess : ansIs (exec (.instanceRefusedAccess 64 0xFFFF true) up) ((up.refuse 64)) = true := by decide +kernel
theorem test_witness_KpbPacketChecks : up.live 0x30 4 = true ∧ up.hubPort 4 = false ∧ up.hubRole 4 = false ∧ pktOk {} = false ∧ pktOk (hp 0x40 0 0 0 []) = true ∧ hType (hp 0x40 0 0 0 []).hdr = 0x40 ∧ up.carries 4 = false
    ∧ up4.live 0x30 4 = true ∧ up4.carries 4 = true ∧ hLvl (hp 0x40 0 0 16 []).hdr ≠ up4.f KRP_STAT_LVL 4 := by decide +kernel
theorem test_KpbPacketChecks : ansIs (exec (.bur 4 {}) up4) ((up4.setF KRP_CNT_HCRC_COUNT 4 0 1)) = true := by decide +kernel
theorem test_witness_KpbHandshakes : up4.takes 4 (hp 0x40 5 0 0 [0,0]) 0x40 = true ∧ (up4.noted 4).ctrlFor 4 5 = none ∧ (wst 3 5 0).takes 4 (hp 0x40 5 0 0 [0,0]) 0x40 = true ∧ ((wst 3 5 0).noted 4).ctrlFor 4 5 = some (wstep 3 5 0) ∧ (wst 1 5 2).takes 4 (hp 0x41 5 0x20 0 [0]) 0x41 = true ∧ ((wst 1 5 2).noted 4).handFor 4 (hp 0x41 5 0x20 0 [0]).hdr = some (wstep 1 5 2) ∧ (wst 1 5 2).svcHandFor 4 (hp 0x41 5 0x20 0 [0]).hdr = none
    ∧ (wst 1 5 2).takes 4 (hp 0x42 5 0x20 0 [0]) 0x42 = true ∧ (wst 2 5 2).takes 4 (hp 0x43 5 0x20 0 [1, 0, 3]) 0x43 = true ∧ ((wst 2 5 2).noted 4).stepFor 4 5 2 false = some (wstep 2 5 2) ∧ (hSeq (hp 0x43 5 0x20 0 [1, 0, 3]).hdr + 1024 - 0) % 1024 = 1 ∧ (hSeq (hp 0x43 5 0x20 0 [2, 0, 3]).hdr + 1024 - 0) % 1024 = 2
    ∧ (wst 5 5 1).takes 4 (hp 0x70 5 2 0 [9, 0]) 0x70 = true ∧ (((wst 5 5 1).noted 4).sq 4).steps.find? (fun t => !t.idle && t.kind == 5 && t.addr == 5) = some (wstep 5 5 1) := by decide +kernel
theorem test_witness_KpbLinkPackets : up4.takes 4 (hp 0x60 0 8 0 [0,0,0,0,7,0,0,0]) 0x60 = true ∧ hSel (hp 0x60 0 8 0 [0,0,0,0,7,0,0,0]).hdr = 8 ∧ up4.f PWR_STAT_STATE ≠ 2 ∧ (wl { ping := some (7, 0) }).takes 4 (hp 0x60 0 9 0 [0,0,0,0,7,0,0,0]) 0x60 = true ∧ ((wl { ping := some (7, 0) }).link 4).ping = some (hTail (hp 0x60 0 9 0 [0,0,0,0,7,0,0,0]).hdr, 0)
    ∧ (wl { req := 1, reqArg := 1 }).takes 4 (hp 0x60 0 2 0 [1]) 0x60 = true ∧ hArg (hp 0x60 0 2 0 [1]).hdr = 1 ∧ (wl { req := 3, reqArg := 1 }).takes 4 (hp 0x60 0 4 0 [1]) 0x60 = true ∧ krpLanes ((wl { req := 3, reqArg := 1 }).f KRP_STAT_WIDTH 4) < krpLanes 1 ∧ (wl { req := 5, reqArg := 1, tRate := 2 }).takes 4 (hp 0x60 0 6 0 [1]) 0x60 = true ∧ (wl { req := 5, reqArg := 1, tRate := 2 }).takes 4 (hp 0x60 0 7 0 [5]) 0x60 = true ∧ hArg (hp 0x60 0 7 0 [5]).hdr = 5
    ∧ uph.takesUp 0 (hp 0x60 0 1 0 [0]) = true ∧ hType (hp 0x60 0 5 0 [0]).hdr = 0x60 ∧ uph.takesUp 0 (hp 0x60 0 3 0 [1]) = true ∧ uph.takesUp 0 (hp 0x60 0 5 0 [1]) = true := by decide +kernel
theorem test_KpbLinkPackets : ansIs (exec (.shedReq 0 (hp 0x60 0 1 0 [0])) uph) (((uph.noted 0).sendLnk 0 0x07 0x01 0)) = true := by decide +kernel
theorem test_witness_KpbDataAndForwarding : up4.takes 4 (hp 0x30 5 0x18 2 []) 0x30 = true ∧ pktDataOk (hp 0x30 5 0x18 2 []) = true ∧ up4.svcFor 4 5 1 = none ∧ (up4.setSq 4 { svc := some { ent := 5 + 2 ^ 8 * 0x18 } }).takes 4 (hp 0x30 5 0x18 2 []) 0x30 = true
    ∧ uph.takesUp 0 (hp 0x10 255 0 0 [0,0,0,0]) = true ∧ uph.takesUp 0 (hp 0x20 9 0 0 [0]) = true ∧ uph.hub.addr = 0 ∧ PMap.find uph.hub.routes 9 = none ∧ uph.takesUp 0 (hp 0x60 0 8 0 [0]) = true := by decide +kernel
theorem test_witness_KpbLanes : up4.hubPort 4 = false ∧ up4.laneOf 4 4 = true ∧ tsOk (tsTrue []) = false ∧ tsOk (tsTrue wts) = true ∧ up4.laneRev 4 4 wts = some false ∧ wdet.laneOf 4 4 = true ∧ wdet.lstate 4 = 1 ∧ wdet.portOn 4 = true ∧ PMap.find (wdet.link 4).runs 4 = some (tsKind wts false, 7) ∧ tsReady wts = false ∧ up4.lstate 4 = 4 ∧ up4.hubRole 4 = false ∧ (up4.addF KRP_CNT_FEC_UNC_COUNT 4 0 1).carries 4 = true ∧ up4.carries 4 = true ∧ uph.laneOf 0 0 = true ∧ uph.hubRole 0 = true ∧ (uph.link 0).stepWait = none ∧ (({ uph with now := 6553600000 }).setLink 0 { eieAt := some 0 }).laneOf 0 0 = true := by decide +kernel
theorem test_KpbLanes : (match exec (.ts 4 4 wts) wdet with | .next u => u.lstate 4 == 2 | _ => false) = true := by decide +kernel
theorem test_witness_KpbLinkTimers : up4.hubPort 4 = false ∧ (up4.setF KRP_STAT_LSTATE 4 0 2).lstate 4 = 2 ∧ ({ up4.setF KRP_STAT_LSTATE 4 0 3 with now := 50 * 65536000000 }).lstate 4 = 3 ∧ ({ up4.setF KRP_STAT_LSTATE 4 0 3 with now := 50 * 65536000000 }).hubPort 4 = false ∧ (up4.setF KRP_STAT_LSTATE 4 0 7).lstate 4 = 7
    ∧ (({ wst 1 5 2 with now := 65536000000 }).sq 4).steps.find? (fun t => !t.idle && t.rest.isEmpty) = some (wstep 1 5 2) ∧ 0 + (wst 1 5 2).f KRP_TMO_RSP_TMO 4 * 655360 ≤ 65536000000 ∧ (wstep 1 5 2).tries < (wst 1 5 2).f KRP_TMO_RETRY_MAX 4
    ∧ up4.opens 0x30 4 = true ∧ (up4.setF KRP_STAT_LSTATE 4 0 5).opens 0x30 4 = true ∧ (up4.setF KRP_STAT_LSTATE 4 0 5).hubRole 4 = false ∧ ({ up4 with now := 6553600000 }).live 0x30 4 = true ∧ (({ up4 with now := 6553600000 }).addF KRP_CNT_FEC_CORR_COUNT 4 0 0).carries 4 = true := by decide +kernel
theorem test_witness_KpbLowPower : wlow.b KRP_CTL_LPM_EN 4 = true ∧ wlow.carries 4 = true ∧ wlow.hubRole 4 = false ∧ (wlow.link 4).req = 0 ∧ (wlow.link 4).want = false ∧ (wlow.link 4).seed = false ∧ wlow.lstate 4 ≠ 6 ∧ wlow.f KRP_CTL_MIN_WIDTH 4 < wlow.f KRP_STAT_WIDTH 4 ∧ wlow.lowLong 4 = true
    ∧ wlow.lstate 4 = 4 ∧ (wlow.link 4).tRate = 2 ∧ (wlow.link 4).tWidth = 0 ∧ wlow.f KRP_CTL_MIN_RATE 4 ≤ 1 ∧ 10 * (wlow.tableLoad 4 (xBlock 1 0) (wlow.sq 4).table - wlow.frmTime 4 (xBlock 1 0)) < 4 * xns (wlow.fMin 4)
    ∧ (up4.setF KRP_CTL_LPM_EN 4 0 0).b KRP_CTL_LPM_EN 4 = false ∧ (up4.setF KRP_STAT_LSTATE 4 0 5).carries 4 = true ∧ up4.busy 4 = false ∧ (wbusy 5).busy 4 = true ∧ (wbusy 5).carries 4 = true ∧ (wbusy 5).lstate 4 = 5 ∧ (wbusy 6).busy 4 = true ∧ (up4.setF KRP_STAT_LSTATE 4 0 6).carries 4 = true ∧ ((wl { stepSeed := true, stepWait := some 1 }).link 4).stepSeed = true ∧ ((wl { idleEnd := some 5 }).link 4).idleEnd = some 5 := by decide +kernel
theorem test_witness_KpbEnumeration : ((up.setTree 4 { queue := [(⟨0, 0⟩, 0, false)] }).tree 4).queue.find? (fun q => q.1 == ⟨0, 0⟩ && !q.2.2) = some (⟨0, 0⟩, 0, false) ∧ up.f KHUB_TREE_CTL_ENUM_EN 0 4 = 0 ∧ ((up.setTree 4 { enum := some { step := 4, wait := some 9 } }).tree 4).enum = some { step := 4, wait := some 9 }
    ∧ ((({ up with now := 100 * 65536000000 }).setTree 4 { enum := some {} }).tree 4).enum = some {} ∧ PMap.find ((up.setTree 4 { hubs := [(7, {})], ents := [(7, { state := 2 })] }).tree 4).hubs 7 = some {} ∧ ((up.setTree 4 { hubs := [(7, {})], ents := [(7, { state := 2 })] }).ent 4 7).state = 2 ∧ (up.setF KHUB_TREE_CTL_ENUM_EN 0 4 1).f KHUB_TREE_CTL_ENUM_EN 0 4 = 1
    ∧ wturn.f KHUB_TREE_CTL_ENUM_EN 0 4 = 1 ∧ (wturn.tree 4).enum = none ∧ (wturn.tree 4).fid = 0 ∧ (wturn.tree 4).queue.find? (fun q => q.2.2 && wturn.isReady 4 q.1) = some (⟨0, 0⟩, 0, true) := by decide +kernel
theorem test_KpbEnumeration : (match exec (.enumPortTurn 4) wturn with | .next u => (u.tree 4).queue.isEmpty && ((u.tree 4).enum.any fun e => e.step == 3) | _ => false) = true := by decide +kernel
theorem test_witness_KpbTreeRegisters : up.serves 0x32 = true ∧ up.resetting 0 = false ∧ up.holdsKrp 64 95 = false := by decide +kernel
theorem test_KpbTreeRegisters : ansIs (exec (.khubTreeAckWrite 0 95 5) (up.setTree 95 { ents := [(1, { state := 3, seq := 5 }), (2, { state := 3, seq := 6 })] })) (((up.setF KHUB_TREE_ACK_SEQ 0 95 5).setTree 95 { ents := [(1, { state := 0, seq := 5 }), (2, { state := 3, seq := 6 })] })) = true := by decide +kernel
theorem test_witness_KpbPortPower : up.serves 0x32 = true ∧ up.b KHUB_PWR_MAP_FITTED 0 95 = false ∧ ((up.setF KHUB_PWR_MAP_FITTED 0 4 1).setF KHUB_TREE_CTL_PWR_ON 0 4 1).b KHUB_PWR_MAP_FITTED 0 4 = true ∧ (up.setF KHUB_PWR_STAT_PSTATE 0 4 1).f KHUB_PWR_STAT_PSTATE 0 4 = 1 ∧ (up.pwr 4).opAt = none ∧ up.recentOn.length < up.f KHUB_PMB_STAGGER ∧ pmFault 0x8000 = true ∧ ((up.setPwr 4 { opAt := some 0 }).pwr 4).opAt = some 0 := by decide +kernel
theorem test_witness_EncoderAndSamples : (up.setF PREF_CTL_SRC 7 0 1).prefOn 7 1 = true ∧ ((up.setF PREF_CTL_SRC 7 0 1).pref 7).run = 0 ∧ (up.setF PREF_CTL_SRC 7 0 1).b PREF_STAT_STANDSTILL 7 = false ∧ (up.setF PREF_CTL_SRC 7 0 1).f PREF_CTL_INDEX_MODE 7 = 0 ∧ (up.setF PREF_CTL_SRC 7 0 1).b PREF_CTL_INDEX_QUAL 7 = false
    ∧ ((up.setF PREF_CTL_SRC 7 0 1).setPref 7 { run := 1, glitches := [0, 0, 0, 0, 0, 0, 0], lvA := true, lvB := true }).prefOn 7 1 = true ∧ ((up.setF PREF_CTL_SRC 7 0 1).setF PREF_CTL_INDEX_MODE 7 0 3).prefOn 7 1 = true ∧ ((up.setF PREF_CTL_SRC 7 0 1).setF PREF_CTL_INDEX_MODE 7 0 1).prefOn 7 1 = true ∧ ({ up.setF PREF_CTL_SRC 7 0 1 with now := 2 ^ 60 } : State).prefOn 7 1 = true
    ∧ ((up.setF PREF_CTL_SRC 7 0 2).setPref 7 { missed := 999 }).prefOn 7 2 = true ∧ (up.setF PREF_CTL_SRC 7 0 2).f PREF_KPB_LOST_FRAMES 7 < 999 := by decide +kernel
theorem test_EncoderAndSamples : ((match exec (.encoderEdge 7 0) (up.setF PREF_CTL_SRC 7 0 1) with | .next t => (t.pref 7).cnt == 1 && (t.pref 7).lvA | _ => false) = true) := by decide +kernel
theorem test_EncoderAndSamples_1 : ((match exec (.encoderEdge 7 1) (up.setF PREF_CTL_SRC 7 0 1) with | .next t => (t.pref 7).cnt == -1 && (t.pref 7).lvB | _ => false) = true) := by decide +kernel
theorem test_witness_ReferenceWrites : up.opens 0x20 7 = true ∧ up.f PREF_CTL_SRC 7 ≠ 3 ∧ (up.setF PREF_CTL_SRC 7 0 3).opens 0x20 7 = true ∧ up.pcus = [] ∧ up.seqs = [] := by decide +kernel
theorem test_witness_CompareUnitsAndPins : up.reached 511 = false ∧ wpcu.live 0x21 511 = true ∧ wpcu.reached 511 = true ∧ wpcu.cmts = [] ∧ wpcu.f PCU_INTERVAL_STEP 511 = 0 ∧ wpcu.b PCU_CTL_TASK_EN 511 = false ∧ wpcu.b PCU_CTL_EV_EN 511 = false ∧ wpcu.b PCU_CTL_PIN_EN 511 = false ∧ wpcu.b PCU_CTL_KPB_EN 511 = false
    ∧ up.opens 0x21 511 = true ∧ up.f PCU_CTL_MODE 511 = 0 ∧ (up.setF PCU_CTL_MODE 511 0 1).opens 0x21 511 = true ∧ (up.setF PCU_CTL_MODE 511 0 1).f PCU_CTL_MODE 511 = 1 ∧ up.b PCU_STAT_ARMED 511 = false ∧ wpcu.opens 0x21 511 = true ∧ wpcu.b PCU_STAT_ARMED 511 = true ∧ up.pinQ = [] ∧ (({ up with pinQ := [{ pin := 31, act := 2 }] } : State).pin 31).pulse = none ∧ ((up.setPin 31 { pulse := some 0 }).pin 31).pulse = some 0 ∧ (up.setPin 31 { pulse := some 0 }).pulseBefore 31 (0 + 262144) = false := by decide +kernel
theorem test_CompareUnitsAndPins : ((match exec (.pcuFire 511) wpcu with | .next t => t.f PCU_FIRED_COUNT 511 == 1 && !(t.b PCU_STAT_ARMED 511) | _ => false) = true) := by decide +kernel
theorem test_witness_DeviceTime : up.live 0x24 0 = true ∧ up.opens 0x24 0 = true ∧ up.f TIME_CTL_MODE = 0 ∧ up.f TIME_SET_TIME % 2 ^ 48 < 65536000000000 ∧ 65536000000000 ≤ (up.setF TIME_SET_TIME 0 0 (2 ^ 48 - 1)).f TIME_SET_TIME % 2 ^ 48 ∧ 0 ≤ (up.devTime : Int) + sgn (up.f TIME_STEP_OFFSET) 64 ∧ (up.devTime : Int) + sgn ((up.setF TIME_STEP_OFFSET 0 0 (2 ^ 64 - 1)).f TIME_STEP_OFFSET) 64 < 0
    ∧ (up.setF TIME_CTL_MODE 0 0 1).live 0x24 0 = true ∧ ({ up with tm := { lastPps := some 0 }, now := 1100 * 65536000000 } : State).live 0x24 0 = true ∧ ({ up with devTime := 65536000000000 } : State).live 0x24 0 = true ∧ ({ up with tm := { ppsEnd := some 0 } } : State).tm.ppsEnd = some 0 := by decide +kernel
theorem test_DeviceTime : ansIs (exec .ppsOutSecond ({ up with devTime := 65536000000000 } : State)) (({ up with devTime := 65536000000000, tm := { ppsSec := 1 } } : State)) = true := by decide +kernel
theorem test_witness_Sequencer : up.b KSCH_STAT_RUNNING 4 = false ∧ wsq.b KSCH_STAT_RUNNING 4 = true ∧ (wsq.sq 4).clock = 0 ∧ wsq.crossing 4 = none ∧ (wsqx {}).crossing 4 = some (65536, false) ∧ (wsqx {}).b KSCH_STAT_RUNNING 4 = true ∧ (wsqx { clock := 1, lastBnd := some 0 }).b KSCH_STAT_RUNNING 4 = true ∧ 0 + 655360 * ((wsqx { clock := 1, lastBnd := some 0 }).sq 4).fmax ≤ (wsqx { clock := 1, lastBnd := some 0 }).now
    ∧ ((wsqx { held := some {} }).setF KRP_STAT_LSTATE 4 0 4).frmMay 4 = true ∧ ((wsqx { svc := some { done := true } }).sq 4).svc = some { done := true } ∧ ((wsqx { svc := some { ent := 2 } }).sq 4).svc = some { ent := 2 } ∧ eIn 2 = true ∧ up4.carries 4 = true ∧ up.opens 0x31 4 = true ∧ (up.setF KSCH_ADM_STAT_RUNNING 4 0 1).opens 0x31 4 = true ∧ ((wsqx { cand := some {} }).sq 4).cand.isSome = true ∧ (wsqx { svc := some { ent := 2 } }).now = 655360000000 := by decide +kernel
theorem test_witness_Doorbells : up.slotQ 64 1023 = none ∧ up.slotQ 0 1023 = some 1023 ∧ up.resetting 0 = false ∧ up.qb WQ_CFG_ENABLE 1023 = false ∧ wwq.slotQ 0 1023 = some 1023 ∧ wwq.qb WQ_CFG_ENABLE 1023 = true ∧ (wwq.wq 1023).push = [] ∧ (wwq.wq 1023).stop = none ∧ diff16 16 (wwq.head 1023) ≤ wwq.wqSize 1023 ∧ diff16 16 (wwq.tail 1023) ≤ diff16 16 (wwq.head 1023) ∧ wwq.wqSize 1023 < diff16 17 (wwq.head 1023) ∧ wwq.wqSize 1023 ≤ diff16 (wwq.tail 1023) 17 ∧ wwq.wqSize 1023 < diff16 65535 (wwq.head 1023) ∧ diff16 (wwq.tail 1023) 65535 < wwq.wqSize 1023 ∧ (up.slotQ 0 1023).isSome = true ∧ diff16 0 (wwq.head 1023) ≤ diff16 (wwq.tail 1023) (wwq.head 1023) := by decide +kernel
theorem test_Doorbells : ansIs (exec (.pushWindowWrite 0 1023 0x1F8 [1,0,0,0,0,0,0,0]) wwq) ((wwq.setWq 1023 { push := [(55, 1)] })) = true := by decide +kernel
theorem test_witness_QueueFetchAndAccept : up.qb WQ_CFG_ENABLE 5 = false ∧ wmap.qb WQ_CFG_ENABLE 1023 = true ∧ wmap.qb WQ_STAT_PARKED 1023 = false ∧ (wmap.wq 1023).copy 1 = none ∧ wmap.fetchable 1023 1 = true ∧ (wmap.wq 1023).cached.length < 16 ∧ readsTo (wmap.readV (wmap.wqOwner 1023) (wmap.q WQ_BASE_ADDR 1023 + 64 * (1 % wmap.wqSize 1023)) 64) (List.replicate 64 0) = true ∧ up.acceptable 5 = none ∧ wwqa.acceptable 1023 = some wbuf ∧ wwqa.q WQ_CFG_TYPE 1023 ≠ 6 ∧ wwqa.acceptStatus 1023 wbuf = none ∧ (wwqa.wq 1023).fresh = true := by decide +kernel
theorem test_witness_QueueControl : up.serves 0x58 = true ∧ up.encOk 0x58 15 (WQ_CFG_ENABLE.off + 48 * 63) 4 (setBit 4 31) = true ∧ up.qb WQ_CFG_ENABLE 1023 = false ∧ wwq.serves 0x58 = true ∧ wwq.encOk 0x58 15 (WQ_CFG_ENABLE.off + 48 * 63) 4 (clrBit 4 31) = true ∧ wwq.qb WQ_CFG_ENABLE 1023 = true ∧ (wwq.wq 1023).acc = [] ∧ (wwq.wq 1023).fid = 0 ∧ (wwq.writePage 0 0x58 15 (WQ_CFG_ENABLE.off + 48 * 63) 4 (clrBit 4 31)).wqs = wwq.wqs ∧ up.head 1023 = up.tail 1023 ∧ up.serves 0 = true ∧ up.queuesOf 64 = [] ∧ (wwqa.setWq 1023 { acc := [{}] }).queuesOf 0 = [1023] ∧ (wwqa.setWq 1023 { acc := [{}] }).q WQ_CFG_TYPE 1023 = 4 ∧ (((up.setQ WQ_CFG_TYPE 1023 4).setWq 1023 { acc := [{}] }).rxUnused 1023 {} 0x23).q WQ_CFG_TYPE 1023 = 4 ∧ ((up.setQ WQ_CFG_TYPE 1023 4).setWq 1023 { acc := [{}] }).queuesOf 0 = [1023] ∧ ((up.setQ WQ_CFG_TYPE 1023 4).setWq 1023 { acc := [{}] }).q WQ_CFG_TYPE 1023 = 4 := by decide +kernel
theorem test_witness_CompletionRings : up.serves 0x59 = true ∧ up.encOk 0x59 255 (CQ_CFG_ENABLE.off + 32 * 63) 4 (setBit 0x104 31) = true ∧ up.qb CQ_CFG_ENABLE 16383 = false ∧ later 0 (up.q CQ_HEAD_COUNT 16383) 32 = false ∧ later 1 ((up.setQ CQ_TAIL_COUNT 16383 1).q CQ_HEAD_COUNT 16383) 32 = true ∧ diff32 ((up.setQ CQ_TAIL_COUNT 16383 1).q CQ_TAIL_COUNT 16383) 1 ≤ (up.setQ CQ_TAIL_COUNT 16383 1).cqSize 16383 ∧ up.qb CQ_CFG_EV_EN 16383 = false ∧ ((((up.setQ CQ_TAIL_COUNT 3 200).setQ CQ_CFG_EV_EN 3 1).setQ CQ_STAT_ARMED 3 1).q CQ_CFG_COAL_CNT 3) ≤ diff32 200 0 := by decide +kernel
theorem test_witness_DmaChannels : up.opens 0x50 511 = true ∧ up.encOk 0x50 511 0x40 4 (setBit 4 31) = true ∧ up.b DMA_CTL_ENABLE 511 = false ∧ (((up.writePage 0 0x50 511 0x40 4 (setBit 4 31)).setF DMA_CTL_ENABLE 511 0 1).setF DMA_RING_IDX_NEXT 511 0 0).f DMA_STAT_STATE 511 = 0 ∧ (wdma 2).opens 0x50 511 = true ∧ (wdma 2).encOk 0x50 511 0x40 4 (clrBit 4 31) = true ∧ (wdma 2).b DMA_CTL_ENABLE 511 = true ∧ (((wdma 2).writePage 0 0x50 511 0x40 4 (clrBit 4 31)).dma 511).sq = [] ∧ ((wdma 2).writePage 0 0x50 511 0x40 4 (clrBit 4 31)).f DMA_STAT_STATE 511 = 2
    ∧ (wdma 1).f DMA_STAT_STATE 511 = 1 ∧ (wdma 3).f DMA_STAT_STATE 511 = 3 ∧ (wdma 5).f DMA_STAT_STATE 511 = 5 ∧ (wdma 1).b DMA_CTL_ENABLE 511 = true ∧ (wdma 1).f DMA_CTL_SRC 511 = 0 ∧ ((wdma 1).dmaBoundary 511).f DMA_STAT_STATE 511 = 1 ∧ ((wdma 2).dma 511).cur = none ∧ dmaOk [] = false ∧ (((wdma 2).setDma 511 { cur := some {} }).dma 511).cur = some {}
    ∧ dmaOk wdbs = true ∧ ((wrw (wdma 2)).dmaMove 0 (dmaBody wdbs) 0 (dmaBody wdbs).units).2.2.isNone = true ∧ (wdma 6).f DMA_STAT_STATE 511 = 6 ∧ ({ (wdma 3).setF DMA_CTL_POLL_US 511 0 1 with now := 65536000 } : State).f DMA_CTL_POLL_US 511 ≠ 0 := by decide +kernel
theorem test_witness_EthernetTransmit : up.q WQ_CFG_TYPE 5 ≠ 3 ∧ up.txNext 8 5 = none ∧ (wtx wtxd).q WQ_CFG_TYPE 1023 = 3 ∧ (wtx wtxd).txPort 1023 = 8 ∧ (wtx wtxd).b EMAC_STAT_LINK_UP 8 = true ∧ (wtx wtxd).txNext 8 1023 = some { bytes := wtxd } ∧ (wtx wtxd).txMalformed 8 wtxd = false ∧ readsTo ((((wtx wtxd).setF DLOG_SPILL_VA_VALID 0 0 1).setF DLOG_SPILL_SIZE_UNITS 0 0 1024).txSegments 0 wtxd) (leBytes 60 0) = true ∧ (wtx wtxd).wqOwner 1023 = 0 ∧ (wtx wtxd).ptpBad 8 wtxd (leBytes 60 0) = false ∧ up.b EMAC_STAT_LINK_UP 8 = false ∧ weth.b EMAC_STAT_REMOTE_FAULT 8 = false ∧ (weth.emac 8).flight = none ∧ ((weth.setEmac 8 { ctl := [wfr] }).emac 8).ctl = [wfr] ∧ weth.f EMAC_STAT_LSX_STATE 8 ≠ 2 ∧ beAt wfr 12 2 ≠ 0x8808 ∧ (((wtx wtxd).setEmac 8 { flight := some { q := 1023, idx := 0, bytes := wfr, len := 64 } }).emac 8).flight = some { q := 1023, idx := 0, bytes := wfr, len := 64 } ∧ leAt wtxd 48 8 = 0 ∧ wtxr.txPick 8 = some (0, 1023, { cur := some 1023, last := 1023, left := 1, credit := [(1023, 1)] }) ∧ wtxr.txReady 8 1023 = some ({ bytes := wtxd, phase := 1 }, { q := 1023, bytes := leBytes 60 0 }) ∧ (wtxr.emac 8).closing = false ∧ (wtxr.emac 8).ctl = [] ∧ (wtxr.wrrServe (wrrKey 3 64) 1023 { cur := some 1023, last := 1023, left := 1, credit := [(1023, 1)] }).secRefuse 8 1023 (leAt wtxd 39 1) = none := by decide +kernel
theorem test_EthernetTransmit : (match exec (.txFrameEnd 8) ((wtx wtxd).setEmac 8 { flight := some { q := 1023, idx := 0, bytes := wfr, len := 64 } }) with | .next t => t.f EMAC_CNT_TX_BYTES_COUNT 8 == 64 && t.b EMAC_STAT_LINK_UP 8 && (t.wq 1023).acc == [] | _ => false) = true := by decide +kernel
theorem test_witness_EthernetReceiveAndLink : up.b EMAC_STAT_LINK_UP 8 = false ∧ weth.live 0x40 8 = true ∧ weth.b EMAC_STAT_LINK_UP 8 = true ∧ weth.f EMAC_MTU_MTU 8 < 20000 ∧ 64 ≤ weth.f EMAC_MTU_MTU 8 ∧ weth.opens 0x40 8 = true ∧ up.b EMAC_CTL_ENABLE 8 = false ∧ (up.setF EMAC_CTL_ENABLE 8 0 1).b EMAC_STAT_LINK_UP 8 = false ∧ up.f DEV_SERVICE_SERVICE ≠ 1 ∧ up.opens 0x40 8 = true ∧ (up.setF EMAC_CFG_AN_EN 8 0 0).b EMAC_CFG_AN_EN 8 = false := by decide +kernel
theorem test_EthernetReceiveAndLink : (match exec (.rxFrame 8 wfr true 0) ((weth.setF EMAC_ADDR_ADDR 8 0 1).setF EFLT_CTL_LL_EN 8 0 0) with | .next t => t.f EMAC_CNT_RX_BYTES_COUNT 8 == 64 && t.f EFLT_CNT_CTRL_COUNT 8 == 0 && t.f EFLT_CNT_ADDR_DROP_COUNT 8 == 1 | _ => false) = true := by decide +kernel
theorem test_EthernetReceiveAndLink_1 : (match exec (.emacLinkUp 8 true) (up.setF EMAC_CTL_ENABLE 8 0 1) with | .next t => t.b EMAC_STAT_LINK_UP 8 && t.b EMAC_STAT_REMOTE_FAULT 8 | _ => false) = true := by decide +kernel
theorem test_witness_LaneSheddingFrames : weth.b EMAC_STAT_LINK_UP 8 = true ∧ weth.f PWR_STAT_STATE ≠ 2 ∧ (weth.setF PWR_STAT_STATE 0 0 2).f PWR_STAT_STATE = 2 ∧ (weth.setF PWR_STAT_STATE 0 0 2).b EMAC_STAT_LINK_UP 8 = true ∧ (((weth.setF EMAC_ADDR_ADDR 8 0 9).rxOwn 8).ctrlTake 8).f EMAC_ADDR_ADDR 8 ≠ 0 ∧ ((weth.rxOwn 8).ctrlTake 8).b EMAC_STAT_LEADER 8 = false ∧ ((weth.rxOwn 8).ctrlTake 8).lpmOn 8 = false ∧ ((weth.rxOwn 8).ctrlTake 8).f EMAC_STAT_LSX_STATE 8 ≠ 2 ∧ (let s0 := ((((wshed.setF EMAC_STAT_PARTNER_ZHOEM 8 0 1).setF EMAC_LSX_LPM_EN 8 0 1).setF EMAC_LSX_MIN_LANES 8 0 0).rxOwn 8).ctrlTake 8;
      s0.lpmOn 8 = true ∧ s0.f EMAC_STAT_LANES 8 = 0 + 1 ∧ s0.f EMAC_LSX_MIN_LANES 8 ≤ 0 ∧ s0.f EMAC_STAT_LANES 8 < s0.fullCode 8 ∧ s0.b EMAC_STAT_LEADER 8 = false) ∧ (let s0 := ((wshed.setEmac 8 { req := 2, reqArg := 1, reqNonce := 9, ackOut := true }).rxOwn 8).ctrlTake 8;
      (s0.emac 8).req = 2 ∧ (s0.emac 8).reqNonce = 9 ∧ (s0.emac 8).reqArg = 1 ∧ (s0.emac 8).ackOut = true) := by decide +kernel
theorem test_witness_LaneSheddingActions : up.b EMAC_STAT_LINK_UP 8 = false ∧ wshed.b EMAC_STAT_LINK_UP 8 = true ∧ 0 < wshed.fullCode 8 ∧ (wshed.emac 8).helloOut = 0 ∧ wshed.f EMAC_STAT_LANES 8 < wshed.fullCode 8 ∧ wshed.opens 0x40 8 = true ∧ (wshed.emac 8).req ≠ 4 ∧ wshed.b EMAC_LSX_LPM_EN 8 = false ∧ (wshed.emac 8).win = wshed.utilWin ∧ (let s := (((wshed.setF EMAC_STAT_PARTNER_ZHOEM 8 0 1).setF EMAC_STAT_LEADER 8 0 1).setF EMAC_LSX_LPM_EN 8 0 1).setEmac 8 { partnerLpm := true };
      let t : State := { s with now := 65536000000000 };
      let u := t.setEmac 8 { partnerLpm := true, win := t.utilWin };
      u.lpmOn 8 = true ∧ u.f EMAC_LSX_MIN_LANES 8 < 1 ∧ (u.emac 8).busyAt + 65536 * 100000 * u.f EMAC_LSX_DWELL 8 ≤ u.now ∧ (u.emac 8).win = u.utilWin ∧ u.b EMAC_STAT_LEADER 8 = true) ∧ (let s := (wshed.setF EMAC_STAT_LSX_STATE 8 0 2).setEmac 8 { target := 2 };
      s.f EMAC_STAT_LSX_STATE 8 = 2 ∧ (s.emac 8).ctl = [] ∧ s.f EMAC_STAT_LANES 8 ≠ (s.emac 8).target ∧ (s.emac 8).win = s.utilWin) ∧ (let s := ((wshed.setF EMAC_STAT_LSX_STATE 8 0 2).setF EMAC_STAT_LANES 8 0 2).setEmac 8 { target := 2 };
      s.f EMAC_STAT_LANES 8 = (s.emac 8).target ∧ s.f EMAC_STAT_LANES 8 = s.fullCode 8) := by decide +kernel
theorem test_witness_PausesAndRekeys : up.b EMAC_STAT_LINK_UP 8 = false ∧ weth.b EMAC_STAT_LINK_UP 8 = true ∧ weth.f PWR_STAT_STATE ≠ 2 ∧ (weth.setF PWR_STAT_STATE 0 0 2).f PWR_STAT_STATE = 2 ∧ (((weth.setF EFLT_FC_CTL_RX_EN 8 0 1).rxOwn 8).ctrlTake 8).b EFLT_FC_CTL_RX_EN 8 = true ∧ (weth.rxOwn 8).f EFLT_FC_CTL_MODE 8 ≠ 1 ∧ (weth.rxOwn 8).f EFLT_FC_CTL_MODE 8 ≠ 2 ∧ ((weth.setF EFLT_FC_CTL_MODE 8 0 1).rxOwn 8).f EFLT_FC_CTL_MODE 8 = 1 ∧ ((weth.setF EFLT_FC_CTL_MODE 8 0 2).rxOwn 8).f EFLT_FC_CTL_MODE 8 = 2 ∧ (((weth.setF EFLT_FC_CTL_RX_EN 8 0 0).rxOwn 8).ctrlTake 8).b EFLT_FC_CTL_RX_EN 8 = false ∧ PMap.find ((weth.setEmac 8 { pauses := [(7, 5)] }).emac 8).pauses 7 = some 5 ∧ (weth.setF EFLT_FC_STAT_ASSERTED 8 0 128).f EFLT_FC_STAT_ASSERTED 8 ≠ 0 ∧ (weth.emac 8).resendAt ≤ weth.now ∧ weth.opens 0x42 8 = true ∧ (let s : State := { weth.setF ESTR_IMB_MIN 8 0 5 with now := 100000000 * 65536 };
      s.live 0x42 8 = true ∧ (s.emac 8).impAt + 100000000 * 65536 ≤ s.now ∧ 0 < (s.setEmac 8 { (s.emac 8) with spread := [], impAt := s.now }).f ESTR_IMB_MIN 8) ∧ (weth.emac 8).drain = none ∧ (weth.setEmac 8 { drain := some {} }).preLeft 8 = false := by decide +kernel
theorem test_witness_SteeringWakeAndKeys : up.opens 0x42 96 = true ∧ up.b ESTR_LOAD_STAT_RUNNING 96 = false ∧ ((List.range 96).any fun n => up.b ESTR_STAT_DRAINING n) = false ∧ ((List.range 96).any fun n => (up.setF ESTR_STAT_DRAINING 95 0 1).b ESTR_STAT_DRAINING n) = true ∧ (up.setF ESTR_LOAD_STAT_RUNNING 96 0 1).b ESTR_LOAD_STAT_RUNNING 96 = true ∧ (up.setF DEV_SERVICE_ENTROPY_READY 0 0 1).b DEV_SERVICE_ENTROPY_READY = true ∧ up.f ESTR_LOAD_LEN_LEN 96 = 0 ∧ (up.setF ESTR_LOAD_LEN_LEN 96 0 1).f ESTR_LOAD_LEN_LEN 96 = 0 + 1 ∧ readsErr ((up.setF ESTR_LOAD_STAT_UNPLACED 96 0 0).readV 0 (up.f ESTR_LOAD_ADDR_ADDR 96) 48) = true ∧ readsTo (((wspill up).setF ESTR_LOAD_STAT_UNPLACED 96 0 0).readV 0 0 48) (leBytes 48 0) = true ∧ steerBad (leBytes 48 0) = false ∧ steerBad (leBytes 37 0 ++ leBytes 11 8) = true ∧ up.opens 0x41 8 = true ∧ (up.emac 8).wakeLoad = false ∧ readsOk (wmap.readV (wmap.emacOwner 8) (wmap.f EFLT_WAKE_BASE_ADDR 8) 5120) = true ∧ readsErr (up.readV (up.emacOwner 8) (up.f EFLT_WAKE_BASE_ADDR 8) 5120) = true ∧ up.opens 0x44 8 = true ∧ bit (up.f MSEC_SA_USE_IN_USE 8) 31 = false ∧ 16 * bits 63 1 1 + 4 * bits 63 2 2 + bits 63 4 2 = 31 ∧ bit ((up.setF MSEC_SA_USE_IN_USE 8 0 (2 ^ 31)).f MSEC_SA_USE_IN_USE 8) 31 = true := by decide +kernel
theorem test_witness_TasksAndLoads : State.reset.ready 0x11 0 = false ∧ (up.setF DEV_SERVICE_SERVICE 0 0 2).ready 0x11 63 = true ∧ up.tillersRun = true ∧ decide (up.unstall 63 = up) = true ∧ up.freePlaces 63 ≠ 0 ∧ up.chooseTask 63 = none ∧ (let s : State := { up with tasks := [{ wtask {} with phase := 0 }] };
      (s.chooseTask 0).isSome = true ∧ decide (s.unstall 0 = s) = true ∧ s.freePlaces 0 ≠ 0) ∧ up.taskOf 0 5 = none ∧ (wrun { wtask {} with commit := some false } 0).taskOf 0 5 = some { wtask {} with commit := some false } ∧ (wrun (wtask {}) 0).opsOf (wtask {}) = [] ∧ up.opens 0x11 63 = true ∧ PMap.find up.loads 63 = none ∧ PMap.find ({ up with loads := [(63, (31, 0, 1))] } : State).loads 63 = some (31, 0, 1) ∧ (({ up with loads := PMap.del up.loads 63 } : State).setF SHF_LOAD_STAT_RUNNING 63 0 0).slotBusy 63 31 = false ∧ readsErr (up.readV 0 (up.f SHF_LOAD_ADDR_ADDR 63) 64) = true ∧ readsTo ((wspill up).readV 0 ((wspill up).f SHF_LOAD_ADDR_ADDR 63) 64) (leBytes 64 0) = true ∧ (wrun (wtask {}) 0).slotBusy 0 16 = true := by decide +kernel
theorem test_witness_TillerAlu : ((List.range 0x15).all fun k => wgo (wi 0 31 30 (if k < 0x12 then 29 * 2048 + k else k)) k) = true := by decide +kernel
theorem test_witness_TillerImmediates : ((List.range 8).all fun k => wgo (wi (k + 1) 31 (if k = 6 then 0 else 30) 0x8000) (0x4001 + k)) = true ∧ ((List.range 4).all fun k => wgo (wi 9 31 30 (64 * k + 63)) (0x1000 + k)) = true := by decide +kernel
theorem test_witness_TillerMemory : ([(0x10, 0xC000), (0x11, 0xC000), (0x12, 0xC000), (0x13, 0xC000), (0x14, 3)].all fun k => wgo (wi k.1 31 30 k.2) (0x4000 + k.1)) = true ∧ (wtask {}).winOk 120 8 8 false = true ∧ (wtask {}).winOk 121 8 8 false = false ∧ (wrun (wtask {}) (wi 0x10 31 30 0xC000)).mustWait (wtask {}) 0 8 false = false ∧ (wrun (wtask {}) 0).mustWait (wtask {}) 0 8 true = false ∧ readsTo ((wspill (wrun (wtask {}) (wi 0x12 31 30 0xC000))).readV 0 0 8) (leBytes 8 0) = true ∧ ({ up with ops := [{ kind := 1, sheaf := 0, seq := 5, off := 0, len := 8 }] } : State).mustWait (wtask {}) 0 8 false = true ∧ (wrun (wtask { strm := true }) (wi 0x12 31 30 0xC000)).runsWord (wtask { strm := true }) (wi 0x12 31 30 0xC000) = true ∧ addr64 0 (sgn 1 12) % 8 ≠ 0 := by decide +kernel
theorem test_witness_TillerBranches : ((List.range 8).all fun k => wgo (wi (0x18 + k) 31 30 0x8000) (0x4018 + k)) = true ∧ wgo (wi 0x20 0 30 1) 0x2001 = true ∧ wgo (wi 0x20 31 30 2) 0x2002 = true := by decide +kernel
theorem test_witness_TillerSystem : ([(0x20, 31, 0, 16 * 2048 + 3), (0x20, 8, 30, 4), (0x20, 0, 0, 5), (0x20, 0, 0, 6), (0x20, 0, 0, 7), (0x20, 0, 0, 31 * 2048 + 8), (0x21, 0, 30, 0xFFFF), (0x22, 0, 0, 1)].all fun k => (wrun (wtask {}) (wi k.1 k.2.1 k.2.2.1 k.2.2.2)).runsWord (wtask {}) (wi k.1 k.2.1 k.2.2.1 k.2.2.2)) = true ∧ ((wtask { eflags := 16 }).ctx.exc) = true ∧ (wtask { depth := 2 }).ctx.depth = 2 ∧ (wrun (wtask {}) (wi 0x20 0 0 8)).handler (wtask {}) ≠ 0 ∧ (wtask {}).ctx.exc = false ∧ (wrun (wtask {}) (wi 0x20 0 0 8)).samples 0 0 = false ∧ ((wrun (wtask {}) (wi 0x20 0 0 6)).issued (wtask {}) (wi 0x20 0 0 6)).opsOf (wtask {}) = [] ∧ (wrun (wtask { eflags := 16 }) (wi 0x20 0 0 5)).runsWord (wtask { eflags := 16 }) (wi 0x20 0 0 5) = true ∧ ((wrun (wtask {}) 0).special (wtask {}) 31) = none ∧ (wrun (wtask { depth := 1, le0 := 300000 }) (wi 0x21 0 30 4)).runsWord (wtask { depth := 1, le0 := 300000 }) (wi 0x21 0 30 4) = true := by decide +kernel
theorem test_TillerSystem : (match exec (.trap 0 5) (wrun (wtask {}) (wi 0x20 0 0 (31 * 2048 + 8))) with | .next u => (u.tasks.map fun t => (t.ctx.pc, t.ctx.epc, t.ctx.ecause, t.ctx.eflags)) == [(128, 64, 7 + 256 * 31, 16)] | _ => false) = true := by decide +kernel
theorem test_witness_TillerStreams : ([(0x23, 0, 30, 0), (0x24, 0, 30, 31 * 2048 + 1), (0x30, 31, 30, 15), (0x31, 31, 30, 29 * 2048 + 15), (0x32, 31, 30, 29 * 2048 + 15), (0x33, 31, 0, 15)].all fun k => wgo (wi k.1 k.2.1 k.2.2.1 k.2.2.2) (0x4000 + k.1)) = true ∧ (wtask {}).winOk 64 64 64 false = true ∧ (wtask {}).winOk 65 64 64 false = false ∧ up.dmaOwner 0 = 0 ∧ ((up.setF DMA_CTL_SRC 0 0 2).setF DMA_STAT_STATE 0 0 1).f DMA_STAT_STATE 0 ≠ 0 ∧ (up.setF DMA_CTL_ENABLE 0 0 1).b DMA_CTL_ENABLE 0 = true ∧ up.f DMA_CTL_SRC 0 ≠ 2 ∧ up.f DMA_CTL_SHEAF 0 = 0 ∧ (up.dma 0).sq = [] ∧ (wtask {}).winOk 0 128 1 true = true ∧ up.taskOf 0 5 = none ∧ (let s : State := { wspill (wrun (wtask {}) 0) with ops := [{ kind := 1, sheaf := 0, seq := 5, tag := 15, off := 64, len := 64 }] };
      s.taskOf 0 5 = some (wtask {}) ∧ ((s.opsOf (wtask {})).find? fun o => o.tag == 15 && o.kind != 0 && o.phase == 0).isSome = true ∧ (s.opMove { kind := 1, sheaf := 0, seq := 5, tag := 15, off := 64, len := 64 } (wtask {}) 2).2.2.2 = none) := by decide +kernel
theorem test_witness_WalksAndTranslationServices : up.b DLOG_ROOT_VALID 64 = false ∧ wroot.b DLOG_ROOT_VALID 64 = true ∧ (let s : State := { wroot with tlb := [{ die := 1, inst := 64, va := 0, size := 4096 }] }; (s.tlb.any fun e => e.die == 1 && e.inst == 64 && decide (e.va ≤ 4095) && decide (4095 < e.va + e.size)) = true) ∧ (wroot.tlb.any fun e => e.die == 1 && e.inst == 64 && decide (e.va ≤ 4095) && decide (4095 < e.va + e.size)) = false ∧ up.b DLOG_ICTL_ATS_EN 64 = false ∧ (up.setF DLOG_ICTL_ATS_EN 64 0 1).b DLOG_ICTL_ATS_EN 64 = true ∧ (({ up with fns := [(64, { atsEnable := true })] } : State).fn 64).atsEnable = true ∧ 3 ∉ (up.xst 64).atsInvs ∧ 3 ∈ ((up.setXst 64 { atsInvs := [3] }).xst 64).atsInvs ∧ (up.setXst 64 { atsInvs := [3] }).holdsPlaces 64 = false ∧ (up.asking 64 fun w => w.fid == 7) = none ∧ (({ up with waiters := [{ inst := 64, fid := 7, recSt := 0 }] } : State).asking 64 fun w => w.fid % 512 == 7) = some { inst := 64, fid := 7, recSt := 0 } ∧ up.opens 0x19 64 = true ∧ (up.xst 64).invs = [] ∧ ((up.setXst 64 { invs := [{ num := 1, va := 0, count := 0, at_ := 0 }] }).xst 64).invs = [{ num := 1, va := 0, count := 0, at_ := 0 }] := by decide +kernel
theorem test_WalksAndTranslationServices : (match exec (.dlogInv 0 64 (2 ^ 52 + 4096)) up with | .next t => t.f DLOG_IST_INV_REQ 64 == 1 && t.f DTU_CNT_INV_COUNT 1 == 1 && (t.xst 64).invs.map (fun r => (r.num, r.va, r.count)) == [(1, 1, 1)] | _ => false) = true := by decide +kernel
theorem test_witness_FaultAnswersAndQueues : up.opens 0x19 64 = true ∧ up.waiting 64 7 = none ∧ wwait.waiting 64 7 = some { inst := 64, fid := 7, kind := 9, recSt := 2 } ∧ wwait.opens 0x19 64 = true ∧ up.waiters = [] ∧ wwait.waiters = [{ inst := 64, fid := 7, kind := 9, recSt := 2 }] ∧ later 1 ((up.setF DLOG_FQ_TAIL_COUNT 64 0 1).f DLOG_FQ_HEAD_COUNT 64) 32 = true ∧ later 1 ((up.setF DLOG_FQ_TAIL_COUNT 64 0 1).f DLOG_FQ_TAIL_COUNT 64) 32 = false ∧ later 0 (up.f DLOG_FQ_HEAD_COUNT 64) 32 = false ∧ later 1 ((up.setF DLOG_SPILL_HEAD_UNITS 64 0 1).f DLOG_SPILL_TAIL_UNITS 64) 32 = true ∧ later 1 ((up.setF DLOG_SPILL_HEAD_UNITS 64 0 1).f DLOG_SPILL_HEAD_UNITS 64) 32 = false ∧ later 0 (up.f DLOG_SPILL_TAIL_UNITS 64) 32 = false ∧ (up.xst 64).flushOf = none ∧ ((up.setXst 64 { flushOf := some 5 }).xst 64).flushOf = some 5 := by decide +kernel
theorem test_witness_InstanceCommands : up.opens 0x60 64 = true ∧ (winst 1).opens 0x60 64 = true ∧ (winst 1).instState 64 = 1 ∧ ((winst 1).inst 64).cmd = 0 ∧ (winst 2).instState 64 = 2 ∧ (winst 2).resetting 64 = false ∧ ((winst 2).setInst 64 { resetAt := some 0 }).resetting 64 = true ∧ (winst 4).instState 64 = 4 ∧ up.instState 64 = 0 ∧ (winst 3).instState 64 = 3 := by decide +kernel
theorem test_InstanceCommands : (match exec (.instCmdStart 0 64) (winst 1) with | .next t => t.instState 64 == 2 && t.f INST_CMD_STAT_RESULT 64 == 0 | _ => false) = true := by decide +kernel
theorem test_witness_InstanceProgress : (up.inst 64).resetAt = none ∧ ((up.setInst 64 { cmd := 5 }).inst 64).cmd = 5 ∧ ((up.setInst 64 { cmd := 6 }).inst 64).cmd = 6 ∧ up.serves 0 = true ∧ up.resetting 0 = false ∧ (up.mbx 64).toInst.length < 16 ∧ 16 ≤ ((up.setMbx 64 { toInst := List.replicate 16 [] }).mbx 64).toInst.length ∧ (up.mbx 64).waitMgr = [] ∧ (up.mbx 64).toMgr = [] ∧ ((up.setMbx 64 { toMgr := [[]] }).mbx 64).toMgr = [[]] ∧ ((up.setMbx 64 { toInst := [[]] }).mbx 64).toInst = [[]] := by decide +kernel
theorem test_witness_Interrupts : up.serves 0x05 = true ∧ up.fastOff 0x05 64 = false ∧ up.resetting 0 = false ∧ up.claimable 64 = none ∧ wirq.claimable 64 = some 8191 ∧ (up.src 8191).insvc = false ∧ (({ up with irq := [(8191, { insvc := true, svc := 64 })] } : State).src 8191).insvc = true ∧ (up.events.any fun e => e.kind == 2 && e.unit == 9) = false ∧ (({ wirq with events := [{ kind := 2, unit := 9 }] } : State).srcOf 2 9) = some 8191 ∧ up.srcOf 2 9 = none ∧ PMap.find ({ up with hold := [(255, 5)] } : State).hold 255 = some 5 ∧ up.irq = [] ∧ ({ up with irq := [(8191, { asserts := 3, win := 9 })] } : State).stormWin 63 ≠ 9 ∧ up.opens 0x05 63 = true ∧ (srcWritten (up.src 8191) 2 (2 ^ 30)).sense ≠ 0 ∧ up.bindBad 8191 (srcWritten (up.src 8191) 2 (2 ^ 30)) = false ∧ 0xB < (srcWritten (up.src 8191) 2 (12 * 2 ^ 16)).kind ∧ up.bindBad 8191 (srcWritten (up.src 8191) 2 (2 ^ 16 + 2 ^ 16 + 2 ^ 28 + 5 * 2 ^ 20)) = true := by decide +kernel
theorem test_Interrupts : (match exec (.irqClaim 0 64 4) wirq with | .next t => t.rdata == 2 ^ 31 + 8191 && (t.src 8191).insvc | _ => false) = true := by decide +kernel
theorem test_witness_FaultsAndReserve : wornOk 5 9 23 = true ∧ wornOk 5 9 24 = false ∧ wornOk 3 1 0 = true ∧ wornOk 4 37 3 = true ∧ wornOk 11 9 5 = true ∧ up.domOn 9 = true ∧ up.domOn 37 = true ∧ wornOk 8 45 0 = true ∧ up.domOn 45 = true ∧ bit up.boot.trng 3 = true ∧ bit ({ up with boot := { up.boot with trng := 7 } } : State).boot.trng 3 = false ∧ wornOk 11 40 31 = true ∧ up.domOn 40 = true ∧ up.rsv.degraded = [] ∧ up.boot.phase = 4 ∧ up.rsv.takes = [] ∧ up.rsv.trans = [] ∧ wfull.rsvServes = true ∧ wfull.rsvLeft 5 23 ≠ 0 ∧ (wfull.setF SAGE_RSV_SLICES 0 0 0).rsvLeft 5 23 = 0 ∧ up.rsvServes = false ∧ unitListed 0x50 511 = true ∧ unitListed 0x50 512 = false ∧ (wworn 5 23).rsv.takes.length = 1 ∧ (wworn 5 23).rsv.noms.length = 1 ∧ (wworn 5 23).rsvServes = true ∧ (wworn 5 23).rsvLeft 5 23 ≠ 0 ∧ (wworn 5 23).rsv.failed = [] ∧ (wworn 5 23).rsv.winnowing = true ∧ (wworn 5 23).rsv.winnowAt + 65536000000000 * (3600 * (wworn 5 23).f SAGE_WINNOW_WINNOW_H) ≤ (wworn 5 23).now ∧ (wworn 5 23).rsv.phaseOut = [(7, 13, 0)] ∧ (wworn 5 23).rsv.mism.length = 0 := by decide +kernel
theorem test_FaultsAndReserve : (match exec (.retire 5 23) (wworn 5 23) with | .next t => t.rsv.noms.length == 0 && t.f SRDS_STAT_RESERVE_SLICE 23 == 1 && t.f PWR_DOM_GEN_GEN 32 == 1 | _ => false) = true := by decide +kernel
theorem test_witness_PowerStates : wfull.opens 0x03 0 = true ∧ wfull.f PWR_STAT_STATE = 0 ∧ wfull.power.target = none ∧ wfull.b PWR_STAT_ENTERING = false ∧ up.f DEV_SERVICE_SERVICE ≠ 2 ∧ wfull.f DEV_SERVICE_SERVICE = 2 ∧ (wpst 1).opens 0x03 0 = true ∧ (wpst 1).f PWR_STAT_STATE = 1 ∧ (wpst 1).f DEV_SERVICE_SERVICE = 2 ∧ (wpst 1).wakeOn 6 = true ∧ (wfull.setF PWR_WAKE_EN_EN 0 0 0).wakeOn 6 = false ∧ (wpst 1).wakeOn 1 = true ∧ (wpst 0).wakeOn 1 = true ∧ (wpst 0).f PWR_STAT_STATE = 0 ∧ (wdrain.setF PWR_WAKE_EN_EN 0 0 0x7F).wakeOn 1 = true ∧ wdrain.power.target = some 2 ∧ wdrain.power.wake = none ∧ (wfull.setF PWR_WAKE_EN_EN 0 0 0).wakeOn 1 = false ∧ (wpst 3).wakeOn 1 = true ∧ (wpst 4).f PWR_STAT_STATE = 4 ∧ (wpst 4).power.wake = none ∧ wdrain.power.target.isSome = true ∧ wdrain.power.drainAt + 65536000000 * wdrain.f PWR_CTL_DRAIN_MS ≤ wdrain.now ∧ wdrain.b PWR_STAT_ENTERING = false ∧ wdrain.opens 0x03 0 = true ∧ wready.entryReady = true ∧ wdrain.entryReady = false ∧ wready.power.target = some 2 ∧ wfull.powered = true ∧ wfull.b PWR_STAT_SUPPLY_LOW = false ∧ State.reset.powered = false ∧ (wlowv 32768000000).power.lowAt = some 0 ∧ (wlowv 32768000000).powered = true ∧ (wlowv 32768000000).power.target = none ∧ (wlowv 32767999999).now < 32768000000 ∧ (woff 1).f PWR_STAT_STATE = 4 ∧ (woff 1).power.why = 1 ∧ (woff 1).power.offAt + 655360000000 ≤ (woff 1).now ∧ wpnr.power.pnrAt.isSome = true ∧ wpnr.f PWR_STAT_STATE ≠ 4 := by decide +kernel
theorem test_PowerStates : (match exec .supplyRecovery (wlowv 32767999999) with | .next t => t.f PWR_CNT_DIP_COUNT == 1 && !(t.b PWR_STAT_SUPPLY_LOW) && t.power.lowAt == none | _ => false) = true := by decide +kernel
theorem test_witness_RegulatorsHeatAndEnergy : wfull.domOn 8 = true ∧ wfull.powered = true ∧ wfull.rsvServes = true ∧ wfull.f PWR_DOM_STAT_PHASE_RSV 8 ≠ 0 ∧ wfull.rsv.takes = [] ∧ wphase.rsv.takes.length = 1 ∧ wphase.rsvServes = true ∧ wphase.rsvLeft 2 7 ≠ 0 ∧ State.reset.domOn 8 = false ∧ (let t := wlate.tempIs 8 100; t.f PWR_CTL_THERM_FLOOR < t.f PWR_DOM_STAT_CLOCK 8 ∧ (PMap.get t.power.stepAt 7 0) + 6553600000 ≤ t.now) ∧ sgn 100 8 = 100 ∧ sgn 255 8 = -1 ∧ (let t := (wlate.setF PWR_DOM_STAT_CLOCK 8 0 15).tempIs 8 97; t.f PWR_DOM_STAT_CLOCK 8 < 16 ∧ (PMap.get t.power.stepAt 7 0) + 65536000000 ≤ t.now) ∧ wfull.atFloor = false ∧ wtele.telemeters 95 = true ∧ (wtele.pwr 95).polled = 0 ∧ (wtele.pwr 95).fails = 0 ∧ ((wtele.setPwr 95 { fails := 2 }).pwr 95).fails = 2 ∧ ((wtele.setPwr 95 { fails := 2 }).pwr 95).polled = 0 ∧ wtele.b KHUB_PWR_MAP_SEG 0 95 = false ∧ up.telemeters 95 = false ∧ up.nrgs = [] ∧ wtar.nrgs = [(95, { isOpen := true })] ∧ 0 < wtar.nextDemand wtar.devTime - 65536000000000 * wtar.demandLen ∧ wtar.tariffPoints.find? (fun p => p.1 == wtar.timeOfDay wtar.devTime) = some (1000, 3) ∧ wtar.b TIME_STAT_SET_ONCE = true ∧ up.b TIME_STAT_SET_ONCE = false ∧ up.opens 0x03 0 = true ∧ wtar.opens 0x03 0 = true ∧ up.opens 0x04 7 = true := by decide +kernel
theorem test_RegulatorsHeatAndEnergy : (match exec (.thermalThrottleTick 7 100) wlate with | .next t => t.f PWR_DOM_STAT_CLOCK 8 == 15 && t.b PWR_STAT_THROTTLING && t.f PWR_DOM_TEMP_TJ 8 == 100 | _ => false) = true := by decide +kernel
theorem test_witness_CountersAndGleaner : up.opens 0x07 96 = true ∧ wpmc.live 0x07 96 = true ∧ 15 < pmcCounters 96 ∧ wpmc.b PMC_EVSEL_EN 96 15 = true ∧ wpmc.f PMC_CNT_COUNT 96 15 = 2 ^ 48 - 1 ∧ up.f PMC_CNT_COUNT 96 15 = 0 ∧ up.domOn 48 = true ∧ up.b PMC_G_CTL_EN = false ∧ (wgat 0).b PMC_G_CTL_EN = true ∧ (wgat 0).gatherNext ≤ (wgat 0).now ∧ (wgat 0).gatherBusy ≤ (wgat 0).now ∧ (wgat 1).now < (wgat 1).gatherBusy ∧ (wsmp 0).b PMC_S_CTL_EN = true ∧ bit ((wsmp 0).f PMC_S_SHEAVES_BITS) 63 = true ∧ PMap.find (wsmp 0).sampleCnt 63 = some 0 ∧ ((wsmp 0).tags.filter fun g => g.sheaf == 63).length < 4 ∧ 4 ≤ ((wsmp 4).tags.filter fun g => g.sheaf == 63).length ∧ up.opens 0x06 0 = true ∧ (up.glnCode 0xEF).valid = false ∧ ((wgln 1).glnCode 0xEF).valid = true ∧ (wgln 1).glnTakes 0xEF = true ∧ (wgln 0).glnTakes 0xEF = false ∧ ((wgln 0).glnCode 0xEF).valid = true ∧ (wgln 1).opens 0x06 0 = true ∧ ((wgln 1).glnCode 0xEF).tokenAt + 65536000 * ((wgln 1).glnCode 0xEF).period ≤ (wgln 1).now ∧ up.glnRecs = [] ∧ wrec.glnRecs.length = 1 ∧ wrec.domOn 48 = true ∧ (wrec.glnCode 7).evEn = false ∧ wrec.f GLN_CTL_EV_CNT = 0 ∧ ((wrec.setGln 7 { evEn := true }).glnCode 7).evEn = true := by decide +kernel
theorem test_CountersAndGleaner : (match exec .gleanerRecordWrite wrec with | .next t => t.glnRecs.length == 0 && t.f GLN_SEQ_SEQ == 1 && t.byte (glnAt 0) == 3#8 | _ => false) = true := by decide +kernel
theorem test_witness_DruegChain : up.chainRuns = true ∧ State.reset.chainRuns = false ∧ chainOk (wcf 0 1 [31, 0]) = true ∧ cType (wcf 0 1 [31, 0]) = 1 ∧ cArg (wcf 0 1 [31, 0]) 0 + 1 = 32 ∧ cArg (wcf 0 1 [32, 0]) 0 + 1 = 33 ∧ chainOk (leBytes 12 0) = false ∧ cType (leBytes 12 (2 ^ 24)) = 1 ∧ chainOk (leBytes 12 (2 ^ 24)) = false ∧ cLvl (wcf 0 1 [31, 0]) = 0 ∧ up.isHead = false ∧ (whead none).isHead = true ∧ (whead none).chainRuns = true ∧ chainOk (wcf 1 2 [32, 0, 0]) = true ∧ cDst (wcf 1 2 [32, 0, 0]) = 1 ∧ (whead (some 0)).chain.walkAt.isSome = true ∧ (whead (some 0)).chain.again = false ∧ ((whead (some 0)).walkResult 32 0 false).chain.again = false ∧ chainOk (wcf 1 4 []) = true ∧ wunit.chainAddr = 32 ∧ wunit.chainRuns = true ∧ chainOk (wcf 32 3 [2]) = true ∧ cDst (wcf 32 3 [2]) = 32 ∧ chainOk (wcf 32 5 []) = true ∧ wunit.f PWR_STAT_STATE = 0 ∧ chainGated (cType (wcf 32 0x10 [])) = true ∧ cLvl (wcf 32 0x10 []) = wunit.f DCH_STAT_LVL ∧ wunit.chain.rx.length < 8 ∧ wunit.chainMine (wcf 31 4 []) = false ∧ wunit.chainMine (wcf 32 4 []) = true ∧ wunit.b DCH_STAT_DOWN_LINK = true ∧ wunit.b DCH_STAT_UP_LINK = false ∧ wunit.chain.upQ = [] ∧ wunit.chain.upTx + 262144000 ≤ wunit.now ∧ up.now < up.chain.upTx + 262144000 ∧ wunit.chain.downQ = [] ∧ wunit.chain.upRx + 655360000 ≤ wunit.now ∧ (0 : Nat) + 655360000000 ≤ (whead (some 0)).now ∧ wunit.opens 0x09 0 = true ∧ (whead none).opens 0x09 0 = true ∧ chainDst 32 = true ∧ chainDst 33 = false ∧ chainDst 0xFF = true ∧ up.chainAddr = 0 ∧ up.chain.hadAddr = false ∧ up.opens 0x09 0 = true ∧ wmsg.chainAddr ≠ 0 ∧ chainDst (wmsg.f DCH_TX_HDR_DST) = true ∧ wmsg.f DCH_TX_HDR_TYPE = 0x10 ∧ 1 ≤ wmsg.f DCH_STAT_LVL ∧ wmsg.opens 0x09 0 = true ∧ wfull.opens 0x09 0 = true ∧ wfull.f DEV_SERVICE_SERVICE = 2 ∧ wfull.f PWR_STAT_STATE = 0 ∧ (wpst 3).opens 0x09 0 = true := by decide +kernel
theorem test_DruegChain : (match exec (.walk true (wcf 0 1 [31, 0])) up with | .next t => t.chainAddr == 32 && t.out.length == 1 | _ => false) = true := by decide +kernel
theorem test_witness_StartUp : State.reset.boot.phase = 0 ∧ State.reset.f PWR_STAT_STATE ≠ 4 ∧ up.boot.phase ≠ 0 ∧ (wboot 1).boot.phase = 1 ∧ (wboot 1).boot.slots = [] ∧ ((wboot 1).boot.dirs.getD ((wboot 1).directory (dirBytes 0 5) (dirBytes 1 4))).1 = 0 ∧ ((wboot 1).boot.dirs.getD ((wboot 1).directory (dirBytes 0 4) (dirBytes 1 5))).1 = 1 ∧ dirOf (dirBytes 1 5) = some (1, 5) ∧ dirOf (leBytes 16 1) = none ∧ (wboot 1).imageOk {} = false ∧ ((wboot 1).setF SAGE_STAT_KEY_REVOKED 0 0 0).imageOk { magic := 0x5A494D47, fmt := 1, length := 512, keyHashOk := true, sigOk := true, svn := 65535, digestOk := true } = true ∧ (up.boot.trng = 0 ∨ ((List.range 4).filter fun k => bit 0xF k && bit (wtrng 0xF).boot.trng k).length = 4) ∧ (wtrng 0xF).boot.phase ≠ 0 ∧ (wtrng 0xF).b DEV_SERVICE_ENTROPY_READY = false ∧ (wtrng 0xF).b RNG_STAT_STARVED = false ∧ ((List.range 4).filter fun k => bit 0xF k && bit (wtrng 1).boot.trng k).length < 2 ∧ (wboot 2).boot.phase = 2 ∧ (wboot 3).boot.phase = 3 ∧ wfull.powered = true ∧ State.reset.powered = false ∧ (woff 3).f PWR_STAT_STATE = 4 ∧ (woff 3).power.why = 3 ∧ (woff 1).power.why ≠ 3 ∧ up.f PWR_STAT_STATE ≠ 4 ∧ up.power.wake = none ∧ wrails.power.wake.isSome = true ∧ wrails.f PWR_STAT_STATE = 4 ∧ wrails.boot.refGone = false := by decide +kernel
theorem test_StartUp : (match exec (.entropyReady 0xF) (wtrng 0xF) with | .next t => t.f RNG_STAT_SRC_OK == 7 && t.b DEV_SERVICE_ENTROPY_READY | _ => false) = true := by decide +kernel
theorem test_witness_FlashAndEntropy : up.opens 0x02 0 = true ∧ up.b SAGE_FL_STAT_RUNNING = false ∧ (up.setF SAGE_FL_STAT_RUNNING 0 0 1).b SAGE_FL_STAT_RUNNING = true ∧ (up.setF SAGE_FL_STAT_RUNNING 0 0 1).opens 0x02 0 = true ∧ (up.setF SAGE_FL_LEN_BYTES 0 0 0).imageOk (flashImage []) = false ∧ up.f SAGE_STAT_BOOT ≠ 3 ∧ (up.setF SAGE_STAT_BOOT 0 0 3).f SAGE_STAT_BOOT = 3 ∧ up.boot.writing = none ∧ wwrite.boot.writing = some {} ∧ up.resetting 0 = false ∧ up.opens 0x08 0 = true ∧ up.b DEV_SERVICE_ENTROPY_READY = false ∧ went.b DEV_SERVICE_ENTROPY_READY = true ∧ went.opens 0x08 0 = true ∧ 2 ≤ popcount 4 (went.f RNG_STAT_SRC_OK) ∧ ¬ 2 ≤ popcount 4 ((went.setF RNG_STAT_SRC_OK 0 0 1).f RNG_STAT_SRC_OK) ∧ went.boot.seedAt + 6553600000000 ≤ went.now ∧ ¬ up.boot.seedAt + 6553600000000 ≤ up.now ∧ went.domReady 45 = true ∧ bit went.boot.trng 3 = true ∧ bit (went.f RNG_STAT_SRC_OK) 3 = false ∧ bit (went.f RNG_STAT_SRC_OK) 2 = true ∧ went.boot.phase ≠ 0 := by decide +kernel
theorem test_FlashAndEntropy : (match exec (.healthTestFail 2) went with | .next t => t.f RNG_STAT_SRC_OK == 3 && t.f RNG_STAT_HEALTH_FAILS == 1 && t.rsv.takes.length == 1 | _ => false) = true := by decide +kernel
theorem test_witness_PinsAndHostPorts : 3 ∉ up.boot.perst ∧ up.f PWR_STAT_STATE ≠ 4 ∧ wperst.boot.perst = [3] ∧ up.leadPort = 0 ∧ up.activeLink 3 0 = true ∧ up.activeLink 3 1 = false ∧ up.b HOST_CTL_SPLIT 3 = false ∧ wsplit.activeLink 3 0 = false ∧ wsplit.activeLink 3 1 = true ∧ up.domReady 36 = true ∧ State.reset.domReady 36 = false ∧ up.boot.phase = 4 ∧ State.reset.boot.phase < 2 ∧ (winst 2).instState 64 ≠ 0 ∧ whost.instState 64 ≠ 0 ∧ whost.f INST_CTL_PORT 64 = 3 ∧ whost.b HOST_STAT_LINK_A_UP 3 = true ∧ whost.activeLink 3 0 = true ∧ (whost.setF HOST_CTL_ACTIVE 3 0 1 |>.setF HOST_CTL_SPLIT 3 0 1).activeLink 3 0 = false ∧ whost.boot.phase = 4 ∧ 3 ∉ whost.boot.perst ∧ whost.configRetry 64 3 = false ∧ up.b HOST_STAT_LINK_A_UP 3 = false ∧ (whost.fn 64).field 2 = some 0 ∧ (whost.fn 64).field 7 = none ∧ wretry.configRetry 64 3 = true ∧ wretry.b HOST_STAT_LINK_A_UP 3 = true ∧ up.live 0x24 0 = true ∧ State.reset.live 0x24 0 = false ∧ whold.f TIME_CTL_MODE = 1 ∧ whold.b TIME_STAT_HOLDOVER = true ∧ whold.live 0x24 0 = true ∧ weth.live 0x40 8 = true ∧ weth.b EMAC_STAT_LINK_UP 8 = true ∧ up.b EMAC_STAT_LINK_UP 8 = false ∧ up.domReady 45 = true := by decide +kernel
theorem test_PinsAndHostPorts : (match exec (.ref10mReturn true) whold with | .next t => t.b TIME_STAT_REF10_PRESENT && !(t.b TIME_STAT_HOLDOVER) | _ => false) = true := by decide +kernel

end Sys2Proof.Tests
end

/-! # Every command keeps the queue, the elapsed time and soundness (R10)

`Keeps s₀ s` says that `s` comes after `s₀` within one command. Each function of the model has one lemma, `Keeps.<function>`: from a
state that keeps it makes a state that keeps. The lemma of a function is its body read with the lemmas of the functions it calls, so only
the few functions that write the memory, the register maps or the count of draws have more to prove than the way through their branches.
-/

namespace Sys2Proof.Machine

/-- `t` comes after `s₀` within one command (R10): the queue and the elapsed time are those of `s₀`, no free value is taken back, and
`t` is sound where `s₀` is. -/
structure Keeps (s₀ t : State) : Prop where
  pending : t.pending = s₀.pending
  now : t.now = s₀.now
  draws : s₀.draws ≤ t.draws
  sound : s₀.sound = true → t.sound = true

/-- The answer is no state, or one that keeps. -/
def KeepsSome (s₀ : State) (o : Option State) : Prop := ∀ t, o = some t → Keeps s₀ t

/-- The access fails, or the state after it keeps. -/
def KeepsOk (s₀ : State) (e : Except XErr State) : Prop := ∀ t, e = .ok t → Keeps s₀ t

/-- The command stops, or its next state keeps. -/
def KeepsNext (s₀ : State) (o : Host.Outcome State Fault Refusal) : Prop := ∀ t, o = .next t → Keeps s₀ t

/-- The state in which an instruction leaves off, where it names one, keeps. -/
def KeepsAns (s₀ : State) : Ans → Prop
  | .exc _ _ | .wait => True
  | .gone t | .next t _ | .branch t _ _ _ | .goto t _ => Keeps s₀ t

section
variable {s₀ s t u : State} {α β : Type}

theorem State.sound_iff : s.sound = true ↔ Memory.wf s.mem = true ∧ PMap.rising s.regs = true ∧ PMap.rising s.shadow = true := by
  simp only [State.sound, Bool.and_eq_true, and_assoc]

/-- Putting a list of entries into a rising map, one after the other. -/
theorem PMap.rising_foldl_put {l : List β} {k : β → Nat} {v : β → α} {m : PMap α} (h : PMap.rising m = true) :
    PMap.rising (l.foldl (fun m e => PMap.put m (k e) (v e)) m) = true :=
  List.foldlRecOn (motive := fun m => PMap.rising m = true) l _ h fun _ hm _ _ => PMap.rising_put _ _ _ hm

theorem Keeps.refl : Keeps s s := ⟨rfl, rfl, Nat.le_refl _, id⟩

/-- A record update, field by field: the queue and the elapsed time are as they were, and each of the three maps keeps its form. -/
theorem Keeps.parts {devTime draws regs shadow latch cmts mem events out fenced fns tlb ats waiters xl irq irqReq hold rdata gln
    glnRecs glnTimes glnOff sampleCnt tagNext tags gatherNext gatherBusy prefs pcus pinQ pins tm wqs cqs wrrs refusals dmas progs loads
    taskSeq tasks ops nextOp slotUse msixSent placesOut links seqs trees ppwr staggered hub emacs steer em epochAt epochReq tabErrs
    insts mbxs rsv power nrgs chain boot epochPer timerAt} (h : Keeps s₀ s)
    (hd : s.draws ≤ draws) (hm : Memory.wf s.mem = true → Memory.wf mem = true)
    (hr : PMap.rising s.regs = true → PMap.rising regs = true) (hs : PMap.rising s.shadow = true → PMap.rising shadow = true) :
    Keeps s₀ { s with
      devTime, draws, regs, shadow, latch, cmts, mem, events, out, fenced, fns, tlb, ats, waiters, xl, irq, irqReq,
      hold, rdata, gln, glnRecs, glnTimes, glnOff, sampleCnt, tagNext, tags, gatherNext, gatherBusy, prefs, pcus, pinQ, pins, tm, wqs,
      cqs, wrrs, refusals, dmas, progs, loads, taskSeq, tasks, ops, nextOp, slotUse, msixSent, placesOut, links, seqs, trees, ppwr,
      staggered, hub, emacs, steer, em, epochAt, epochReq, tabErrs, insts, mbxs, rsv, power, nrgs, chain, boot, epochPer, timerAt }
      where
  pending := h.pending
  now := h.now
  draws := h.draws.trans hd
  sound h₀ :=
    have ⟨m, r, w⟩ := State.sound_iff.1 (h.sound h₀)
    State.sound_iff.2 ⟨hm m, hr r, hs w⟩

/-- A record update of fields that do not count here: every field but the six may take any value. -/
theorem Keeps.upd {devTime latch cmts events out fenced fns tlb ats waiters xl irq irqReq hold rdata gln glnRecs glnTimes glnOff
    sampleCnt tagNext tags gatherNext gatherBusy prefs pcus pinQ pins tm wqs cqs wrrs refusals dmas progs loads taskSeq tasks ops nextOp
    slotUse msixSent placesOut links seqs trees ppwr staggered hub emacs steer em epochAt epochReq tabErrs insts mbxs rsv power nrgs
    chain boot epochPer timerAt} (h : Keeps s₀ s) :
    Keeps s₀ { s with
      devTime, latch, cmts, events, out, fenced, fns, tlb, ats, waiters, xl, irq, irqReq, hold, rdata, gln, glnRecs,
      glnTimes, glnOff, sampleCnt, tagNext, tags, gatherNext, gatherBusy, prefs, pcus, pinQ, pins, tm, wqs, cqs, wrrs, refusals, dmas,
      progs, loads, taskSeq, tasks, ops, nextOp, slotUse, msixSent, placesOut, links, seqs, trees, ppwr, staggered, hub, emacs, steer,
      em, epochAt, epochReq, tabErrs, insts, mbxs, rsv, power, nrgs, chain, boot, epochPer, timerAt } :=
  h.parts (Nat.le_refl _) id id id

/-! Branches and folds. A function's lemma is the function's body read with these: `.ite` for a test, `foldl` for a loop, `split` for a
match, and the lemma of each operation it calls in the order of the calls. -/

section
variable {c : Prop} {_ : Decidable c}

theorem Keeps.ite (ht : Keeps s₀ t) (hu : Keeps s₀ u) : Keeps s₀ (if c then t else u) := by
  split
  · exact ht
  · exact hu

/-- A branch that goes on from the state or leaves it. -/
theorem Keeps.when (h : Keeps s₀ s) (ht : Keeps s₀ s → Keeps s₀ t) : Keeps s₀ (if c then t else s) := .ite (ht h) h

theorem Keeps.unless (h : Keeps s₀ s) (ht : Keeps s₀ s → Keeps s₀ t) : Keeps s₀ (if c then s else t) := .ite h (ht h)

/-- Two branches that go on from one state. -/
theorem Keeps.both (h : Keeps s₀ s) (ht : Keeps s₀ s → Keeps s₀ t) (hu : Keeps s₀ s → Keeps s₀ u) :
    Keeps s₀ (if c then t else u) :=
  .ite (ht h) (hu h)

theorem Keeps.ite_fst {p q : State × α} (hp : Keeps s₀ p.1) (hq : Keeps s₀ q.1) : Keeps s₀ (if c then p else q).1 := by
  split
  · exact hp
  · exact hq

theorem Keeps.ite_snd {p q : α × State} (hp : Keeps s₀ p.2) (hq : Keeps s₀ q.2) : Keeps s₀ (if c then p else q).2 := by
  split
  · exact hp
  · exact hq

theorem KeepsSome.ite {o o' : Option State} (h : KeepsSome s₀ o) (h' : KeepsSome s₀ o') : KeepsSome s₀ (if c then o else o') := by
  split
  · exact h
  · exact h'

theorem KeepsOk.ite {e e' : Except XErr State} (h : KeepsOk s₀ e) (h' : KeepsOk s₀ e') : KeepsOk s₀ (if c then e else e') := by
  split
  · exact h
  · exact h'

theorem KeepsNext.ite {o o' : Host.Outcome State Fault Refusal} (h : KeepsNext s₀ o) (h' : KeepsNext s₀ o') :
    KeepsNext s₀ (if c then o else o') := by
  split
  · exact h
  · exact h'

theorem KeepsAns.ite {a a' : Ans} (h : KeepsAns s₀ a) (h' : KeepsAns s₀ a') : KeepsAns s₀ (if c then a else a') := by
  split
  · exact h
  · exact h'
end

theorem Keeps.foldl {f : State → α → State} {l : List α} (h : Keeps s₀ s) (hf : ∀ {t a}, Keeps s₀ t → Keeps s₀ (f t a)) :
    Keeps s₀ (l.foldl f s) :=
  List.foldlRecOn l f h fun _ ht _ _ => hf ht

theorem Keeps.foldl_fst {f : State × β → α → State × β} {l : List α} {p : State × β} (h : Keeps s₀ p.1)
    (hf : ∀ {q a}, Keeps s₀ q.1 → Keeps s₀ (f q a).1) : Keeps s₀ (l.foldl f p).1 :=
  List.foldlRecOn (motive := fun q : State × β => Keeps s₀ q.1) l f h fun _ hq _ _ => hf hq

theorem Keeps.of_eq {p : State × α} {a : α} (h : Keeps s₀ p.1) (e : p = (t, a)) : Keeps s₀ t := by
  subst e
  exact h

theorem KeepsSome.none : KeepsSome s₀ none := fun _ e => absurd e.symm (Option.some_ne_none _)

theorem KeepsSome.some (h : Keeps s₀ t) : KeepsSome s₀ (some t) := fun _ e => Option.some.inj e ▸ h

theorem KeepsSome.map {o : Option α} {f : α → State} (h : ∀ a, Keeps s₀ (f a)) : KeepsSome s₀ (o.map f) := by
  cases o with
  | none => exact .none
  | some a => exact .some (h a)

theorem KeepsSome.of {o : Option State} (h : KeepsSome s₀ o) (e : o = .some t) : Keeps s₀ t := h t e

theorem KeepsSome.getD {o : Option State} (h : KeepsSome s₀ o) (hs : Keeps s₀ s) : Keeps s₀ (o.getD s) := by
  cases o with
  | none => exact hs
  | some t => exact h.of rfl

theorem KeepsOk.error {x : XErr} : KeepsOk s₀ (.error x) := fun _ e => by injection e

theorem KeepsOk.ok (h : Keeps s₀ t) : KeepsOk s₀ (.ok t) := fun _ e => Except.ok.inj e ▸ h

theorem KeepsOk.of {e : Except XErr State} (h : KeepsOk s₀ e) (he : e = .ok t) : Keeps s₀ t := h t he

theorem KeepsNext.fault {r : Fault} : KeepsNext s₀ (.fault r) := fun _ e => by injection e

theorem KeepsNext.next (h : Keeps s₀ t) : KeepsNext s₀ (.next t) := fun _ e => Host.Outcome.next.inj e ▸ h

section
variable {a : Ans} {x : Task} {k : Nat} {b : Bool}

theorem KeepsAns.exc {cause detail : Nat} : KeepsAns s₀ (.exc cause detail) := trivial
theorem KeepsAns.wait : KeepsAns s₀ .wait := trivial
theorem KeepsAns.gone (h : Keeps s₀ t) : KeepsAns s₀ (.gone t) := h
theorem KeepsAns.next (h : Keeps s₀ t) : KeepsAns s₀ (.next t x) := h
theorem KeepsAns.branch (h : Keeps s₀ t) : KeepsAns s₀ (.branch t x k b) := h
theorem KeepsAns.goto (h : Keeps s₀ t) : KeepsAns s₀ (.goto t x) := h
theorem KeepsAns.of_gone (h : KeepsAns s₀ a) (e : a = .gone t) : Keeps s₀ t := by subst e; exact h
theorem KeepsAns.of_next (h : KeepsAns s₀ a) (e : a = .next t x) : Keeps s₀ t := by subst e; exact h
theorem KeepsAns.of_branch (h : KeepsAns s₀ a) (e : a = .branch t x k b) : Keeps s₀ t := by subst e; exact h
theorem KeepsAns.of_goto (h : KeepsAns s₀ a) (e : a = .goto t x) : Keeps s₀ t := by subst e; exact h
end
end

/-! ### The shared operations: register fields, pages, memory, events -/
section
variable {s₀ s : State} {u i v n blk kind unit fn a page k : Nat}

theorem Keeps.setF {F : Fld} (h : Keeps s₀ s) : Keeps s₀ (s.setF F u i v) := h.parts (Nat.le_refl _) id (PMap.rising_put _ _ _) id

theorem Keeps.addF {F : Fld} (h : Keeps s₀ s) : Keeps s₀ (s.addF F u i n) := h.setF

theorem Keeps.satF {F : Fld} (h : Keeps s₀ s) : Keeps s₀ (s.satF F u i n) := h.setF

theorem Keeps.err {F : Fld} (h : Keeps s₀ s) : Keeps s₀ (s.err F u) := h.setF

theorem Keeps.errOn {F : Fld} (h : Keeps s₀ s) : Keeps s₀ (s.errOn F blk u) := h.err

theorem Keeps.post (h : Keeps s₀ s) : Keeps s₀ (s.post kind unit) := h.upd

theorem Keeps.emit {o : Out} (h : Keeps s₀ s) : Keeps s₀ (s.emit o) := h.upd

theorem Keeps.bump (h : Keeps s₀ s) : Keeps s₀ s.bump := h.parts (Nat.le_succ _) id id id

theorem Keeps.refuse (h : Keeps s₀ s) : Keeps s₀ (s.refuse fn) := h.satF

theorem Keeps.setByte {b : BitVec 8} (h : Keeps s₀ s) : Keeps s₀ (s.setByte a b) :=
  h.parts (Nat.le_refl _) (State.setByte_wf _ _) id id

theorem Keeps.store {bs : List (BitVec 8)} (h : Keeps s₀ s) : Keeps s₀ (s.store a bs) := by
  induction bs generalizing s a with
  | nil => exact h
  | cons b bs ih => exact ih h.setByte

theorem Keeps.setInst {x : InstSt} (h : Keeps s₀ s) : Keeps s₀ (s.setInst i x) := h.upd

theorem Keeps.act {mgrOnly : Bool} {k : State → State} (h : Keeps s₀ s) (hk : ∀ {t}, Keeps s₀ t → Keeps s₀ (k t)) :
    Keeps s₀ (s.act fn blk u mgrOnly k) := .ite h (.ite h.refuse (.ite (.ite (hk h) h) (.ite (.ite (hk h) h) h.refuse)))

theorem Keeps.actOwn {k : State → State} (h : Keeps s₀ s) (hk : ∀ {t}, Keeps s₀ t → Keeps s₀ (k t)) :
    Keeps s₀ (s.actOwn fn i k) :=
  .ite h (.ite (hk h) h.refuse)

theorem Keeps.unlatch (h : Keeps s₀ s) : Keeps s₀ (s.unlatch fn page) := by
  unfold State.unlatch
  split
  · exact .ite h.upd h
  · exact h

theorem Keeps.each {k : State → Nat → State} (h : Keeps s₀ s) (hk : ∀ {t x₁}, Keeps s₀ t → Keeps s₀ (k t x₁)) :
    Keeps s₀ (s.each n k) :=
  h.foldl fun h => hk h

end

/-! ### Translation and the accesses made through it -/
section
variable {s₀ s : State} {i k va die inst kind unit detail ref fid units frame a : Nat}

theorem Keeps.dirty (h : Keeps s₀ s) : Keeps s₀ (s.dirty i k) :=
  .ite h (.ite h.setF <| by extract_lets; split; exacts [h.setByte, .ite h.setF h.setF])

theorem Keeps.storeV {ps : List (Nat × Nat)} {bs : List (BitVec 8)} (h : Keeps s₀ s) : Keeps s₀ (s.storeV i ps bs) := by
  induction ps generalizing s bs with
  | nil => exact h
  | cons p ps ih =>
    unfold State.storeV
    split
    · exact h
    · exact ih (by split; exacts [h.store.dirty, h.store])

theorem Keeps.writeV {bs : List (BitVec 8)} (h : Keeps s₀ s) : KeepsOk s₀ (s.writeV i va bs) := by
  unfold State.writeV
  split
  · exact .error
  · exact .ok h.storeV.bump

theorem Keeps.setXst {x : Xl} (h : Keeps s₀ s) : Keeps s₀ (s.setXst i x) := h.upd

theorem Keeps.fqWrite {w : Waiter} {nowait spillFull : Bool} (h : Keeps s₀ s) : Keeps s₀ (s.fqWrite w nowait spillFull) :=
  (Keeps.ite h.store.dirty h.store).setXst.addF.post

theorem Keeps.fqFlush (h : Keeps s₀ s) : Keeps s₀ (s.fqFlush i) := by
  unfold State.fqFlush
  extract_lets step r
  have hr : Keeps s₀ r.1 := .foldl_fst h fun h => .ite_fst h.fqWrite h
  exact hr.upd

theorem Keeps.takeFid (h : Keeps s₀ s) : Keeps s₀ (s.takeFid i).2 := h.setXst

theorem Keeps.countFault (h : Keeps s₀ s) : Keeps s₀ (s.countFault i die) := h.addF.addF

theorem Keeps.useUp {e : XErr} (h : Keeps s₀ s) : Keeps s₀ (s.useUp inst e) := .ite h.upd (.ite h.upd h)

theorem Keeps.faultWait0 {e : XErr} {write blocked : Bool} (h : Keeps s₀ s) :
    Keeps s₀ (s.faultWait0 die inst kind e write unit detail ref blocked).2 :=
  .ite_snd h.takeFid.useUp.upd.addF.addF.emit h.takeFid.useUp.upd.addF.countFault.fqFlush

theorem Keeps.faultNoWait0 {e : XErr} {write spillFull : Bool} (h : Keeps s₀ s) :
    Keeps s₀ (s.faultNoWait0 die inst kind e write unit detail spillFull fid) :=
  h.countFault.useUp.both (fun h => h.fqWrite) fun h => h.satF

theorem Keeps.unwait (h : Keeps s₀ s) : Keeps s₀ (s.unwait inst fid) := .ite h h.upd.setF

theorem Keeps.spillExtent {bs : List (BitVec 8)} (h : Keeps s₀ s) : Keeps s₀ (s.spillExtent i units bs) := h.store.setF.addF

theorem Keeps.spill {t : State} {bs : List (BitVec 8)} (h : Keeps s₀ s) (e : s.spill i kind fid unit va frame bs = some (a, t)) :
    Keeps s₀ t := by
  unfold State.spill at e
  extract_lets at e
  split at e
  · exact absurd e.symm (Option.some_ne_none _)
  · exact (Prod.mk.inj (Option.some.inj e)).2 ▸ (Keeps.ite h h.spillExtent).spillExtent

end

/-! ### Interrupt sources and targets -/
section
variable {s₀ s : State} {k fn vec t i : Nat}

theorem Keeps.setSrc {v : IrqSrc} (h : Keeps s₀ s) : Keeps s₀ (s.setSrc k v) := h.upd

theorem Keeps.msixSend (h : Keeps s₀ s) : Keeps s₀ (s.msixSend fn vec) := h.upd.emit

theorem Keeps.msix (h : Keeps s₀ s) : Keeps s₀ (s.msix fn vec) := .ite h (.ite h.upd h.msixSend)

theorem Keeps.msixFlush (h : Keeps s₀ s) : Keeps s₀ (s.msixFlush fn) :=
  .ite h ((Keeps.ite h.upd.msixSend h).when fun h => h.upd.msixSend)

theorem Keeps.reqRise (h : Keeps s₀ s) : Keeps s₀ (s.reqRise t) := .ite h.msix (.ite h.msix (.ite h h.emit))

theorem Keeps.reqFall (h : Keeps s₀ s) : Keeps s₀ (s.reqFall t) := .ite h h.emit

theorem Keeps.irqEval (h : Keeps s₀ s) : Keeps s₀ s.irqEval := ((h.foldl fun h => h.reqFall).foldl fun h => h.reqRise).upd

theorem Keeps.irqMode (h : Keeps s₀ s) : Keeps s₀ s.irqMode := h.setF.irqEval

theorem Keeps.assertSrc (h : Keeps s₀ s) : Keeps s₀ (s.assertSrc k) := .ite h.setSrc.err h.setSrc

theorem Keeps.edgeSrc (h : Keeps s₀ s) : Keeps s₀ (s.edgeSrc k).1 := .ite_fst h.setSrc h.assertSrc

theorem Keeps.levelSrc (h : Keeps s₀ s) : Keeps s₀ (s.levelSrc k).1 := .ite_fst h h.assertSrc

theorem Keeps.pulseSrc (h : Keeps s₀ s) : Keeps s₀ (s.pulseSrc k).1 := .ite_fst h h.edgeSrc

theorem Keeps.levelInput (h : Keeps s₀ s) : Keeps s₀ (s.levelInput k).1 :=
  .ite_fst (.ite_fst h.setSrc.levelSrc h.setSrc) (.ite_fst h.setSrc (.ite_fst h.setSrc.edgeSrc h.setSrc))

theorem Keeps.relevel (h : Keeps s₀ s) : Keeps s₀ (s.relevel k).1 := .ite_fst h.levelSrc h

theorem Keeps.unbindLost (h : Keeps s₀ s) : Keeps s₀ s.unbindLost := h.upd

theorem Keeps.irqReset (h : Keeps s₀ s) : Keeps s₀ (s.irqReset i) := (h.foldl fun h => h.setSrc).upd.irqEval

end

/-! ### References, compare units and trigger pins -/
section
variable {s₀ s : State} {p u t a old new at_ w e fuel k : Nat}

theorem Keeps.setPref {r : Pref} (h : Keeps s₀ s) : Keeps s₀ (s.setPref p r) := h.upd

theorem Keeps.setPcu {c : Pcu} (h : Keeps s₀ s) : Keeps s₀ (s.setPcu u c) := h.upd

theorem Keeps.setPin {c : Pin} (h : Keeps s₀ s) : Keeps s₀ (s.setPin t c) := h.upd

theorem Keeps.unreliable (h : Keeps s₀ s) : Keeps s₀ (s.unreliable p) := .ite h h.setF.err

theorem Keeps.reliable (h : Keeps s₀ s) : Keeps s₀ (s.reliable p) := h.setF.setF

theorem Keeps.place {x : Int} (h : Keeps s₀ s) : Keeps s₀ (s.place p x) := h.setPref

theorem Keeps.abandonPos (h : Keeps s₀ s) : Keeps s₀ (s.abandonPos u) := h.upd.foldl fun h => h.errOn

theorem Keeps.disarm (h : Keeps s₀ s) : Keeps s₀ (s.disarm u) := .ite h.setF.setPcu.abandonPos h

theorem Keeps.loadTarget (h : Keeps s₀ s) : Keeps s₀ (s.loadTarget u) := .ite h.setF.setF.setPcu.setF h.setF.setF.setPcu

theorem Keeps.arm (h : Keeps s₀ s) : Keeps s₀ (s.arm u) := .ite h h.setF.setF.setF.loadTarget

theorem Keeps.nextTarget (h : Keeps s₀ s) : Keeps s₀ (s.nextTarget u).1 :=
  .ite_fst (Keeps.ite h h.setF).setF (Keeps.ite h h.setF).setF.setPcu

theorem Keeps.passOver {old new : Int} (h : Keeps s₀ s) : Keeps s₀ (s.passOver u old new fuel) := by
  induction fuel generalizing s with
  | zero => exact h
  | succ fuel ih => exact .ite (.ite h.nextTarget.disarm (ih h.nextTarget)) h

theorem Keeps.skipOver (h : Keeps s₀ s) : Keeps s₀ (s.skipOver u k).1 := by
  induction k generalizing s with
  | zero => exact h
  | succ k ih => exact .ite_fst h.nextTarget (ih h.nextTarget)

theorem Keeps.jumpUnit {old new : Int} (h : Keeps s₀ s) : Keeps s₀ (s.jumpUnit u old new) :=
  (Keeps.ite h.setPcu h).both (fun h => .ite h.setPcu (Keeps.ite h.setPcu.setF.post h.setPcu.setF).setPcu) fun h =>
    (Keeps.ite h (.ite (Keeps.ite h.setF.post h.setF).disarm (Keeps.ite h.setF.post h.setF).passOver)).setPcu

theorem Keeps.jumpUnits {old new : Int} (h : Keeps s₀ s) : Keeps s₀ (s.jumpUnits p old new) := h.foldl fun h => h.jumpUnit

theorem Keeps.jumpTimeUnits (h : Keeps s₀ s) : Keeps s₀ (s.jumpTimeUnits old new) := h.foldl fun h => h.jumpUnit

theorem Keeps.settleUnits (h : Keeps s₀ s) : Keeps s₀ (s.settleUnits p) := h.foldl fun h => h.setPcu

theorem Keeps.noticeUnit {seen : Option Nat} (h : Keeps s₀ s) : Keeps s₀ (s.noticeUnit u seen) :=
  .ite h.setPcu (.ite h.setPcu h.setPcu)

theorem Keeps.noticeUnits (h : Keeps s₀ s) : Keeps s₀ (s.noticeUnits p) := h.foldl fun h => h.noticeUnit

theorem Keeps.queuePin {c : Int} (h : Keeps s₀ s) : Keeps s₀ (s.queuePin u c) := .ite h.upd h

theorem Keeps.fireOnce {c : Int} (h : Keeps s₀ s) : Keeps s₀ (s.fireOnce u c).1 :=
  (Keeps.ite (Keeps.ite h.queuePin.addF.post h.queuePin.addF).setPcu (.ite h.queuePin.addF.post h.queuePin.addF)).nextTarget

theorem Keeps.drivePin (h : Keeps s₀ s) : Keeps s₀ (s.drivePin t) := .ite h.setF.emit h.setF

theorem Keeps.startPulse (h : Keeps s₀ s) : Keeps s₀ (s.startPulse t at_ w) := by
  unfold State.startPulse
  extract_lets
  split
  · exact h.setPin.addF
  · split
    · exact .ite h.setPin.addF h.setPin
    · exact h.setPin

theorem Keeps.pulseOver (h : Keeps s₀ s) : Keeps s₀ (s.pulseOver t e) := .ite h h.setPin

theorem Keeps.pinAct {a : PinAct} (h : Keeps s₀ s) : Keeps s₀ (s.pinAct a) :=
  .ite h.addF.startPulse (.ite h.addF.setPin h.addF.setPin)

end

/-! ### Register pages -/
section
variable {s₀ s : State} {u i lo n v fn w blk o size : Nat}

theorem Keeps.writeFld {F : Fld} (h : Keeps s₀ s) : Keeps s₀ (s.writeFld F u i lo n v) :=
  .ite h <|
  .ite h.setF <| by
    split
    · exact h
    · exact h.setF
    · exact h.setF
    · exact .ite (.ite h.setSrc h) h.setF
    · exact .ite h.errOn (h.parts (Nat.le_refl _) id id (PMap.rising_put _ _ _))

theorem Keeps.refuseMgr {r : RegAt} (h : Keeps s₀ s) : Keeps s₀ (s.refuseMgr fn r lo w) := .ite h.refuse h

theorem Keeps.writeReg (h : Keeps s₀ s) : Keeps s₀ (s.writeReg fn blk u o n v) := by
  unfold State.writeReg
  split
  · exact h
  · exact h.refuseMgr.both (fun h => h.errOn) fun h => (Keeps.ite h.unlatch h).foldl fun h => h.writeFld

theorem Keeps.writePage (h : Keeps s₀ s) : Keeps s₀ (s.writePage fn blk u o size v) := by
  unfold State.writePage
  split
  · exact .ite (.ite h.writeReg h) h.errOn
  · exact .ite h.errOn (.ite h.writeReg.writeReg h.writeReg)

theorem Keeps.unshadow {F : Fld} {u i : Nat} (h : Keeps s₀ s) : Keeps s₀ (s.unshadow F u i) :=
  h.parts (Nat.le_refl _) id id (PMap.rising_del _ _)

end

/-! ### Event counters and the Gleaner -/
section
variable {s₀ s : State} {c code origin arg kind src dom unit gen left cause k b n ev sub die inst detail ref fid w slot outcome
  seq from_ : Nat}

theorem Keeps.setGln {v : GlnCode} (h : Keeps s₀ s) : Keeps s₀ (s.setGln c v) := h.upd

theorem Keeps.glnTrigger {soft : Bool} {words : List Nat} (h : Keeps s₀ s) :
    Keeps s₀ (s.glnTrigger code soft origin arg words) := .ite h (.ite h.setGln.upd h.setGln)

theorem Keeps.glnKind (h : Keeps s₀ s) : Keeps s₀ (s.glnKind kind src origin) := h.foldl fun h => h.glnTrigger

theorem Keeps.glnReserve (h : Keeps s₀ s) : Keeps s₀ (s.glnReserve code kind dom unit gen left cause) := h.glnTrigger

theorem Keeps.irqDone {p : State × Bool} (h : Keeps s₀ p.1) : Keeps s₀ (State.irqDone p k) := (Keeps.ite h.glnKind h).irqEval

theorem Keeps.pmcWrap (h : Keeps s₀ s) : Keeps s₀ (s.pmcWrap b c) := (Keeps.ite h.setF.setF.post h.setF.setF).glnKind

theorem Keeps.pmcAdd (h : Keeps s₀ s) : Keeps s₀ (s.pmcAdd b c n) := .ite h.setF h.pmcWrap.setF

theorem Keeps.count {inst : Option Nat} {n : Nat} (h : Keeps s₀ s) : Keeps s₀ (s.count b ev sub inst n) :=
  .ite h (h.each fun h => .ite h.pmcAdd h)

theorem Keeps.faultWait {e : XErr} {write : Bool} {blocked : Bool} (h : Keeps s₀ s) :
    Keeps s₀ (s.faultWait die inst kind e write unit detail ref blocked).2 := .ite_snd h.faultWait0 h.faultWait0.bump.count

theorem Keeps.faultNoWait {e : XErr} {write spillFull : Bool} (h : Keeps s₀ s) :
    Keeps s₀ (s.faultNoWait die inst kind e write unit detail spillFull fid) := h.faultNoWait0.bump.count

theorem Keeps.sampleDraw (h : Keeps s₀ s) : Keeps s₀ (s.sampleDraw k) := h.bump.upd

theorem Keeps.sampleIssue {t : Task} (h : Keeps s₀ s) : Keeps s₀ (s.sampleIssue t w slot) :=
  .ite h.upd (.ite (.upd <| by split; exacts [h.upd.sampleDraw, h.upd.upd]) <| by split; exacts [h.upd.sampleDraw, h.upd.upd])

theorem Keeps.sampleWrite {g : Tag} (h : Keeps s₀ s) : Keeps s₀ (s.sampleWrite outcome g) :=
  .ite h.satF <| by split; exacts [h.useUp.satF, (h.writeV.of ‹_›).bump.addF]

theorem Keeps.sampleOut (h : Keeps s₀ s) : Keeps s₀ (s.sampleOut k seq from_ outcome) := h.upd.foldl fun h => h.sampleWrite

end

/-! ### Energy accounting of the root ports -/
section
variable {s₀ s : State} {n t b p t0 t1 old new k : Nat}

theorem Keeps.setNrg {e : NrgSt} (h : Keeps s₀ s) : Keeps s₀ (s.setNrg n e) := h.upd

theorem Keeps.setBand (h : Keeps s₀ s) : Keeps s₀ (s.setBand t b) := .ite h h.setF.upd

theorem Keeps.bandHeld {on : Bool} (h : Keeps s₀ s) : Keeps s₀ (s.bandHeld on) := h.upd

theorem Keeps.tariff (h : Keeps s₀ s) : Keeps s₀ (s.tariff t) :=
  .ite h.setBand <| by split; exacts [h.setBand, h]

theorem Keeps.nrgOpen {part : Bool} (h : Keeps s₀ s) : Keeps s₀ (s.nrgOpen n t part) := h.setF.setF.setNrg

theorem Keeps.nrgClose {part : Bool} (h : Keeps s₀ s) : Keeps s₀ (s.nrgClose n t part) :=
  .ite h.setF.setF.setF.setF.setF.setF.setF.setF.setF.setF.setF h.setF.setF.setF.setF.setF.setF.setF.setF.setF

theorem Keeps.nrgTurn {part : Bool} (h : Keeps s₀ s) : Keeps s₀ (s.nrgTurn n t part) := .ite h.nrgClose.nrgOpen h

theorem Keeps.nrgAdd (h : Keeps s₀ s) : Keeps s₀ (s.nrgAdd n p t0 t1) := .ite h.setNrg.addF.addF h.setNrg.addF

theorem Keeps.nrgSpan (h : Keeps s₀ s) : Keeps s₀ (s.nrgSpan n p t0 t1 k) := by
  induction k generalizing s t0 with
  | zero => exact h
  | succ k ih =>
    have hs : ∀ {b cut : Nat}, Keeps s₀ (if cut == b then (s.nrgAdd n p t0 cut).nrgTurn n b false else s.nrgAdd n p t0 cut) :=
      .ite h.nrgAdd.nrgTurn h.nrgAdd
    exact .ite (ih hs) hs

theorem Keeps.nrgSince (h : Keeps s₀ s) : Keeps s₀ (s.nrgSince n p) := by
  unfold State.nrgSince
  split
  · exact .ite h.nrgSpan h
  · exact h

theorem Keeps.nrgSample (h : Keeps s₀ s) : Keeps s₀ (s.nrgSample n p) := .ite h (Keeps.ite h.nrgSince h.nrgSince.nrgOpen).setNrg

theorem Keeps.nrgMissed (h : Keeps s₀ s) : Keeps s₀ (s.nrgMissed n) := by
  unfold State.nrgMissed
  split
  · exact .ite h h.nrgSince.setNrg
  · exact h

theorem Keeps.nrgEstimate {on : Bool} (h : Keeps s₀ s) : Keeps s₀ (s.nrgEstimate n on) := (Keeps.ite h.err h).setF

theorem Keeps.nrgBreak (h : Keeps s₀ s) : Keeps s₀ (s.nrgBreak n) := h.setNrg

theorem Keeps.nrgEarly (h : Keeps s₀ s) : Keeps s₀ (s.nrgEarly old new) := h.foldl fun h => .ite h.nrgClose.nrgOpen h

theorem Keeps.nrgJump (h : Keeps s₀ s) : Keeps s₀ (s.nrgJump old) := h.nrgEarly.upd.tariff

theorem Keeps.nrgLoss (h : Keeps s₀ s) : Keeps s₀ s.nrgLoss :=
  (h.foldl fun h => by split; exacts [.ite h.nrgSince h, h]).foldl fun h => (Keeps.ite h.setF.setF.setF.setF h).setNrg

theorem Keeps.nrgGap (h : Keeps s₀ s) : Keeps s₀ s.nrgGap := h.upd

end

/-! ### Submission queues and completion rings -/
section
variable {s₀ s : State} {q v c i status len idx key fn kind ref fuel k n : Nat}

theorem Keeps.setQ {F : Fld} (h : Keeps s₀ s) : Keeps s₀ (s.setQ F q v) := h.setF

theorem Keeps.setWq {w : WqSt} (h : Keeps s₀ s) : Keeps s₀ (s.setWq q w) := h.upd

theorem Keeps.setCq {w : CqSt} (h : Keeps s₀ s) : Keeps s₀ (s.setCq c w) := h.upd

theorem Keeps.cqShow (h : Keeps s₀ s) : Keeps s₀ (s.cqShow c) := h.setQ.setQ

theorem Keeps.cqEvent (h : Keeps s₀ s) : Keeps s₀ (s.cqEvent c) := .ite h.setQ.post h

theorem Keeps.rsyShow (h : Keeps s₀ s) : Keeps s₀ (s.rsyShow i) := .ite h h.setF.setF

theorem Keeps.cplWrite {r : Cpl} (h : Keeps s₀ s) : KeepsOk s₀ (s.cplWrite c r) := by
  unfold State.cplWrite
  extract_lets
  split
  · exact .error
  · exact .ok ((h.writeV.of ‹_›).setQ.setF.both (fun h => h.setCq.setQ) fun h => h.setCq).cqEvent

theorem Keeps.cplHold {r : Cpl} (h : Keeps s₀ s) : Keeps s₀ (s.cplHold c r) := h.setCq

theorem Keeps.cqPark {e : XErr} (h : Keeps s₀ s) : Keeps s₀ (s.cqPark c e) := .ite h h.faultWait.setCq.setQ

theorem Keeps.cqFlushN (h : Keeps s₀ s) : Keeps s₀ (s.cqFlushN c fuel) := by
  induction fuel generalizing s with
  | zero => exact h
  | succ fuel ih =>
    unfold State.cqFlushN
    extract_lets
    split
    · exact h
    · exact .ite h (by split; exacts [ih (h.cplWrite.of ‹_›).setCq, h.cqPark])

theorem Keeps.cqFlush (h : Keeps s₀ s) : Keeps s₀ (s.cqFlush c) := h.cqFlushN.cqShow.rsyShow

theorem Keeps.cpl {r : Cpl} (h : Keeps s₀ s) : Keeps s₀ (s.cpl c r) :=
  (Keeps.ite (Keeps.ite h.setQ h).setQ (.ite (.ite h.cplHold h.setQ.setQ) <| by
    split
    · exact h.cplWrite.of ‹_›
    · exact h.cplHold.cqPark)).cqShow.rsyShow

theorem Keeps.wqShow (h : Keeps s₀ s) : Keeps s₀ (s.wqShow q) := h.setQ.setQ.setQ

theorem Keeps.descDone {d : Desc} {body : List (BitVec 8)} (h : Keeps s₀ s) :
    Keeps s₀ (s.descDone q d status len body) :=
  .ite h.setWq.wqShow.setQ.cqFlush.rsyShow h.setWq.wqShow.cpl.rsyShow

theorem Keeps.setDesc {d : Desc} (h : Keeps s₀ s) : Keeps s₀ (s.setDesc q d) := h.setWq

theorem Keeps.halt (h : Keeps s₀ s) : Keeps s₀ (s.halt q status) := h.setQ.setQ

theorem Keeps.haltOn (h : Keeps s₀ s) : Keeps s₀ (s.haltOn q status) := .ite h.halt h

theorem Keeps.kpbDone {d : Desc} (h : Keeps s₀ s) : Keeps s₀ (s.kpbDone q d status len) := h.descDone.haltOn

theorem Keeps.dbErr (h : Keeps s₀ s) : Keeps s₀ (s.dbErr q) := h.setQ.setQ.count

theorem Keeps.squashWaiting (h : Keeps s₀ s) : Keeps s₀ (s.squashWaiting q idx n) := by
  induction n generalizing s idx with
  | zero => exact h
  | succ n ih => exact ih h.cpl.bump

theorem Keeps.wrrServe {w : Wrr} {k : Nat} (h : Keeps s₀ s) : Keeps s₀ (s.wrrServe key q w k) := h.upd

theorem Keeps.wrrEnd (h : Keeps s₀ s) : Keeps s₀ (s.wrrEnd key) := h.upd

theorem Keeps.refuseLater (h : Keeps s₀ s) : Keeps s₀ (s.refuseLater fn kind ref) := h.upd

end

/-! ### DMA channels -/
section
variable {s₀ s : State} {c i a o w v k id status at_ len units n : Nat}

theorem Keeps.setDma {d : DmaSt} (h : Keeps s₀ s) : Keeps s₀ (s.setDma c d) := h.upd

theorem Keeps.writeBits (h : Keeps s₀ s) : KeepsOk s₀ (s.writeBits i a o w v) := h.writeV

/-- Writes of a list of pieces, up to the first that fails. -/
theorem KeepsOk.foldl_writeV {l : List Nat} {a : Nat → Nat} {bs : Nat → List (BitVec 8)} {e : Except XErr State} (h : KeepsOk s₀ e) :
    KeepsOk s₀ (l.foldl (fun acc b => match acc with
      | .error x => .error x
      | .ok st => st.writeV i (a b) (bs b)) e) :=
  List.foldlRecOn (motive := KeepsOk s₀) l _ h fun acc ha _ _ => by
    cases acc with
    | error => exact .error
    | ok => exact (ha.of rfl).writeV

theorem Keeps.dmaUnit {d : DmaBody} (h : Keeps s₀ s) : KeepsOk s₀ (s.dmaUnit i d k) :=
  .ite (by extract_lets; split; exacts [.error, h.writeV]) <|
  .ite (by extract_lets; split; exacts [.error, h.writeV]) <|
  .ite (by extract_lets; split; exacts [.error, .foldl_writeV (.ok h)]) <| by
    extract_lets
    split
    · exact .error
    · exact h.writeBits

theorem Keeps.dmaMove {d : DmaBody} (h : Keeps s₀ s) : Keeps s₀ (s.dmaMove i d k n).1 := by
  induction n generalizing s k with
  | zero => exact h
  | succ n ih =>
    unfold State.dmaMove
    split
    · exact ih (h.dmaUnit.of ‹_›)
    · exact h

theorem Keeps.setTask {t : Task} (h : Keeps s₀ s) : Keeps s₀ (s.setTask t) := h.upd

theorem Keeps.opEnd (h : Keeps s₀ s) : Keeps s₀ (s.opEnd id status) := by
  unfold State.opEnd
  split
  · exact h
  · exact .ite h.upd <| by split; exacts [h.upd.setTask, h.upd]

theorem Keeps.setOp {o : StreamOp} (h : Keeps s₀ s) : Keeps s₀ (s.setOp o) := h.upd

theorem Keeps.dmaState (h : Keeps s₀ s) : Keeps s₀ (s.dmaState c v) := h.setF

theorem Keeps.pace (h : Keeps s₀ s) : Keeps s₀ (s.pace c) :=
  .ite h <| by split; exacts [.ite h.setF.setF (.ite h.setF.setF h.setF), .ite h h.faultWait.setDma.err]

theorem Keeps.dmaStart {d : DmaCur} (h : Keeps s₀ s) : Keeps s₀ (s.dmaStart c d) := h.setDma.setF.setF.dmaState

theorem Keeps.dmaBoundary (h : Keeps s₀ s) : Keeps s₀ (s.dmaBoundary c) :=
  have h := h.pace
  .ite h.setDma.dmaState <|
  .ite h.dmaState <|
  .ite h.dmaState <|
  .ite h.setF.satF.setF.dmaState <|
  .ite h.dmaState <|
  .ite (by
      split
      · exact h.dmaState
      · split
        · exact h.dmaState
        · exact h.wrrServe.setDesc.dmaStart) <| by
    split
    · exact h.dmaState
    · extract_lets
      split
      · exact h.setDma.dmaState
      · exact h.setDma.dmaStart

theorem Keeps.dmaWake (h : Keeps s₀ s) : Keeps s₀ (s.dmaWake c) := .ite h.dmaBoundary h

theorem Keeps.dmaPark {e : XErr} {wr : Bool} (h : Keeps s₀ s) : Keeps s₀ (s.dmaPark c at_ e wr) :=
  .ite h <|
  have h := h.setF.satF.dmaState.count
  by
    extract_lets
    split
    · exact .ite (by split; exacts [(Keeps.ite h h.setF).faultWait.setDma.setOp, .ite h h.setF]) <|
        (Keeps.ite h h.setF).faultWait.setDma
    · exact (Keeps.ite h h.setF).faultWait.setDma

theorem Keeps.dmaAdvance (h : Keeps s₀ s) : Keeps s₀ (s.dmaAdvance c) := h.addF

theorem Keeps.dmaCount (h : Keeps s₀ s) : Keeps s₀ (s.dmaCount c len) := h.addF.addF.count.count

theorem Keeps.dmaReport {d : DmaCur} (h : Keeps s₀ s) : Keeps s₀ (s.dmaReport c d status len units) :=
  have h₁ := h.setF.dmaCount.when fun h => h.err
  .ite (by
      split
      · exact h.setDma.dmaState.dmaPark
      · exact (Keeps.ite (h₁.writeV.of ‹_›).post (h₁.writeV.of ‹_›)).dmaAdvance.setDma.dmaBoundary) <|
  .ite ((Keeps.ite (.halt <| by split; exacts [h₁.descDone, h₁]) <| by split; exacts [h₁.descDone, h₁]).setDma.dmaBoundary) <|
  h₁.opEnd.setDma.dmaBoundary

theorem Keeps.dmaRun (h : Keeps s₀ s) : Keeps s₀ (s.dmaRun c) := by
  unfold State.dmaRun
  split
  · exact h
  · exact .ite h.dmaReport (.ite h.dmaReport <| by extract_lets; split; exacts [h.dmaMove.setF.dmaReport, h.dmaMove.setF.dmaPark])

theorem Keeps.dmaEndParked (h : Keeps s₀ s) : Keeps s₀ (s.dmaEndParked c status) := by
  unfold State.dmaEndParked
  extract_lets
  split
  · exact .ite (.dmaBoundary <|
        .dmaAdvance <|
        .setDma <| by
          split
          · exact .ite (h.unwait.setDma.setF.dmaCount.writeV.of ‹_›).post (h.unwait.setDma.setF.dmaCount.writeV.of ‹_›)
          · exact h.unwait.setDma.setF.dmaCount) <|
      h.unwait.setDma.dmaReport
  · exact .ite (Keeps.ite h (h.foldl fun h => .ite h h.unwait.setWq.setQ.halt)).dmaBoundary <|
      h.unwait.setDma.setF.dmaCount.dmaAdvance.dmaBoundary

theorem Keeps.dmaFetch (h : Keeps s₀ s) : Keeps s₀ (s.dmaFetch c) := by
  unfold State.dmaFetch
  extract_lets
  split
  · exact .ite h h.setF.dmaPark
  · exact .ite h.setDma.dmaStart h.setDma.dmaState

theorem Keeps.dmaExamine (h : Keeps s₀ s) : Keeps s₀ (s.dmaExamine c) := .ite h.dmaBoundary.dmaFetch h.dmaBoundary

theorem Keeps.paceQueues (h : Keeps s₀ s) : Keeps s₀ s.paceQueues := h.foldl fun h => .ite h.pace.dmaWake h

theorem Keeps.dmaRetry (h : Keeps s₀ s) : Keeps s₀ (s.dmaRetry c) := by
  unfold State.dmaRetry
  extract_lets
  split
  · exact .ite h.setDma.dmaState.dmaReport h.setDma.dmaState
  · exact h.setDma.dmaState.dmaFetch

theorem Keeps.dmaUnpark (h : Keeps s₀ s) : Keeps s₀ (s.dmaUnpark c) := .ite h.dmaBoundary h

end

/-! ### Tasks and their held effects -/
section
variable {s₀ s : State} {k left source unit detail status ecause fid : Nat}

theorem Keeps.tskShow (h : Keeps s₀ s) : Keeps s₀ (s.tskShow k) := h.setF.setF.setF.setF.setF.setF.setF

theorem Keeps.wakeRecord {w : Nat × Nat × Nat × Nat} {duringEntry : Bool} (h : Keeps s₀ s) :
    Keeps s₀ (s.wakeRecord w duringEntry left) :=
  h.setF.setF.setF.setF.setF.setF

theorem Keeps.wakeTie (h : Keeps s₀ s) : Keeps s₀ (s.wakeTie source unit detail) := .ite h.wakeRecord h

theorem Keeps.wakeIdle (h : Keeps s₀ s) : Keeps s₀ (s.wakeIdle source unit detail) :=
  .ite h <| by split; exacts [.ite h.upd h, .ite h.wakeRecord.setF (.ite h.wakeTie h)]

theorem Keeps.taskCreate {t : Task} (h : Keeps s₀ s) : Keeps s₀ (s.taskCreate t).1 := .ite_fst h h.upd.addF.count.tskShow.wakeIdle

theorem Keeps.ownWrite {own : List (Nat × Cpl)} (h : Keeps s₀ s) : Keeps s₀ (s.ownWrite own) := h.foldl fun h => h.cpl

theorem Keeps.taskGone {t : Task} (h : Keeps s₀ s) : Keeps s₀ (s.taskGone t) := h.upd.tskShow

theorem Keeps.cancelOps {t : Task} {now : Bool} (h : Keeps s₀ s) : Keeps s₀ (s.cancelOps t now) :=
  (h.foldl fun h => h.unwait).upd.foldl fun h =>
    .ite h <| by extract_lets; split; exacts [.ite h.setDma.setDma.dmaBoundary h.setDma, h.setDma]

theorem Keeps.taskQDone {t : Task} {result : List (BitVec 8)} (h : Keeps s₀ s) : Keeps s₀ (s.taskQDone t status result) := by
  unfold State.taskQDone
  split
  · exact h.descDone
  · exact h

theorem Keeps.taskAbort {t : Task} {reset : Bool} (h : Keeps s₀ s) : Keeps s₀ (s.taskAbort t status ecause reset) :=
  have h := h.cancelOps.unwait.satF.count.sampleOut.taskGone
  .ite h.taskQDone (.ite h (.ite (by split; exacts [.ite h.setDesc h, h]) h.ownWrite))

theorem Keeps.suspend {t : Task} (h : Keeps s₀ s) : Keeps s₀ (s.suspend t fid) := .ite h.setTask.upd.fqFlush.tskShow h.setTask

theorem Keeps.atEnd {t : Task} (h : Keeps s₀ s) : Keeps s₀ (s.atEnd t) := h.setTask

theorem Keeps.hookFail {t : Task} (h : Keeps s₀ s) : Keeps s₀ (s.hookFail t) := h.satF.err.atEnd

theorem Keeps.callHook {t : Task} (h : Keeps s₀ s) : Keeps s₀ (s.callHook t) := .ite (.ite h.setTask h.hookFail) h.atEnd

theorem Keeps.dispatch {t : Task} (h : Keeps s₀ s) : Keeps s₀ (s.dispatch t) :=
  .ite h.setTask.tskShow (Keeps.ite h.setTask.callHook (.ite h.setTask.setTask h.setTask.taskAbort)).tskShow

theorem Keeps.preemptFor {x : Task} (h : Keeps s₀ s) : KeepsSome s₀ (s.preemptFor x) :=
  .ite .none (.map fun _ => h.setTask.satF.count)

theorem Keeps.deadlines (h : Keeps s₀ s) : Keeps s₀ (s.deadlines k) := h.foldl fun h => .ite h.setTask.satF h

end

/-! ### The tiller -/
section
variable {s₀ s : State} {cause detail k seq w v fn op n va c tag i : Nat}

theorem Keeps.undo {t : Task} (h : Keeps s₀ s) : Keeps s₀ (s.undo t) := by
  unfold State.undo
  split
  · exact h.count.sampleOut
  · exact h

theorem Keeps.except {t : Task} (h : Keeps s₀ s) : Keeps s₀ (s.except t cause detail) :=
  h.undo.count.sampleOut.both (fun h => .ite h.hookFail h.taskAbort) fun h => h.setTask

theorem Keeps.tiller {is : Nat → Bool} {body : State → Task → Nat → Ans} (h : Keeps s₀ s)
    (hk : ∀ {t x w}, Keeps s₀ t → KeepsAns s₀ (body t x w)) : Keeps s₀ (s.tiller k seq is body) := by
  unfold State.tiller
  split
  · exact h
  · extract_lets w s₁ p
    have h₁ : Keeps s₀ s₁ := h.sampleIssue
    refine .ite h (.ite h.except (.ite h₁.except (.ite h₁.except ?_)))
    split
    · exact h₁.except
    · exact h
    · exact (hk h₁).of_gone ‹_›
    · exact ((hk h₁).of_next ‹_›).setTask
    · exact ((hk h₁).of_branch ‹_›).setTask
    · exact ((hk h₁).of_goto ‹_›).setTask

theorem Keeps.result {t : Task} (h : Keeps s₀ s) : KeepsAns s₀ (result s t w v) := .next h

theorem Keeps.alu {f : Nat → Nat → Nat} (h : Keeps s₀ s) : Keeps s₀ (s.alu k seq fn f) := h.tiller fun h => h.result

theorem Keeps.imm {f : Nat → Nat → Nat} (h : Keeps s₀ s) : Keeps s₀ (s.imm k seq op f) := h.tiller fun h => h.result

theorem Keeps.taskFault {t : Task} {e : XErr} {wr : Bool} (h : Keeps s₀ s) : KeepsAns s₀ (s.taskFault t e wr) :=
  .ite .wait (.gone h.faultWait.undo.suspend)

theorem Keeps.hold_ {t : Task} {e : Held} (h : Keeps s₀ s) : KeepsAns s₀ (s.hold_ t e n) := .ite (.gone h.taskAbort) (.next h)

theorem Keeps.holdStore {t : Task} {bytes : List (BitVec 8)} (h : Keeps s₀ s) : KeepsAns s₀ (s.holdStore t va bytes) :=
  .ite .exc <| by split; exacts [h.taskFault, h.bump.hold_]

theorem Keeps.awaitOps {x : Task} {p : StreamOp → Bool} {go : Ans} (h : Keeps s₀ s) (hg : KeepsAns s₀ go) :
    KeepsAns s₀ (s.awaitOps x p go) :=
  .ite hg (by split; exacts [.gone h.undo.suspend, .wait])

theorem Keeps.issue {t : Task} {o : StreamOp} (h : Keeps s₀ s) : KeepsAns s₀ (s.issue t o) := .ite .wait (.next h.upd)

theorem Keeps.issueDma {x : Task} {o : StreamOp} (h : Keeps s₀ s) : KeepsAns s₀ (s.issueDma x c tag o) := by
  unfold State.issueDma
  extract_lets
  refine .ite ?_ (.ite (.next h) (.ite .wait ?_))
  · split
    · exact .next (h.issue.of_next ‹_›).refuseLater
    · exact h.issue
  · split
    · exact .next (h.issue.of_next ‹_›).setDma.dmaWake
    · exact h.issue

theorem Keeps.opMove {o : StreamOp} {x : Task} (h : Keeps s₀ s) : Keeps s₀ (s.opMove o x n).1 := by
  induction n generalizing s o x with
  | zero => exact h
  | succ n ih =>
    refine .ite_fst h (.ite_fst ?_ ?_)
    · split
      · exact h
      · exact ih h
    · extract_lets
      split
      · exact h
      · exact ih (h.writeV.of ‹_›)

theorem Keeps.toCommit {t : Task} {last : Bool} (h : Keeps s₀ s) : KeepsAns s₀ (s.toCommit t last) :=
  h.awaitOps <| .ite .exc <| by
    split
    · exact h.taskFault
    · exact .ite (.gone h.taskAbort) (.gone h.setTask)

theorem Keeps.releaseStore {ps : List (Nat × Option Nat × Nat)} {bs : List (BitVec 8)} (h : Keeps s₀ s) :
    Keeps s₀ (s.releaseStore i ps bs) := by
  induction ps generalizing s bs with
  | nil => exact h
  | cons p ps ih => exact ih (by split; exacts [h.store.dirty, h.store])

theorem Keeps.replay {t : Task} (h : Keeps s₀ s) : Keeps s₀ (s.replay t) :=
  h.cancelOps.unwait.satF.count.count.sampleOut.setTask.tskShow

end

/-! ### The tiller's instructions -/
section
variable {s₀ s : State} {sheaf seq op kind tag n : Nat}

theorem Keeps.execLdx (h : Keeps s₀ s) : KeepsNext s₀ (execLdx sheaf seq s) :=
  .next <| h.tiller fun h => .ite .exc (.ite .exc (.ite .exc <| by split; exacts [h.taskFault, h.bump.result]))

theorem Keeps.condBranch {p : Nat → Nat → Bool} (h : Keeps s₀ s) : Keeps s₀ (s.condBranch sheaf seq op p) :=
  h.tiller fun h => .ite (.branch h) (.branch h)

theorem Keeps.execMts (h : Keeps s₀ s) : KeepsNext s₀ (execMts sheaf seq s) :=
  .next (h.tiller fun h => .ite (.next h) (.ite (.next h) (.ite (.next h) (.ite (.next h) (.ite (.next h) .exc)))))

theorem Keeps.getPut (h : Keeps s₀ s) : Keeps s₀ (s.getPut sheaf seq op kind) := h.tiller fun h => .ite .exc h.bump.issue

theorem Keeps.execSwait (h : Keeps s₀ s) : KeepsNext s₀ (execSwait sheaf seq s) :=
  .next (h.tiller fun h => h.awaitOps (.next h))

theorem Keeps.execStreamOpEnd (h : Keeps s₀ s) : KeepsNext s₀ (execStreamOpEnd sheaf seq tag s) := by
  unfold Machine.execStreamOpEnd
  split
  · exact .next h
  · rename_i t _
    split
    · exact .next h
    · rename_i o _
      have h := h.opMove (o := o) (x := t) (n := cdiv o.len 64 + 1)
      generalize s.opMove o t (cdiv o.len 64 + 1) = r at h ⊢
      obtain ⟨s', t', o', e⟩ := r
      cases e with
      | none => exact .next h.setTask.setOp.count.opEnd.bump
      | some x => exact .ite (.next h.setTask.setOp.count) (.next h.setTask.setOp.count.faultWait.setOp)

end

/-! ### Commands and events of the sheaves -/
section
variable {s₀ s : State} {k sheaf inst slot len : Nat}

theorem Keeps.dispatchOne (h : Keeps s₀ s) : Keeps s₀ (s.dispatchOne k) :=
  .ite (by split; exacts [h, h.dispatch, h.wrrServe.dispatch]) (by split; exacts [(h.preemptFor.getD h).dispatch, h])

theorem Keeps.unstall (h : Keeps s₀ s) : Keeps s₀ (s.unstall k) := by
  unfold State.unstall
  split
  · exact h.suspend
  · exact h

theorem Keeps.shfLoad (h : Keeps s₀ s) : Keeps s₀ (s.shfLoad sheaf inst slot len) := .ite h.errOn (.ite h h.upd.setF)

theorem Keeps.execProgramLoadDone (h : Keeps s₀ s) : KeepsNext s₀ (execProgramLoadDone sheaf s) :=
  .next <| by
    split
    · exact h
    · exact .ite h.upd.setF.setF <|
        .ite h.upd.setF.setF <| by split; exacts [.ite h h.upd.setF.useUp.upd.setF.setF, h.upd.setF.upd.setF.setF]

end

/-! ### Commands and events of the DMA channels -/
section
variable {s₀ s : State} {c fn v : Nat}

theorem Keeps.dmaSquashWaiting (h : Keeps s₀ s) : Keeps s₀ (s.dmaSquashWaiting c) := h.setDma.foldl fun h => h.opEnd

theorem Keeps.dmaOn (h : Keeps s₀ s) : Keeps s₀ (s.dmaOn c) := h.setF.setF.setDma.when fun h => h.dmaState.dmaBoundary

theorem Keeps.dmaOff (h : Keeps s₀ s) : Keeps s₀ (s.dmaOff c) :=
  h.setF.dmaSquashWaiting.both (fun h => h.dmaEndParked) fun h => .ite h.setDma h.dmaBoundary

theorem Keeps.dmaCtlWrite (h : Keeps s₀ s) : Keeps s₀ (s.dmaCtlWrite fn c v) :=
  .ite (h.writePage.both (fun h => h.dmaOn) fun h => .ite h.dmaOff h) h.errOn

theorem Keeps.dmaKick (h : Keeps s₀ s) : Keeps s₀ (s.dmaKick c) := .ite h.setDma.dmaExamine (.ite h.setDma.dmaBoundary h.setDma)

theorem Keeps.dmaStop (h : Keeps s₀ s) : Keeps s₀ (s.dmaStop c) := .ite h.setF.dmaBoundary h.setF

theorem Keeps.dmaGo (h : Keeps s₀ s) : Keeps s₀ (s.dmaGo c) := .ite h.setF.dmaBoundary h.setF

theorem Keeps.dmaDiscard (h : Keeps s₀ s) : Keeps s₀ (s.dmaDiscard c) := .ite h.dmaEndParked h

end

/-! ### Commands and events of the interrupt controller -/
section
variable {s₀ s : State} {t k fn target size source kind unit page word value part : Nat}

theorem Keeps.claim (h : Keeps s₀ s) : Keeps s₀ (s.claim t k) := (Keeps.ite h.setSrc h.setSrc.upd).irqEval

theorem Keeps.execIrqClaim (h : Keeps s₀ s) : KeepsNext s₀ (execIrqClaim fn target size s) :=
  .next (.ite h.upd (.ite h.refuse.refuseLater.upd (.ite h.upd (.ite h.upd <| by split; exacts [h.upd, h.claim.upd]))))

theorem Keeps.irqComplete (h : Keeps s₀ s) : Keeps s₀ (s.irqComplete fn target source) := .ite h.setSrc.relevel.irqDone h.setF

theorem Keeps.execSourceSignal (h : Keeps s₀ s) : KeepsNext s₀ (execSourceSignal kind unit s) :=
  .next <|
  .ite (by split; exacts [h.levelInput.irqDone, h]) (.ite (by extract_lets; split; exacts [h.upd.pulseSrc.irqDone, h.upd]) h)

theorem Keeps.pendWrite (h : Keeps s₀ s) : Keeps s₀ (s.pendWrite fn page word value) :=
  ((Keeps.ite h.refuse h).each fun h => .ite h (.ite h.setSrc (.ite (.ite h.setSrc.relevel.glnKind h.setSrc.relevel) h))).irqEval

theorem Keeps.enWrite (h : Keeps s₀ s) : Keeps s₀ (s.enWrite fn page word value) := by
  unfold State.enWrite
  extract_lets k0 s₁ mine s₂ r
  have h₂ : Keeps s₀ s₂ := (Keeps.ite h.refuse h).each fun h => .ite h.setSrc h
  have hr : Keeps s₀ r.1 := .foldl_fst h₂ fun h => .ite_fst h (.ite_fst h.setSrc h)
  exact (Keeps.ite hr.refuse hr).irqEval

theorem Keeps.srcCfgWrite (h : Keeps s₀ s) : Keeps s₀ (s.srcCfgWrite fn k part value) :=
  .ite (.ite h h.refuse) <|
  (Keeps.ite h.refuse h).both (fun h => h.errOn) fun h => .ite h.err (Keeps.ite_fst h.setSrc.levelSrc h.setSrc).irqDone

end

/-! ### Commands and events of counters, gatherer, sampler and Gleaner -/
section
variable {s₀ s : State} {fn code arg : Nat}

theorem Keeps.gather (h : Keeps s₀ s) : Keeps s₀ s.gather :=
  .ite h.upd.satF <| by split; exacts [.ite h h.upd.useUp.setF, (h.upd.writeV.of ‹_›).upd.setF]

theorem Keeps.glnSoft (h : Keeps s₀ s) : Keeps s₀ (s.glnSoft fn code arg) := .ite h.refuse (.ite h h.glnTrigger)

theorem Keeps.glnWrite (h : Keeps s₀ s) : Keeps s₀ s.glnWrite := by
  unfold State.glnWrite
  split
  · exact h
  · exact h.store.setF.both (fun h => (Keeps.ite h.upd.post h.upd).post) fun h => .ite h.upd.post h.upd

end

/-! ### Shared accessors of root ports -/
section
variable {s₀ s : State} {n dir blocks till at_ cut ty addr sel flags op arg nonce ep kind seq credit maxlen frame next k code v :
  Nat}

theorem Keeps.setLink {l : Link} (h : Keeps s₀ s) : Keeps s₀ (s.setLink n l) := h.upd

theorem Keeps.setSq {q : SeqSt} (h : Keeps s₀ s) : Keeps s₀ (s.setSq n q) := h.upd

theorem Keeps.setTree {t : Tree} (h : Keeps s₀ s) : Keeps s₀ (s.setTree n t) := h.upd

theorem Keeps.ran (h : Keeps s₀ s) : Keeps s₀ (s.ran n dir blocks till) := .ite h h.setLink

theorem Keeps.wire {hdr data : List (BitVec 8)} {crc : Nat} (h : Keeps s₀ s) :
    Keeps s₀ (s.wire n at_ hdr data crc) := (Keeps.ite h.setLink.ran h.setLink.ran.count).emit

theorem Keeps.wireCut (h : Keeps s₀ s) : Keeps s₀ (s.wireCut n) := .ite h.emit h

theorem Keeps.wireAgain (h : Keeps s₀ s) : Keeps s₀ (s.wireAgain n cut) := by
  unfold State.wireAgain
  split
  · exact h
  · exact h.setLink.emit

theorem Keeps.send {body : List (BitVec 8)} {data : List (BitVec 8)} (h : Keeps s₀ s) :
    Keeps s₀ (s.send n ty addr sel flags body data) := h.wire

theorem Keeps.sendLnk (h : Keeps s₀ s) : Keeps s₀ (s.sendLnk n op arg nonce) := h.send

theorem Keeps.sendTok {dirIn : Bool} (h : Keeps s₀ s) : Keeps s₀ (s.sendTok n ty addr ep dirIn kind seq credit maxlen) := h.send

theorem Keeps.sendDat {data : List (BitVec 8)} {dirIn : Bool} (h : Keeps s₀ s) :
    Keeps s₀ (s.sendDat n addr ep flags seq frame data dirIn) := h.send

theorem Keeps.sendAck {dirIn : Bool} (h : Keeps s₀ s) : Keeps s₀ (s.sendAck n addr ep dirIn seq) := h.send

theorem Keeps.sendBur {dirIn : Bool} (h : Keeps s₀ s) : Keeps s₀ (s.sendBur n addr ep dirIn next credit) := h.send

theorem Keeps.markersOn (h : Keeps s₀ s) : Keeps s₀ (s.markersOn n k code arg) := h.each fun h => h.emit

theorem Keeps.markers (h : Keeps s₀ s) : Keeps s₀ (s.markers n code arg) := h.markersOn

theorem Keeps.markersAll (h : Keeps s₀ s) : Keeps s₀ (s.markersAll n code arg) := h.markersOn

theorem Keeps.setBseq {dirIn : Bool} (h : Keeps s₀ s) : Keeps s₀ (s.setBseq n addr ep dirIn v) := h.setTree

theorem Keeps.restartSeqs {p : Nat → Bool} (h : Keeps s₀ s) : Keeps s₀ (s.restartSeqs n p) := h.setTree

theorem Keeps.mapStep {p : Step → Bool} {f : Step → Step} (h : Keeps s₀ s) : Keeps s₀ (s.mapStep n p f) := h.setSq

theorem Keeps.dropStep {t : Step} (h : Keeps s₀ s) : Keeps s₀ (s.dropStep n t) := h.setSq

theorem Keeps.chargeBad (h : Keeps s₀ s) : Keeps s₀ (s.chargeBad n) := by
  unfold State.chargeBad
  split
  · exact h.mapStep
  · exact h

theorem Keeps.receive {p : Pkt} (h : Keeps s₀ s) : Keeps s₀ (s.receive n p).1 :=
  .ite_fst h.satF.chargeBad (.ite_fst h.satF (.ite_fst h.satF.err.chargeBad h.setLink.ran.count))

end

/-! ### The load of a periodic table -/
section
variable {s₀ s : State} {n a : Nat}

theorem Keeps.setEnt {e : TreeEnt} (h : Keeps s₀ s) : Keeps s₀ (s.setEnt n a e) := h.setTree

theorem Keeps.overload (h : Keeps s₀ s) : Keeps s₀ (s.overload n) := (Keeps.ite h.err h).setF

end

/-! ### KPB trees and the enumeration engine -/
section
variable {s₀ s : State} {n a k p stat chg step status st cfg d : Nat}

theorem Keeps.treeShow (h : Keeps s₀ s) : Keeps s₀ (s.treeShow n) := h.setF.setF.setF

theorem Keeps.tableFlush {l : List Nat} (h : Keeps s₀ s) : Keeps s₀ (s.tableFlush n l) := by
  induction l generalizing s with
  | nil => exact h.setTree
  | cons a l ih =>
    unfold State.tableFlush
    extract_lets
    split
    · exact ih (h.writeV.of ‹_›).setEnt.setF.post
    · exact .ite h.setTree h.setTree.faultWait.setTree.setF

theorem Keeps.tableWrite {as : List Nat} (h : Keeps s₀ s) : Keeps s₀ (s.tableWrite n as) :=
  h.treeShow.overload.unless fun h => .ite h.setTree h.tableFlush

theorem Keeps.goneTransfers (h : Keeps s₀ s) : Keeps s₀ (s.goneTransfers n a) :=
  h.setSq.foldl fun h => h.foldl fun h => h.unwait.kpbDone

theorem Keeps.detach {p : TPort} {flags : Nat} (h : Keeps s₀ s) : Keeps s₀ (s.detach n p flags) :=
  (((Keeps.ite h.setTree.setF h.setTree).foldl fun h => h.goneTransfers).foldl fun h => h.setEnt).both (fun h =>
    h.restartSeqs.tableWrite.setSq.setTree) fun h => h.restartSeqs.tableWrite

theorem Keeps.portReady {p : TPort} (h : Keeps s₀ s) : Keeps s₀ (s.portReady n p) := .ite h h.setTree

theorem Keeps.hubKeep (h : Keeps s₀ s) : Keeps s₀ (s.hubKeep n k p stat chg) := by
  unfold State.hubKeep
  extract_lets
  split
  · exact h
  · exact h.setTree

theorem Keeps.hubReport (h : Keeps s₀ s) : Keeps s₀ (s.hubReport n k p stat chg) := by
  unfold State.hubReport
  extract_lets
  split
  · exact h
  · exact (Keeps.ite h.hubKeep.setTree.detach h.hubKeep.setTree).when fun h => h.portReady

theorem Keeps.setEnum {e : Option Enum} (h : Keeps s₀ s) : Keeps s₀ (s.setEnum n e) := h.setTree.setF

theorem Keeps.resetPort (h : Keeps s₀ s) : Keeps s₀ (s.resetPort n) := h.markersAll.setLink

theorem Keeps.enumStart {e : Enum} (h : Keeps s₀ s) : Keeps s₀ (s.enumStart n e) := .ite h.setEnum.resetPort h.setEnum

theorem Keeps.enumFailed {e : Enum} (h : Keeps s₀ s) : Keeps s₀ (s.enumFailed n e step status) := h.setEnt.setF.setEnum.tableWrite

theorem Keeps.enumEntry {e : Enum} (h : Keeps s₀ s) : Keeps s₀ (s.enumEntry n e st cfg) :=
  h.setEnt.restartSeqs.setTree.addF.setEnum.tableWrite

theorem Keeps.enumStop {e : Enum} {cfg : Nat} (h : Keeps s₀ s) : Keeps s₀ (s.enumStop n e cfg) :=
  .ite h.enumEntry h.setEnum.setTree

theorem Keeps.enumAgain {e : Enum} (h : Keeps s₀ s) : Keeps s₀ (s.enumAgain n e) :=
  .ite h.enumStop (.ite h.enumStart (.ite h.setEnum h.enumFailed))

theorem Keeps.enumClear {e : Enum} (h : Keeps s₀ s) : Keeps s₀ (s.enumClear n e) := by
  unfold State.enumClear
  split
  · exact h.enumAgain
  · exact h.setEnum

theorem Keeps.enumFail {e : Enum} (h : Keeps s₀ s) : Keeps s₀ (s.enumFail n e status) := .ite h.enumStop h.enumClear

theorem Keeps.enumWait {e : Enum} (h : Keeps s₀ s) : Keeps s₀ (s.enumWait n e d) := h.setEnum

theorem Keeps.enumConfig {e : Enum} (h : Keeps s₀ s) : Keeps s₀ (s.enumConfig n e) := .ite h.setEnum h.enumEntry

theorem Keeps.enumHub {e : Enum} (h : Keeps s₀ s) : Keeps s₀ (s.enumHub n e) := .ite h.setEnum h.enumConfig

theorem Keeps.enumPorts {e : Enum} (h : Keeps s₀ s) : Keeps s₀ (s.enumPorts n e) := .ite h.setEnum (.ite h.enumStop h.enumConfig)

theorem Keeps.enumRoute {e : Enum} (h : Keeps s₀ s) : Keeps s₀ (s.enumRoute n e) := by
  unfold State.enumRoute
  split
  · exact h.setEnum
  · exact h.setEnum

theorem Keeps.enumHold {e : Enum} (h : Keeps s₀ s) : Keeps s₀ (s.enumHold n e step status) := .ite h.enumFailed h.setEnum

theorem Keeps.enumStarved {e : Enum} (h : Keeps s₀ s) : Keeps s₀ (s.enumStarved n e) :=
  h.setTree.treeShow.both (fun h => h.enumHold) fun h => h.enumFailed

theorem Keeps.enumDevice {e : Enum} (h : Keeps s₀ s) : Keeps s₀ (s.enumDevice n e) :=
  .ite h.setTree.treeShow.enumHold <| by split; exacts [h.enumStarved, h.enumRoute]

theorem Keeps.unstarve (h : Keeps s₀ s) : Keeps s₀ (s.unstarve n) := .ite h h.setTree.treeShow

theorem Keeps.enumEnabled {e : Enum} (h : Keeps s₀ s) : Keeps s₀ (s.enumEnabled n e) := h.enumWait

theorem Keeps.enumWaited {e : Enum} (h : Keeps s₀ s) : Keeps s₀ (s.enumWaited n e) := .ite h.setEnum (.ite h.setEnum h.enumPorts)

theorem Keeps.enumDone {data : List (BitVec 8)} (h : Keeps s₀ s) : Keeps s₀ (s.enumDone n status data) := by
  unfold State.enumDone
  split
  · exact h
  · exact .ite (.ite h.enumFailed h.enumClear) <|
      .ite h.enumFail <|
      .ite (.ite h.setEnum (.ite h.hubKeep.setEnum (.ite (.ite h.hubKeep.enumStop h.hubKeep.enumEnabled) h.hubKeep.enumFail))) <|
      .ite (.ite (.ite h.enumStop h.enumDevice) h.enumFail) <|
      .ite (.ite h.enumRoute (.ite h.enumStop h.enumWait)) <|
      .ite (.ite (.ite h.setEnum h.enumFail) (.ite h.enumStop h.enumHub)) <|
      .ite (.ite h.enumPorts (.ite h.setEnum (.ite h.enumWait h.enumPorts))) (.ite h.enumStop h.enumEntry)

theorem Keeps.enumTurn (h : Keeps s₀ s) : Keeps s₀ (s.enumTurn n) :=
  .ite h <| by split; exacts [h, .ite h.setTree.enumStart h.setTree.enumStarved]

theorem Keeps.rootUp (h : Keeps s₀ s) : Keeps s₀ (s.rootUp n) := by
  unfold State.rootUp
  split
  · exact .ite (.ite h.enumStop h.enumEnabled) h
  · exact h.portReady

end

/-! ### Frame sequencers -/
section
variable {s₀ s : State} {n p i e status no mno x a at_ u offset k w : Nat}

theorem Keeps.setTable {t : PerTable} (h : Keeps s₀ s) : Keeps s₀ (s.setTable n t) := h.setSq

theorem Keeps.latchSeq (h : Keeps s₀ s) : Keeps s₀ (s.latchSeq n) := h.setSq

theorem Keeps.lookedTo {x : Int} (h : Keeps s₀ s) : Keeps s₀ (s.lookedTo n x) := h.setSq

theorem Keeps.noticeSeq (h : Keeps s₀ s) : Keeps s₀ (s.noticeSeq n) := by
  unfold State.noticeSeq
  extract_lets
  split
  · exact h.setSq
  · exact h.setSq.lookedTo

theorem Keeps.noticeSeqs (h : Keeps s₀ s) : Keeps s₀ (s.noticeSeqs p) := h.foldl fun h => h.noticeSeq

theorem Keeps.jumpSeqs {new : Int} (h : Keeps s₀ s) : Keeps s₀ (s.jumpSeqs p new) := h.foldl fun h => h.setSq.lookedTo

theorem Keeps.jump {old new : Int} (h : Keeps s₀ s) : Keeps s₀ (s.jump p old new) := h.jumpUnits.jumpSeqs

theorem Keeps.svcEmpty {f : Frame} {collapsed : Bool} (h : Keeps s₀ s) : Keeps s₀ (s.svcEmpty i e status f collapsed) := h.cpl

theorem Keeps.svcLate {f : Frame} {collapsed : Bool} (h : Keeps s₀ s) : Keeps s₀ (s.svcLate n i f collapsed) :=
  h.svcEmpty.satF.err.count

theorem Keeps.lateRest (h : Keeps s₀ s) : Keeps s₀ (s.lateRest n) := by
  unfold State.lateRest
  extract_lets
  split
  · exact h
  · exact h.setSq.foldl fun h => h.svcLate

theorem Keeps.collapse (h : Keeps s₀ s) : Keeps s₀ (s.collapse n) := by
  unfold State.collapse
  extract_lets
  split
  · exact h
  · exact (h.setSq.foldl fun h => h.svcLate).satF

theorem Keeps.dueEntry {f : Frame} {p : State × List Nat} (h : Keeps s₀ p.1) : Keeps s₀ (State.dueEntry n no mno f p i).1 :=
  .ite_fst h (.ite_fst h.setTable (.ite_fst h.setTable.svcEmpty h))

theorem Keeps.dueList {f : Frame} (h : Keeps s₀ s) : Keeps s₀ (s.dueList n no mno f).1 := h.foldl_fst fun h => h.dueEntry

theorem Keeps.shiftBy (h : Keeps s₀ s) : Keeps s₀ (s.shiftBy n x) := h.setF

theorem Keeps.shiftFor (h : Keeps s₀ s) : Keeps s₀ (s.shiftFor n a) := h.shiftBy.bump

theorem Keeps.boundaryFirst (h : Keeps s₀ s) : Keeps s₀ (s.boundaryFirst n at_).1 :=
  ((h.lateRest.collapse.both (fun h => (Keeps.ite h.satF h).shiftBy) fun h => .ite h.satF h).foldl fun h => h.shiftFor).mapStep

theorem Keeps.boundaryRest {filler time rev cut : Bool} {pos : Option Int} (h : Keeps s₀ s) :
    Keeps s₀ (s.boundaryRest n filler time rev cut pos at_) :=
  (Keeps.ite h.latchSeq.setF.setF.satF h.latchSeq.setF.setF).dueList.setSq.setF.taskCreate

theorem Keeps.sendTrg (h : Keeps s₀ s) : Keeps s₀ (s.sendTrg n u no offset) := h.send

theorem Keeps.trgUnit {p : State × Nat} (h : Keeps s₀ p.1) : Keeps s₀ (State.trgUnit n no p u).1 :=
  .ite_fst h (.ite_fst (h.each fun h => h.sendTrg.setF.setPcu) (h.each fun h => h.sendTrg.setF.setPcu).sendTrg.setF.setPcu)

theorem Keeps.trgTurn {units : List Nat} (h : Keeps s₀ s) : Keeps s₀ (s.trgTurn n no k units) := h.foldl_fst fun h => h.trgUnit

theorem Keeps.trim {f : Frame} {l : List Nat} (h : Keeps s₀ s) : Keeps s₀ (s.trim n w f l).1 := by
  induction l generalizing s with
  | nil => exact h
  | cons i l ih => exact .ite_fst (ih h.svcLate.satF) h

theorem Keeps.frmLeave (h : Keeps s₀ s) : Keeps s₀ (s.frmLeave n) := by
  unfold State.frmLeave
  split
  · exact h
  · exact
      have h := Keeps.ite h.setSq.setLink.send.count.setF.setF.setF.setF.satF h.setSq.setLink.send.count.setF.setF.setF.setF
      .ite ((Keeps.ite h.trgTurn.shiftBy h.trgTurn).foldl fun h => h.svcLate).err <|
      .setSq <| by split; exacts [(Keeps.ite h.trgTurn.shiftBy h.trgTurn).trim, .ite h.trgTurn.shiftBy h.trgTurn]

theorem Keeps.abandonFrame (h : Keeps s₀ s) : Keeps s₀ (s.abandonFrame n) := h.upd.foldl fun h => h.errOn

theorem Keeps.dropCand (h : Keeps s₀ s) : Keeps s₀ (s.dropCand n) := h.setSq.setF

theorem Keeps.svcCut (h : Keeps s₀ s) : Keeps s₀ (s.svcCut n) := by
  unfold State.svcCut
  split
  · exact h
  · exact h.setSq

theorem Keeps.seqStop (h : Keeps s₀ s) : Keeps s₀ (s.seqStop n) :=
  .setF (.setF (.setF (.setSq (.svcCut <| by split; exacts [h.lateRest.foldl fun h => h.svcLate, h.lateRest]))))

theorem Keeps.seqStart (h : Keeps s₀ s) : Keeps s₀ (s.seqStart n) := h.latchSeq.setSq.setF

theorem Keeps.seqUpdate (h : Keeps s₀ s) : Keeps s₀ (s.seqUpdate n) := .ite (.ite h h.seqStart) (Keeps.ite h.seqStop h).latchSeq

end

/-! ### Encoder edges, pins and the discipline of device time -/
section
variable {s₀ s : State} {p at_ first ch ref te n a ep left v u t pin new : Nat}

theorem Keeps.moveUnits (h : Keeps s₀ s) : Keeps s₀ (s.moveUnits p) := (h.foldl fun h => h.noticeUnit).noticeSeqs

theorem Keeps.noticeMotion (h : Keeps s₀ s) : Keeps s₀ (s.noticeMotion p) := h.noticeUnits.noticeSeqs

theorem Keeps.track {old new : Int} (h : Keeps s₀ s) : Keeps s₀ (s.track p old new at_) := h.setPref.setF.setF

theorem Keeps.prefFlag {F E : Fld} (h : Keeps s₀ s) : Keeps s₀ (s.prefFlag p F E) := .ite h h.setF.err

theorem Keeps.stuckRun {b : Bool} (h : Keeps s₀ s) : Keeps s₀ (s.stuckRun p b) :=
  .ite h.setPref.setF.prefFlag.unreliable h.setPref.setF

theorem Keeps.indexRun (h : Keeps s₀ s) : Keeps s₀ (s.indexRun p) := .ite h.setPref.prefFlag.unreliable h.setPref

theorem Keeps.illegalEdge {a b chB : Bool} {undo : EdgeUndo} (h : Keeps s₀ s) :
    Keeps s₀ (s.illegalEdge p a b chB at_ first undo) :=
  h.setPref.setF.setF.stuckRun.setF.unreliable.settleUnits

theorem Keeps.encoderEdge (h : Keeps s₀ s) : Keeps s₀ (s.encoderEdge p ch) :=
  h.noticeMotion.both (fun h => h.stuckRun.illegalEdge) fun h => .ite h.illegalEdge h.setPref.track.stuckRun.indexRun.moveUnits

theorem Keeps.jumpTo {x : Int} (h : Keeps s₀ s) : Keeps s₀ (s.jumpTo p x) :=
  (h.noticeMotion.both (fun h => h.place.setPref) fun h => .ite h.place.setPref h.place).jump

theorem Keeps.indexSet (h : Keeps s₀ s) : Keeps s₀ (s.indexSet p) := .ite h.reliable.place h.reliable.jumpTo

theorem Keeps.execIndexEdge {level : Bool} (h : Keeps s₀ s) : KeepsNext s₀ (execIndexEdge ref level s) :=
  .next <|
  .ite h <|
  .ite h.setPref <|
  (h.setPref.setF.addF.both (fun h => h.setF.indexSet) fun h => .ite h.setF.indexSet.setF.setPref (.ite h.setF.unreliable h.setF)).setPref

theorem Keeps.freeze (h : Keeps s₀ s) : Keeps s₀ (s.freeze p) := h.setPref

theorem Keeps.dateSample {raw : Int} {fault : Bool} (h : Keeps s₀ s) : Keeps s₀ (s.dateSample p raw te fault) :=
  have h := h.noticeMotion
  .ite (Keeps.ite h.unreliable h).setF.setPref.setPref.jump <| by
    split
    · exact (Keeps.ite h.unreliable h).setPref.setPref
    · exact (Keeps.ite h.unreliable h).setPref.setF.setPref.moveUnits

theorem Keeps.takeSample {data : List (BitVec 8)} (h : Keeps s₀ s) : Keeps s₀ (s.takeSample n a ep left data) :=
  .ite h (h.foldl fun h => h.dateSample)

theorem Keeps.frameSamples (h : Keeps s₀ s) : Keeps s₀ (s.frameSamples n) := h.foldl fun h => h.setPref

theorem Keeps.prefSet (h : Keeps s₀ s) : Keeps s₀ (s.prefSet p v) := h.reliable.jumpTo

theorem Keeps.hostVel (h : Keeps s₀ s) : Keeps s₀ (s.hostVel p v) := h.setPref

theorem Keeps.pcuArm {disarm arm : Bool} (h : Keeps s₀ s) : Keeps s₀ (s.pcuArm u disarm arm) :=
  (Keeps.ite h.disarm h).when fun h => h.arm

theorem Keeps.endPulse (h : Keeps s₀ s) : Keeps s₀ (s.endPulse t) := by
  unfold State.endPulse
  split
  · exact .ite h.pulseOver.drivePin h
  · exact h

theorem Keeps.execPinAction (h : Keeps s₀ s) : KeepsNext s₀ (execPinAction pin s) :=
  .next <| by
    extract_lets
    split
    · exact h
    · exact .drivePin <|
        .foldl (.foldl (.foldl (.upd <| by split; exacts [.ite h.pulseOver h, h]) fun h =>
              h.count) fun h =>
            h.pinAct) fun h =>
          h.pinAct

theorem Keeps.ppsPulse (h : Keeps s₀ s) : Keeps s₀ s.ppsPulse := .ite h.upd h.upd.emit

theorem Keeps.timeJump (h : Keeps s₀ s) : Keeps s₀ (s.timeJump new) := by
  unfold State.timeJump
  exact ((((h.foldl fun h => h.noticeUnits).foldl fun h => h.noticeUnit).upd.foldl fun h => h.jump).jumpTimeUnits.when fun h =>
        h.ppsPulse).upd.setF.err.nrgJump

theorem Keeps.timeCmd {set step : Bool} (h : Keeps s₀ s) : Keeps s₀ (s.timeCmd set step) := .ite h (.ite h.err h.timeJump.addF)

theorem Keeps.holdover (h : Keeps s₀ s) : Keeps s₀ s.holdover := (Keeps.ite h.upd h.upd.setF.err).setF

theorem Keeps.ppsServo (h : Keeps s₀ s) : Keeps s₀ s.ppsServo :=
  ((Keeps.ite h.setF.upd.bump h.setF).when fun h => h.upd.setF).unless fun h =>
    .ite h.upd.timeJump.addF (.ite h.upd.setF (.ite h.upd.setF h.upd))

end

/-! ### What root ports send in the turns of a frame -/
section
variable {s₀ s : State} {q status n a kind tries i len k stage next fuel : Nat}

theorem Keeps.bulkInDone {d : Desc} (h : Keeps s₀ s) : Keeps s₀ (s.bulkInDone q d status) := by
  unfold State.bulkInDone
  extract_lets
  split
  · exact h.kpbDone
  · exact .ite h.kpbDone h.taskCreate.bump.setWq.wqShow.haltOn

theorem Keeps.snoop {setup : List (BitVec 8)} (h : Keeps s₀ s) : Keeps s₀ (s.snoop n a setup) :=
  .ite h (.ite (.ite h.restartSeqs.setEnt.tableWrite h.restartSeqs) (.ite h.restartSeqs h))

theorem Keeps.descFault {d : Desc} {e : XErr} {wr : Bool} (h : Keeps s₀ s) : Keeps s₀ (s.descFault n q d kind e wr) :=
  .ite h h.faultWait.setDesc

theorem Keeps.addStep {t : Step} (h : Keeps s₀ s) : Keeps s₀ (s.addStep n t) := h.setSq

theorem Keeps.bulkIn {d : Desc} {bad : Bool} (h : Keeps s₀ s) : KeepsSome s₀ (s.bulkIn n q d tries bad) :=
  .ite .none (.some h.setDesc.sendTok.addStep)

theorem Keeps.bulkOut {d : Desc} {bad : Bool} (h : Keeps s₀ s) : KeepsSome s₀ (s.bulkOut n q d tries bad) :=
  .ite .none <| by extract_lets; split; exacts [.some h.descFault, .some (h.setDesc.sendTok.foldl fun h => h.wire).addStep]

theorem Keeps.bulkGo {d : Desc} {bad : Bool} (h : Keeps s₀ s) : KeepsSome s₀ (s.bulkGo n q d tries bad) := .ite h.bulkIn h.bulkOut

theorem Keeps.putOff {t : Step} (h : Keeps s₀ s) : Keeps s₀ (s.putOff n t) := h.setSq

theorem Keeps.stageSend {t : Step} (h : Keeps s₀ s) : Keeps s₀ (s.stageSend n t) :=
  (Keeps.ite h.sendTok.sendDat (.ite h.sendTok h.sendTok.sendDat)).addStep

theorem Keeps.ctrlGo {d : Desc} (h : Keeps s₀ s) : Keeps s₀ (s.ctrlGo n q d) :=
  .ite h.setDesc.stageSend <| by split; exacts [h.descFault, h.bump.setDesc.stageSend]

theorem Keeps.pollSend {t : Step} (h : Keeps s₀ s) : Keeps s₀ (s.pollSend n t) := h.setTree.sendTok.addStep

theorem Keeps.clearNext (h : Keeps s₀ s) : Keeps s₀ (s.clearNext n) := by
  unfold State.clearNext
  extract_lets
  split
  · exact .ite h.setTree h.setTree
  · exact h

theorem Keeps.ownSend {t : Step} (h : Keeps s₀ s) : Keeps s₀ (s.ownSend n t) := .ite h.pollSend h.stageSend

theorem Keeps.setSvcTable {t : PerTable} (h : Keeps s₀ s) : Keeps s₀ (s.setSvcTable n t) := by
  unfold State.setSvcTable
  split
  · exact .ite h.setSq h.setTable
  · exact h.setTable

theorem Keeps.ringStuck {t : State} {b : Bool} (h : Keeps s₀ s) (e : s.ringStuck n i = .ok (t, b)) : Keeps s₀ t := by
  unfold State.ringStuck at e
  extract_lets at e
  obtain ⟨_, e⟩ | ⟨_, e⟩ := ite_eq_iff.1 e
  · exact (Prod.mk.inj (Except.ok.inj e)).1 ▸ h
  · split at e
    · injection e
    · exact (Prod.mk.inj (Except.ok.inj e)).1 ▸ h.setSvcTable

theorem Keeps.svcEnd {f : Frame} {spill : Bool} {at_ : Option Nat} (h : Keeps s₀ s) :
    Keeps s₀ (s.svcEnd n i status f spill len at_) :=
  .ite (.ite h.count.taskCreate.bump h.count.satF.err.cpl) h.count.cpl

theorem Keeps.svcFault {f : Frame} {x : XErr} {wr : Bool} {data : List (BitVec 8)} (h : Keeps s₀ s) :
    Keeps s₀ (s.svcFault n i f x wr status data) :=
  .ite h.takeFid.faultNoWait.svcEnd <|
  .ite h.takeFid.faultNoWait.svcEnd <| by split; exacts [h.takeFid.faultNoWait.err.svcEnd, (h.takeFid.spill ‹_›).faultNoWait.svcEnd]

theorem Keeps.zidxNext (h : Keeps s₀ s) : KeepsOk s₀ (s.zidxNext n i) := by
  unfold State.zidxNext
  extract_lets
  split
  · exact .error
  · exact .ok ((h.writeV.of ‹_›).setSvcTable.when fun h => h.setTable)

theorem Keeps.svcInEnd {v : Svc} (h : Keeps s₀ s) : KeepsSome s₀ (s.svcInEnd n v) := by
  unfold State.svcInEnd
  extract_lets
  split
  · exact .some h.svcEnd
  · exact .some h.svcEnd
  · split
    · exact .ite .none (.some h.svcFault)
    · exact .some (h.ringStuck ‹_›).svcEnd
    · exact .ite (.some (h.ringStuck ‹_›).svcEnd) <| by
          extract_lets
          split
          · exact .ite .none (.some (h.ringStuck ‹_›).svcFault)
          · split
            · exact .ite .none (.some (h.ringStuck ‹_›).svcFault)
            · exact .some ((((h.ringStuck ‹_›).writeV.of ‹_›).zidxNext.of ‹_›).svcEnd.when fun h => h.takeSample)

theorem Keeps.svcOver (h : Keeps s₀ s) : Keeps s₀ (s.svcOver n) := by
  unfold State.svcOver
  split
  · exact h
  · exact .ite (by split; exacts [(h.svcInEnd.of ‹_›).setSq, h]) <| by
        split
        · exact h.svcEnd.setSq
        · exact .ite h.svcEnd.setSq <| by extract_lets; split; exacts [.ite h h.svcFault.setSq, (h.zidxNext.of ‹_›).svcEnd.setSq]

theorem Keeps.svcDats {x : Svc} {bs : List (BitVec 8)} (h : Keeps s₀ s) : Keeps s₀ (s.svcDats n x k bs fuel) := by
  induction fuel generalizing s k bs with
  | zero => exact h
  | succ fuel ih => exact .ite h.sendDat (ih h.sendDat)

theorem Keeps.svcStart {f : Frame} (h : Keeps s₀ s) : KeepsSome s₀ (s.svcStart n i f) :=
  .ite (.some h.sendTok.setSq) <| by
    split
    · exact .ite .none (.some h.svcFault)
    · exact .some (h.ringStuck ‹_›).svcEnd
    · split
      · exact .ite .none (.some (h.ringStuck ‹_›).svcFault)
      · exact .some (h.ringStuck ‹_›).sendTok.svcDats.setSq

theorem Keeps.setTurn (h : Keeps s₀ s) : Keeps s₀ (s.setTurn n k) := h.setSq

theorem Keeps.resend {t : Step} (h : Keeps s₀ s) : KeepsSome s₀ (s.resend n t) :=
  .ite (by split; exacts [h.dropStep.bulkGo, .some h.dropStep]) <|
  .ite (.ite (.some h.dropStep.pollSend) .none) (.ite (.some h.dropStep.stageSend) .none)

theorem Keeps.ctrlTurn (h : Keeps s₀ s) : KeepsSome s₀ (s.ctrlTurn n) := by
  unfold State.ctrlTurn
  extract_lets
  split
  · exact h.resend
  · refine .ite .none ?_
    split
    · exact .ite (.some h.clearNext.setSq.ownSend) .none
    · split
      · exact .none
      · split
        · exact .none
        · exact .ite (.some h.clearNext.wrrServe.setSq.ctrlGo) .none

theorem Keeps.bulkTurn (h : Keeps s₀ s) : KeepsSome s₀ (s.bulkTurn n) := by
  unfold State.bulkTurn
  extract_lets
  split
  · split
    · exact .some (h.resend.of ‹_›)
    · exact .some h.wrrEnd.setTurn
  · split
    · exact .none
    · split
      · exact .none
      · split
        · exact .some (h.wrrServe.bulkGo.of ‹_›)
        · exact .some h.wrrEnd.setTurn

theorem Keeps.stepFrame (h : Keeps s₀ s) : Keeps s₀ (s.stepFrame n) := .ite h h.setLink

theorem Keeps.serveN (h : Keeps s₀ s) : Keeps s₀ (s.serveN n fuel) := by
  induction fuel generalizing s with
  | zero => exact h
  | succ fuel ih =>
    refine .ite h (.ite ?frames (.ite h (.ite ?control (.ite ?bulk h))))
    case frames =>
      split
      · split
        · exact ih (h.setSq.svcStart.of ‹_›)
        · exact h
      · exact ih h.setTurn.stepFrame
    case control =>
      split
      · exact ih (h.ctrlTurn.of ‹_›)
      · exact ih h.wrrEnd.setTurn
    case bulk =>
      split
      · exact ih (h.bulkTurn.of ‹_›)
      · exact h

theorem Keeps.serve (h : Keeps s₀ s) : Keeps s₀ (s.serve n) := h.serveN

theorem Keeps.ownDone (h : Keeps s₀ s) : Keeps s₀ (s.ownDone n kind status) :=
  .ite h.setTree <| by split; exacts [h.enumDone, h]

theorem Keeps.keepStage {t : Step} {tries : Nat} {bad : Bool} (h : Keeps s₀ s) :
    Keeps s₀ (s.keepStage n t stage next tries bad) :=
  .ite (by split; exacts [h.setDesc, h]) (.ite h.setTree h.setTree)

theorem Keeps.stageDone {t : Step} (h : Keeps s₀ s) : Keeps s₀ (s.stageDone n t) :=
  h.dropStep.keepStage.unless fun h => .ite (by split; exacts [h.kpbDone.snoop, h]) h.ownDone

theorem Keeps.stageMore {t t' : Step} (h : Keeps s₀ s) : Keeps s₀ (s.stageMore n t t') :=
  h.dropStep.keepStage.both (fun h => h.setSq) fun h => h.stageSend

theorem Keeps.hubLost (h : Keeps s₀ s) : Keeps s₀ (s.hubLost n k) := .ite h.detach.portReady h.detach

theorem Keeps.stepFail {t : Step} (h : Keeps s₀ s) : Keeps s₀ (s.stepFail n t status) :=
  .ite (by split; exacts [h.dropStep.kpbDone, h.dropStep]) (.ite (.ite h.dropStep h.dropStep.hubLost) h.dropStep.ownDone)

theorem Keeps.attemptFailed {t : Step} (h : Keeps s₀ s) : Keeps s₀ (s.attemptFailed n t) := .ite h.stepFail h.satF.setSq

theorem Keeps.attemptBad {t : Step} (h : Keeps s₀ s) : Keeps s₀ (s.attemptBad n t) := h.err.mapStep.attemptFailed

end

/-! ### Training, recovery and shedding of KPB links -/
section
variable {s₀ s : State} {n k lane st rate width op arg w : Nat}

theorem Keeps.sendTs (h : Keeps s₀ s) : Keeps s₀ (s.sendTs n k) := .ite h h.emit.bump

theorem Keeps.trainStart (h : Keeps s₀ s) : Keeps s₀ (s.trainStart n) := h.each fun h => h.sendTs

theorem Keeps.laneStat {on : Bool} {fs : List Fld} (h : Keeps s₀ s) : Keeps s₀ (s.laneStat lane on fs) := h.foldl fun h => h.setF

theorem Keeps.laneIdle (h : Keeps s₀ s) : Keeps s₀ (s.laneIdle lane) := h.laneStat.setF

theorem Keeps.laneDone (h : Keeps s₀ s) : Keeps s₀ (s.laneDone lane) := h.laneStat.setF.bump

theorem Keeps.linkCut (h : Keeps s₀ s) : Keeps s₀ (s.linkCut n) := h.svcCut.foldl fun h => h.attemptFailed

theorem Keeps.belowMin (h : Keeps s₀ s) : Keeps s₀ (s.belowMin n) := h.setF

theorem Keeps.linkTo (h : Keeps s₀ s) : Keeps s₀ (s.linkTo n st) :=
  .ite h <|
  ((((((Keeps.ite h.linkCut h).setF.satF.setLink.both (fun h => (Keeps.ite h.bump h).each fun h => h.laneIdle) fun h =>
              .ite h.bump h).both (fun h => (Keeps.ite h.err h).setF.setF.setF) fun h => (Keeps.ite h.err h).setF).when fun h =>
          h.detach).when fun h => h.setSq).seqUpdate.overload.belowMin.when fun h => h.abandonFrame).when fun h => h.trainStart

theorem Keeps.linkConfig {c : Nat × Nat} (h : Keeps s₀ s) : Keeps s₀ (s.linkConfig n c) := h.linkTo.setLink.trainStart

theorem Keeps.linkConfigNew (h : Keeps s₀ s) : Keeps s₀ (s.linkConfigNew n) := h.linkTo.setLink.linkConfig

theorem Keeps.linkReconfig {failed : Bool} (h : Keeps s₀ s) : Keeps s₀ (s.linkReconfig n failed) := h.linkTo.setLink.linkConfig

theorem Keeps.linkRun (h : Keeps s₀ s) : Keeps s₀ (s.linkRun n st rate width) :=
  ((h.setF.setF.setLink.linkTo.each fun h => h.laneDone).unless fun h => h.setSq).overload.belowMin

theorem Keeps.linkAsk (h : Keeps s₀ s) : Keeps s₀ (s.linkAsk n op arg) := h.setLink.sendLnk

theorem Keeps.linkWiden (h : Keeps s₀ s) : Keeps s₀ (s.linkWiden n) :=
  .ite h (h.linkAsk.setLink.each fun h => (h.each fun h => h.emit).sendTs)

theorem Keeps.linkStep {seed : Bool} (h : Keeps s₀ s) : Keeps s₀ (s.linkStep n rate seed) := h.setLink.linkAsk

theorem Keeps.linkSeedGo (h : Keeps s₀ s) : Keeps s₀ (s.linkSeedGo n) :=
  (Keeps.ite h.setLink h).both (fun h => h.linkStep) fun h => .ite h.linkTo.linkWiden h.setLink

theorem Keeps.linkGo (h : Keeps s₀ s) : Keeps s₀ (s.linkGo n) :=
  .ite h (.ite h.linkSeedGo (.ite h (.ite h.linkWiden (.ite h.linkStep h.setLink))))

theorem Keeps.linkUp (h : Keeps s₀ s) : Keeps s₀ (s.linkUp n) := .ite h.setLink.linkGo h

theorem Keeps.linkFull (h : Keeps s₀ s) : Keeps s₀ (s.linkFull n) :=
  ((Keeps.ite h.setLink.setF.err h.setLink.setF).each fun h => h.emit).linkRun.linkGo.both (fun h => h.upd) fun h =>
    .ite h (.ite h.detach.rootUp h.rootUp)

theorem Keeps.linkRecover (h : Keeps s₀ s) : Keeps s₀ (s.linkRecover n) := h.linkTo.setLink.trainStart

theorem Keeps.linkWidth (h : Keeps s₀ s) : Keeps s₀ (s.linkWidth n w) :=
  (h.markers.each fun h => h.emit.laneIdle).setLink.linkRun.linkGo

theorem Keeps.widenGo (h : Keeps s₀ s) : Keeps s₀ (s.widenGo n) := .ite h.linkWidth h

theorem Keeps.stepGo (h : Keeps s₀ s) : Keeps s₀ (s.stepGo n) := by
  unfold State.stepGo
  extract_lets
  split
  · exact h
  · exact h.markers.linkTo.setLink.trainStart

theorem Keeps.stepCheck (h : Keeps s₀ s) : Keeps s₀ (s.stepCheck n) := .ite h (.ite h.stepGo h)

theorem Keeps.retrainDone (h : Keeps s₀ s) : Keeps s₀ (s.retrainDone n) := h.linkRun.setLink.linkGo

theorem Keeps.linkSeed (h : Keeps s₀ s) : Keeps s₀ (s.linkSeed n) := .ite h h.setLink.linkGo

theorem Keeps.tsTake {ts : List (BitVec 8)} {rev : Bool} (h : Keeps s₀ s) : Keeps s₀ (s.tsTake n lane ts rev) :=
  (Keeps.ite (.ite h.setLink.laneStat.setF.setF h.setLink.laneStat.setF) h.setLink.laneStat).when fun h => h.sendTs

theorem Keeps.tsIn {raw : List (BitVec 8)} (h : Keeps s₀ s) : Keeps s₀ (s.tsIn n lane raw) := by
  unfold State.tsIn
  extract_lets
  split
  · exact h.setLink
  · exact
      have h := h.tsTake
      .ite (.ite h (.ite h.linkConfigNew h.linkTo)) <|
      .ite (.ite (.ite h.linkReconfig h.linkConfigNew) h) <|
      .ite (.ite h (.ite h.linkTo (.ite h.linkFull h))) (.ite (.ite h (.ite h.linkTo (.ite h.retrainDone h))) (.ite h.widenGo h))

theorem Keeps.configFailed (h : Keeps s₀ s) : Keeps s₀ (s.configFailed n) :=
  .ite h.setLink.trainStart (.ite h.setLink.trainStart (.ite h.setLink.trainStart h.linkTo))

theorem Keeps.linkEnable {on : Bool} (h : Keeps s₀ s) : Keeps s₀ (s.linkEnable n on) :=
  .ite (.ite h.linkTo h) (.ite h h.markersAll.linkTo)

theorem Keeps.upUnready (h : Keeps s₀ s) : Keeps s₀ (s.upUnready n) := .ite h.markers.linkTo h

theorem Keeps.utilWindow (h : Keeps s₀ s) : Keeps s₀ (s.utilWindow n) := h.setF.setLink

end

/-! ### A quad in hub role -/
section
variable {s₀ s : State} {p v n phase b dev addr ep reason ty kind seq credit sel e next maxlen frame port : Nat}

theorem Keeps.setHport {h' : HPort} (h : Keeps s₀ s) : Keeps s₀ (s.setHport p h') := h.upd

theorem Keeps.hportStat (h : Keeps s₀ s) : Keeps s₀ (s.hportStat p v) := .ite h.setHport.upd h.setHport

theorem Keeps.hportNewId (h : Keeps s₀ s) : Keeps s₀ (s.hportNewId p) := h.setHport.bump

theorem Keeps.hportTsOut (h : Keeps s₀ s) : Keeps s₀ (s.hportTsOut n p phase) := h.emit.bump

theorem Keeps.hportBit {on : Bool} (h : Keeps s₀ s) : Keeps s₀ (s.hportBit p b on) := h.hportStat

theorem Keeps.hportTs {raw : List (BitVec 8)} (h : Keeps s₀ s) : Keeps s₀ (s.hportTs n p raw) :=
  .ite h.setHport <|
  have h := h.setHport.hportTsOut
  by
    extract_lets
    split
    · exact .ite h.hportStat.setHport.hportBit (.ite h.hportStat.setHport.hportStat.upd h.hportStat)
    · exact h.hportStat

theorem Keeps.hportTimeout (h : Keeps s₀ s) : Keeps s₀ (s.hportTimeout p) := by
  unfold State.hportTimeout
  split
  · exact .ite h.setHport.hportBit h
  · exact h

theorem Keeps.hportSilent (h : Keeps s₀ s) : Keeps s₀ (s.hportSilent p) := h.hportStat.hportNewId

theorem Keeps.kpbReset (h : Keeps s₀ s) : Keeps s₀ (s.kpbReset dev) := .ite h.upd (h.upd.foldl fun h => h.hportBit).upd

theorem Keeps.hportReset (h : Keeps s₀ s) : Keeps s₀ (s.hportReset n p) :=
  .ite h.kpbReset.hportBit.upd h.emit.hportStat.setHport.hportNewId

theorem Keeps.hubEffect {r : List (BitVec 8)} (h : Keeps s₀ s) : Keeps s₀ (s.hubEffect n dev r) :=
  .ite (.ite h.upd (.ite h.upd (.ite h.upd (.ite h.upd (.ite h.upd h))))) <|
  .ite (.ite h.hportReset (.ite h.hportBit h)) (.ite (.ite h.hportBit h) (.ite h.upd h))

theorem Keeps.setHctl {c : HCtl} (h : Keeps s₀ s) : Keeps s₀ (s.setHctl dev c) := h.upd

theorem Keeps.sendStl {dirIn : Bool} (h : Keeps s₀ s) : Keeps s₀ (s.sendStl n addr ep dirIn) := h.bump.send

theorem Keeps.sendNak {dirIn : Bool} (h : Keeps s₀ s) : Keeps s₀ (s.sendNak n addr ep dirIn reason) := h.send

theorem Keeps.hubTok (h : Keeps s₀ s) : Keeps s₀ (s.hubTok n dev ty kind seq) :=
  .ite h.sendStl (.ite h.setHctl (.ite h (.ite h.sendStl (.ite (.ite h.setHctl.sendDat h.setHctl.sendDat) h))))

theorem Keeps.hubDat {data : List (BitVec 8)} (h : Keeps s₀ s) : Keeps s₀ (s.hubDat n dev seq data) :=
  .ite (.ite h h.setHctl.sendAck) (.ite h.sendStl h.sendAck)

theorem Keeps.hubAck (h : Keeps s₀ s) : Keeps s₀ (s.hubAck n dev seq) := .ite h (.ite h.setHctl h.setHctl.hubEffect)

theorem Keeps.hubPinged (h : Keeps s₀ s) : Keeps s₀ s.hubPinged := h.upd

theorem Keeps.hubPoll (h : Keeps s₀ s) : Keeps s₀ (s.hubPoll n kind seq credit) :=
  .ite h.upd.sendNak (.ite h.upd.sendStl <| by split; exacts [h.upd.sendNak, h.upd.upd.send])

theorem Keeps.hubPollAck (h : Keeps s₀ s) : Keeps s₀ s.hubPollAck := by
  unfold State.hubPollAck
  split
  · exact h
  · exact h.setHport.upd

theorem Keeps.setHep {e : HEp} (h : Keeps s₀ s) : Keeps s₀ (s.setHep sel e) := h.upd

theorem Keeps.wireAll {ps : List (List (BitVec 8) × List (BitVec 8))} (h : Keeps s₀ s) : Keeps s₀ (s.wireAll n ps) :=
  h.foldl fun h => h.wire

theorem Keeps.hubWithhold (h : Keeps s₀ s) : Keeps s₀ s.hubWithhold := h.upd

theorem Keeps.hubAcked (h : Keeps s₀ s) : Keeps s₀ (s.hubAcked n e next) :=
  .ite h <| by split; exacts [h.setHep, .ite h.setHep.setDesc.kpbDone h.setHep.setDesc]

theorem Keeps.hubEpIn (h : Keeps s₀ s) : Keeps s₀ (s.hubEpIn n e kind seq credit maxlen frame) := by
  unfold State.hubEpIn
  extract_lets _ _ s₁
  have h₁ : Keeps s₀ s₁ := .ite h.hubAcked h
  split
  · exact h.sendStl
  · exact h.sendNak
  · split
    · exact h₁.sendNak
    · extract_lets
      split
      · exact h₁.descFault.sendNak
      · exact .ite h₁.wireAll.setDesc.kpbDone h₁.setDesc.setHep.wireAll

theorem Keeps.hubPerDone {last : Bool} (h : Keeps s₀ s) : Keeps s₀ (s.hubPerDone n e last) := by
  unfold State.hubPerDone
  extract_lets
  split
  · exact h.setHep
  · exact h.setHep.bulkInDone

theorem Keeps.hubPerCut (h : Keeps s₀ s) : Keeps s₀ (s.hubPerCut n e) := .ite h.hubPerDone h

theorem Keeps.hubEpOut (h : Keeps s₀ s) : Keeps s₀ (s.hubEpOut n e kind credit) := by
  unfold State.hubEpOut
  extract_lets
  split
  · exact h.hubPerCut.setHep.sendStl
  · exact h.hubPerCut.setHep
  · split
    · exact h.hubPerCut.setHep
    · exact h.hubPerCut.setHep

theorem Keeps.hubBurst (h : Keeps s₀ s) : Keeps s₀ (s.hubBurst n e) := .ite h (.ite (.ite h h.sendNak) (.ite h h.bump.sendBur))

theorem Keeps.hubStore {p : Pkt} (h : Keeps s₀ s) : Keeps s₀ (s.hubStore n e p).1 := by
  unfold State.hubStore
  split
  · exact h
  · extract_lets
    split
    · exact h.descFault
    · exact (h.writeV.of ‹_›).setDesc

theorem Keeps.hubPerDat {p : Pkt} (h : Keeps s₀ s) : Keeps s₀ (s.hubPerDat n e p) :=
  .ite h.setHep.hubStore.setHep (.ite h.setHep.hubStore.hubPerDone h.setHep.hubStore)

theorem Keeps.hubBulkDat {p : Pkt} (h : Keeps s₀ s) : Keeps s₀ (s.hubBulkDat n e p) :=
  have h := Keeps.ite h.satF h
  .ite h.setHep.hubBurst <|
  .ite h.hubStore.setHep.hubBurst <|
  .hubBurst <| by split; exacts [h.hubStore.setHep, .ite h.hubStore.setHep.bulkInDone h.hubStore.setHep]

theorem Keeps.hubEpDat {p : Pkt} (h : Keeps s₀ s) : Keeps s₀ (s.hubEpDat n e p) :=
  .ite h (.ite h.setHep.hubBurst (.ite h.hubPerDat h.hubBulkDat))

theorem Keeps.hubTrg {bs : List (BitVec 8)} (h : Keeps s₀ s) : Keeps s₀ (s.hubTrg bs) := by
  unfold State.hubTrg
  extract_lets
  split
  · exact .ite h.upd h
  · exact h

theorem Keeps.hubFrm {bs : List (BitVec 8)} (h : Keeps s₀ s) : Keeps s₀ (s.hubFrm n bs) :=
  (h.hubWithhold.foldl fun h => h.hubPerCut).setF.upd

theorem Keeps.hubForward {pkt : Pkt} (h : Keeps s₀ s) : Keeps s₀ (s.hubForward n p pkt) := .ite h h.emit

theorem Keeps.hubLocal {body : List (BitVec 8)} (h : Keeps s₀ s) : Keeps s₀ (s.hubLocal port ty sel body) := h.emit

theorem Keeps.hubTake {p : Pkt} (h : Keeps s₀ s) : Keeps s₀ (s.hubTake n dev p) :=
  (Keeps.ite h.satF h).both (fun h => .ite h.hubTrg h) fun h =>
    .ite (.ite h.hubTok (.ite (.ite h.hubDat h) (.ite h.hubAck h))) <|
    .ite (.ite h.hubPoll (.ite h.hubPollAck (.ite h.sendNak (.ite h.sendStl h)))) <|
    .ite h.hubEpIn (.ite h.hubEpOut (.ite (.ite h.sendStl h.sendNak) (.ite h.hubEpDat (.ite h.hubAcked h))))

theorem Keeps.hubDown {p : Pkt} (h : Keeps s₀ s) : Keeps s₀ (s.hubDown n p) :=
  .ite h <|
  .ite ((Keeps.ite h (.ite h.hubFrm (.ite h.hubTrg h))).foldl fun h => h.hubForward) <|
  .ite h.hubTake <|
  .ite (.ite (.ite (.ite h.hubTake h) h) h.hubForward) <| by split; exacts [.ite (.ite h.hubTake h) h, h.hubForward, h]

theorem Keeps.hubUp {p : Pkt} (h : Keeps s₀ s) : Keeps s₀ (s.hubUp n p) := .ite h.wire h

end

/-! ### Commands and events of root ports -/
section
variable {s₀ s : State} {n ty hand op port fn v c flags status : Nat}

theorem Keeps.packetIn {p : Pkt} {k : State → State} (h : Keeps s₀ s) (hk : ∀ {t}, Keeps s₀ t → Keeps s₀ (k t)) :
    Keeps s₀ (s.packetIn n p ty k) := .ite (.ite h.hubUp h) (.ite h (Keeps.ite (hk h.receive) h.receive).serve.stepCheck)

theorem Keeps.datPeriodic {p : Pkt} (h : Keeps s₀ s) : Keeps s₀ (s.datPeriodic n p) := by
  unfold State.datPeriodic
  extract_lets
  split
  · exact h.satF
  · exact h.setSq

theorem Keeps.burstEnd {t : Step} (h : Keeps s₀ s) : Keeps s₀ (s.burstEnd n t) := h.dropStep.sendBur

theorem Keeps.datBulk {t : Step} {p : Pkt} (h : Keeps s₀ s) : Keeps s₀ (s.datBulk n t p) :=
  .ite h.count.sendBur.attemptBad <|
  .ite (Keeps.ite h.count.satF h.count).burstEnd <| by
    split
    · exact h.count.burstEnd
    · extract_lets
      split
      · exact h.count.burstEnd.descFault
      · exact (h.count.writeV.of ‹_›).setBseq.setDesc.burstEnd.when fun h => h.bulkInDone

theorem Keeps.keepData {t : Step} {bs : List (BitVec 8)} {poison : Bool} (h : Keeps s₀ s) : Keeps s₀ (s.keepData n t bs poison) :=
  .ite (by split; exacts [h, (h.foldl fun h => h.setByte).setDesc]) (.ite h.setTree h)

theorem Keeps.datControl {t : Step} {p : Pkt} (h : Keeps s₀ s) : Keeps s₀ (s.datControl n t p) :=
  .ite h.sendAck.stageDone <|
  .ite h.sendAck (.ite h (h.sendAck.keepData.both (fun h => h.stepFail) fun h => .ite h.keepStage.stageDone h.stageMore))

theorem Keeps.datIn {p : Pkt} (h : Keeps s₀ s) : Keeps s₀ (s.datIn n p) :=
  have h := Keeps.ite h h.satF
  .ite h.datPeriodic <|
  .ite h.chargeBad (.ite (by split; exacts [.ite h.datControl h, h]) <| by split; exacts [.ite h.datBulk h, h])

theorem Keeps.ackIn {bs : List (BitVec 8)} (h : Keeps s₀ s) : Keeps s₀ (s.ackIn n bs) := by
  unfold State.ackIn
  split
  · exact h
  · exact .ite h (.ite h.stageDone (.ite h.keepStage.stageDone h.stageMore))

theorem Keeps.strayHand {bs : List (BitVec 8)} (h : Keeps s₀ s) : Keeps s₀ (s.strayHand n bs) := .ite h.satF h

theorem Keeps.svcHand {v : Svc} (h : Keeps s₀ s) : Keeps s₀ (s.svcHand n v hand) := h.setSq

theorem Keeps.keepTries {t : Step} (h : Keeps s₀ s) : Keeps s₀ (s.keepTries t) := by
  unfold State.keepTries
  split
  · exact h.setDesc
  · exact h

theorem Keeps.nakIn {bs : List (BitVec 8)} (h : Keeps s₀ s) : Keeps s₀ (s.nakIn n bs) := by
  unfold State.nakIn
  extract_lets
  split
  · exact .ite h.count.svcHand (.ite h.count.svcHand h.count)
  · split
    · exact h.count.strayHand
    · exact .ite h.count.dropStep.putOff.keepTries.wrrEnd <|
        .ite h.count.dropStep.setTree (h.count.dropStep.putOff.keepStage.when fun h => h.wrrEnd)

theorem Keeps.stlIn {bs : List (BitVec 8)} (h : Keeps s₀ s) : Keeps s₀ (s.stlIn n bs) := by
  unfold State.stlIn
  split
  · exact h.svcHand
  · split
    · exact h.stepFail
    · exact h.strayHand

theorem Keeps.burIn {bs : List (BitVec 8)} (h : Keeps s₀ s) : Keeps s₀ (s.burIn n bs) := by
  unfold State.burIn
  split
  · exact h
  · exact .ite h <|
      .ite h.attemptBad <| by
        extract_lets
        split
        · exact (Keeps.ite h.satF h).dropStep.setBseq.setTree
        · exact .ite (Keeps.ite h.satF h).dropStep.setBseq.setTree.setDesc.kpbDone <|
            (Keeps.ite h.satF h).dropStep.setBseq.setTree.setDesc

theorem Keeps.hubIn {bs : List (BitVec 8)} (h : Keeps s₀ s) : Keeps s₀ (s.hubIn n bs) := by
  unfold State.hubIn
  split
  · exact h
  · exact h.dropStep.sendAck.setTree.hubReport

theorem Keeps.lnkIn {p : Pkt} {k : State → State} (h : Keeps s₀ s) (hk : ∀ {t}, Keeps s₀ t → Keeps s₀ (k t)) :
    Keeps s₀ (s.lnkIn n p op k) := .ite h (h.packetIn hk)

theorem Keeps.askedIn {p : Pkt} {k : State → Nat → State} (h : Keeps s₀ s) (hk : ∀ {t x₁}, Keeps s₀ t → Keeps s₀ (k t x₁)) :
    Keeps s₀ (s.askedIn n p op k) := .ite h (.ite (hk h.receive) h.receive)

theorem Keeps.stepTimeout {t : Step} (h : Keeps s₀ s) : Keeps s₀ (s.stepTimeout n t) :=
  .ite (.ite h.burstEnd h.mapStep) h.attemptFailed

theorem Keeps.linkWidenCmd (h : Keeps s₀ s) : Keeps s₀ (s.linkWidenCmd n) := h.setLink.linkUp

theorem Keeps.detectAgain (h : Keeps s₀ s) : Keeps s₀ (s.detectAgain n) := .ite h.trainStart h.linkTo

theorem Keeps.execEnumWaitEnd (h : Keeps s₀ s) : KeepsNext s₀ (execEnumWaitEnd port s) :=
  .next <| by
    split
    · split
      · exact .ite h.enumWaited.serve h
      · exact h
    · exact h

theorem Keeps.actTree {k : State → State} (h : Keeps s₀ s) (hk : ∀ {t}, Keeps s₀ t → Keeps s₀ (k t)) :
    Keeps s₀ (s.actTree fn n k) :=
  .ite h (.ite (hk h) (.ite h.refuse (.ite (hk h) h.refuse)))

theorem Keeps.treeBase (h : Keeps s₀ s) : Keeps s₀ (s.treeBase n v) := by
  unfold State.treeBase
  exact h.unwait.setTree.setF.setF.tableWrite.enumTurn

theorem Keeps.treeAck (h : Keeps s₀ s) : Keeps s₀ (s.treeAck n v) := h.setF.setTree.unstarve

theorem Keeps.enumEn {on : Bool} (h : Keeps s₀ s) : Keeps s₀ (s.enumEn n on) := .ite h.setF.setTree.enumTurn h.setF.setTree

theorem Keeps.rescan (h : Keeps s₀ s) : Keeps s₀ (s.rescan n) := by
  unfold State.rescan
  exact .ite h.detach.portReady h.detach

theorem Keeps.setPwr {p : PortPwr} (h : Keeps s₀ s) : Keeps s₀ (s.setPwr n p) := h.upd

theorem Keeps.pmPage (h : Keeps s₀ s) : Keeps s₀ (s.pmPage n) := .ite h.emit h

theorem Keeps.pmOperation (h : Keeps s₀ s) : Keeps s₀ (s.pmOperation n v) := h.pmPage.emit

theorem Keeps.pmRead (h : Keeps s₀ s) : Keeps s₀ (s.pmRead n c) := h.pmPage.emit

theorem Keeps.powerAllow (h : Keeps s₀ s) : Keeps s₀ (s.powerAllow n) := .ite h.upd.setPwr.pmOperation h

theorem Keeps.powerOn (h : Keeps s₀ s) : Keeps s₀ (s.powerOn n) := .ite h.setF h.setF.setF.setPwr

theorem Keeps.powerLost (h : Keeps s₀ s) : Keeps s₀ (s.powerLost n flags) := by
  unfold State.powerLost
  exact .ite h.markersAll.detach h.markersAll.detach.linkTo

theorem Keeps.powerOff (h : Keeps s₀ s) : Keeps s₀ (s.powerOff n) :=
  .ite h.setF.setF h.setF.setF.powerLost.pmOperation.setF.setPwr.nrgBreak

theorem Keeps.switchFault (h : Keeps s₀ s) : Keeps s₀ (s.switchFault n status) :=
  .ite (h.setF.setF.err.both (fun h => h.powerLost) fun h => h.detach) h

end

/-! ### Commands and events of frame sequencers -/
section
variable {s₀ s : State} {port n fn result entry : Nat}

theorem Keeps.execServiceEnd (h : Keeps s₀ s) : KeepsNext s₀ (execServiceEnd port s) :=
  .next <| by split; exacts [h, .ite (.ite h.svcOver.serve.stepCheck h) (.ite h.setSq.svcOver.serve.stepCheck h)]

theorem Keeps.admitGo (h : Keeps s₀ s) : Keeps s₀ (s.admitGo n fn) := .ite h h.setF.setSq

theorem Keeps.admEnd {table : Bool} (h : Keeps s₀ s) : Keeps s₀ (s.admEnd n result entry table) := h.setF.setF.setF.setF

theorem Keeps.admLoad {t : PerTable} (h : Keeps s₀ s) : Keeps s₀ (s.admLoad n t) := .ite h.setF.setF h.setF.setF.bump

theorem Keeps.admission (h : Keeps s₀ s) : Keeps s₀ (s.admission n) := by
  unfold State.admission
  extract_lets
  split
  · exact .ite h h.admLoad.setF.bump.admEnd
  · extract_lets
    split
    · exact .ite h h.admLoad.admEnd
    · extract_lets
      split
      · exact h.admLoad.admEnd
      · split
        · exact h.admLoad.admEnd
        · exact .ite h.admLoad.admEnd h.admLoad.admEnd.setSq.setF

theorem Keeps.perUpdate (h : Keeps s₀ s) : Keeps s₀ s.perUpdate := h.each fun h => .ite h.setF.err h.setF

theorem Keeps.takeCand {c : PerTable} (h : Keeps s₀ s) : Keeps s₀ (s.takeCand n c) := h.setSq.dropCand.overload.perUpdate

end

/-! ### Ethernet frames -/
section
variable {s₀ s : State} {n k a : Nat}

theorem Keeps.setEmac {e : Emac} (h : Keeps s₀ s) : Keeps s₀ (s.setEmac n e) := h.upd

theorem Keeps.setSec {a : SecAssoc} (h : Keeps s₀ s) : Keeps s₀ (s.setSec n k a) := h.setEmac

theorem Keeps.secIn {bs : List (BitVec 8)} (h : Keeps s₀ s) : Keeps s₀ (s.secIn n bs).1 :=
  .ite_fst h <|
  .ite_fst h.addF <| by
    extract_lets
    split
    · exact h.addF
    · refine .ite_fst h.addF ?_
      extract_lets _ _ _ _ plain
      clear_value plain
      split
      · exact h.addF.count
      · exact .ite_fst h.addF h.count.addF.setF.setSec

end

/-! ### Ethernet transmit -/
section
variable {s₀ s : State} {n tx rx dst ety op arg nonce len q idx status c fuel : Nat}

theorem Keeps.utilRoll (h : Keeps s₀ s) : Keeps s₀ (s.utilRoll n) := .ite h h.setEmac

theorem Keeps.utilAdd (h : Keeps s₀ s) : Keeps s₀ (s.utilAdd n tx rx) := h.utilRoll.setEmac

theorem Keeps.ctlFrame {body : List (BitVec 8)} (h : Keeps s₀ s) : Keeps s₀ (s.ctlFrame n dst ety body) := h.setEmac

theorem Keeps.lsxFrame (h : Keeps s₀ s) : Keeps s₀ (s.lsxFrame n op arg nonce) := h.ctlFrame

theorem Keeps.txCount (h : Keeps s₀ s) : Keeps s₀ (s.txCount n len) := h.addF.addF.count.count.utilAdd

theorem Keeps.addFrame {f : TxFrame} (h : Keeps s₀ s) : Keeps s₀ (s.addFrame n f) := h.setEmac

theorem Keeps.dropFrame (h : Keeps s₀ s) : Keeps s₀ (s.dropFrame n q idx) := h.setEmac

theorem Keeps.txSettle (h : Keeps s₀ s) : Keeps s₀ (s.txSettle n q fuel) := by
  induction fuel generalizing s with
  | zero => exact h
  | succ fuel ih =>
    unfold State.txSettle
    split
    · exact h
    · split
      · exact ih h.dropFrame.descDone
      · exact h

theorem Keeps.txHead (h : Keeps s₀ s) : Keeps s₀ (s.txHead n q) := h.txSettle

theorem Keeps.txPark {d : Desc} {e : XErr} {wr : Bool} (h : Keeps s₀ s) : Keeps s₀ (s.txPark n q d e wr) :=
  .ite h h.descFault.setQ

theorem Keeps.txFetch {d : Desc} (h : Keeps s₀ s) : Keeps s₀ (s.txFetch n q d) :=
  .ite h.err.addFrame.txHead <| by split; exacts [h.txPark, .ite h.addFrame.txHead h.setDesc.addFrame]

theorem Keeps.txFail {d : Desc} (h : Keeps s₀ s) : Keeps s₀ (s.txFail n q d status) := h.dropFrame.setDesc.addFrame.txHead

theorem Keeps.txDown (h : Keeps s₀ s) : Keeps s₀ (s.txDown n) :=
  .ite h (h.foldl fun h => h.foldl fun h => .ite h (Keeps.ite h.unwait.setQ h).addF.txFail)

theorem Keeps.charge (h : Keeps s₀ s) : Keeps s₀ (s.charge n c len) := .ite h h.setEmac

theorem Keeps.takePn (h : Keeps s₀ s) : Keeps s₀ (s.takePn n c).2 :=
  (Keeps.ite h.setSec.err.post h).both (fun h => h.setF.err) fun h => h.setF

theorem Keeps.setFlight {f : TxFrame} (h : Keeps s₀ s) : Keeps s₀ (s.setFlight n f) := h.setEmac

theorem Keeps.txMake {d : Desc} {f : TxFrame} {counts : Bool} (h : Keeps s₀ s) : Keeps s₀ (s.txMake n d f counts).1 :=
  .ite_snd (.ite h.takePn.count.addF h.takePn) h

theorem Keeps.txResend (h : Keeps s₀ s) : Keeps s₀ (s.txResend n) := by
  unfold State.txResend
  split
  · exact h
  · split
    · exact h
    · exact h.txMake.emit.setFlight

theorem Keeps.txStart (h : Keeps s₀ s) : Keeps s₀ (s.txStart n) :=
  .ite h <| by
    split
    · exact h.setEmac.emit.txCount.when fun h => h.addF
    · split
      · exact h
      · split
        · exact h
        · extract_lets
          split
          · exact (Keeps.ite h.wrrServe.addF h.wrrServe).dropFrame.descDone.txHead
          · exact h.wrrServe.txMake.charge.emit.setFlight

theorem Keeps.txDone {d : Desc} {f : TxFrame} (h : Keeps s₀ s) : Keeps s₀ (s.txDone n q d f) :=
  .ite h.dropFrame.descDone.txHead <| by split; exacts [(h.writeV.of ‹_›).dropFrame.descDone.txHead, h.dropFrame.addFrame.txPark]

theorem Keeps.txEnd (h : Keeps s₀ s) : Keeps s₀ (s.txEnd n) := by
  unfold State.txEnd
  split
  · exact h
  · extract_lets
    split
    · exact h.setEmac.txCount.addF.txDone
    · exact h.setEmac.txCount.addF.dropFrame

end

/-! ### Ethernet receive -/
section
variable {s₀ s : State} {n c q vec on status i p dev bank key fuel : Nat}

theorem Keeps.pauseClass (h : Keeps s₀ s) : Keeps s₀ (s.pauseClass n c q) := .ite h.setEmac.setF h.setEmac.setF

theorem Keeps.ctrlDrop (h : Keeps s₀ s) : Keeps s₀ (s.ctrlDrop n) := h.addF

theorem Keeps.ctrlTake (h : Keeps s₀ s) : Keeps s₀ (s.ctrlTake n) := h.addF.count

theorem Keeps.pauseIn (h : Keeps s₀ s) : Keeps s₀ (s.pauseIn n q) :=
  .ite h.ctrlDrop (.ite (h.ctrlTake.each fun h => h.pauseClass) h.ctrlTake)

theorem Keeps.pfcIn {times : List Nat} (h : Keeps s₀ s) : Keeps s₀ (s.pfcIn n vec times) :=
  .ite h.ctrlDrop (.ite (h.ctrlTake.each fun h => .ite h.pauseClass h) h.ctrlTake)

theorem Keeps.pauseSend (h : Keeps s₀ s) : Keeps s₀ (s.pauseSend n vec on) := .ite h.setEmac.ctlFrame h.setEmac.ctlFrame

theorem Keeps.pauseUpdate (h : Keeps s₀ s) : Keeps s₀ (s.pauseUpdate n) := .ite h.setF h.setF.setF.pauseSend

theorem Keeps.rxUnused {d : Desc} (h : Keeps s₀ s) : Keeps s₀ (s.rxUnused q d status) := h.setWq.wqShow.cpl.rsyShow

theorem Keeps.rxSettleN (h : Keeps s₀ s) : Keeps s₀ (s.rxSettleN q fuel) := by
  induction fuel generalizing s with
  | zero => exact h
  | succ fuel ih =>
    unfold State.rxSettleN
    split
    · exact h
    · split
      · exact ih h.descDone
      · exact h

theorem Keeps.rxSettle (h : Keeps s₀ s) : Keeps s₀ (s.rxSettle q) := h.rxSettleN

theorem Keeps.land {l : List (Desc × List (BitVec 8))} (h : Keeps s₀ s) : Keeps s₀ (s.land i l).1 := by
  induction l generalizing s with
  | nil => exact h
  | cons d l ih =>
    unfold State.land
    split
    · exact ih (h.writeV.of ‹_›)
    · exact h

theorem Keeps.deliver {f : RxFrame} (h : Keeps s₀ s) : KeepsSome s₀ (s.deliver n f) :=
  .ite .none <| by
    split
    · exact .none
    · extract_lets
      split
      · exact .some <|
          (h.land.of_eq ‹_›).setWq.wqShow.wrrServe.addF.both (fun h => h.taskCreate.bump.rxSettle) fun h =>
            (h.foldl fun h => h.cpl).rsyShow.rxSettle
      · exact .ite .none <|
          .ite (.some <|
            (h.land.of_eq ‹_›).takeFid.faultNoWait.setWq.wqShow.wrrServe.addF.both (fun h => h.taskCreate.bump.rxSettle) fun h =>
              (h.foldl fun h => h.cpl).rsyShow.rxSettle) <| by
            split
            · exact .some <|
                (h.land.of_eq ‹_›).takeFid.faultNoWait.err.setWq.wqShow.wrrServe.addF.both (fun h => h.taskCreate.bump.rxSettle) fun h =>
                  (h.foldl fun h => h.cpl).rsyShow.rxSettle
            · exact .some <|
                ((h.land.of_eq ‹_›).takeFid.spill ‹_›).faultNoWait.setWq.wqShow.wrrServe.addF.both (fun h =>
                  h.taskCreate.bump.rxSettle) fun h => (h.foldl fun h => h.cpl).rsyShow.rxSettle

theorem Keeps.drainHeld {l : List RxFrame} {stuck : List Nat} (h : Keeps s₀ s) : Keeps s₀ (s.drainHeld n stuck l) := by
  induction l generalizing s stuck with
  | nil => exact h
  | cons f l ih => exact .ite (ih h) (by split; exacts [ih (h.deliver.of ‹_›).setEmac, ih h])

theorem Keeps.rxDrain (h : Keeps s₀ s) : Keeps s₀ (s.rxDrain n) := h.drainHeld.pauseUpdate

theorem Keeps.rxDrainAll (h : Keeps s₀ s) : Keeps s₀ s.rxDrainAll := h.foldl fun h => .ite h h.rxDrain

theorem Keeps.rxMixed (h : Keeps s₀ s) : Keeps s₀ (s.rxMixed n p) := .ite h.err h

theorem Keeps.admitFrame {f : RxFrame} (h : Keeps s₀ s) : Keeps s₀ (s.admitFrame n f) :=
  (Keeps.ite (.ite h.rxMixed.setEmac.count h.rxMixed.addF) <| by
      split
      · exact h.rxMixed.deliver.of ‹_›
      · exact .ite h.rxMixed.setEmac.count h.rxMixed.addF).pauseUpdate

theorem Keeps.rxStages {raw : List (BitVec 8)} (h : Keeps s₀ s) : Keeps s₀ (s.rxStages n raw dev) :=
  .ite h.addF <| by
    split
    · exact h.secIn.of_eq ‹_›
    · exact .ite (h.secIn.of_eq ‹_›).addF <|
        ((Keeps.ite (h.secIn.of_eq ‹_›).addF (.ite (h.secIn.of_eq ‹_›).addF (h.secIn.of_eq ‹_›))).when fun h =>
          h.addF.count).both (fun h =>
          h.addF) fun h => (Keeps.ite (Keeps.ite h.addF h).setEmac (.ite h.addF h)).admitFrame

theorem Keeps.drainStart (h : Keeps s₀ s) : Keeps s₀ (s.drainStart n bank key) := .ite h h.setEmac.setF

theorem Keeps.drainEnd (h : Keeps s₀ s) : Keeps s₀ (s.drainEnd n) := h.satF.setEmac.setF.rxDrain

theorem Keeps.newKey {imbalance : Bool} (h : Keeps s₀ s) : Keeps s₀ (s.newKey n imbalance) :=
  h.drainStart.setEmac.bump.addF.addF.both (fun h => (Keeps.ite h.setF h).setEmac.setF) fun h => .ite h.setF h

theorem Keeps.epochKeys (h : Keeps s₀ s) : Keeps s₀ s.epochKeys := h.each fun h => .ite h.newKey h

end

/-! ### Commands and events of Ethernet ports -/
section
variable {s₀ s : State} {n op arg w addr nonce port cls k result bad v left : Nat}

theorem Keeps.emacUp {remote : Bool} (h : Keeps s₀ s) : Keeps s₀ (s.emacUp n remote) :=
  .ite h.setF h.setF.setF.setF.setF.setF.setF.setF.setEmac

theorem Keeps.emacDown {local_ remote receiving : Bool} (h : Keeps s₀ s) : Keeps s₀ (s.emacDown n local_ remote receiving) :=
  .ite h <|
  (Keeps.ite h.satF.err.setF.setF.setF.setF.setF.setF.setF.setF.setF.setEmac.addF <|
    h.satF.err.setF.setF.setF.setF.setF.setF.setF.setF.setF.setEmac).txDown

theorem Keeps.emacDrop (h : Keeps s₀ s) : Keeps s₀ (s.emacDrop n) := .ite h.emacDown.bump h

theorem Keeps.emacOff (h : Keeps s₀ s) : Keeps s₀ (s.emacOff n) := .ite h.setEmac h.emacDrop

theorem Keeps.rxOwn (h : Keeps s₀ s) : Keeps s₀ (s.rxOwn n) := h.addF.addF.count.count.utilAdd

theorem Keeps.lsxAsk (h : Keeps s₀ s) : Keeps s₀ (s.lsxAsk n op arg) := h.lsxFrame.setEmac.bump

theorem Keeps.lsxSwitch (h : Keeps s₀ s) : Keeps s₀ (s.lsxSwitch n w) := h.setF.setEmac

theorem Keeps.emacWiden (h : Keeps s₀ s) : Keeps s₀ (s.emacWiden n) := .ite h.lsxAsk.setEmac h

theorem Keeps.lsxHello (h : Keeps s₀ s) : Keeps s₀ (s.lsxHello n addr arg) := h.setF.setF.setEmac

theorem Keeps.lsxShedReq (h : Keeps s₀ s) : Keeps s₀ (s.lsxShedReq n arg nonce) := .ite h (.ite h.lsxFrame.lsxSwitch h.lsxFrame)

theorem Keeps.lsxShedAck (h : Keeps s₀ s) : Keeps s₀ (s.lsxShedAck n arg nonce) := .ite h.lsxSwitch.setEmac h

theorem Keeps.lsxWidenReq (h : Keeps s₀ s) : Keeps s₀ (s.lsxWidenReq n arg nonce) :=
  .ite h (.ite h.emacWiden (.ite h.lsxFrame.setEmac.lsxSwitch h.lsxFrame.setEmac))

theorem Keeps.lsxWidenAck (h : Keeps s₀ s) : Keeps s₀ (s.lsxWidenAck n arg nonce) :=
  .ite h ((Keeps.ite h.setEmac.lsxFrame.setEmac h.setEmac).when fun h => h.lsxSwitch)

theorem Keeps.lsxRefuse (h : Keeps s₀ s) : Keeps s₀ (s.lsxRefuse n arg nonce) := .ite h.setEmac h

theorem Keeps.lsxIn (h : Keeps s₀ s) : Keeps s₀ (s.lsxIn n op addr arg nonce) :=
  .ite h.lsxHello (.ite h.lsxShedReq (.ite h.lsxShedAck (.ite h.lsxWidenReq (.ite h.lsxWidenAck (.ite h.lsxRefuse h)))))

theorem Keeps.ownFrame {k : State → State} (h : Keeps s₀ s) (hk : ∀ {t}, Keeps s₀ t → Keeps s₀ (k t)) :
    KeepsNext s₀ (s.ownFrame n k) :=
  .next (.ite h (.ite h.rxOwn.addF (hk h.rxOwn)))

theorem Keeps.ownIn {k : State → State} (h : Keeps s₀ s) (hk : ∀ {t}, Keeps s₀ t → Keeps s₀ (k t)) : KeepsNext s₀ (s.ownIn n k) :=
  h.ownFrame fun h => hk h.ctrlTake

theorem Keeps.execHello (h : Keeps s₀ s) : KeepsNext s₀ (execHello port addr arg nonce s) := h.ownIn fun h => h.lsxIn

theorem Keeps.execPauseTimerExpiry (h : Keeps s₀ s) : KeepsNext s₀ (execPauseTimerExpiry port cls s) := by
  unfold Machine.execPauseTimerExpiry
  split
  · exact .next (.ite h.pauseClass h)
  · exact .next h

theorem Keeps.steerCmd (h : Keeps s₀ s) : Keeps s₀ (s.steerCmd k) := .ite h (.ite h.setF h.upd.setF.setF.setF)

theorem Keeps.setInactive {b : List (Nat × Nat)} (h : Keeps s₀ s) : Keeps s₀ (s.setInactive b) := .ite h.upd.setF h.upd.setF

theorem Keeps.steerEnd (h : Keeps s₀ s) : Keeps s₀ (s.steerEnd result bad) := h.upd.setF.setF.setF

theorem Keeps.steerApply {r : List (BitVec 8)} (h : Keeps s₀ s) : Keeps s₀ (s.steerApply r) :=
  .ite h.setInactive (.ite h.setInactive (.ite h.bump.setInactive h.bump.addF))

theorem Keeps.steerLoad (h : Keeps s₀ s) : Keeps s₀ (s.steerLoad k left) := by
  induction left generalizing s k with
  | zero => exact h.steerEnd
  | succ left ih =>
    unfold State.steerLoad
    split
    · exact .ite h h.useUp.steerEnd
    · exact .ite h.steerEnd (ih h.steerApply)

theorem Keeps.execSteeringCommandDone (h : Keeps s₀ s) : KeepsNext s₀ (execSteeringCommandDone s) :=
  .ite (.next h) <|
  .ite (.ite (.next h.setInactive.bump.steerEnd) (.next h)) (.ite (.next h.setInactive.steerEnd) (.next h.setF.steerLoad))

theorem Keeps.imbWindow (h : Keeps s₀ s) : Keeps s₀ (s.imbWindow n) :=
  .ite h.setEmac <|
  .ite (.ite h.setEmac.setF.setEmac.upd.setEmac h.setEmac.setF.setEmac) (.ite h.setEmac.setF.setEmac.setF h.setEmac.setF.setEmac)

theorem Keeps.execSteeringDrainEnd (h : Keeps s₀ s) : KeepsNext s₀ (execSteeringDrainEnd port s) := by
  unfold Machine.execSteeringDrainEnd
  split
  · exact .next (.ite h.drainEnd h)
  · exact .next h

theorem Keeps.execWakeLoadDone (h : Keeps s₀ s) : KeepsNext s₀ (execWakeLoadDone port s) :=
  .ite (.next h) <| by split; exacts [.next h.setEmac.setF.setF, .ite (.next h) (.next h.useUp.setEmac.setF.setF.err)]

theorem Keeps.msecClear (h : Keeps s₀ s) : Keeps s₀ (s.msecClear n) := (h.each fun h => h.setF).setF.setF.setF

theorem Keeps.msecLoad (h : Keeps s₀ s) : Keeps s₀ (s.msecLoad n v) :=
  .ite h.msecClear.err (Keeps.ite h.setSec.setF.setF.setF h.setSec.setF.setF).msecClear

end

/-! ### Commands and events of queues and rings -/
section
variable {s₀ s : State} {q n f fn slot value size queue index v k i c : Nat}

theorem Keeps.pushEmpty (h : Keeps s₀ s) : Keeps s₀ (s.pushEmpty q) := h.setWq

theorem Keeps.dbTaken (h : Keeps s₀ s) : Keeps s₀ (s.dbTaken q) := h.count.wqShow.paceQueues

theorem Keeps.dbTail (h : Keeps s₀ s) : Keeps s₀ (s.dbTail q n) := .ite h.setWq.setQ.dbTaken (.ite h.pushEmpty h.pushEmpty.dbErr)

theorem Keeps.dbInvalidate (h : Keeps s₀ s) : Keeps s₀ (s.dbInvalidate q f) := .ite h.pushEmpty.dbErr h.setWq.dbTaken

theorem Keeps.doorbell (h : Keeps s₀ s) : Keeps s₀ (s.doorbell fn slot value) := by
  unfold State.doorbell
  split
  · exact h.refuse
  · exact .ite h.refuse (.ite h.pushEmpty.dbErr (.ite h.pushEmpty.dbErr (.ite h.dbTail h.dbInvalidate)))

theorem Keeps.slotWrite (h : Keeps s₀ s) : Keeps s₀ (s.slotWrite fn slot value size) := .ite h.refuse (.ite h.doorbell h)

theorem Keeps.execDescriptorFetch (h : Keeps s₀ s) : KeepsNext s₀ (execDescriptorFetch queue index s) :=
  .next <|
  .ite h <| by
    split
    · exact h
    · split
      · exact h.bump.setWq.wqShow
      · exact .ite h (h.faultWait.setWq.setQ.when fun h => h.dmaWake)

theorem Keeps.cutDesc {d : Desc} (h : Keeps s₀ s) : Keeps s₀ (s.cutDesc q d) :=
  .ite h.setSq.unwait.upd.descDone <|
  .ite (h.unwait.dropFrame.both (fun h => h.upd.setQ) fun h => h.upd).descDone <|
  .ite (by extract_lets; split; exacts [.ite (.ite h.dmaEndParked h.dmaReport) h.descDone, h.descDone]) <|
  .ite (by split; exacts [h.taskAbort, h.descDone]) (.ite h.rxUnused h.descDone)

theorem Keeps.wqKick (h : Keeps s₀ s) : Keeps s₀ (s.wqKick q) := .ite h.serve (.ite h.dmaWake h)

theorem Keeps.cut {p : Desc → Bool} (h : Keeps s₀ s) : Keeps s₀ (s.cut q p) := by
  unfold State.cut
  split
  · exact h
  · exact (h.foldl fun h => .ite h.cutDesc h).unless fun h => .ite h.rxSettle h.wqKick

theorem Keeps.unparkFetch (h : Keeps s₀ s) : Keeps s₀ (s.unparkFetch q) := .ite h (h.unwait.setWq.setQ.when fun h => h.dmaUnpark)

theorem Keeps.wqOn (h : Keeps s₀ s) : Keeps s₀ (s.wqOn q) := h.setQ.setQ.setQ.setQ.setWq.wqShow

theorem Keeps.wqOff (h : Keeps s₀ s) : Keeps s₀ (s.wqOff q) := h.setQ.unparkFetch.cut.setWq.wqShow

theorem Keeps.wqCfgWrite (h : Keeps s₀ s) : Keeps s₀ (s.wqCfgWrite fn q v) :=
  .ite (h.writePage.both (fun h => h.wqOn) fun h => .ite h.wqOff h) h.errOn

theorem Keeps.onWq {f : State → Nat → State} (h : Keeps s₀ s) (hk : ∀ {t x₁}, Keeps s₀ t → Keeps s₀ (f t x₁)) :
    Keeps s₀ (s.onWq fn k f) :=
  .ite h (.ite h.refuse <| by split; exacts [hk h, h])

theorem Keeps.onCq {f : State → Nat → State} (h : Keeps s₀ s) (hk : ∀ {t x₁}, Keeps s₀ t → Keeps s₀ (f t x₁)) :
    Keeps s₀ (s.onCq fn k f) :=
  .ite h (.ite h.refuse <| by split; exacts [hk h, h])

theorem Keeps.wqResume (h : Keeps s₀ s) : Keeps s₀ (s.wqResume q) := h.setQ.wqKick

theorem Keeps.wqAbort (h : Keeps s₀ s) : Keeps s₀ (s.wqAbort q) :=
  h.unparkFetch.cut.squashWaiting.setQ.setWq.setQ.wqShow.paceQueues

theorem Keeps.quiesce (h : Keeps s₀ s) : Keeps s₀ (s.quiesce i v) := h.setF.rsyShow

theorem Keeps.rsySquash (h : Keeps s₀ s) : Keeps s₀ (s.rsySquash i) := (h.foldl fun h => h.cut).rsyShow

theorem Keeps.cqOn (h : Keeps s₀ s) : Keeps s₀ (s.cqOn c) := h.setQ.setQ.setQ.setQ.setCq.cqShow

theorem Keeps.cqOff (h : Keeps s₀ s) : Keeps s₀ (s.cqOff c) := h.unwait.setQ.setQ.setQ.setQ.setCq.cqShow.rsyShow

theorem Keeps.cqCfgWrite (h : Keeps s₀ s) : Keeps s₀ (s.cqCfgWrite fn c v) :=
  .ite (h.writePage.both (fun h => h.cqOn) fun h => .ite h.cqOff h.cqEvent) h.errOn

theorem Keeps.cqHead (h : Keeps s₀ s) : Keeps s₀ (s.cqHead c v) := .ite h.setQ h.setQ.setCq.cqFlush.paceQueues

end

/-! ### Commands and events of translation -/
section
variable {s₀ s : State} {q c n i fid action die va inst vaddr hostErr count v : Nat}

theorem Keeps.serveOf (h : Keeps s₀ s) : Keeps s₀ (s.serveOf q) := .ite h h.serve

theorem Keeps.answerKpb {w : Waiter} {abort : Bool} (h : Keeps s₀ s) : Keeps s₀ (s.answerKpb w abort) := by
  unfold State.answerKpb
  extract_lets
  split
  · exact h
  · exact .ite h.descDone.serveOf h.setDesc.serveOf

theorem Keeps.answerTx {w : Waiter} {abort : Bool} (h : Keeps s₀ s) : Keeps s₀ (s.answerTx w abort) := by
  unfold State.answerTx
  extract_lets
  split
  · exact h.setQ
  · exact .ite h.setQ.dropFrame.descDone.txHead <| by
        extract_lets
        split
        · exact .ite h.setQ.setDesc.txDone h.setQ.setDesc
        · exact h.setQ.setDesc

theorem Keeps.answerDma {abort : Bool} (h : Keeps s₀ s) : Keeps s₀ (s.answerDma c abort) :=
  .ite h (.ite h.dmaEndParked h.dmaRetry)

theorem Keeps.answerTask {w : Waiter} {abort : Bool} (h : Keeps s₀ s) : Keeps s₀ (s.answerTask w abort) := by
  unfold State.answerTask
  split
  · exact h
  · exact h.setTask.tskShow

theorem Keeps.answerOp {w : Waiter} {abort : Bool} (h : Keeps s₀ s) : Keeps s₀ (s.answerOp w abort) := by
  unfold State.answerOp
  extract_lets
  split
  · exact h.answerTask
  · exact .ite h.answerTask.setOp.answerDma (.ite h.answerTask.setOp.opEnd h.answerTask.setOp)

theorem Keeps.answerPace {abort : Bool} (h : Keeps s₀ s) : Keeps s₀ (s.answerPace c abort) :=
  .ite h.setDma.dmaBoundary h.setDma.pace

theorem Keeps.answerTable {abort : Bool} (h : Keeps s₀ s) : Keeps s₀ (s.answerTable n abort) :=
  .ite h.treeBase h.setTree.setF.tableFlush.enumTurn.serve

theorem Keeps.answer {w : Waiter} {abort : Bool} (h : Keeps s₀ s) : Keeps s₀ (s.answer w abort) := by
  unfold State.answer
  exact
    have h := h.unwait
    by
      extract_lets
      split
      · exact h.answerKpb
      · exact h.answerKpb
      · exact h.answerTx
      · exact h.answerDma
      · exact h.setWq.setQ.both (fun h => (Keeps.ite h.halt h).dmaUnpark) fun h => .ite h.halt h
      · exact h.setCq.setQ.cqFlush
      · exact h.answerTask
      · exact h.answerOp
      · exact h.answerPace
      · exact h.answerTable
      · exact h

theorem Keeps.resume {abort : Bool} (h : Keeps s₀ s) : Keeps s₀ (s.resume i fid abort) := by
  unfold State.resume
  split
  · exact h.answer
  · exact h

theorem Keeps.resumeAll (h : Keeps s₀ s) : Keeps s₀ (s.resumeAll i) := h.foldl fun h => h.resume

theorem Keeps.resumeWrite (h : Keeps s₀ s) : Keeps s₀ (s.resumeWrite i action fid) :=
  .ite h.resume (.ite h.resume (.ite h.resumeAll h.errOn))

theorem Keeps.tlbAdd {t : TlbEnt} (h : Keeps s₀ s) : Keeps s₀ (s.tlbAdd t) := h.upd

theorem Keeps.tlbHit (h : Keeps s₀ s) : Keeps s₀ (s.tlbHit die i va) := by
  unfold State.tlbHit
  split
  · exact h.upd
  · exact h

theorem Keeps.execWalkComplete {write : Bool} (h : Keeps s₀ s) : KeepsNext s₀ (execWalkComplete die inst vaddr write hostErr s) :=
  .next <|
  .ite h <|
  have h := h.addF.count.count
  .ite h.tlbHit.bump <| by
    extract_lets
    split
    · exact h.addF.count.addF.count.bump.when fun h => h.upd
    · extract_lets
      split
      · exact .ite h.addF.count.addF.count.bump.tlbAdd h.addF.count.addF.count.bump
      · exact h.addF.count.addF.count.bump.tlbAdd

theorem Keeps.markStores {p : Nat → Option Nat → Nat → Bool} (h : Keeps s₀ s) : Keeps s₀ (s.markStores i p) := h.upd

theorem Keeps.priFail {w : Waiter} (h : Keeps s₀ s) : Keeps s₀ (s.priFail w) := h.upd.countFault.bump.count.fqFlush

theorem Keeps.dlogInv (h : Keeps s₀ s) : Keeps s₀ (s.dlogInv i va count) :=
  (Keeps.ite h.setF.addF.addF.upd.upd h.setF.addF.addF.upd).markStores.setXst

theorem Keeps.fqHead (h : Keeps s₀ s) : Keeps s₀ (s.fqHead i v) := .ite h.setF.fqFlush h.err

theorem Keeps.spillTail (h : Keeps s₀ s) : Keeps s₀ (s.spillTail i v) := .ite h.setF h.err

end

/-! ### The life cycle of a function's share of the device, and its mailbox -/
section
variable {s₀ s : State} {u seq i ty blk status cmd c q inst lo : Nat}

theorem Keeps.mbxView {tx rx : List (List (BitVec 8))} (h : Keeps s₀ s) : Keeps s₀ (s.mbxView u tx rx seq) :=
  h.setF.setF.setF.setF.setF

theorem Keeps.setMbx {m : Mbx} (h : Keeps s₀ s) : Keeps s₀ (s.setMbx i m) := h.upd.mbxView.mbxView

theorem Keeps.mbxPush {toMgr : Bool} {m : List (BitVec 8)} (h : Keeps s₀ s) : Keeps s₀ (s.mbxPush i toMgr m) :=
  (Keeps.ite h.setMbx h.setMbx).post

theorem Keeps.notice {toMgr : Bool} {body : List (BitVec 8)} (h : Keeps s₀ s) : Keeps s₀ (s.notice i toMgr ty body) :=
  .ite h (.ite h.mbxPush (.ite h.setMbx h.setMbx))

theorem Keeps.mbxSend {toMgr : Bool} (h : Keeps s₀ s) : Keeps s₀ (s.mbxSend i toMgr) := .ite h.setF h.mbxPush

theorem Keeps.mbxTake {toMgr : Bool} (h : Keeps s₀ s) : Keeps s₀ (s.mbxTake i toMgr) :=
  .ite (by split; exacts [.ite h.setMbx h.setMbx.mbxPush, h.setMbx]) <| by split; exacts [.ite h.setMbx h.setMbx.mbxPush, h.setMbx]

theorem Keeps.discardShadow (h : Keeps s₀ s) : Keeps s₀ (s.discardShadow blk u) :=
  (h.parts (Nat.le_refl _) id id (PMap.rising_filter _ _)).when fun h => h.errOn

theorem Keeps.clearPage (h : Keeps s₀ s) : Keeps s₀ (s.clearPage blk u) := h.parts (Nat.le_refl _) id (PMap.rising_filter _ _) id

theorem Keeps.suspendEntries (h : Keeps s₀ s) : Keeps s₀ (s.suspendEntries i) := h.upd

theorem Keeps.cmdEnd (h : Keeps s₀ s) : Keeps s₀ (s.cmdEnd i status) := h.setInst.setF.setF

theorem Keeps.cmdRefuse (h : Keeps s₀ s) : Keeps s₀ (s.cmdRefuse i) := h.setF

theorem Keeps.cmdStart (h : Keeps s₀ s) : Keeps s₀ (s.cmdStart i cmd) := h.setInst.setF

theorem Keeps.unfreeze (h : Keeps s₀ s) : Keeps s₀ (s.unfreeze i) := (h.setInst.foldl fun h => h.dmaGo).rxDrainAll

theorem Keeps.squashWaiter {w : Waiter} (h : Keeps s₀ s) : Keeps s₀ (s.squashWaiter w) :=
  have h := h.unwait
  .ite (by split; exacts [h.cutDesc, h]) <|
  .ite h.dmaEndParked (.ite (.ite h.setWq.setQ.dmaUnpark h.setWq.setQ) (.ite h.setCq.setQ (.ite h.setDma (.ite h.setTree.setF h))))

theorem Keeps.resetStart {endReady destroy : Bool} (h : Keeps s₀ s) : Keeps s₀ (s.resetStart i endReady destroy) :=
  .ite h.setInst <|
  (((((Keeps.ite h.cmdEnd h).both (fun h => h.setInst.each fun h => h.setF) fun h => h.setInst.setF.setF).foldl fun h =>
    h.cut).foldl fun h =>
        h.taskAbort).foldl fun h => h.squashWaiter).suspendEntries

theorem Keeps.instStart (h : Keeps s₀ s) : Keeps s₀ (s.instStart i) := .ite h.setF.cmdEnd h.cmdRefuse

theorem Keeps.instReset (h : Keeps s₀ s) : Keeps s₀ (s.instReset i) :=
  .ite h.cmdRefuse (.ite h.resetStart (.ite h.resetStart.cmdStart h.cmdRefuse))

theorem Keeps.instFreeze (h : Keeps s₀ s) : Keeps s₀ (s.instFreeze i) :=
  .ite h.cmdRefuse (h.setInst.cmdStart.foldl fun h => h.dmaStop).suspendEntries

theorem Keeps.instThaw (h : Keeps s₀ s) : Keeps s₀ (s.instThaw i) := .ite h.cmdRefuse h.setF.unfreeze.cmdEnd

theorem Keeps.instImage (h : Keeps s₀ s) : Keeps s₀ (s.instImage i cmd) := .ite h.cmdRefuse h.cmdStart

theorem Keeps.instDestroy (h : Keeps s₀ s) : Keeps s₀ (s.instDestroy i) := .ite h.cmdRefuse h.resetStart.cmdStart

theorem Keeps.instCmd (h : Keeps s₀ s) : Keeps s₀ (s.instCmd i cmd) := by
  unfold State.instCmd
  split
  · exact h.instStart
  · exact h.instReset
  · exact h.instFreeze
  · exact h.instThaw
  · exact h.instImage
  · exact h.instImage
  · exact h.instDestroy
  · exact h.errOn

theorem Keeps.busMaster (h : Keeps s₀ s) : Keeps s₀ (s.busMaster i) :=
  ((h.msixFlush.fqFlush.foldl fun h => h.cqFlush).foldl fun h => .ite h h.tableFlush).rxDrainAll

theorem Keeps.cutChan (h : Keeps s₀ s) : Keeps s₀ (s.cutChan c) := by
  unfold State.cutChan
  split
  · exact .ite h (.ite h.dmaEndParked h.dmaReport)
  · exact h

theorem Keeps.wqReset (h : Keeps s₀ s) : Keeps s₀ (s.wqReset q) := (h.foldl fun h => h.setQ).upd.wqShow

theorem Keeps.cqReset (h : Keeps s₀ s) : Keeps s₀ (s.cqReset c) := (h.foldl fun h => h.setQ).upd.cqShow

theorem Keeps.dlogReset (h : Keeps s₀ s) : Keeps s₀ (s.dlogReset i) :=
  (h.foldl fun h => h.parts (Nat.le_refl _) id (PMap.rising_del _ _) id).setXst

theorem Keeps.releaseGrant (h : Keeps s₀ s) : Keeps s₀ (s.releaseGrant i) :=
  (h.parts (Nat.le_refl _) id (PMap.rising_filter _ _) id).setF

theorem Keeps.execInstResetDrained (h : Keeps s₀ s) : KeepsNext s₀ (execInstResetDrained inst s) :=
  .next <|
  .ite h <|
  (((((((h.dlogInv.irqReset.foldl fun h => h.discardShadow).upd.foldl fun h => h.wqReset).foldl fun h => h.cqReset).unless fun h =>
            h.foldl fun h => h.upd.clearPage).both (fun h => h.dlogReset) fun h =>
              h.dlogReset.setMbx).clearPage.clearPage.setF.setF.setF.rsyShow.unless fun h =>
        h.foldl fun h => h.treeBase).both (fun h => h.addF.setInst.cmdEnd) fun h => h.addF.setInst).both (fun h => h.irqEval) fun h =>
    .ite h.notice.setF.releaseGrant.unbindLost.irqMode h.notice.setF.irqEval

theorem Keeps.putRegs {fs : List (Nat × Nat)} (h : Keeps s₀ s) : Keeps s₀ (s.putRegs lo fs) :=
  h.parts (Nat.le_refl _) id PMap.rising_foldl_put id

theorem Keeps.restore {x : Saved} (h : Keeps s₀ s) : Keeps s₀ (s.restore i x) :=
  (((((h.foldl fun h => h.putRegs.setWq).foldl fun h => h.putRegs.setCq).foldl fun h => h.putRegs.setDma).foldl fun h =>
    h.setF).setXst.setMbx.setF.setF.setInst.foldl fun h =>
      h.setByte).foldl fun h => h.setByte

theorem Keeps.execRestoreDone (h : Keeps s₀ s) : KeepsNext s₀ (execRestoreDone inst s) :=
  .next (.ite h <| by split; exacts [.ite h h.useUp.cmdEnd, h.cmdEnd, .ite h.restore.setF.cmdEnd h.cmdEnd])

end

/-! ### Reserve capacity, wear and fault containment -/
section
variable {s₀ s : State} {kind u d code cause q place source key dom unit : Nat}

theorem Keeps.rsvUse (h : Keeps s₀ s) : Keeps s₀ (s.rsvUse kind u) :=
  .ite h.setF.setF <|
  .ite h.setF <|
  .ite h.upd.setF (.ite h.setF (.ite h.setF (.ite h.setF (.ite h.upd.setF (.ite h.setF (.ite h.setF (.ite h.setF h)))))))

theorem Keeps.rsvReturn (h : Keeps s₀ s) : Keeps s₀ (s.rsvReturn kind u) :=
  .ite h.setF.setF <|
  .ite h.setF <|
  .ite h.upd.setF (.ite h.setF (.ite h.setF (.ite h.setF (.ite h.upd.setF (.ite h.setF (.ite h.setF (.ite h.setF h)))))))

theorem Keeps.newGen (h : Keeps s₀ s) : Keeps s₀ (s.newGen d) := .ite h.addF h

theorem Keeps.rsvRecord {w : Worn} (h : Keeps s₀ s) : Keeps s₀ (s.rsvRecord code w cause) := h.glnReserve

theorem Keeps.memSpent (h : Keeps s₀ s) : Keeps s₀ (s.memSpent u) := h.setF

theorem Keeps.rsvExhausted {w : Worn} (h : Keeps s₀ s) : Keeps s₀ (s.rsvExhausted w cause) :=
  .ite h (Keeps.ite h.upd.err (.ite h.upd.memSpent h.upd)).rsvRecord

theorem Keeps.nominate {w : Worn} (h : Keeps s₀ s) : Keeps s₀ (s.nominate w) := .ite h.rsvExhausted (.ite h h.upd)

theorem Keeps.quadDown (h : Keeps s₀ s) : Keeps s₀ (s.quadDown q) :=
  h.each fun h => .ite (.ite h h.linkTo) (.ite h.emacDown.bump h)

theorem Keeps.quadCut (h : Keeps s₀ s) : Keeps s₀ (s.quadCut q) := h.each fun h => .ite h.wireCut (.ite h.emit h)

theorem Keeps.rsvLost {w : Worn} (h : Keeps s₀ s) : Keeps s₀ (s.rsvLost w) := (Keeps.ite h.upd.quadDown h.upd).rsvExhausted

theorem Keeps.markFailed (h : Keeps s₀ s) : Keeps s₀ (s.markFailed kind u place) := h.upd

theorem Keeps.fault {w : Worn} (h : Keeps s₀ s) : Keeps s₀ (s.fault w) :=
  (h.upd.markFailed.both (fun h => h.upd) fun h => .ite h.upd.setF.satF h).both (fun h => h.rsvLost) fun h =>
    .ite (.ite h.upd.quadCut h.upd) (.ite h.upd.upd.quadDown h.upd.upd)

theorem Keeps.rsvIn {w : Worn} {fenced : Bool} (h : Keeps s₀ s) : Keeps s₀ (s.rsvIn w fenced) :=
  have h := h.rsvUse.upd
  .newGen <|
  .ite h.upd <|
  .ite (h.upd.when fun h => h.addF) <|
  .ite (h.setF.when fun h => h.each fun h => h.txResend.wireAgain) <|
  .ite h.bump.upd <|
  .ite (by
    extract_lets free
    clear_value free
    split
    · exact h.setF
    · exact h) <|
  .ite h.setF h

theorem Keeps.transient {w : Worn} (h : Keeps s₀ s) : Keeps s₀ (s.transient w) :=
  (Keeps.ite h.upd h.upd.rsvRecord).unless fun h => h.upd.nominate

theorem Keeps.trngFail (h : Keeps s₀ s) : Keeps s₀ (s.trngFail source) :=
  .ite h.satF.err.upd.setF.fault h.satF.err.upd.rsvUse.markFailed

theorem Keeps.degrade {w : Worn} (h : Keeps s₀ s) : Keeps s₀ (s.degrade w key) := .ite h h.upd.rsvRecord

theorem Keeps.stackLost (h : Keeps s₀ s) : Keeps s₀ (s.stackLost u) := (h.foldl fun h => h.setByte).bump

theorem Keeps.channelLost {w : Worn} {whole : Bool} (h : Keeps s₀ s) : Keeps s₀ (s.channelLost w whole) :=
  (Keeps.ite h.degrade (.ite h h.upd)).when fun h => h.stackLost

theorem Keeps.execFaultDetect {transient : Bool} (h : Keeps s₀ s) :
    KeepsNext s₀ (execFaultDetect kind dom unit place transient s) :=
  .next <|
  .ite h <|
  .ite h <|
  .ite (Keeps.ite h.count (.ite h.count (.ite h.satF.err h))).transient <|
  .ite h.trngFail (.ite h.nominate (.ite (.ite h.channelLost h.degrade) h.fault))

theorem Keeps.takeover (h : Keeps s₀ s) : Keeps s₀ (s.takeover kind u) := by
  unfold State.takeover
  split
  · exact h
  · exact .ite h (.ite h.upd.rsvLost (.ite h.upd.rsvIn h.upd.rsvIn.rsvRecord))

theorem Keeps.execRetire (h : Keeps s₀ s) : KeepsNext s₀ (execRetire kind unit s) :=
  .next <| by
    split
    · exact h
    · exact .ite h (.ite h.upd.rsvExhausted (.ite h.upd.rsvIn.rsvRecord.memSpent h.upd.rsvIn.rsvRecord))

theorem Keeps.execWinnowDone {passed : Bool} (h : Keeps s₀ s) : KeepsNext s₀ (execWinnowDone kind unit place passed s) :=
  .next (.ite h <| by split; exacts [.ite h (.ite h.upd.rsvReturn h.upd), .ite h h.rsvUse.markFailed.rsvRecord])

end

/-! ### Host ports -/
section
variable {s₀ s : State} {p : Nat}

theorem Keeps.hostDown (h : Keeps s₀ s) : Keeps s₀ (s.hostDown p) := (Keeps.ite h.satF.err h).setF.setF.setF.setF.setF

theorem Keeps.hostReset (h : Keeps s₀ s) : Keeps s₀ (s.hostReset p) := by
  unfold State.hostReset
  exact (h.hostDown.each fun h => .ite h.resetStart h).when fun h => h.resetStart

end

/-! ### The Drueg chain port -/
section
variable {s₀ s : State} {dst lvl ty a l count old : Nat}

theorem Keeps.setChain {c : Chain} (h : Keeps s₀ s) : Keeps s₀ (s.setChain c) := h.upd

theorem Keeps.chainPump {up : Bool} (h : Keeps s₀ s) : Keeps s₀ (s.chainPump up) := by
  unfold State.chainPump
  extract_lets
  split
  · exact h
  · exact .ite h h.setChain.emit

theorem Keeps.chainPut {up : Bool} {f : List (BitVec 8)} (h : Keeps s₀ s) : Keeps s₀ (s.chainPut up f) := h.setChain.chainPump

theorem Keeps.chainPass {up : Bool} {f : List (BitVec 8)} (h : Keeps s₀ s) : Keeps s₀ (s.chainPass up f) := h.chainPut

theorem Keeps.chainSend {up : Bool} {payload : List (BitVec 8)} (h : Keeps s₀ s) : Keeps s₀ (s.chainSend up dst lvl ty payload) :=
  h.upd.chainPut

theorem Keeps.chainTo {payload : List (BitVec 8)} (h : Keeps s₀ s) : Keeps s₀ (s.chainTo dst lvl ty payload) :=
  .ite h.chainSend.upd.chainSend h.chainSend

theorem Keeps.takeAddr (h : Keeps s₀ s) : Keeps s₀ (s.takeAddr a) := h.setF.upd

theorem Keeps.applyLvl (h : Keeps s₀ s) : Keeps s₀ (s.applyLvl l) := .ite h.setF.upd h.setF.upd.satF.err

theorem Keeps.walkOver {go : State → State} (h : Keeps s₀ s) (hk : ∀ {t}, Keeps s₀ t → Keeps s₀ (go t)) :
    Keeps s₀ (s.walkOver go) :=
  .ite (hk h.setF.upd) h.setF.upd

theorem Keeps.walkResult {overflow : Bool} (h : Keeps s₀ s) : Keeps s₀ (s.walkResult count lvl overflow) :=
  (Keeps.ite h.err h).setF.setF.chainSend.applyLvl

theorem Keeps.walkGo (h : Keeps s₀ s) : Keeps s₀ s.walkGo := .ite h.takeAddr.walkResult h.takeAddr.setF.upd.chainSend

theorem Keeps.walkStart (h : Keeps s₀ s) : Keeps s₀ s.walkStart := .ite h (.ite h.upd h.walkGo)

theorem Keeps.join (h : Keeps s₀ s) : Keeps s₀ s.join := .ite h h.chainSend

theorem Keeps.walkIn {f : List (BitVec 8)} (h : Keeps s₀ s) : Keeps s₀ (s.walkIn f) :=
  .ite h.err (.ite h.takeAddr.setF.chainSend (h.takeAddr.setF.both (fun h => h.chainSend) fun h => h.chainSend))

theorem Keeps.walkEndIn {f : List (BitVec 8)} (h : Keeps s₀ s) : Keeps s₀ (s.walkEndIn f) :=
  .ite h (h.walkResult.walkOver fun h => h.walkGo)

theorem Keeps.rxShow (h : Keeps s₀ s) : Keeps s₀ s.rxShow := h.setF.setF

theorem Keeps.msgIn {f : List (BitVec 8)} (h : Keeps s₀ s) : Keeps s₀ (s.msgIn f) := .ite h.satF h.upd.rxShow.err

theorem Keeps.chainIn {fromUp : Bool} {f : List (BitVec 8)} {wake : State → State} (h : Keeps s₀ s)
    (hk : ∀ {t}, Keeps s₀ t → Keeps s₀ (wake t)) :
    Keeps s₀ (s.chainIn fromUp f wake) :=
  .ite h.upd.satF <|
  .ite h.upd.satF <|
  .ite (.ite h.upd.walkIn h.upd) <|
  (Keeps.ite h.upd.chainPass h.upd).unless fun h =>
    .ite (.ite h.walkEndIn h) (.ite h.applyLvl (.ite h.walkStart (.ite (hk h) h.msgIn)))

theorem Keeps.lvlChanged (h : Keeps s₀ s) : Keeps s₀ (s.lvlChanged old) := .ite h (.ite h.walkStart h.join)

end

/-! ### Commits of register pages -/
section
variable {s₀ s : State} {u i v q most n p t point k blk arg lead at_ : Nat}

theorem Keeps.reshadow {F : Fld} (h : Keeps s₀ s) : Keeps s₀ (s.reshadow F u i v) :=
  h.parts (Nat.le_refl _) id id (PMap.rising_put _ _ _)

theorem Keeps.keep {fs : List (Fld × Nat)} (h : Keeps s₀ s) : Keeps s₀ (s.keep u fs) := h.foldl fun h => h.unshadow

theorem Keeps.vetSrds (h : Keeps s₀ s) : Keeps s₀ (s.vetSrds q) :=
  ((Keeps.ite h.reshadow h).when fun h => h.keep.err).when fun h => (Keeps.ite h.reshadow h).err

theorem Keeps.hubShow (h : Keeps s₀ s) : Keeps s₀ s.hubShow := h.setF.setF

theorem Keeps.afterSrds {old : State} (h : Keeps s₀ s) : Keeps s₀ (s.afterSrds old q) := .ite h.hubShow.upd h

theorem Keeps.clamp {F E : Fld} (h : Keeps s₀ s) : Keeps s₀ (s.clamp F E u most) := .ite h.reshadow.err h

theorem Keeps.vetKrp (h : Keeps s₀ s) : Keeps s₀ (s.vetKrp n) := h.clamp.clamp.clamp

theorem Keeps.afterKrp {old : State} (h : Keeps s₀ s) : Keeps s₀ (s.afterKrp old n) := by
  unfold State.afterKrp
  exact ((((Keeps.ite h.linkEnable h).when fun h => .ite h.linkUp h).when fun h => h.hportBit.upUnready).when fun h =>
    h.belowMin).overload.seqUpdate

theorem Keeps.vetKsch (h : Keeps s₀ s) : Keeps s₀ (s.vetKsch n) := (Keeps.ite h h.clamp).unless fun h => .ite h h.keep.err

theorem Keeps.afterKsch {old : State} {tbl : Bool} (h : Keeps s₀ s) : Keeps s₀ (s.afterKsch old n tbl) :=
  (Keeps.ite h (.ite (by split; exacts [h.takeCand, h]) h.setSq.overload.perUpdate)).overload.seqUpdate.when fun h =>
    h.abandonFrame

theorem Keeps.handover {old : State} (h : Keeps s₀ s) : Keeps s₀ (s.handover old p) :=
  (((h.parts (by split <;> omega) id id id).setPref.place.when fun h => h.setF).reliable.foldl fun h => h.setF).settleUnits.foldl fun h =>
    .ite h.setSq h

theorem Keeps.afterPref {old : State} (h : Keeps s₀ s) : Keeps s₀ (s.afterPref old p) :=
  .ite h.upd.handover (.ite (Keeps.ite h.upd.place h.upd).setPref (.ite h.upd.place h.upd))

theorem Keeps.vetPcu (h : Keeps s₀ s) : Keeps s₀ (s.vetPcu u) := .ite h.keep.errOn h

theorem Keeps.afterPcu {old : State} (h : Keeps s₀ s) : Keeps s₀ (s.afterPcu old u) :=
  (Keeps.ite h.abandonPos h).unless fun h => .ite h.disarm (.ite h.loadTarget h)

theorem Keeps.afterTrg {old : State} (h : Keeps s₀ s) : Keeps s₀ (s.afterTrg old t) :=
  .ite h.setPin.drivePin (.ite h.setPin.drivePin h.drivePin)

theorem Keeps.afterTime {old : State} (h : Keeps s₀ s) : Keeps s₀ (s.afterTime old) :=
  .ite (Keeps.ite h.upd h).upd.setF.setF (.ite h.upd h)

theorem Keeps.vetEmac (h : Keeps s₀ s) : Keeps s₀ (s.vetEmac n) := .ite h.keep.err h

theorem Keeps.afterEmac {old : State} (h : Keeps s₀ s) : Keeps s₀ (s.afterEmac old n) := by
  unfold State.afterEmac
  exact ((((Keeps.ite h.emacOff h).when fun h => h.txDown).each fun h => .ite h.setEmac h).when fun h => h.setEmac).when fun h =>
      .ite h.emacWiden h

theorem Keeps.vetEflt (h : Keeps s₀ s) : Keeps s₀ (s.vetEflt n) :=
  (Keeps.ite h.unshadow.err h).unless fun h => (Keeps.ite h.keep h).both (fun h => (Keeps.ite h.err h).err) fun h => .ite h.err h

theorem Keeps.afterEflt (h : Keeps s₀ s) : Keeps s₀ (s.afterEflt n) := .ite h.upd h.pauseUpdate

theorem Keeps.vetEstr (h : Keeps s₀ s) : Keeps s₀ (s.vetEstr n point) :=
  .ite h ((Keeps.ite h.unshadow h).both (fun h => (Keeps.ite h.err h).err) fun h => .ite h.err h)

theorem Keeps.afterEstr {old : State} (h : Keeps s₀ s) : Keeps s₀ (s.afterEstr old n) :=
  .ite (.ite (h.foldl fun h => .ite h h.drainStart) h) (h.each fun h => .ite h.rxMixed h).rxDrain

theorem Keeps.vetMsec (h : Keeps s₀ s) : Keeps s₀ (s.vetMsec n) := h.each fun h => .ite h.unshadow.err h

theorem Keeps.afterMsec {old : State} (h : Keeps s₀ s) : Keeps s₀ (s.afterMsec old n) :=
  h.each fun h => .ite (h.each fun h => h.setSec) h

theorem Keeps.vetStk (h : Keeps s₀ s) : Keeps s₀ (s.vetStk k) := by
  unfold State.vetStk
  exact .ite h.keep.err h

theorem Keeps.vetShf (h : Keeps s₀ s) : Keeps s₀ (s.vetShf k) := (h.each fun h => .ite h.reshadow.err h).when fun h => h.keep.err

theorem Keeps.afterShf {old : State} (h : Keeps s₀ s) : Keeps s₀ (s.afterShf old k) := h.upd.tskShow

theorem Keeps.vetDlog (h : Keeps s₀ s) : Keeps s₀ (s.vetDlog i point) := (Keeps.ite h.unshadow.err h).when fun h => h.keep.err

theorem Keeps.afterDlog {old : State} (h : Keeps s₀ s) : Keeps s₀ (s.afterDlog old i) :=
  ((Keeps.ite h.dlogInv h).when fun h => h.setF.setF.setXst).both (fun h => h.fqFlush.setXst.setF) fun h => h.fqFlush

theorem Keeps.vetInst (h : Keeps s₀ s) : Keeps s₀ (s.vetInst i) :=
  (Keeps.ite h ((Keeps.ite (Keeps.ite h.keep h).err (.ite h.keep h)).both (fun h => (Keeps.ite h.err h).err) fun h =>
    .ite h.err h)).when fun h =>
    h.keep.err

theorem Keeps.afterInst {old : State} (h : Keeps s₀ s) : Keeps s₀ (s.afterInst old i) :=
  .ite (.ite h.unbindLost h) <|
  .ite (.ite h.setF h) ((Keeps.ite h.setF.irqMode h).both (fun h => h.unbindLost) fun h => h.setF.unbindLost.notice)

theorem Keeps.vetPwr (h : Keeps s₀ s) : Keeps s₀ (s.vetPwr u) := .ite h.keep.err h

theorem Keeps.afterPwr {old : State} (h : Keeps s₀ s) : Keeps s₀ (s.afterPwr old u) :=
  .ite h ((Keeps.ite h.nrgEarly h).unless fun h => h.tariff)

theorem Keeps.afterNrg {old : State} (h : Keeps s₀ s) : Keeps s₀ (s.afterNrg old n) := .ite h (.ite h.nrgTurn h.nrgBreak)

theorem Keeps.vetGln (h : Keeps s₀ s) : Keeps s₀ s.vetGln := .ite h (.ite h.keep.err h.keep.setGln)

theorem Keeps.vetHost (h : Keeps s₀ s) : Keeps s₀ (s.vetHost p) := .ite h.keep.err h

theorem Keeps.afterHost {old : State} (h : Keeps s₀ s) : Keeps s₀ (s.afterHost old p) := .ite h.hostReset h

theorem Keeps.afterDev {old : State} (h : Keeps s₀ s) : Keeps s₀ (s.afterDev old) := .ite h.upd h

theorem Keeps.vet (h : Keeps s₀ s) : Keeps s₀ (s.vet blk u point) :=
  .ite h.vetSrds <|
  .ite h.vetKrp <|
  .ite h.vetKsch <|
  .ite h.vetPcu <|
  .ite h.vetEmac <|
  .ite (.ite h h.vetEflt) <|
  .ite h.vetEstr <|
  .ite h.vetMsec <|
  .ite h.vetStk (.ite h.vetShf (.ite h.vetDlog (.ite h.vetInst (.ite h.vetPwr (.ite h.vetGln (.ite h.vetHost h))))))

theorem Keeps.after {old : State} (h : Keeps s₀ s) : Keeps s₀ (s.after old blk u) :=
  .ite h.afterSrds <|
  .ite h.afterKrp <|
  .ite h.afterKsch <|
  .ite h.afterPref <|
  .ite h.afterPcu <|
  .ite h.afterTrg <|
  .ite h.afterTime <|
  .ite h.afterEmac <|
  .ite h.afterEflt <|
  .ite h.afterEstr <|
  .ite h.afterMsec <|
  .ite h.afterShf <|
  .ite h.afterDlog <|
  .ite h.afterInst (.ite h.afterPwr (.ite h.afterNrg (.ite h.setF (.ite h.lvlChanged (.ite h.afterHost (.ite h.afterDev h))))))

theorem Keeps.applyPage (h : Keeps s₀ s) : Keeps s₀ (s.applyPage blk u point) :=
  have hv := h.vet
  ((hv.parts (Nat.le_refl _) id PMap.rising_foldl_put (PMap.rising_filter _ _)).addF.setF.after).when fun h => h.post

theorem Keeps.group (h : Keeps s₀ s) : Keeps s₀ (s.group point arg lead at_) :=
  .ite h (.ite (.ite h h.bump) ((Keeps.ite h h.bump).upd.foldl fun h => h.applyPage))

theorem Keeps.epochWith (h : Keeps s₀ s) : Keeps s₀ (s.epochWith lead) := h.epochKeys.addF.upd.group.upd

theorem Keeps.epochBoundary (h : Keeps s₀ s) : Keeps s₀ s.epochBoundary := h.epochWith

theorem Keeps.epochForced (h : Keeps s₀ s) : Keeps s₀ s.epochForced := h.epochWith

end

/-! ### Firings of compare units and boundaries of frame sequencers -/
section
variable {s₀ s : State} {u at_ p v n port k : Nat}

theorem Keeps.fireTask {c : Int} {snap : List (BitVec 8)} (h : Keeps s₀ s) : Keeps s₀ (s.fireTask u c snap) :=
  .ite h (.ite h.taskCreate h.satF.err)

theorem Keeps.fireNow (h : Keeps s₀ s) : Keeps s₀ (s.fireNow u).1 := by
  unfold State.fireNow
  exact h.setPcu.fireTask.count.fireOnce

theorem Keeps.fires (h : Keeps s₀ s) : Keeps s₀ (s.fires u k).1 := by
  induction k generalizing s with
  | zero => exact h
  | succ k ih => exact .ite_fst (.ite_fst h.fireNow (ih h.fireNow)) h

theorem Keeps.fired {done : Bool} (h : Keeps s₀ s) : Keeps s₀ (s.fired u done at_) :=
  (Keeps.ite_fst h h.skipOver).both (fun h => (Keeps.ite h.setPcu.setF h.setPcu).group.abandonPos) fun h =>
    (Keeps.ite h.setPcu.setF h.setPcu).group

theorem Keeps.moveFires {back : Bool} {units f d : List Nat} (h : Keeps s₀ s) : Keeps s₀ (s.moveFires back units k f d).1 := by
  induction k generalizing s f d with
  | zero => exact h
  | succ k ih =>
    unfold State.moveFires
    split
    · exact h
    · exact ih h.fireNow

theorem Keeps.hostMove (h : Keeps s₀ s) : Keeps s₀ (s.hostMove p v) :=
  .ite h <|
  ((h.noticeMotion.both (fun h => (Keeps.ite h.place.setPref h.place.setPref.setF).moveFires.setF) fun h =>
        (Keeps.ite h.place.setPref h.place.setPref.setF).moveFires).foldl fun h => h.fired).moveUnits

theorem Keeps.loopCheck (h : Keeps s₀ s) : Keeps s₀ (s.loopCheck n) := .ite (.ite h h.setF.err) h.setF

theorem Keeps.boundary {filler time rev : Bool} {pos : Option Int} (h : Keeps s₀ s) :
    Keeps s₀ (s.boundary n filler time rev pos at_) :=
  h.boundaryFirst.group.unless fun h => (Keeps.ite h.boundaryRest.stepGo h.boundaryRest).serve

theorem Keeps.execPositionBoundary (h : Keeps s₀ s) : KeepsNext s₀ (execPositionBoundary port s) :=
  .next <|
  .ite h <| by
    extract_lets
    split
    · exact h.lookedTo
    · exact h.setSq.lookedTo.both (fun h => h.loopCheck) fun h => h.loopCheck.boundary

end

/-! ### Acceptance of descriptors -/
section
variable {s₀ s : State} {q queue : Nat}

theorem Keeps.taskTurn (h : Keeps s₀ s) : KeepsSome s₀ (s.taskTurn q) := by
  unfold State.taskTurn
  extract_lets
  split
  · exact .ite (.some h.wrrServe) .none
  · exact .none

theorem Keeps.acted {d : Desc} (h : Keeps s₀ s) : Keeps s₀ (s.acted q d) :=
  .ite h.serve <|
  .ite (by split; exacts [h.setDesc.taskCreate.txDown, h.txDown]) (.ite h.rxDrain (.ite h.dmaWake (.ite h.taskCreate h)))

theorem Keeps.accept {bs : List (BitVec 8)} (h : Keeps s₀ s) : Keeps s₀ (s.accept q bs) := by
  unfold State.accept
  extract_lets _ _ _ _ st _ d s₁ s₂ s₃ s₄ s₅
  have h₅ : Keeps s₀ s₅ := (Keeps.ite h.setWq.setQ.setQ.setQ h.setWq.setQ.setQ.setQ).setF.wqShow.cqShow.rsyShow
  clear_value s₅ st
  split
  · exact h₅.acted
  · exact h₅.setDesc.refuse.refuseLater
  · exact .ite h₅.txFail (.ite h₅.setDesc.rxSettle (.ite h₅.kpbDone h₅.descDone))

theorem Keeps.execDescriptorAccept (h : Keeps s₀ s) : KeepsNext s₀ (execDescriptorAccept queue s) :=
  .next <|
  .ite h <| by
    split
    · exact h
    · exact .ite (by split; exacts [(h.taskTurn.of ‹_›).accept.paceQueues, h]) h.accept.paceQueues

end

/-! ### Device states, the drain and telemetry -/
section
variable {s₀ s : State} {n status pin d v st q source unit detail : Nat}

theorem Keeps.pmReading (h : Keeps s₀ s) : Keeps s₀ (s.pmReading n) := h.pmRead.pmRead

theorem Keeps.telemetry {ok : Bool} (h : Keeps s₀ s) : Keeps s₀ (s.telemetry n status pin ok) :=
  .ite h <|
  ((Keeps.ite h.pmReading h.pmReading.pmReading).unless fun h => h.setF).both (fun h =>
    h.setPwr.setF.setF.setF.setF.nrgEstimate.nrgSample.switchFault) fun h => .ite h.setPwr h.setPwr.setF.nrgEstimate.nrgMissed

theorem Keeps.keysDrawn (h : Keeps s₀ s) : Keeps s₀ (s.keysDrawn d) := .ite h (.ite h.setF (.ite (h.each fun h => h.setF) h))

theorem Keeps.domUp (h : Keeps s₀ s) : Keeps s₀ (s.domUp d) := h.setF.newGen.keysDrawn

theorem Keeps.domForget (h : Keeps s₀ s) : Keeps s₀ (s.domForget d) := .ite h.upd.upd (.ite h.upd.upd h.upd)

theorem Keeps.coldRestart (h : Keeps s₀ s) : Keeps s₀ (s.coldRestart d) :=
  ((h.foldl fun h => (h.parts (Nat.le_refl _) id id (PMap.rising_filter _ _)).clearPage.when fun h =>
    h.errOn).domForget.newGen.keysDrawn.err.foldl fun h =>
      h.notice).notice.bump.glnReserve.bump.bump.bump

theorem Keeps.pmcLose (h : Keeps s₀ s) : Keeps s₀ (s.pmcLose d) := h.each fun h => .ite h (h.each fun h => h.setF.setF)

theorem Keeps.domBack (h : Keeps s₀ s) : Keeps s₀ (s.domBack d) :=
  .ite h (h.bump.setF.pmcLose.both (fun h => h.coldRestart) fun h => h.newGen)

theorem Keeps.quiesceAll (h : Keeps s₀ s) : Keeps s₀ (s.quiesceAll v) := h.each fun h => h.quiesce

theorem Keeps.drainEnd_ (h : Keeps s₀ s) : Keeps s₀ (s.drainEnd_ status) := h.upd.quiesceAll.setF

theorem Keeps.drainTo {reload : Bool} (h : Keeps s₀ s) : Keeps s₀ (s.drainTo st reload) := h.quiesceAll.upd

theorem Keeps.pwrCmd (h : Keeps s₀ s) : Keeps s₀ (s.pwrCmd st) :=
  .ite h.errOn (.ite h.setF (.ite h.setF (.ite (.ite h.wakeIdle.setF h.setF) (.ite h.setF.setF h.drainTo))))

theorem Keeps.quadOff (h : Keeps s₀ s) : Keeps s₀ (s.quadOff q) := h.each fun h => .ite h (.ite h.linkEnable h.emacDrop)

theorem Keeps.intPins {driven : Bool} (h : Keeps s₀ s) : Keeps s₀ (s.intPins driven) := h.foldl fun h => .ite h.emit h

theorem Keeps.powerDown {samples : List (Nat × Nat × Nat)} (h : Keeps s₀ s) : Keeps s₀ (s.powerDown st samples) :=
  ((((((h.epochForced.each fun h => .ite h.seqStop h).each fun h => h.abandonFrame).each fun h => h.abandonPos).each fun h =>
          .ite h h.quadOff).each fun h => h.hostDown).foldl fun h => h.telemetry).intPins.holdover

theorem Keeps.switchOff (h : Keeps s₀ s) : Keeps s₀ (s.switchOff st) :=
  ((h.each fun h => .ite h h.setF).when fun h => h.nrgGap).setF.upd

theorem Keeps.refsLost (h : Keeps s₀ s) : Keeps s₀ s.refsLost := h.each fun h => .ite h.unreliable h

theorem Keeps.powerExit {w : Nat × Nat × Nat × Nat} {during : Bool} (h : Keeps s₀ s) : Keeps s₀ (s.powerExit w during) :=
  (((h.wakeRecord.setF.foldl fun h => h.domBack).when fun h => h.refsLost).setF.upd.intPins.each fun h =>
      .ite (Keeps.ite h.linkEnable h).seqUpdate h).quiesceAll

theorem Keeps.wakeBy (h : Keeps s₀ s) : Keeps s₀ (s.wakeBy source unit detail) :=
  .ite h.wakeIdle (.ite h (.ite (.ite h.wakeTie h.upd.wakeRecord.emit) h.powerExit))

theorem Keeps.wakeAfter {w : Option (Nat × Nat × Nat × Nat)} (h : Keeps s₀ s) : Keeps s₀ (s.wakeAfter w) := by
  unfold State.wakeAfter
  split
  · exact h
  · exact .ite h (.ite h.upd.wakeRecord.emit h.powerExit)

end

/-! ### The boot flash -/
section
variable {s₀ s : State} {a len region slot : Nat}

theorem Keeps.sfdpRead (h : Keeps s₀ s) : Keeps s₀ s.sfdpRead := h.emit.emit

theorem Keeps.flashRead (h : Keeps s₀ s) : Keeps s₀ (s.flashRead a len) := h.emit

theorem Keeps.flashProgram {data : List (BitVec 8)} (h : Keeps s₀ s) : Keeps s₀ (s.flashProgram a region data) :=
  h.bump.emit.emit.emit.emit

theorem Keeps.dirWrite (h : Keeps s₀ s) : Keeps s₀ (s.dirWrite slot) := h.flashProgram.flashProgram.upd

theorem Keeps.imageRead {m : Image} (h : Keeps s₀ s) : Keeps s₀ (s.imageRead slot m) := .ite h.flashRead.flashRead h.flashRead

end

/-! ### Start-up and what survives a reset -/
section
variable {s₀ s : State} {why source st slot : Nat}

theorem Keeps.alwaysOn (h : Keeps s₀ s) : Keeps s₀ s.alwaysOn :=
  h.parts (Nat.le_refl _) (Memory.wf_filter _ _) (PMap.rising_filter _ _) fun _ => rfl

theorem Keeps.enterOff (h : Keeps s₀ s) : Keeps s₀ (s.enterOff why) :=
  (h.upd.each fun h => .ite h h.setF.setF).nrgGap.alwaysOn.upd.setF.setF.setF.both (fun h => h.setF.setF.setF.setF.emit) fun h =>
    h.setF.setF.setF.setF

theorem Keeps.porState (h : Keeps s₀ s) : Keeps s₀ s.porState :=
  h.parts (Nat.le_refl _) (Memory.wf_filter _ _) (fun _ => rfl) fun _ => rfl

theorem Keeps.repairOne {por : Bool} {f : Failed} (h : Keeps s₀ s) : Keeps s₀ (s.repairOne por f) :=
  .ite h (.ite h.rsvUse (.ite h.upd h.upd))

theorem Keeps.repairLoad {por : Bool} (h : Keeps s₀ s) : Keeps s₀ (s.repairLoad por) := h.setF.foldl fun h => h.repairOne

theorem Keeps.startUp (h : Keeps s₀ s) : Keeps s₀ (s.startUp source) :=
  .nrgEarly <|
  have h := h.upd.foldl fun h => h.domUp
  by
    extract_lets
    split
    · exact (Keeps.ite h h.sfdpRead.flashRead.repairLoad).setF.setF.setF.setF
    · exact (Keeps.ite h h.sfdpRead.flashRead.repairLoad).setF.setF.setF

theorem Keeps.startSupply (h : Keeps s₀ s) : Keeps s₀ s.startSupply := by
  unfold State.startSupply
  exact (Keeps.ite h.wakeRecord h.wakeRecord.emit).startUp

theorem Keeps.entryEnd {reload : Bool} (h : Keeps s₀ s) : Keeps s₀ (s.entryEnd st reload) :=
  .ite (h.upd.each fun h => .ite h h.setF).nrgGap.alwaysOn.startUp (.ite h.enterOff h.switchOff)

theorem Keeps.imageRuns {m : Image} {hostCtl : List Nat} (h : Keeps s₀ s) : Keeps s₀ (s.imageRuns slot m hostCtl) := by
  unfold State.imageRuns
  exact (h.setF.setF.setF.setF.setF.each fun h => .ite h h.setF.setF.setF.hostDown).both (fun h => h.setF.upd.walkStart) fun h =>
      h.setF.upd.join

theorem Keeps.entropyUp (h : Keeps s₀ s) : Keeps s₀ s.entropyUp := h.setF.setF.upd.setF.setF.setF.when fun h => h.upd

theorem Keeps.reseed (h : Keeps s₀ s) : Keeps s₀ s.reseed := .ite h.addF.entropyUp h.setF.setF.setF.setF.upd.err

end

/-! ### Commands and events of power, temperature and energy -/
section
variable {s₀ s : State} {why d temp k c band n : Nat}

theorem Keeps.entryAbandon (h : Keeps s₀ s) : Keeps s₀ s.entryAbandon := .ite h.drainEnd_ h

theorem Keeps.noReturn (h : Keeps s₀ s) : Keeps s₀ (s.noReturn why) := h.entryAbandon.nrgLoss.setF.setF.upd

theorem Keeps.tempIs (h : Keeps s₀ s) : Keeps s₀ (s.tempIs d temp) := by
  unfold State.tempIs
  extract_lets
  split
  · exact h.setF
  · exact h.setF.setF

theorem Keeps.throttleShow (h : Keeps s₀ s) : Keeps s₀ s.throttleShow := h.setF

theorem Keeps.clockIs (h : Keeps s₀ s) : Keeps s₀ (s.clockIs k c) := h.setF.upd.throttleShow

theorem Keeps.tariffSet (h : Keeps s₀ s) : Keeps s₀ (s.tariffSet band) := .ite h.setBand.bandHeld h

theorem Keeps.clearAcc (h : Keeps s₀ s) : Keeps s₀ (s.clearAcc n) := h.each fun h => h.setF

theorem Keeps.clearMax (h : Keeps s₀ s) : Keeps s₀ (s.clearMax n) := h.setF.setF

end

/-! ### Commands and events of the Drueg chain -/
section
variable {s₀ s : State} {dst : Nat}

theorem Keeps.chainWake (h : Keeps s₀ s) : Keeps s₀ s.chainWake := .ite h.satF h.wakeBy

theorem Keeps.chainFrame {is fromUp : Bool} {f : List (BitVec 8)} (h : Keeps s₀ s) : Keeps s₀ (s.chainFrame is fromUp f) :=
  .ite (h.chainIn fun h => h.chainWake) h

theorem Keeps.chainSoft (h : Keeps s₀ s) : Keeps s₀ s.chainSoft := .ite h.errOn h.chainTo

theorem Keeps.chainTake (h : Keeps s₀ s) : Keeps s₀ s.chainTake := h.upd.rxShow

theorem Keeps.chainWakeTo (h : Keeps s₀ s) : Keeps s₀ (s.chainWakeTo dst) := .ite h.errOn (.ite h h.chainTo)

theorem Keeps.reload (h : Keeps s₀ s) : Keeps s₀ s.reload := .ite h.setF h.drainTo

end

/-! ### Frames and packets that can wake the device -/
section
variable {s₀ s : State} {n port age : Nat}

theorem Keeps.wakeMatch {bs : List (BitVec 8)} (h : Keeps s₀ s) : Keeps s₀ (s.wakeMatch n bs) :=
  .ite h <| by split; exacts [h, h.setF.setF.wakeBy]

theorem Keeps.rxControl {bs : List (BitVec 8)} (h : Keeps s₀ s) : KeepsSome s₀ (s.rxControl n bs) :=
  .ite (.ite (.some h.pauseIn) (.ite (.some h.pfcIn) (.some h.ctrlDrop))) (.ite (.some (.ite h.ctrlTake.lsxIn h.ctrlTake)) .none)

theorem Keeps.execRxFrame {bytes : List (BitVec 8)} {fcsOk : Bool} (h : Keeps s₀ s) :
    KeepsNext s₀ (execRxFrame port bytes fcsOk age s) :=
  .next <|
  .ite h <|
  .ite h.addF <|
  .ite h.addF <|
  .ite h.addF <|
  .ite h.addF.addF.count.count.utilAdd.wakeMatch.addF <| by
    split
    · exact h.addF.addF.count.count.utilAdd.wakeMatch.rxControl.of ‹_›
    · exact h.addF.addF.count.count.utilAdd.wakeMatch.rxStages

theorem Keeps.pong {bs : List (BitVec 8)} (h : Keeps s₀ s) : Keeps s₀ (s.pong n bs) := .ite h.sendLnk.wakeBy h.sendLnk

theorem Keeps.execPing {pkt : Pkt} (h : Keeps s₀ s) : KeepsNext s₀ (execPing port pkt s) :=
  .next (.ite (h.askedIn fun h => h.pong) (.ite (.ite h.hubLocal.hubPinged h) (h.lnkIn fun h => h.pong)))

end

/-! ### Commands and events of start-up, flash, pins and host ports -/
section
variable {s₀ s : State} {status field value : Nat}

theorem Keeps.execImageAccepted {copies : List (BitVec 8) × List (BitVec 8)} {a b : Image} {hostCtl : List Nat} (h : Keeps s₀ s) :
    KeepsNext s₀ (execImageAccepted copies a b hostCtl s) :=
  .next <|
  .ite h <|
  h.bump.bump.upd.flashRead.flashRead.both (fun h => h.imageRead.imageRuns) fun h =>
    h.imageRead.err.imageRead.both (fun h => h.setF.imageRuns) fun h => h.setF.upd

theorem Keeps.imageConfig {cfg : List (Nat × Nat)} (h : Keeps s₀ s) : Keeps s₀ (s.imageConfig cfg) := by
  unfold State.imageConfig
  exact (((h.foldl fun h => by split; exacts [.ite (h.parts (Nat.le_refl _) id id (PMap.rising_put _ _ _)) h, h]).each fun h =>
          .ite h.applyPage h).each fun h => .ite h.applyPage h).when fun h => h.applyPage

theorem Keeps.execSeedlingService {cfg : List (Nat × Nat)} (h : Keeps s₀ s) : KeepsNext s₀ (execSeedlingService cfg s) :=
  .next (.ite h ((h.foldl fun h => h.domUp).imageConfig.setF.setF.upd.each fun h => .ite h.linkEnable h))

theorem Keeps.flashEnd (h : Keeps s₀ s) : Keeps s₀ (s.flashEnd status) := h.upd.setF.setF.unless fun h => h.err

theorem Keeps.flashBusy (h : Keeps s₀ s) : Keeps s₀ s.flashBusy := h.setF.err

theorem Keeps.flashWrite (h : Keeps s₀ s) : Keeps s₀ s.flashWrite := .ite h.flashBusy (.ite h.flashProgram.setF.upd h.flashEnd)

theorem Keeps.flashRestart (h : Keeps s₀ s) : Keeps s₀ s.flashRestart := .ite h.flashBusy (.ite h.flashEnd.startUp h)

theorem Keeps.flashSvn (h : Keeps s₀ s) : Keeps s₀ s.flashSvn := .ite h.flashBusy h.setF.upd.flashEnd

theorem Keeps.reseedNow (h : Keeps s₀ s) : Keeps s₀ s.reseedNow := .ite h.reseed h

theorem Keeps.execConfigurationRequest {dest : CfgTo} {write : Bool} (h : Keeps s₀ s) :
    KeepsNext s₀ (execConfigurationRequest dest field value write s) :=
  .next <|
  .ite h (.ite h.emit (.ite h.emit (.ite h.emit.bump (.ite h.upd.msixFlush.emit <| by split; exacts [h.emit, h.emit.bump]))))

end

/-! ### Register accesses of a function -/
section
variable {s₀ s : State} {fn blk u v point arg o size lo n c off i no sheaf seq : Nat}

theorem Keeps.actPage {k : State → Nat → Nat → State} (h : Keeps s₀ s) (hk : ∀ {t x₁ x₂}, Keeps s₀ t → Keeps s₀ (k t x₁ x₂)) :
    Keeps s₀ (s.actPage fn blk u k) := .ite h (.ite h.refuse (.ite (.ite h h.refuse) (.ite (.ite (hk h) h) h.refuse)))

theorem Keeps.snap (h : Keeps s₀ s) : Keeps s₀ (s.snap fn blk u) := h.upd

theorem Keeps.discard (h : Keeps s₀ s) : Keeps s₀ (s.discard blk u) :=
  .ite h.errOn (h.parts (Nat.le_refl _) id id (PMap.rising_filter _ _))

theorem Keeps.pageCtl (h : Keeps s₀ s) : Keeps s₀ (s.pageCtl fn blk u v) :=
  ((Keeps.ite h.setF.discard h.setF).when fun h => h.unlatch).when fun h => h.snap

theorem Keeps.pageCommit (h : Keeps s₀ s) : Keeps s₀ (s.pageCommit fn blk u point arg) :=
  .ite h.errOn (.ite h.upd (.ite h.unlatch.applyPage h.unlatch.upd))

theorem Keeps.headerWrite (h : Keeps s₀ s) : Keeps s₀ (s.headerWrite fn blk u o size v) :=
  .ite h.refuse (.ite h (.ite (.ite h.pageCommit h.errOn) (.ite h.pageCtl h.writePage)))

theorem Keeps.doIf {c : Bool} {k : State → State} (h : Keeps s₀ s) (hk : ∀ {t}, Keeps s₀ t → Keeps s₀ (k t)) :
    Keeps s₀ (s.doIf c k) :=
  .ite (hk h) h

theorem Keeps.treeReg {r : RegAt} (h : Keeps s₀ s) : KeepsSome s₀ (s.treeReg fn u r lo n v) :=
  .ite .none <|
  .ite (.some h.refuse) <|
  .ite (.some (.ite h.treeBase h.errOn)) <|
  .ite (.some h.treeAck) <|
  .ite (.some <|
    ((Keeps.ite h.writeReg h.writeReg.enumEn.serve).unless fun h => .ite h.powerOn h.powerOff).doIf fun h => h.rescan) <|
  .none

theorem Keeps.irqReg {r : RegAt} (h : Keeps s₀ s) : KeepsSome s₀ (s.irqReg fn u r lo n v) :=
  .ite (.ite (.some h.enWrite) (.ite (.some h.pendWrite) (.ite (.some h.srcCfgWrite) .none))) (.ite (.some h.irqComplete) .none)

theorem Keeps.queueReg {r : RegAt} (h : Keeps s₀ s) : KeepsSome s₀ (s.queueReg fn blk u r v) :=
  .ite (.ite (.some h.wqCfgWrite) <|
    .ite (.some ((h.doIf fun h => h.wqResume).doIf fun h => h.wqAbort)) <|
    .ite (.ite (.some h) (.some (((h.doIf fun h => h.quiesce).doIf fun h => h.quiesce).doIf fun h => h.rsySquash))) .none) <|
  .ite (.some h.cqCfgWrite) (.ite (.some h.cqHead) (.ite (.some (h.doIf fun h => h.setQ.cqEvent)) .none))

theorem Keeps.dmaReg {r : RegAt} (h : Keeps s₀ s) : KeepsSome s₀ (s.dmaReg fn c r v) :=
  .ite (.some h.dmaCtlWrite) <|
  .ite (.some ((((h.doIf fun h => h.dmaKick).doIf fun h => h.dmaStop).doIf fun h => h.dmaGo).doIf fun h => h.dmaDiscard)) .none

theorem Keeps.portReg {r : RegAt} (h : Keeps s₀ s) : KeepsSome s₀ (s.portReg fn blk u r v) :=
  .ite (.ite (.some ((h.doIf fun h => h.linkWidenCmd).doIf fun h => .ite h.linkRecover h)) .none) <|
  .ite (.ite (.some ((h.doIf fun h => h.admitGo).doIf fun h => h.dropCand)) .none) <|
  .ite (.ite (.some ((h.doIf fun h => h.emacWiden).doIf fun h => h.emacDrop)) .none) <|
  .ite (.ite (.some (h.doIf fun h => h.setEmac)) .none) <|
  .ite (.ite .none <|
    .ite (.some h.refuse) <|
    .ite (.some (h.doIf fun h => h.setEmac.upd)) <|
    .some (((h.doIf fun h => h.steerCmd).doIf fun h => h.steerCmd).doIf fun h => h.steerCmd)) <|
  .ite (.ite (.some (h.doIf fun h => h.msecLoad)) .none) <|
  .ite (.ite (.some h.prefSet) (.ite (.some h.hostMove) (.ite (.some h.hostVel) .none))) <|
  .ite (.ite (.some h.pcuArm) .none) (.ite (.some h.timeCmd) (.ite (.some h.setF) .none))

theorem Keeps.deviceReg {r : RegAt} (h : Keeps s₀ s) : KeepsSome s₀ (s.deviceReg fn blk u r v) :=
  .ite (.ite (.some (h.doIf fun h => h.upd)) .none) <|
  .ite (.ite (.some (((h.doIf fun h => h.flashWrite).doIf fun h => h.flashRestart).doIf fun h => h.flashSvn)) .none) <|
  .ite (.ite (.some (.ite h.errOn h.pwrCmd)) (.ite (.some (h.doIf fun h => h.tariffSet)) .none)) <|
  .ite (.ite (.some ((h.doIf fun h => h.clearMax).doIf fun h => h.clearAcc)) .none) <|
  .ite (.ite (.some h.glnSoft) .none) <|
  .ite (.ite (.some (h.doIf fun h => h.reseedNow)) .none) <|
  .ite (.ite (.some <|
      ((((h.doIf fun h => h.walkStart).doIf fun h => h.chainSoft).doIf fun h => h.chainTake).doIf fun h => h.chainWakeTo).doIf fun h =>
        h.reload) <|
    .none) <|
  .ite (.ite (.some (h.doIf fun h => h.shfLoad)) .none) <|
  .ite (.ite (.some h.resumeWrite) (.ite (.some h.dlogInv) (.ite (.some h.fqHead) (.ite (.some h.spillTail) .none)))) <|
  .ite (.ite (.some (.ite h.refuse h.instCmd)) .none) <|
  .ite (.ite (.some ((h.doIf fun h => h.mbxSend).doIf fun h => h.mbxTake)) .none) .none

theorem Keeps.cmdReg {r : RegAt} (h : Keeps s₀ s) : KeepsSome s₀ (s.cmdReg fn blk u r lo n v) :=
  .ite h.treeReg (.ite h.irqReg (.ite h.queueReg (.ite h.dmaReg (.ite (.ite (.some h.setF) .none) (.ite h.portReg h.deviceReg)))))

theorem Keeps.wrote {old : State} {r : RegAt} (h : Keeps s₀ s) : Keeps s₀ (s.wrote old blk u r) :=
  .ite h.irqEval (.ite (Keeps.ite h.setF h).dmaWake (.ite (.ite h.setF.upd h) (.ite (.ite h h.upd) (.ite h.dropCand h))))

theorem Keeps.hostReg (h : Keeps s₀ s) : Keeps s₀ (s.hostReg fn blk u o n v) := by
  unfold State.hostReg
  split
  · exact h
  · exact .ite h.refuseMgr.errOn (.ite (.ite h.refuse h) <| by split; exacts [h.cmdReg.of ‹_›, .ite h.refuse h.writeReg.wrote])

theorem Keeps.pageWrite (h : Keeps s₀ s) : Keeps s₀ (s.pageWrite fn blk u o size v) :=
  .ite h.headerWrite <| by
    extract_lets
    split
    · exact .ite h.errOn (.ite h.hostReg h)
    · exact .ite h.errOn (.ite h.hostReg.hostReg h.hostReg)

theorem Keeps.hostWrite (h : Keeps s₀ s) : Keeps s₀ (s.hostWrite fn off size v) :=
  .ite h (.ite h.refuse <| by split; exacts [.ite h.refuse (.ite h.pageWrite h), h])

theorem Keeps.execPageCrossingRead (h : Keeps s₀ s) : KeepsNext s₀ (execPageCrossingRead fn off size s) :=
  .ite .fault <|
  .ite (.next h) (.ite (.next h.refuse.refuseLater.upd) (.next <| by split; exacts [(Keeps.ite h.errOn h).upd, h.upd]))

theorem Keeps.commitCmd (h : Keeps s₀ s) : Keeps s₀ (s.commitCmd fn blk u point arg) := h.actPage fun h => h.headerWrite

theorem Keeps.ctlCmd (h : Keeps s₀ s) : Keeps s₀ (s.ctlCmd fn blk u v) := h.actPage fun h => h.headerWrite

theorem Keeps.refusalEnd {r : Refused} (h : Keeps s₀ s) : Keeps s₀ (s.refusalEnd r) :=
  .ite h.upd (.ite (by split; exacts [h.descDone, h]) h.opEnd)

theorem Keeps.releaseHeld {held : List Held} (h : Keeps s₀ s) : Keeps s₀ (s.releaseHeld i held) :=
  h.foldl fun h => by split; exacts [h.releaseStore, h.doorbell, h.hostWrite]

theorem Keeps.hookedTx {t : Task} (h : Keeps s₀ s) : Keeps s₀ (s.hookedTx t) := by
  unfold State.hookedTx
  split
  · exact h
  · exact .ite h (.ite h.txFail h.setDesc.txDown)

theorem Keeps.listed (h : Keeps s₀ s) : Keeps s₀ (s.listed n no) := .ite h.setSq h

theorem Keeps.taskEnd {t : Task} (h : Keeps s₀ s) : Keeps s₀ (s.taskEnd t) :=
  (h.ownWrite.rsyShow.both (fun h => h.bump.taskQDone) fun h => .ite h.hookedTx (.ite h.listed h)).taskGone.rxDrainAll

theorem Keeps.commitTask {t : Task} {last : Bool} {held : List Held} (h : Keeps s₀ s) : Keeps s₀ (s.commitTask t last held) :=
  h.addF.count.sampleOut.count.count.setTask.releaseHeld.when fun h => h.taskEnd

theorem Keeps.execCommitInstant (h : Keeps s₀ s) : KeepsNext s₀ (execCommitInstant sheaf seq s) :=
  .next <| by
    split
    · exact h
    · split
      · exact h
      · exact .ite h <|
          .ite h.except <| by
            split
            · exact h.suspend
            · exact .ite h <| by
                  split
                  · exact h.commitTask
                  · split
                    · exact h.taskFault.of_gone ‹_›
                    · exact h

end

/-! ### Every command -/

theorem exec_keeps (c : Instr) (s : State) : KeepsNext s (exec c s) := by
  have h : Keeps s s := .refl
  cases c with
  | registerWrite => exact .ite (.next h.hostWrite) .fault
  | pageCrossingRead => exact h.execPageCrossingRead
  | pageCommitCancel => exact .next h.commitCmd
  | pageCommitNow => exact .next h.commitCmd
  | pageCommitFrame => exact .next h.commitCmd
  | pageCommitEpoch => exact .next h.commitCmd
  | pageCommitPosition => exact .next h.commitCmd
  | pageCtlDiscard => exact .next h.ctlCmd
  | pageCtlRelease => exact .next h.ctlCmd
  | pageCtlSnap => exact .next h.ctlCmd
  | snapshotTimeout => exact .next <| by split; exacts [.ite h.upd h, h]
  | epochAdvance => exact .next (h.act fun h => h.upd)
  | epochTimerExpiry => exact .next (.ite h.upd h)
  | epochBoundary => exact .next (.ite h.epochBoundary h)
  | instanceRefusedAccess => exact .ite .fault (.next (.ite h (.ite h.refuse h.refuse.refuseLater)))
  | refusalDone => exact .next <| by split; exacts [.ite h.upd.refusalEnd h, h]
  | ts => exact .next (.ite (.ite h.hportTs h) (.ite h.tsIn.serve.enumTurn h))
  | eie => exact .next (.ite (.ite (.ite h.laneIdle.stepGo h.laneIdle.setLink) h.laneIdle) h)
  | eix => exact .next (.ite (by split; exacts [h, .ite h.setLink.kpbReset h.setLink]) h)
  | wsw => exact .next (.ite h.setLink h)
  | fecUncorrectable => exact .next (.ite (.ite h.addF.err.linkRecover h.addF) h)
  | blockLockLoss => exact .next (.ite h.hportSilent (.ite h.linkRecover h))
  | presentTimeout => exact .next (.ite (.ite h.hportSilent h) (.ite h.linkTo h))
  | configTimeout => exact .next (.ite h.hportTimeout (.ite h.configFailed h))
  | retrainTimeout => exact .next (.ite h.linkReconfig h)
  | dat => exact .next (h.packetIn fun h => h.datIn)
  | ack => exact .next (h.packetIn fun h => h.ackIn)
  | nak => exact .next (h.packetIn fun h => h.nakIn)
  | kpbStl => exact .next (h.packetIn fun h => h.stlIn)
  | bur => exact .next (h.packetIn fun h => h.burIn)
  | hub => exact .next (h.packetIn fun h => h.hubIn)
  | ping => exact h.execPing
  | pong => exact .next <| h.lnkIn fun h => by split; exacts [.ite h.setLink h, h]
  | shedAck => exact .next (h.lnkIn fun h => .ite h.linkWidth h)
  | widenAck => exact .next (h.lnkIn fun h => .ite h.setLink.widenGo h)
  | stepAck => exact .next (h.lnkIn fun h => .ite h.setLink h)
  | refuse => exact .next (h.lnkIn fun h => .ite h (.ite h.setLink.linkGo (.ite h.setLink.linkGo h)))
  | shedReq => exact .next (h.askedIn fun h => h.sendLnk)
  | widenReq => exact .next (h.askedIn fun h => h.sendLnk)
  | stepReq => exact .next (h.askedIn fun h => h.setLink.sendLnk)
  | hubRoleDownstreamPacket => exact .next (.ite (.ite h.receive.hubDown h.receive) h)
  | responseTimeout => exact .next <| by split; exacts [.ite h.stepTimeout.serve.stepCheck h, h]
  | krpCmdRetrain => exact .next (h.act fun h => .ite h.linkRecover h)
  | krpCmdWiden => exact .next (h.act fun h => h.linkWidenCmd)
  | kpbUtilWindow => exact .next (.ite (.ite h.addF.count.utilWindow h.addF.count.setLink) h)
  | kpbShedStart => exact .next (.ite h.linkAsk h)
  | kpbStepDownStart => exact .next (.ite h.linkStep h)
  | kpbWidenStart => exact .next (.ite h.linkUp h)
  | stepWaitLimit => exact .next (.ite h.setLink h)
  | pingTimer => exact .next (.ite h.setLink.bump.sendLnk h)
  | portResetIdleEnd => exact .next <| by split; exacts [.ite h.setLink.detectAgain h, h]
  | enumDebounceEnd => exact .next <| by split; exacts [h, .ite h (.ite h.setTree h.setTree)]
  | enumPortTurn => exact .next h.enumTurn.serve
  | enumWaitEnd => exact h.execEnumWaitEnd
  | enumAttemptTimeout => exact .next <| by split; exacts [.ite h.setSq.bump.enumFail.serve h, h]
  | hubStatusPoll => exact .next <| by split; exacts [.ite h.setTree.serve h, h]
  | khubTreeBaseWrite => exact .next (h.actTree fun h => .ite h.treeBase h.errOn)
  | khubTreeAckWrite => exact .next (h.actTree fun h => h.treeAck)
  | enumEnWrite => exact .next (h.actTree fun h => h.enumEn.serve)
  | rescan => exact .next (h.actTree fun h => h.rescan)
  | portPowerOn => exact .next (h.actTree fun h => h.powerOn)
  | portPowerOff => exact .next (h.actTree fun h => h.powerOff)
  | powerStaggerAllows => exact .next h.powerAllow
  | powerGood => exact .next (.ite h.pmRead.setF.setF h)
  | powerGoodTimeout => exact .next <| by split; exacts [.ite h.pmOperation.setF.err h, h]
  | pmbAlert => exact .next (h.emit.emit.setF.foldl fun h => .ite h.pmRead.switchFault h)
  | telemetryPoll => exact .next h.telemetry
  | encoderEdge => exact .next (.ite h.encoderEdge.count h)
  | glitch => exact .next (.ite h (h.satF.count.unless fun h => .ite h.setPref.setF.unreliable h.setPref))
  | indexEdge => exact h.execIndexEdge
  | standstill => exact .next (.ite h.freeze.setF h)
  | srcLost => exact .next (.ite h.freeze.prefFlag.unreliable h)
  | prefSet => exact .next (h.act fun h => h.prefSet)
  | prefHostMove => exact .next (h.act fun h => h.hostMove)
  | prefHostVel => exact .next (h.act fun h => h.hostVel)
  | pcuFire => exact .next (.ite h.fires.fired h)
  | pcuArmArm => exact .next (h.act fun h => h.pcuArm)
  | pcuArmDisarm => exact .next (h.act fun h => h.pcuArm)
  | pinAction => exact h.execPinAction
  | pulseEnd => exact .next h.endPulse
  | ppsIn => exact .next (.ite h (.ite h.upd.setF.setF.setF.ppsServo h.upd.setF.setF.setF))
  | ref10mLoss => exact .next (.ite h (.ite h.upd.setF.holdover h.upd.setF))
  | ppsMissing => exact .next (.ite h (.ite h.setF.holdover h.setF))
  | timeCmdSet => exact .next (h.act fun h => h.timeCmd)
  | timeCmdStep => exact .next (h.act fun h => h.timeCmd)
  | timeRateWrite => exact .next (h.act fun h => h.setF)
  | ppsOutSecond => exact .next (.ite (.ite h.upd.ppsPulse h.upd) h)
  | ppsOutPulseEnd => exact .next <| by split; exacts [.ite h.upd.emit h, h]
  | positionBoundary => exact h.execPositionBoundary
  | timeBoundary => exact .next (.ite h.loopCheck.boundary h)
  | fillerBoundary => exact .next (.ite h.loopCheck.boundary h)
  | frmDepart => exact .next (.ite h.frmLeave.frameSamples.serve.stepCheck h)
  | serviceEnd => exact h.execServiceEnd
  | serviceResponseTimeout => exact .next <| by split; exacts [h, .ite h.setSq.svcOver.serve.stepCheck h]
  | controlTurnTimer => exact .next (.ite h.setSq.serve h)
  | kschCmdAdmit => exact .next (h.act fun h => h.admitGo)
  | admissionDone => exact .next (.ite h.admission.perUpdate h)
  | candValid => exact .next (.ite h.setF h)
  | kschCmdDropCand => exact .next (h.act fun h => h.dropCand)
  | doorbellTail => exact .next h.slotWrite
  | doorbellInvalidate => exact .next h.slotWrite
  | pushWindowWrite => exact .next <| by split; exacts [h.refuse, .ite h.refuse (.ite h h.setWq)]
  | descriptorFetch => exact h.execDescriptorFetch
  | descriptorAccept => exact h.execDescriptorAccept
  | wqEnable => exact .next (h.onWq fun h => h.wqCfgWrite)
  | wqDisable => exact .next (h.onWq fun h => h.wqCfgWrite)
  | wqCmdResume => exact .next (h.onWq fun h => h.wqResume)
  | wqCmdAbort => exact .next (h.onWq fun h => h.wqAbort)
  | wqRsyCtlQuiesce => exact .next (.ite h (h.actOwn fun h => h.quiesce))
  | wqRsyCtlResume => exact .next (.ite h (h.actOwn fun h => h.quiesce))
  | wqRsyCtlSquash => exact .next (.ite h (h.actOwn fun h => h.rsySquash))
  | cqEnable => exact .next (h.onCq fun h => h.cqCfgWrite)
  | cqHeadWrite => exact .next (h.onCq fun h => h.cqHead)
  | cqArm => exact .next (h.onCq fun h => h.setQ.cqEvent)
  | coalesceTimeout => exact .next (.ite h.cqEvent h)
  | dmaEnable => exact .next (h.act fun h => h.dmaCtlWrite)
  | dmaDisable => exact .next (h.act fun h => h.dmaCtlWrite)
  | dmaCmdKick => exact .next (h.act fun h => h.dmaKick)
  | dmaCmdStop => exact .next (h.act fun h => h.dmaStop)
  | dmaCmdGo => exact .next (h.act fun h => h.dmaGo)
  | dmaCmdDiscardParked => exact .next (h.act fun h => h.dmaDiscard)
  | dmaPoll => exact .next (.ite h (.ite h.dmaExamine (.ite h.setDma.dmaBoundary h)))
  | dmaRingRead => exact .next (.ite h.dmaExamine h)
  | dmaDescriptorEnd => exact .next (.ite h.dmaRun h)
  | txFrameFetched => exact .ite (.next h) <| by split; exacts [.next h.txFetch, .next h]
  | txFrameStart => exact .next h.txStart
  | txFrameEnd => exact .next (Keeps.ite h.txEnd.setEmac.emacDrop h.txEnd).txDown
  | rxFrame => exact h.execRxFrame
  | emacLinkUp => exact .ite (.next h.emacUp) (.next h)
  | emacLinkDown => exact .next h.emacDown
  | emacCmdRetrain => exact .next (h.act fun h => h.emacDrop)
  | emacCmdWiden => exact .next (h.act fun h => h.emacWiden)
  | hello => exact h.execHello
  | helloTimer => exact .ite (.next h.lsxFrame.setEmac.bump) (.next h)
  | helloAbsence => exact .ite (.next h.setF.setF) (.next h)
  | lsxShedReq => exact h.ownIn fun h => h.lsxIn
  | lsxShedAck => exact h.ownIn fun h => h.lsxIn
  | lsxWidenReq => exact h.ownIn fun h => h.lsxIn
  | lsxWidenAck => exact h.ownIn fun h => h.lsxIn
  | lsxRefuse => exact h.ownIn fun h => h.lsxIn
  | lsxShedStart => exact .next ((Keeps.ite h.utilRoll h).when fun h => h.lsxAsk)
  | lsxWidenStart => exact .next (.ite h.emacWiden h)
  | lsxAnswerTimeout => exact .ite (.next h.setEmac) (.next h)
  | lsxSwitch => exact .ite (.next h.utilRoll.setF.setEmac) (.next h)
  | lsxRealigned => exact .ite (.next (.ite h.setF.satF.setEmac.emacWiden h.setF.satF.setEmac)) (.next h)
  | lsxRealignFail => exact .ite (.next h.emacDrop.err.setEmac) (.next h)
  | pauseFrame => exact h.ownFrame fun h => h.pauseIn
  | pfcFrame => exact h.ownFrame fun h => h.pfcIn
  | pauseTimerExpiry => exact h.execPauseTimerExpiry
  | pauseResend => exact .next (.ite h.pauseSend h)
  | estrLoadCmdClear => exact .next (h.act fun h => h.steerCmd)
  | estrLoadCmdCopy => exact .next (h.act fun h => h.steerCmd)
  | estrLoadCmdLoad => exact .next (h.act fun h => h.steerCmd)
  | steeringCommandDone => exact h.execSteeringCommandDone
  | estrCmdRekey => exact .next (h.act fun h => h.setEmac.upd)
  | imbalanceWindow => exact .ite (.next h.imbWindow) (.next h)
  | steeringDrainEnd => exact h.execSteeringDrainEnd
  | efltWakeCmdLoad => exact .next (h.act fun h => h.setEmac)
  | wakeLoadDone => exact h.execWakeLoadDone
  | msecKeyCmdLoad => exact .next (h.act fun h => .ite h.msecLoad h)
  | taskDispatch => exact .next (.ite h.unstall.dispatchOne h)
  | commitInstant => exact h.execCommitInstant
  | taskDeadlineMiss => exact .next (.ite h.deadlines.tskShow h)
  | tillerFailure => exact .next <| by split; exacts [h, .ite h h.fault.bump.replay]
  | shfLoadCmdLoad => exact .next (h.act fun h => h.shfLoad)
  | programLoadDone => exact h.execProgramLoadDone
  | add => exact .next h.alu
  | sub => exact .next h.alu
  | and => exact .next h.alu
  | or => exact .next h.alu
  | xor => exact .next h.alu
  | nor => exact .next h.alu
  | slt => exact .next h.alu
  | sltu => exact .next h.alu
  | sll => exact .next h.alu
  | srl => exact .next h.alu
  | sra => exact .next h.alu
  | ror => exact .next h.alu
  | mul => exact .next h.alu
  | mulhu => exact .next h.alu
  | min => exact .next h.alu
  | max => exact .next h.alu
  | minu => exact .next h.alu
  | maxu => exact .next h.alu
  | clz => exact .next h.alu
  | popc => exact .next h.alu
  | bswap => exact .next h.alu
  | addi => exact .next h.imm
  | andi => exact .next h.imm
  | ori => exact .next h.imm
  | xori => exact .next h.imm
  | slti => exact .next h.imm
  | sltiu => exact .next h.imm
  | lui => exact .next h.imm
  | shi => exact .next h.imm
  | shfiSll => exact .next (h.tiller fun h => h.result)
  | shfiSrl => exact .next (h.tiller fun h => h.result)
  | shfiSra => exact .next (h.tiller fun h => h.result)
  | shfiRor => exact .next (h.tiller fun h => h.result)
  | ldl => exact .next (h.tiller fun h => .ite .exc (.ite .wait h.bump.result))
  | stl => exact .next (h.tiller fun h => .ite .exc (.ite .wait (.next h)))
  | ldx => exact h.execLdx
  | stx => exact .next (h.tiller fun h => .ite .exc h.holdStore)
  | stxw => exact .next (h.tiller fun h => .ite .exc (.ite .exc (.ite .wait h.holdStore)))
  | beq => exact .next h.condBranch
  | bne => exact .next h.condBranch
  | blt => exact .next h.condBranch
  | bge => exact .next h.condBranch
  | bltu => exact .next h.condBranch
  | bgeu => exact .next h.condBranch
  | j => exact .next (h.tiller fun h => .branch h)
  | jal => exact .next (h.tiller fun h => .branch h)
  | jr => exact .next (h.tiller fun h => .ite .exc (.branch h))
  | jalr => exact .next (h.tiller fun h => .ite .exc (.branch h))
  | mfs => exact .next <| h.tiller fun h => by split; exacts [h.result, .exc]
  | mts => exact h.execMts
  | eret => exact .next (h.tiller fun h => .ite (.goto h) .exc)
  | endTask => exact .next <| h.tiller fun h => by split; exacts [.ite (.gone h.atEnd) (.gone h.hookFail), h.toCommit]
  | cmt => exact .next (h.tiller fun h => h.toCommit)
  | trap => exact .next (h.tiller fun _ => .exc)
  | loop => exact .next (h.tiller fun h => .ite .exc (.ite (.goto h) (.ite (.next h) (.next h))))
  | mode => exact .next (h.tiller fun h => .next h)
  | dbell => exact .next (h.tiller fun h => h.hold_)
  | pgw => exact .next (h.tiller fun h => h.hold_)
  | sdma => exact .next (h.tiller fun h => .ite .exc h.bump.issueDma)
  | sget => exact .next h.getPut
  | sput => exact .next h.getPut
  | swait => exact h.execSwait
  | streamOpEnd => exact h.execStreamOpEnd
  | walkComplete => exact h.execWalkComplete
  | atsCompletion => exact .next (.ite h h.addF.upd)
  | atsInvalidateRequest => exact .next h.addF.addF.upd.markStores.setXst
  | atsInvalidateCompletion => exact .next (.ite h h.setXst.emit)
  | priResponse => exact .next <| by split; exacts [h, .ite h.answer h.priFail]
  | priTimeout => exact .next <| by split; exacts [h, .ite h.priFail h]
  | dlogInv => exact .next (h.act fun h => h.dlogInv)
  | invalidationDone => exact .next <| by split; exacts [h, .ite h h.setXst.setF]
  | dlogResumeRetry => exact .next (h.act fun h => h.resumeWrite)
  | dlogResumeAbort => exact .next (h.act fun h => h.resumeWrite)
  | dlogResumeRetryAll => exact .next (h.act fun h => h.resumeWrite)
  | dlogFqHeadWrite => exact .next (h.act fun h => h.fqHead)
  | dlogSpillTailWrite => exact .next (h.act fun h => h.spillTail)
  | dirtyLogFlushDone => exact .next <| by split; exacts [h, h.setXst.setF.setF]
  | instCmdStart => exact .next (h.act fun h => h.instCmd)
  | instCmdReset => exact .next (h.act fun h => h.instCmd)
  | instCmdFreeze => exact .next (h.act fun h => h.instCmd)
  | instCmdThaw => exact .next (h.act fun h => h.instCmd)
  | instCmdSave => exact .next (h.act fun h => h.instCmd)
  | instCmdRestore => exact .next (h.act fun h => h.instCmd)
  | instCmdDestroy => exact .next (h.act fun h => h.instCmd)
  | flr => exact .next (.ite h h.resetStart)
  | vfEnableClear => exact .next (.ite h (.ite h.upd.setF h.upd.setF.resetStart))
  | busMasterEnableChange => exact .next (.ite h.upd.busMaster h.upd)
  | instResetCut => exact .next <| by split; exacts [h, .ite h (h.rsySquash.foldl fun h => h.cutChan).setInst]
  | instResetDrained => exact h.execInstResetDrained
  | freezeDrained => exact .next <| by split; exacts [h, .ite h.setInst.setF.cmdEnd h]
  | freezeTimeout => exact .next <| by split; exacts [h, .ite h.unfreeze.cmdEnd h]
  | saveDone => exact .next (.ite h <| by split; exacts [(h.writeV.of ‹_›).cmdEnd, .ite h h.useUp.cmdEnd])
  | restoreDone => exact h.execRestoreDone
  | mbxCmdSend => exact .next (.ite (h.actOwn fun h => h.mbxSend) h)
  | mbxCmdTake => exact .next (.ite (h.actOwn fun h => h.mbxTake) h)
  | mbxTimeout => exact .next (.ite h.setF.post h)
  | sourceSignal => exact h.execSourceSignal
  | irqClaim => exact h.execIrqClaim
  | irqComplete => exact .next (.ite h (.ite h.refuse (.ite h h.irqComplete)))
  | holdoffExpiry => exact .next <| by split; exacts [.ite h.upd.irqEval h, h]
  | stormWindowEnd => exact .next (h.each fun h => .ite h.setSrc h)
  | irqPendWrite => exact .next (.ite (h.act fun h => h.pendWrite) h)
  | irqEnWrite => exact .next (.ite (h.act fun h => h.enWrite) h)
  | irqSrcCfgWrite => exact .next (.ite (h.act fun h => h.srcCfgWrite) h)
  | faultDetect => exact h.execFaultDetect
  | dualCopyMismatch => exact .next (.ite h (.ite h.upd h.upd.upd.degrade))
  | takeoverResume => exact .next h.takeover
  | retire => exact h.execRetire
  | ageingSample => exact .next (.ite h (h.upd.foldl fun h => .ite h.nominate h))
  | phaseCurrentSample => exact .next (.ite h (h.upd.foldl fun h => .ite h.nominate h))
  | winnowTimer => exact .next (.ite h h.upd)
  | winnowDone => exact h.execWinnowDone
  | pwrCmdRun => exact .next (h.act fun h => h.pwrCmd)
  | pwrCmdIdle => exact .next (h.act fun h => h.pwrCmd)
  | pwrCmdSleep => exact .next (h.act fun h => h.pwrCmd)
  | pwrCmdDsleep => exact .next (h.act fun h => h.pwrCmd)
  | pwrCmdOff => exact .next (h.act fun h => h.pwrCmd)
  | powerEntry => exact .next <| by split; exacts [h, .ite h (h.upd.powerDown.entryEnd.setF.unless fun h => h.wakeAfter)]
  | drainTimeout => exact .next (.ite h.drainEnd_ h)
  | wakeN => exact .next h.wakeBy
  | supplyWarning => exact .next (.ite h h.entryAbandon.setF.upd)
  | supplyRecovery => exact .next <| by split; exacts [h, .ite h h.setF.satF.upd]
  | pointOfNoReturn => exact .next <| by split; exacts [h, .ite h.noReturn h]
  | shutdownSaveDone => exact .next (.ite h.enterOff h)
  | supplyRestart => exact .next (.ite h.startSupply h)
  | phaseFail => exact .next (.ite h.fault h)
  | reservePhaseIn => exact .next h.takeover
  | phaseSenseFail => exact .next (.ite h.nominate h)
  | thermalThrottleTick => exact .next (.ite h (.ite h.tempIs.clockIs h.tempIs))
  | thermalRaiseTick => exact .next (.ite h (.ite h.tempIs.clockIs h.tempIs))
  | thermalTrip => exact .next (.ite h (.ite h.tempIs.err.noReturn.emit h))
  | demandIntervalEnd => exact .next (h.foldl fun h => .ite h.nrgTurn h)
  | tariffPoint => exact .next <| by extract_lets; split; exacts [.ite h.setBand.bandHeld h, h]
  | pwrTariffSet => exact .next (h.act fun h => h.tariffSet)
  | nrgCmdClearAcc => exact .next (h.act fun h => h.clearAcc)
  | nrgCmdClearMax => exact .next (h.act fun h => h.clearMax)
  | pmcCntWrite => exact .next (.ite (h.act fun h => h.setF) h)
  | counterOverflow => exact .next (.ite h.pmcWrap h)
  | gathererSnapshot => exact .next (.ite h.gather h)
  | sampleCountdown => exact .next (.ite (.ite h.sampleDraw.satF h.sampleDraw.upd) h)
  | glnTrig => exact .next (h.act fun h => h.glnSoft)
  | gleanerToken => exact .next (.ite h.setGln h)
  | gleanerRecordWrite => exact .next (.ite h.glnWrite h)
  | walk => exact .next h.chainFrame
  | walkEnd => exact .next h.chainFrame
  | levelSet => exact .next h.chainFrame
  | join => exact .next h.chainFrame
  | wake => exact .next h.chainFrame
  | msg => exact .next h.chainFrame
  | chainFrameRepeat => exact .next h.chainFrame
  | linkBeat => exact .next (.ite h.setChain.emit h)
  | chainLinkLoss => exact .next (.ite h.setF h)
  | chainLinkGain => exact .next (.ite h (.ite h.setF.upd (.ite h.setF.upd.join h.setF.upd.walkStart)))
  | walkTimeout => exact .next <| by split; exacts [h, .ite (h.err.walkOver fun h => h.walkGo) h]
  | dchCmdWalk => exact .next (h.act fun h => h.walkStart)
  | dchCmdSend => exact .next (h.act fun h => h.chainSoft)
  | dchCmdTake => exact .next (h.act fun h => h.chainTake)
  | dchCmdWake => exact .next (h.act fun h => h.chainWakeTo)
  | dchCmdReload => exact .next (h.act fun h => h.reload)
  | porNAssert => exact .next ((Keeps.ite h.intPins h).both (fun h => h.porState.emit) fun h => h.porState)
  | porNRelease => exact .next (.ite h h.setF.setF.setF.startUp)
  | imageAccepted => exact h.execImageAccepted
  | entropyReady => exact .next (.ite h h.upd.setF.entropyUp)
  | seedlingService => exact h.execSeedlingService
  | fullService => exact .next (.ite h (h.setF.setF.upd.each fun h => .ite h.linkSeed h))
  | perstNAssert => exact .next (.ite h (.ite h.upd (.ite h.upd.hostReset.wakeBy h.upd.hostReset)))
  | perstNRelease => exact .next (.ite h.upd h)
  | refclkLoss => exact .next (.ite h.upd.noReturn h.upd)
  | refclkReturn => exact .next (.ite h.upd.startSupply h.upd)
  | sageFlCmdWrite => exact .next (h.act fun h => h.flashWrite)
  | flashWriteDone => exact .next <| by split; exacts [h, .ite h.imageRead.upd.dirWrite.flashEnd h.imageRead.upd.flashEnd]
  | sageFlCmdRestart => exact .next (h.act fun h => h.flashRestart)
  | sageFlCmdCommitSvn => exact .next (h.act fun h => h.flashSvn)
  | rngOut => exact .next (.ite h.refuse.refuseLater (.ite h.upd (.ite h.upd h.bump.upd)))
  | rngCmdReseed => exact .next (h.act fun h => h.reseedNow)
  | reseedTimer => exact .next (.ite h.reseed h)
  | healthTestFail => exact .next (.ite h h.trngFail)
  | ref10mReturn => exact .next (.ite h (.ite h.upd.setF.upd.setF h.upd.setF))
  | remoteFault => exact .next (.ite h.setF h)
  | hostLinkDown => exact .next (.ite h (.ite h.hostDown.setF h.setF))
  | hostLinkUp => exact .next (.ite h (.ite h.setF.setF.setF.setF h.setF))
  | vfEnableSet => exact .next (.ite h h.upd.setF)
  | msiXUnmask => exact .next (.ite h h.upd.msixFlush)
  | configurationRequest => exact h.execConfigurationRequest
  | railsInTolerance => exact .next <| by split; exacts [.ite h.startUp h, h]
  | pmbSegmentFault => exact .next (.ite h h.setF.err)

end Sys2Proof.Machine

open Sys2Proof.Machine in
/-- Settles O5: every command is a chain of operations each of which keeps the queue, the elapsed time, the count of free values drawn and
the form of the three maps. -/
theorem commandKeepsQueueAndTime : Obligations.CommandKeepsQueueAndTime := by
  unfold Obligations.CommandKeepsQueueAndTime
  intro c s t ht
  obtain ⟨hp, hn, hd, hs⟩ := exec_keeps c s t ht
  exact ⟨hp, hn, hd, hs⟩

/-! # Every step keeps a sound state sound (R20, R33)

A step is a command, which `exec_keeps` covers, or a nanosecond of elapsed time. Time moves the clocks first, which no map has a part in;
what then follows at the new instant is a chain of operations that keep, in the sense of `Keeps`.
-/

namespace Sys2Proof.Machine

/-! ### The passing of time -/
section
variable {s₀ s : State} {d h n before : Nat}

theorem Keeps.runTime (hs : Keeps s₀ s) : Keeps s₀ (s.runTime d) := .ite hs.upd (.ite hs.upd (.ite hs.upd hs.upd))

theorem Keeps.slotsPass (hs : Keeps s₀ s) : Keeps s₀ (s.slotsPass h before) := (hs.unless fun hs => hs.upd).count.count.count

theorem Keeps.slots (hs : Keeps s₀ s) : Keeps s₀ (s.slots before) := hs.each fun hs => hs.when fun hs => hs.slotsPass

theorem Keeps.pausePeriods (hs : Keeps s₀ s) : Keeps s₀ (s.pausePeriods before) :=
  hs.unless fun hs => hs.each fun hs => hs.unless fun hs => hs.count

theorem Keeps.msixCount (hs : Keeps s₀ s) : Keeps s₀ s.msixCount := (hs.foldl fun hs => hs.count).upd

theorem Keeps.cycles (hs : Keeps s₀ s) : Keeps s₀ (s.cycles n) :=
  hs.each fun hs => hs.unless fun hs => hs.each fun hs => .ite hs.pmcAdd (hs.when fun hs => hs.pmcAdd)

theorem Keeps.thermCount (hs : Keeps s₀ s) : Keeps s₀ (s.thermCount before) := hs.foldl fun hs => hs.satF

theorem Keeps.idleReset (hs : Keeps s₀ s) : Keeps s₀ (s.idleReset before) := hs.when fun hs => hs.kpbReset

theorem Keeps.chainTick (hs : Keeps s₀ s) : Keeps s₀ s.chainTick := hs.chainPump.chainPump

theorem Keeps.wireRest {ps : List (List (BitVec 8) × List (BitVec 8))} (hs : Keeps s₀ s) : Keeps s₀ (s.wireRest n ps).1 := by
  induction ps generalizing s with
  | nil => exact hs
  | cons p ps ih => exact .ite_fst hs (ih hs.wire)

theorem Keeps.outFlow (hs : Keeps s₀ s) : Keeps s₀ (s.outFlow n) := by
  unfold State.outFlow
  split
  · exact hs
  · exact hs.unless fun hs => hs.wireRest.mapStep

theorem Keeps.hubFlow (hs : Keeps s₀ s) : Keeps s₀ (s.hubFlow n) := by
  unfold State.hubFlow
  split
  · exact hs
  · exact hs.unless fun hs => hs.wireRest.setHep

theorem Keeps.hubWakes (hs : Keeps s₀ s) : Keeps s₀ (s.hubWakes n) := by
  unfold State.hubWakes
  split
  · exact hs.when fun hs => hs.upd.sendLnk.bump
  · exact hs

theorem Keeps.hubFires (hs : Keeps s₀ s) : Keeps s₀ s.hubFires := hs.unless fun hs => hs.upd.foldl fun hs => hs.emit

theorem Keeps.kpbFlow (hs : Keeps s₀ s) : Keeps s₀ s.kpbFlow :=
  (hs.foldl fun hs => hs.both (fun hs => hs.hubFlow.hubWakes) fun hs => hs.outFlow).hubFires

end

/-! ### The step -/
section
variable {s : State}

/-- Soundness speaks of the maps alone, so the elapsed time has no part in it. -/
theorem State.sound_setNow {t : Nat} : { s with now := t }.sound = s.sound := rfl

/-- Nor has the queue. -/
theorem State.sound_setPending {q : List Instr} : { s with pending := q }.sound = s.sound := rfl

/-- The passing of time keeps a sound state sound. -/
theorem State.sound_elapse {d : Nat} (hs : s.sound = true) : (s.elapse d).sound = true := by
  unfold State.elapse
  extract_lets before s₁ s₂ s₃
  have h₁ : Keeps s s₁ := Keeps.refl.when fun h => h.runTime
  have h₂ : s₂.sound = true := State.sound_setNow.trans (h₁.sound hs)
  have h₃ : Keeps s₂ s₃ := Keeps.refl.cycles.slots.pausePeriods.msixCount
  exact h₃.thermCount.idleReset.chainTick.kpbFlow.paceQueues.sound h₂

theorem State.sound_tick (hs : s.sound = true) : s.tick.sound = true := State.sound_elapse hs

end
end Sys2Proof.Machine

open Sys2Proof.Machine in
/-- Settles O6: a step is a command on the queue's rest, which keeps soundness as every command does, or a nanosecond of time. -/
theorem stepKeepsSound : Obligations.StepKeepsSound := by
  unfold Obligations.StepKeepsSound
  intro s t hs ht
  cases hq : s.pending with
  | nil =>
    rw [step_idle s hq] at ht
    cases ht
    exact State.sound_tick hs
  | cons c rest =>
    rw [step_front s c rest hq] at ht
    exact (exec_keeps c _ t ht).sound (State.sound_setPending.trans hs)

open Sys2Proof.Machine in
/-- Settles O4: at reset the three maps are empty. -/
theorem resetIsSound : Obligations.ResetIsSound := by
  unfold Obligations.ResetIsSound
  exact State.sound_iff.2 ⟨rfl, rfl, rfl⟩

/-! # Every command answers (R33, R35, R63)

All but a few commands are a next state by definition; the few that branch first answer one on every branch, and only the three commands
that name an offset of a BAR0 can stop. -/

namespace Sys2Proof.Machine

/-- The outcome is a next state. -/
def Answers (o : Res) : Prop := ∃ t, o = .next t

section
variable {s t : State} {o o' : Res} {p : Prop} [Decidable p] {fn off size v : Nat} {w : Bool}

theorem Answers.next : Answers (.next t) := ⟨t, rfl⟩

theorem Answers.ite (h : Answers o) (h' : Answers o') : Answers (if p then o else o') := by
  split
  · exact h
  · exact h'

theorem answers_txFrameFetched {q : Nat} : Answers (execTxFrameFetched q s) :=
  .ite .next (by split <;> exact .next)

theorem answers_pauseTimerExpiry {port cls : Nat} : Answers (execPauseTimerExpiry port cls s) := by
  unfold execPauseTimerExpiry
  split <;> exact .next

theorem answers_steeringDrainEnd {port : Nat} : Answers (execSteeringDrainEnd port s) := by
  unfold execSteeringDrainEnd
  split <;> exact .next

theorem answers_wakeLoadDone {port : Nat} : Answers (execWakeLoadDone port s) :=
  .ite .next (by split; exacts [.next, .ite .next .next])

theorem answers_streamOpEnd {sheaf seq tag : Nat} : Answers (execStreamOpEnd sheaf seq tag s) := by
  unfold execStreamOpEnd
  split
  · exact .next
  · split
    · exact .next
    · split
      split
      exacts [.next, .ite .next .next]

/-- Inside BAR0 the three commands that name an offset of it answer a next state. -/
theorem answers_registerWrite (h : inBar fn off = true) : Answers (exec (.registerWrite fn off size v) s) :=
  ⟨_, if_pos h⟩

theorem answers_pageCrossingRead (h : inBar fn off = true) : Answers (exec (.pageCrossingRead fn off size) s) := by
  simp only [exec, execPageCrossingRead, h, Bool.not_true, Bool.false_eq_true, if_false]
  exact .ite .next (.ite .next .next)

theorem answers_instanceRefusedAccess (h : inBar fn off = true) : Answers (exec (.instanceRefusedAccess fn off w) s) := by
  simp only [exec, execInstanceRefusedAccess, h, Bool.not_true, Bool.false_eq_true, if_false]
  exact .next

/-- Outside BAR0 they stop. -/
theorem registerWrite_outside (h : inBar fn off = false) : exec (.registerWrite fn off size v) s = .fault .outsideBar := by
  simp [exec, execRegisterWrite, h]

theorem pageCrossingRead_outside (h : inBar fn off = false) : exec (.pageCrossingRead fn off size) s = .fault .outsideBar := by
  simp [exec, execPageCrossingRead, h]

theorem instanceRefusedAccess_outside (h : inBar fn off = false) :
    exec (.instanceRefusedAccess fn off w) s = .fault .outsideBar := by
  simp [exec, execInstanceRefusedAccess, h]

end
end Sys2Proof.Machine

open Sys2Proof Sys2Proof.Machine in
/-- Settles O7: the three commands that name an offset of a BAR0 answer inside it and stop outside it; every other command answers. -/
theorem everyCommandAnswers : Obligations.EveryCommandAnswers := by
  unfold Obligations.EveryCommandAnswers
  intro c s
  cases c with
  | registerWrite fn off size v =>
    cases h : inBar fn off with
    | true => exact .inl (answers_registerWrite h)
    | false => exact .inr ⟨registerWrite_outside h, fn, off, h, .inl ⟨size, v, rfl⟩⟩
  | pageCrossingRead fn off size =>
    cases h : inBar fn off with
    | true => exact .inl (answers_pageCrossingRead h)
    | false => exact .inr ⟨pageCrossingRead_outside h, fn, off, h, .inr (.inl ⟨size, rfl⟩)⟩
  | instanceRefusedAccess fn off w =>
    cases h : inBar fn off with
    | true => exact .inl (answers_instanceRefusedAccess h)
    | false => exact .inr ⟨instanceRefusedAccess_outside h, fn, off, h, .inr (.inr ⟨w, rfl⟩)⟩
  | txFrameFetched => exact .inl answers_txFrameFetched
  | pauseTimerExpiry => exact .inl answers_pauseTimerExpiry
  | steeringDrainEnd => exact .inl answers_steeringDrainEnd
  | wakeLoadDone => exact .inl answers_wakeLoadDone
  | streamOpEnd => exact .inl answers_streamOpEnd
  | steeringCommandDone => exact .inl (Answers.ite .next (.ite (.ite .next .next) (.ite .next .next)))
  | emacLinkUp | helloTimer | helloAbsence | lsxAnswerTimeout | lsxSwitch | lsxRealigned | lsxRealignFail | imbalanceWindow =>
    exact .inl (Answers.ite .next .next)
  | _ => exact .inl ⟨_, rfl⟩

/-! # What the manager's accesses reach (R33 to R37, R63)

`State.opens` is turned once into what the guards of a register access answer, and each access of the manager into what it does to the
page. -/

namespace Sys2Proof.Machine
section
variable {s : State} {blk u o size v : Nat}

theorem State.opens_iff : s.opens blk u = true ↔ s.live blk u = true ∧ s.resetting 0 = false := by
  simp [State.opens]

theorem State.live_serves (h : s.live blk u = true) : s.serves blk = true := by
  simp only [State.live, Bool.and_eq_true] at h
  exact h.1.1.1.1

theorem State.live_listed (h : s.live blk u = true) : unitListed blk u = true := by
  simp only [State.live, Bool.and_eq_true] at h
  exact h.1.1.1.2

/-- Every block type code has eight bits (Table 02-1). -/
theorem unitListed_blk (h : unitListed blk u = true) : blk < 256 := by
  simp only [unitListed, List.any_eq_true, Bool.and_eq_true, beq_iff_eq] at h
  obtain ⟨x, hx, ⟨rfl, -⟩, -⟩ := h
  exact (by decide : ∀ x ∈ blockUnits, x.1 < 256) x hx

/-- Every page reaches at least to the end of its header. -/
theorem pageEnd_header (blk u : Nat) : 0x28 ≤ pageEnd blk u :=
  List.foldlRecOn (motive := fun m => 0x28 ≤ m) _ _ (Nat.le_refl _) fun _ hm _ _ => by omega

/-- The manager's BAR0 holds every page. -/
theorem inBar_manager (hb : blk < 256) (hu : u < 256) (ho : o < 4096) : inBar 0 (blk * 2 ^ 20 + u * 2 ^ 12 + o) = true := by
  simp only [inBar, Bool.and_eq_true, decide_eq_true_eq, beq_self_eq_true, if_true]
  omega

/-- MBX pages stand apart: of its units the manager reaches those up to 64. -/
theorem mbxSide_eq_false (h61 : blk = 0x61 → u ≤ 64) : (blk == 0x61 && decide (64 < u)) = false := by
  simpa using h61

/-- The manager reaches a listed page at its own address, except for the second type codes of PCU and DMA and the instances' side of MBX. -/
theorem reachManager_page (hu : u < 256) (ho : o < 4096) (h22 : blk ≠ 0x22) (h51 : blk ≠ 0x51) (h61 : blk = 0x61 → u ≤ 64)
    (hl : unitListed blk u = true) : reachManager (blk * 2 ^ 20 + u * 2 ^ 12 + o) = .page blk u o false := by
  have hb := unitListed_blk hl
  have hblk : (blk * 2 ^ 20 + u * 2 ^ 12 + o) / 2 ^ 20 % 256 = blk := by omega
  have hunit : (blk * 2 ^ 20 + u * 2 ^ 12 + o) / 2 ^ 12 % 256 = u := by omega
  have hoff : (blk * 2 ^ 20 + u * 2 ^ 12 + o) % 4096 = o := by omega
  unfold reachManager
  rw [hblk, hunit, hoff]
  simp [h22, h51, mbxSide_eq_false h61, hl]

theorem State.reach_manager (off : Nat) : s.reach 0 off = reachManager off := rfl

/-- Nothing refuses an access of the manager but its own reset. -/
theorem State.refuses_manager (off : Nat) : s.refuses 0 off = s.resetting 0 := by
  simp [State.refuses]

/-- A register write of the manager acts on the page that it opens, up to the page's last register. -/
theorem State.hostWrite_manager (hu : u < 256) (ho : o < 4096) (h22 : blk ≠ 0x22) (h51 : blk ≠ 0x51) (h61 : blk = 0x61 → u ≤ 64)
    (hs : s.opens blk u = true) (he : o < pageEnd blk u) :
    s.hostWrite 0 (blk * 2 ^ 20 + u * 2 ^ 12 + o) size v = s.pageWrite 0 blk u o size (v % 256 ^ size) := by
  obtain ⟨hl, hr⟩ := State.opens_iff.1 hs
  have hin := inBar_manager (unitListed_blk (State.live_listed hl)) hu ho
  have hreach := reachManager_page hu ho h22 h51 h61 (State.live_listed hl)
  generalize blk * 2 ^ 20 + u * 2 ^ 12 + o = off at hin hreach
  unfold State.hostWrite
  rw [if_neg (by simp [hin]), State.refuses_manager, if_neg (by simp [hr]), State.reach_manager, hreach]
  simp only [hl, he]
  rfl

/-- As `State.hostWrite_manager`, for the command. -/
theorem exec_registerWrite_manager (hu : u < 256) (ho : o < 4096) (h22 : blk ≠ 0x22) (h51 : blk ≠ 0x51) (h61 : blk = 0x61 → u ≤ 64)
    (hs : s.opens blk u = true) (he : o < pageEnd blk u) :
    exec (.registerWrite 0 (blk * 2 ^ 20 + u * 2 ^ 12 + o) size v) s = .next (s.pageWrite 0 blk u o size (v % 256 ^ size)) :=
  (if_pos (inBar_manager (unitListed_blk (State.live_listed (State.opens_iff.1 hs).1)) hu ho)).trans
    (congrArg _ (State.hostWrite_manager hu ho h22 h51 h61 hs he))

/-- A read of the manager whose bytes cross the page's end. -/
theorem execPageCrossingRead_manager {off : Nat} (hin : inBar 0 off = true) (hc : 4096 < off % 4096 + size)
    (hr : s.resetting 0 = false) (hreach : reachManager off = .page blk u o false) (hl : s.live blk u = true) :
    execPageCrossingRead 0 off size s = .next { (s.errOn PAGE_ERR_ACCESS blk u) with rdata := 0 } := by
  have hcross : ¬ (decide (off % 4096 + size ≤ 4096) || 0 != 0 && !(s.serves 0)) = true := by
    simpa using hc
  unfold execPageCrossingRead
  rw [if_neg (by simp [hin]), if_neg hcross, State.refuses_manager, if_neg (by simp [hr]), State.reach_manager, hreach]
  dsimp only
  rw [if_pos (by simp [hl])]

/-- A header write of the manager acts on the page that it opens. -/
theorem State.actPage_manager (k : State → Nat → Nat → State) (h22 : blk ≠ 0x22) (h51 : blk ≠ 0x51) (h61 : blk = 0x61 → u ≤ 64)
    (hs : s.opens blk u = true) : s.actPage 0 blk u k = k s blk u := by
  obtain ⟨hl, hr⟩ := State.opens_iff.1 hs
  simp [State.actPage, pageName, h22, h51, State.live_serves hl, hr, mbxSide_eq_false h61, hl]

end
end Sys2Proof.Machine

open Sys2Proof Sys2Proof.Machine in
/-- Settles O9: the manager's access reaches the page where it starts, which is there. -/
theorem crossingReadReadsZero : Obligations.CrossingReadReadsZero := by
  unfold Obligations.CrossingReadReadsZero
  intro s blk u o size hu ho hc h22 h51 hs h61
  obtain ⟨hl, hr⟩ := State.opens_iff.1 hs
  have hin := inBar_manager (unitListed_blk (State.live_listed hl)) hu ho
  have hreach := reachManager_page hu ho h22 h51 h61 (State.live_listed hl)
  exact execPageCrossingRead_manager hin (by omega) hr hreach hl

/-! # Writes of whole fields (R38, R45, R48) -/

namespace Sys2Proof.Machine
section
variable {s : State} {F : Fld} {u i lo n x y v w : Nat}

/-- A write of all of a field's bits gives the field the written bits, whatever it held. -/
theorem setBits_whole : setBits x 0 w y % 2 ^ w = y % 2 ^ w := by
  simp [setBits, Nat.mod_one, Nat.add_mod]

theorem mergeFld_whole {old : Nat} (hlo : lo ≤ F.lo) (hn : F.lo + F.w ≤ lo + n) (hw : 0 < F.w) :
    mergeFld F old lo n v % 2 ^ F.w = v / 2 ^ (F.lo - lo) % 2 ^ F.w := by
  have hmax : max F.lo lo = F.lo := by omega
  have hmin : min (F.lo + F.w) (lo + n) = F.lo + F.w := by omega
  rw [mergeFld, hmax, hmin, if_pos (by omega), Nat.sub_self, Nat.add_sub_cancel_left, setBits_whole]

theorem State.newVal_whole (hlo : lo ≤ F.lo) (hn : F.lo + F.w ≤ lo + n) (hw : 0 < F.w) :
    s.newVal F u i lo n v % 2 ^ F.w = v / 2 ^ (F.lo - lo) % 2 ^ F.w := mergeFld_whole hlo hn hw

/-- A field keeps the low bits of the value that it is set to. -/
theorem State.setF_mod (h : x % 2 ^ F.w = y % 2 ^ F.w) : s.setF F u i x = s.setF F u i y := by
  rw [State.setF, State.setF, h]

/-- The write of a plain field acts at once. -/
theorem State.writeFld_rw (ha : F.acc = .rw) (ht : touches F lo n = true) (ho : ownRow F = false) (hl : s.locked F u i = false)
    (hq : (F == CQ_CFG_ENABLE) = false) : s.writeFld F u i lo n v = s.setF F u i (s.newVal F u i lo n v) := by
  simp [State.writeFld, ha, ht, ho, hl, hq]

/-- The write of a committed field goes to the shadow, or is dropped while a commit is pending. -/
theorem State.writeFld_rwc (ha : F.acc = .rwc) (ht : touches F lo n = true) (ho : ownRow F = false) (hl : s.locked F u i = false)
    (hq : (F == CQ_CFG_ENABLE) = false) : s.writeFld F u i lo n v =
      if (s.armed F.blk u).isSome then s.errOn PAGE_ERR_SHADOW_LOCKED F.blk u
      else { s with shadow := PMap.put s.shadow (F.addr u i) (s.newVal F u i lo n v % 2 ^ F.w) } := by
  simp [State.writeFld, ha, ht, ho, hl, hq]

/-- DEV_EPOCH_PERIOD and PAGE_ERR_MASK hold one field each, of which every encoding is legal: the layout of the DEV page alone leads a write
of the register to the write of that field. -/
theorem State.pageWrite_epochPeriod : s.pageWrite 0 0x01 0 0x58 4 v = s.writeFld DEV_EPOCH_PERIOD_PERIOD 0 0 0 32 v := rfl

theorem State.pageWrite_devErrMask : s.pageWrite 0 0x01 0 0x14 4 v = s.writeFld (hd PAGE_ERR_MASK 0x01) 0 0 0 32 v := rfl

theorem State.writeFld_epochPeriod : s.writeFld DEV_EPOCH_PERIOD_PERIOD 0 0 0 32 v =
    if (s.armed 0x01 0).isSome then s.errOn PAGE_ERR_SHADOW_LOCKED 0x01 0
    else { s with shadow := PMap.put s.shadow (DEV_EPOCH_PERIOD_PERIOD.addr 0 0) (v % 2 ^ 16) } := by
  have hv := s.newVal_whole (F := DEV_EPOCH_PERIOD_PERIOD) (u := 0) (i := 0) (lo := 0) (n := 32) (v := v) (by decide) (by decide)
    (by decide)
  rw [State.writeFld_rwc rfl rfl rfl rfl rfl, hv]
  simp only [DEV_EPOCH_PERIOD_PERIOD, Nat.sub_zero, pow_zero, Nat.div_one]

theorem State.writeFld_devErrMask :
    s.writeFld (hd PAGE_ERR_MASK 0x01) 0 0 0 32 v = s.setF (hd PAGE_ERR_MASK 0x01) 0 0 v := by
  rw [State.writeFld_rw rfl rfl rfl rfl rfl]
  exact State.setF_mod ((State.newVal_whole (by decide) (by decide) (by decide)).trans (by simp [hd, PAGE_ERR_MASK]))

end
end Sys2Proof.Machine

open Sys2Proof Sys2Proof.Machine in
/-- Settles O8: the manager's write reaches the DEV page, whose layout leads it to the one field of its register. -/
theorem registerWriteShadows : Obligations.RegisterWriteShadows := by
  unfold Obligations.RegisterWriteShadows
  intro s v hs
  have hperiod : exec (.registerWrite 0 0x100058 4 v) s = .next (s.writeFld DEV_EPOCH_PERIOD_PERIOD 0 0 0 32 (v % 256 ^ 4)) :=
    exec_registerWrite_manager (blk := 0x01) (u := 0) (o := 0x58) (by decide) (by decide) (by decide) (by decide) (by decide) hs (by decide)
  have hmask : exec (.registerWrite 0 0x100014 4 v) s = .next (s.writeFld (hd PAGE_ERR_MASK 0x01) 0 0 0 32 (v % 256 ^ 4)) :=
    exec_registerWrite_manager (blk := 0x01) (u := 0) (o := 0x14) (by decide) (by decide) (by decide) (by decide) (by decide) hs (by decide)
  have hv : v % 256 ^ 4 % 2 ^ 16 = v % 2 ^ 16 := Nat.mod_mod_of_dvd _ (by decide)
  rw [hperiod, hmask, State.writeFld_epochPeriod, hv, State.writeFld_devErrMask]
  refine ⟨fun ha => ?_, fun ha => ?_, ?_⟩
  · rw [ha, if_neg (by decide)]
  · rw [if_pos ha]
  · exact congrArg _ (State.setF_mod (Nat.mod_mod_of_dvd _ (by decide)))

/-! # Writes of PAGE_COMMIT (R46, R47, R61) -/

namespace Sys2Proof.Machine
section
variable {s : State} {fn blk u page p a v : Nat}

/-- Releasing a snapshot latch changes the latches alone. -/
theorem State.unlatch_eq (s : State) (fn page : Nat) : s.unlatch fn page = { s with latch := (s.unlatch fn page).latch } := by
  unfold State.unlatch
  split
  · split <;> rfl
  · rfl

@[simp] theorem State.unlatch_now : (s.unlatch fn page).now = s.now := by rw [State.unlatch_eq]
@[simp] theorem State.unlatch_regs : (s.unlatch fn page).regs = s.regs := by rw [State.unlatch_eq]
@[simp] theorem State.unlatch_shadow : (s.unlatch fn page).shadow = s.shadow := by rw [State.unlatch_eq]
@[simp] theorem State.unlatch_cmts : (s.unlatch fn page).cmts = s.cmts := by rw [State.unlatch_eq]
@[simp] theorem State.unlatch_mem : (s.unlatch fn page).mem = s.mem := by rw [State.unlatch_eq]

/-- The manager's whole write of PAGE_COMMIT is a commit with the written point and argument. -/
theorem State.headerWrite_commit : s.headerWrite 0 blk u 0x18 8 v = s.pageCommit 0 blk u (v % 16) (bits v 8 24) := by rfl

theorem State.pageWrite_commit : s.pageWrite 0 blk u 0x18 8 v = s.pageCommit 0 blk u (v % 16) (bits v 8 24) := by rfl

/-- Point and argument of a PAGE_COMMIT word (Table 02-3). -/
theorem commitWord_point (hp : p < 16) : (p + a * 256) % 16 = p := by omega

theorem commitWord_arg (hp : p < 16) (ha : a < 2 ^ 24) : bits (p + a * 256) 8 24 = a := by
  unfold bits
  omega

/-- A command that writes PAGE_COMMIT, of the manager. -/
theorem State.commitCmd_manager (h22 : blk ≠ 0x22) (h51 : blk ≠ 0x51) (h61 : blk = 0x61 → u ≤ 64) (hs : s.opens blk u = true)
    (hp : p < 16) (ha : a < 2 ^ 24) : s.commitCmd 0 blk u p a = s.pageCommit 0 blk u p a := by
  rw [State.commitCmd, State.actPage_manager _ h22 h51 h61 hs, State.headerWrite_commit, Nat.mod_eq_of_lt ha, commitWord_point hp,
    commitWord_arg hp ha]

/-- A transactional page is neither a DMA nor an MBX page, so the command reaches it under its own name. -/
theorem State.commitCmd_transactional (h22 : blk ≠ 0x22) (hs : s.opens blk u = true) (hl : isLivePage blk = false) (hp : p < 16)
    (ha : a < 2 ^ 24) : s.commitCmd 0 blk u p a = s.pageCommit 0 blk u p a := by
  have h51 : blk ≠ 0x51 := by rintro rfl; simp [isLivePage] at hl
  have h61 : blk = 0x61 → u ≤ 64 := by rintro rfl; simp [isLivePage] at hl
  exact State.commitCmd_manager h22 h51 h61 hs hp ha

/-- A register write of PAGE_COMMIT, of the manager. -/
theorem exec_registerWrite_commit (hu : u < 256) (h22 : blk ≠ 0x22) (h51 : blk ≠ 0x51) (h61 : blk = 0x61 → u ≤ 64)
    (hs : s.opens blk u = true) (hp : p < 16) (ha : a < 2 ^ 24) :
    exec (.registerWrite 0 (blk * 2 ^ 20 + u * 2 ^ 12 + 0x18) 8 (p + a * 256)) s = .next (s.pageCommit 0 blk u p a) := by
  have he : 0x18 < pageEnd blk u := Nat.lt_of_lt_of_le (by decide) (pageEnd_header blk u)
  have hv : (p + a * 256) % 256 ^ 8 = p + a * 256 := Nat.mod_eq_of_lt (by omega)
  rw [exec_registerWrite_manager hu (by decide) h22 h51 h61 hs he, hv, State.pageWrite_commit, commitWord_point hp, commitWord_arg hp ha]

theorem maxArg_eq : maxArg p = if p = 2 then 95 else if p = 4 then 511 else 0 := by
  simp [maxArg]

theorem maxArg_lt : maxArg p < 2 ^ 24 := by
  rw [maxArg_eq]
  split
  · decide
  · split <;> decide

/-- No page allows a reserved point code. -/
theorem allowsPoint_reserved (h : 4 < p) : allowsPoint blk p = false := by
  have h2 : p ≠ 2 := by omega
  have h3 : p ≠ 3 := by omega
  have h4 : p ≠ 4 := by omega
  simp only [allowsPoint, beq_iff_eq, h2, h3, h4, if_false, decide_eq_false_iff_not]
  omega

/-- When a PAGE_COMMIT write is refused (R47). -/
theorem State.commitRefused_iff : s.commitRefused blk u p a = true ↔
    isLivePage blk = true ∨ allowsPoint blk p = false ∨ maxArg p < a ∨ (p ≠ 0 ∧ (s.armed blk u).isSome = true) := by
  simp [State.commitRefused, or_assoc]

/-- A refused write sets COMMIT_REFUSED and does nothing else. -/
theorem State.pageCommit_refused (h : s.commitRefused blk u p a = true) :
    s.pageCommit fn blk u p a = s.errOn PAGE_ERR_COMMIT_REFUSED blk u := if_pos h

/-- What is not refused: an allowed point of a transactional page, its argument in range, with no commit pending or CANCEL. -/
theorem State.commitRefused_eq_false (hl : isLivePage blk = false) (hp : allowsPoint blk p = true) (ha : a ≤ maxArg p)
    (hc : p = 0 ∨ s.armed blk u = none) : s.commitRefused blk u p a = false := by
  rw [← Bool.not_eq_true, State.commitRefused_iff]
  rintro (h | h | h | ⟨h0, h⟩)
  · simp [hl] at h
  · simp [hp] at h
  · omega
  · rcases hc with hc | hc
    · exact h0 hc
    · simp [hc] at h

theorem State.pageCommit_cancel (hl : isLivePage blk = false) :
    s.pageCommit fn blk u 0 0 = { s with cmts := PMap.del s.cmts (pageOf blk u) } := by
  have hr : s.commitRefused blk u 0 0 = false := State.commitRefused_eq_false hl rfl (Nat.le_refl _) (.inl rfl)
  simp [State.pageCommit, hr]

theorem State.pageCommit_now (hr : s.commitRefused blk u 1 a = false) :
    s.pageCommit fn blk u 1 a = (s.unlatch fn (pageOf blk u)).applyPage blk u 1 := by
  simp [State.pageCommit, hr]

/-- A later point is recorded with its argument and the time, and the latch on the page is released. -/
theorem State.pageCommit_arm (h0 : p ≠ 0) (h1 : p ≠ 1) (hr : s.commitRefused blk u p a = false) :
    s.pageCommit fn blk u p a =
      { s.unlatch fn (pageOf blk u) with cmts := PMap.put s.cmts (pageOf blk u) ⟨p, a, s.now⟩ } := by
  simp [State.pageCommit, hr, h0, h1]

/-- FRAME, EPOCH and POSITION on a transactional page that allows the point and has no commit pending. -/
theorem State.commitCmd_arm (h22 : blk ≠ 0x22) (hs : s.opens blk u = true) (hl : isLivePage blk = false) (hn : s.armed blk u = none)
    (hp : p < 16) (h0 : p ≠ 0) (h1 : p ≠ 1) (hq : allowsPoint blk p = true) (ha : a ≤ maxArg p) :
    s.commitCmd 0 blk u p a =
      { s.unlatch 0 (pageOf blk u) with cmts := PMap.put s.cmts (pageOf blk u) ⟨p, a, s.now⟩ } := by
  rw [State.commitCmd_transactional h22 hs hl hp (Nat.lt_of_le_of_lt ha maxArg_lt),
    State.pageCommit_arm h0 h1 (State.commitRefused_eq_false hl hq ha (.inr hn))]

end
end Sys2Proof.Machine

open Sys2Proof Sys2Proof.Machine in
/-- Settles O10: each of the cases refuses the commit that the write or the command asks for. -/
theorem commitRefused : Obligations.CommitRefused := by
  unfold Obligations.CommitRefused
  intro s blk u p a _ hu h22 h51 h61 hs hp ha h
  have hr : s.commitRefused blk u p a = true := by
    rw [State.commitRefused_iff, maxArg_eq]
    rcases h with h | h | h | h | h
    · exact .inl h
    · exact .inr (.inl (allowsPoint_reserved h))
    · exact .inr (.inl h)
    · exact .inr (.inr (.inl h))
    · exact .inr (.inr (.inr h))
  have hcmd : s.commitCmd 0 blk u p a = s.errOn PAGE_ERR_COMMIT_REFUSED blk u :=
    (State.commitCmd_manager h22 h51 h61 hs hp ha).trans (State.pageCommit_refused hr)
  refine ⟨?_, ?_, ?_, ?_, ?_, ?_⟩
  · rw [exec_registerWrite_commit hu h22 h51 h61 hs hp ha, State.pageCommit_refused hr]
  · rintro rfl rfl
    exact congrArg _ hcmd
  all_goals
    rintro rfl
    exact congrArg _ hcmd

/-! # A commit that neither vets nor follows up (R46, R49)

DTU and KHUB pages keep, clamp and refuse nothing at a commit, and nothing follows from one: there a commit is the shadow's values going
into effect and the page's record of it. -/

namespace Sys2Proof.Machine
section
variable {α : Type}

/-- Putting all entries of a rising map into another: they come first. -/
theorem PMap.find_foldl_put {lo k : Nat} {es m : PMap α} (h : PMap.risingFrom lo es = true) :
    PMap.find (es.foldl (fun m e => PMap.put m e.1 e.2) m) k = (PMap.find es k).or (PMap.find m k) := by
  induction es generalizing lo m with
  | nil => rfl
  | cons e es ih =>
    obtain ⟨j, w⟩ := e
    simp only [PMap.risingFrom, Bool.and_eq_true, decide_eq_true_eq] at h
    rw [List.foldl_cons, ih h.2, PMap.find]
    split
    · subst_vars
      rw [PMap.find_below es h.2 (Nat.lt_succ_self _), PMap.find_put_same, Option.none_or, Option.some_or]
    · rw [PMap.find_put_ne _ _ ‹_›]

/-- Keeping the entries whose key is in a set. -/
theorem PMap.find_filter_key {k : Nat} (p : Nat → Bool) (m : PMap α) :
    PMap.find (m.filter fun e => p e.1) k = if p k then PMap.find m k else none := by
  induction m with
  | nil => simp [PMap.find]
  | cons e m ih =>
    obtain ⟨j, w⟩ := e
    by_cases hj : k = j
    · subst hj
      by_cases hp : p k = true <;> simp [PMap.find, hp, ih]
    · by_cases hp : p j = true <;> simp [PMap.find, hp, hj, ih]

end

section
variable {s : State} {blk u k : Nat} {F : Fld}

theorem inPage_iff : inPage blk u k = true ↔ pageLo blk u ≤ k ∧ k < pageLo blk u + 4096 * 8 := by
  simp [inPage]

/-- The fields of a page's registers lie in it. -/
theorem inPage_addr (hb : F.blk = blk) (ho : F.off * 8 + F.lo < 4096 * 8) : inPage blk u (F.addr u 0) = true := by
  rw [inPage_iff]
  simp only [pageLo, Fld.addr, hb]
  omega

/-- The registers once the shadow of a page is in effect. -/
def State.withShadow (s : State) (blk u : Nat) : PMap Nat :=
  (s.shadow.filter fun e => inPage blk u e.1).foldl (fun m e => PMap.put m e.1 e.2) s.regs

/-- A field of the page reads its shadowed value where there is one. -/
theorem State.find_withShadow_in (hs : PMap.rising s.shadow = true) (hk : inPage blk u k = true) :
    PMap.find (s.withShadow blk u) k = (PMap.find s.shadow k).or (PMap.find s.regs k) := by
  rw [State.withShadow, PMap.find_foldl_put (PMap.rising_filter _ _ hs), PMap.find_filter_key (inPage blk u), if_pos hk]

/-- Every other field reads what it read. -/
theorem State.find_withShadow_out (hs : PMap.rising s.shadow = true) (hk : inPage blk u k = false) :
    PMap.find (s.withShadow blk u) k = PMap.find s.regs k := by
  rw [State.withShadow, PMap.find_foldl_put (PMap.rising_filter _ _ hs), PMap.find_filter_key (inPage blk u), if_neg (by simp [hk]),
    Option.none_or]

/-- The state once the shadow of a page is in effect: the shadow is empty and no commit is pending. -/
def State.shadowApplied (s : State) (blk u : Nat) : State :=
  { s with regs := s.withShadow blk u, shadow := s.shadow.filter fun e => !(inPage blk u e.1), cmts := PMap.del s.cmts (pageOf blk u) }

/-- The page's record of the commit: one more in COMMIT_SEQ, and the device epoch in PAGE_EPOCH. -/
def State.recordCommit (s : State) (blk u : Nat) : State :=
  (s.addF (hd PAGE_EPOCH_COMMIT_SEQ blk) u 0 1).setF (hd PAGE_EPOCH_EPOCH blk) u 0 (s.f DEV_EPOCH_EPOCH)

/-- On DTU and KHUB pages a commit is the two and, where the page asks for it, an event. -/
theorem State.applyPage_plain (hb : blk = 0x18 ∨ blk = 0x32) : s.applyPage blk u 1 =
    let t := (s.shadowApplied blk u).recordCommit blk u
    if t.b (hd PAGE_CTL_COMMIT_EV_EN blk) u then t.post 2 (pageType blk u * 256 + pageUnit u) else t := by
  rcases hb with rfl | rfl <;> rfl

theorem State.applyPage_plain_regs (hb : blk = 0x18 ∨ blk = 0x32) :
    (s.applyPage blk u 1).regs = ((s.shadowApplied blk u).recordCommit blk u).regs := by
  rw [State.applyPage_plain hb]
  dsimp only
  split <;> rfl

theorem State.applyPage_plain_shadow (hb : blk = 0x18 ∨ blk = 0x32) :
    (s.applyPage blk u 1).shadow = s.shadow.filter fun e => !(inPage blk u e.1) := by
  rw [State.applyPage_plain hb]
  dsimp only
  split <;> rfl

theorem State.applyPage_plain_mem (hb : blk = 0x18 ∨ blk = 0x32) : (s.applyPage blk u 1).mem = s.mem := by
  rw [State.applyPage_plain hb]
  dsimp only
  split <;> rfl

theorem commitSeq_in : inPage blk u ((hd PAGE_EPOCH_COMMIT_SEQ blk).addr u 0) = true :=
  inPage_addr rfl (by simp [hd, PAGE_EPOCH_COMMIT_SEQ])

theorem pageEpoch_in : inPage blk u ((hd PAGE_EPOCH_EPOCH blk).addr u 0) = true :=
  inPage_addr rfl (by simp [hd, PAGE_EPOCH_EPOCH])

theorem commitSeq_ne_pageEpoch : (hd PAGE_EPOCH_COMMIT_SEQ blk).addr u 0 ≠ (hd PAGE_EPOCH_EPOCH blk).addr u 0 := by
  simp only [hd, PAGE_EPOCH_COMMIT_SEQ, PAGE_EPOCH_EPOCH, Fld.addr]
  omega

/-- DEV_EPOCH lies in no page of another block than its own. -/
theorem devEpoch_out (hb : 0x01 < blk) : inPage blk u (DEV_EPOCH_EPOCH.addr 0 0) = false := by
  rw [← Bool.not_eq_true, inPage_iff]
  simp only [pageLo, Fld.addr, DEV_EPOCH_EPOCH]
  omega

/-- The record leaves every field but its two alone. -/
theorem State.find_recordCommit_ne (h1 : k ≠ (hd PAGE_EPOCH_COMMIT_SEQ blk).addr u 0) (h2 : k ≠ (hd PAGE_EPOCH_EPOCH blk).addr u 0) :
    PMap.find (s.recordCommit blk u).regs k = PMap.find s.regs k := by
  rw [State.recordCommit, State.setF_regs, PMap.find_put_ne _ _ h2, State.addF, State.setF_regs, PMap.find_put_ne _ _ h1]

theorem State.recordCommit_commitSeq : (s.recordCommit blk u).f (hd PAGE_EPOCH_COMMIT_SEQ blk) u =
    (s.f (hd PAGE_EPOCH_COMMIT_SEQ blk) u + 1) % 2 ^ 16 := by
  rw [State.recordCommit, State.f_setF_ne _ _ commitSeq_ne_pageEpoch, State.f_addF_same]
  rfl

theorem State.recordCommit_pageEpoch : (s.recordCommit blk u).f (hd PAGE_EPOCH_EPOCH blk) u = s.f DEV_EPOCH_EPOCH % 2 ^ 48 :=
  State.f_setF_same _ _ _ _ _

/-- A field reads the same in two states whose register maps agree on its address. -/
theorem State.f_of_find {t : State} {i : Nat} (h : PMap.find t.regs (F.addr u i) = PMap.find s.regs (F.addr u i)) :
    t.f F u i = s.f F u i := by
  rw [State.f, State.f, h]

/-- After a commit on a DTU or KHUB page every field of the page but the record's two has its shadowed value, where there is one. -/
theorem State.applyPage_plain_find_in (hb : blk = 0x18 ∨ blk = 0x32) (hs : PMap.rising s.shadow = true) (hk : inPage blk u k = true)
    (h1 : k ≠ (hd PAGE_EPOCH_COMMIT_SEQ blk).addr u 0) (h2 : k ≠ (hd PAGE_EPOCH_EPOCH blk).addr u 0) :
    PMap.find (s.applyPage blk u 1).regs k = (PMap.find s.shadow k).or (PMap.find s.regs k) := by
  rw [State.applyPage_plain_regs hb, State.find_recordCommit_ne h1 h2]
  exact State.find_withShadow_in hs hk

/-- Such a commit leaves the fields of other pages alone. -/
theorem State.applyPage_plain_find_out (hb : blk = 0x18 ∨ blk = 0x32) (hs : PMap.rising s.shadow = true) (hk : inPage blk u k = false) :
    PMap.find (s.applyPage blk u 1).regs k = PMap.find s.regs k := by
  have hout : ∀ {k'}, inPage blk u k' = true → k ≠ k' := by rintro _ h rfl; simp [h] at hk
  rw [State.applyPage_plain_regs hb, State.find_recordCommit_ne (hout commitSeq_in) (hout pageEpoch_in)]
  exact State.find_withShadow_out hs hk

/-- It counts one in COMMIT_SEQ. -/
theorem State.applyPage_plain_commitSeq (hb : blk = 0x18 ∨ blk = 0x32) (hs : PMap.rising s.shadow = true)
    (hn : PMap.find s.shadow ((hd PAGE_EPOCH_COMMIT_SEQ blk).addr u 0) = none) :
    (s.applyPage blk u 1).f (hd PAGE_EPOCH_COMMIT_SEQ blk) u = (s.f (hd PAGE_EPOCH_COMMIT_SEQ blk) u + 1) % 2 ^ 16 := by
  have hseq : (s.shadowApplied blk u).f (hd PAGE_EPOCH_COMMIT_SEQ blk) u = s.f (hd PAGE_EPOCH_COMMIT_SEQ blk) u :=
    State.f_of_find ((State.find_withShadow_in hs commitSeq_in).trans (by rw [hn, Option.none_or]))
  rw [State.f_congr (State.applyPage_plain_regs hb), State.recordCommit_commitSeq, hseq]

/-- It writes the device epoch into PAGE_EPOCH. -/
theorem State.applyPage_plain_pageEpoch (hb : blk = 0x18 ∨ blk = 0x32) (hs : PMap.rising s.shadow = true) :
    (s.applyPage blk u 1).f (hd PAGE_EPOCH_EPOCH blk) u = s.f DEV_EPOCH_EPOCH % 2 ^ 48 := by
  have hep : (s.shadowApplied blk u).f DEV_EPOCH_EPOCH = s.f DEV_EPOCH_EPOCH :=
    State.f_of_find (State.find_withShadow_out hs (devEpoch_out (by omega)))
  rw [State.f_congr (State.applyPage_plain_regs hb), State.recordCommit_pageEpoch, hep]

end
end Sys2Proof.Machine

open Sys2Proof Sys2Proof.Machine in
/-- Settles O11: an unrefused PAGE_COMMIT cancels, arms or applies, and on DTU and KHUB pages applying is the shadow's values and the
page's record. -/
theorem commitArms : Obligations.CommitArms := by
  unfold Obligations.CommitArms
  intro s blk u a hu h22 hs hl
  have hcmd : ∀ {p}, p < 16 → s.commitCmd 0 blk u p 0 = s.pageCommit 0 blk u p 0 := fun hp =>
    State.commitCmd_transactional h22 hs hl hp (by decide)
  refine ⟨congrArg _ ((hcmd (by decide)).trans (State.pageCommit_cancel hl)), fun hn => ⟨fun hb ha => ?_, fun hq => ?_,
    fun hq ha => ?_, fun hb hsound => ?_⟩⟩
  · have hq : allowsPoint blk 2 = true := by rcases hb with rfl | rfl <;> rfl
    exact congrArg Host.Outcome.next (State.commitCmd_arm h22 hs hl hn (by decide) (by decide) (by decide) hq ha)
  · exact congrArg Host.Outcome.next (State.commitCmd_arm h22 hs hl hn (by decide) (by decide) (by decide) hq (by decide))
  · exact congrArg Host.Outcome.next (State.commitCmd_arm h22 hs hl hn (by decide) (by decide) (by decide) hq ha)
  · obtain ⟨-, -, hshadow⟩ := State.sound_iff.1 hsound
    have hr : s.commitRefused blk u 1 0 = false := State.commitRefused_eq_false hl rfl (by decide) (.inr hn)
    have hs' : PMap.rising (s.unlatch 0 (pageOf blk u)).shadow = true := by rwa [State.unlatch_shadow]
    refine ⟨_, congrArg Host.Outcome.next ((hcmd (by decide)).trans (State.pageCommit_now hr)), fun k hk h1 h2 => ?_, fun k hk => ?_, ?_,
      fun hseq => ?_, ?_, ?_⟩
    · rw [State.applyPage_plain_find_in hb hs' hk h1 h2, State.unlatch_shadow, State.unlatch_regs]
    · rw [State.applyPage_plain_find_out hb hs' hk, State.unlatch_regs]
    · rw [State.applyPage_plain_shadow hb, State.unlatch_shadow]
    · rw [State.applyPage_plain_commitSeq hb hs' (by rwa [State.unlatch_shadow]), State.f_congr State.unlatch_regs]
    · rw [State.applyPage_plain_pageEpoch hb hs', State.f_congr State.unlatch_regs]
    · rw [State.applyPage_plain_mem hb, State.unlatch_mem]

/-! # Epoch boundaries (R57, R58, R70) -/

namespace Sys2Proof.Machine
section
variable {s : State} {n point arg lead at_ : Nat}

/-- A loop whose turns all leave a state alone leaves it alone. -/
theorem State.each_eq_self {k : State → Nat → State} (h : ∀ i < n, k s i = s) : s.each n k = s :=
  List.foldlRecOn (motive := fun t => t = s) _ _ rfl fun _ ht i hi => by rw [ht, h i (List.mem_range.1 hi)]

/-- Without a re-key due the boundary draws no key. -/
theorem State.epochKeys_none
    (h : ∀ n < 96, (s.emac n).rekey = false ∧ (s.b ESTR_STAT_PROVISIONAL n && s.b DEV_SERVICE_ENTROPY_READY) = false) :
    s.epochKeys = s :=
  State.each_eq_self fun n hn => by simp [h n hn]

/-- Without a commit that waits for the point nothing applies at it. -/
theorem State.group_none (h : ∀ e ∈ s.cmts, e.2.point ≠ point) : s.group point arg lead at_ = s := by
  have hg : (s.cmts.filter fun e => e.2.point == point && e.2.arg == arg && decide (e.2.armedAt ≤ at_)) = [] := by
    rw [List.filter_eq_nil_iff]
    intro e he
    simp [h e he]
  simp [State.group, hg]

/-- DEV_EPOCH and DEV_EPOCH_PERIOD are two fields. -/
theorem epochPeriod_ne_epoch : DEV_EPOCH_PERIOD_PERIOD.addr 0 0 ≠ DEV_EPOCH_EPOCH.addr 0 0 := by decide

/-- The count of a boundary: DEV_EPOCH, and the timer from now on. -/
def State.epochCounted (s : State) : State :=
  { s.addF DEV_EPOCH_EPOCH 0 0 1 with epochAt := s.now, timerAt := s.now, epochReq := false }

theorem State.epochBoundary_eq : s.epochBoundary =
    let t := s.epochKeys.epochCounted.group 3 0 (ns 250) s.epochKeys.epochCounted.now
    { t with epochPer := t.f DEV_EPOCH_PERIOD_PERIOD } := by rfl

/-- A boundary at which no commit and no re-key is due. -/
theorem State.epochBoundary_plain (hc : ∀ e ∈ s.cmts, e.2.point ≠ 3)
    (hk : ∀ n < 96, (s.emac n).rekey = false ∧ (s.b ESTR_STAT_PROVISIONAL n && s.b DEV_SERVICE_ENTROPY_READY) = false) :
    s.epochBoundary = { s.setF DEV_EPOCH_EPOCH 0 0 (s.f DEV_EPOCH_EPOCH + 1) with
      epochAt := s.now, timerAt := s.now, epochReq := false, epochPer := s.f DEV_EPOCH_PERIOD_PERIOD } := by
  have hgroup : s.epochCounted.group 3 0 (ns 250) s.epochCounted.now = s.epochCounted := State.group_none hc
  have hper : s.epochCounted.f DEV_EPOCH_PERIOD_PERIOD = s.f DEV_EPOCH_PERIOD_PERIOD := State.f_setF_ne _ _ epochPeriod_ne_epoch
  rw [State.epochBoundary_eq, State.epochKeys_none hk, hgroup]
  dsimp only
  rw [hper]
  rfl

/-- A boundary comes when the device serves DEV, one is requested, and it is not too early (R57). -/
theorem execEpochBoundary_come (hs : s.serves 0x01 = true) (hr : s.epochReq = true) (he : s.epochEarly = false) :
    execEpochBoundary s = .next s.epochBoundary := by
  simp [execEpochBoundary, hs, hr, he]

theorem execEpochBoundary_unrequested (hr : s.epochReq = false) : execEpochBoundary s = .next s := by
  simp [execEpochBoundary, hr]

theorem execEpochBoundary_early (he : s.epochEarly = true) : execEpochBoundary s = .next s := by
  simp [execEpochBoundary, he]

theorem State.epochEarly_iff : s.epochEarly = true ↔ s.now < s.epochAt + 655360000 ∧ s.f DEV_EPOCH_EPOCH ≠ 0 := by
  have hus : us 10 = 655360000 := rfl
  simp [State.epochEarly, hus]

/-- The timer requests a boundary when it runs and its period has passed (R70). -/
theorem execEpochTimerExpiry_served (hs : s.serves 0x01 = true) : execEpochTimerExpiry s =
    .next (if s.epochPer ≠ 0 ∧ s.timerAt + s.epochPer * 655360000 ≤ s.now then { s with epochReq := true } else s) := by
  have hus : us (10 * s.epochPer) = s.epochPer * 655360000 := by
    unfold us
    omega
  simp [execEpochTimerExpiry, hs, hus]

/-- A latch is dropped once it has been held for 10 ms (R61). -/
theorem execSnapshotTimeout_held {fn : Nat} {l : Latch} (h : PMap.find s.latch fn = some l) : execSnapshotTimeout fn s =
    .next (if l.openedAt + 10 * 65536000000 ≤ s.now then { s with latch := PMap.del s.latch fn } else s) := by
  rw [execSnapshotTimeout, h]
  rfl

end
end Sys2Proof.Machine

open Sys2Proof Sys2Proof.Machine in
/-- Settles O13: each event acts when its guard holds and is nothing else, and a boundary with nothing due is its count alone. -/
theorem latchAndEpoch : Obligations.LatchAndEpoch := by
  unfold Obligations.LatchAndEpoch
  refine ⟨fun s fn l hl => execSnapshotTimeout_held hl, fun s hs => ?_, fun s fn hf hs => ?_,
    fun s hs => execEpochTimerExpiry_served hs, fun s hs => ⟨fun hr => ?_, fun ht he => ?_, fun hr ht hc hk => ?_⟩⟩
  · obtain ⟨hl, hr⟩ := State.opens_iff.1 hs
    exact congrArg Host.Outcome.next (State.act_manager _ hl hr)
  · exact congrArg Host.Outcome.next (State.act_managerOnly _ hs hf)
  · exact execEpochBoundary_unrequested hr
  · exact execEpochBoundary_early (State.epochEarly_iff.2 ⟨ht, he⟩)
  · have he : s.epochEarly = false := by
      rw [← Bool.not_eq_true, State.epochEarly_iff]
      omega
    exact (execEpochBoundary_come hs hr he).trans (congrArg _ (State.epochBoundary_plain hc hk))

/-! # PAGE_CTL (R606) and the instances' side of the mailboxes

`State.opens` holds of the MBX units from 129 on, which hold the instances' side of the mailbox pages, but no access of the manager reaches
one: to the manager MBX ends with unit 64 (Table 02-1). -/

namespace Sys2Proof.Machine
section
variable {s : State} {u v : Nat}

/-- A header write of the manager at an MBX unit beyond 64 does nothing. -/
theorem State.actPage_mbxSide (k : State → Nat → Nat → State) (hu : 64 < u) (hr : s.resetting 0 = false) :
    s.actPage 0 0x61 u k = s := by
  simp [State.actPage, pageName, hr, hu]

theorem exec_pageCtlDiscard_mbxSide (hu : 64 < u) (hr : s.resetting 0 = false) : exec (.pageCtlDiscard 0 0x61 u v) s = .next s :=
  congrArg Host.Outcome.next (State.actPage_mbxSide _ hu hr)

/-- The reset state, but presented to the hosts in full. -/
def State.presented : State := { State.reset with boot := { phase := 4 } }

theorem State.presented_opens_mbxSide : State.presented.opens 0x61 129 = true := by decide

end
end Sys2Proof.Machine

open Sys2Proof Sys2Proof.Machine in
/-- Refutes O12: MBX unit 129 opens but is no page of the manager's. DISCARD with COMMIT_EV_EN set changes nothing there, where the statement
has COMMIT_EV_EN of that unit become 1. -/
theorem not_pageCtl : ¬ Obligations.PageCtl := by
  unfold Obligations.PageCtl
  intro h
  obtain ⟨hdiscard, -⟩ := h State.presented 0x61 129 12 (by decide) (by decide) (by decide) State.presented_opens_mbxSide (by decide)
  have hnext := (exec_pageCtlDiscard_mbxSide (by decide) rfl).symm.trans (hdiscard rfl rfl)
  have hregs := congrArg State.regs (Host.Outcome.next.inj hnext)
  exact absurd hregs (by decide)

/-! # Packets that a root port receives (R78 to R98)

A packet row is `State.packetIn`, or `State.askedIn` on the upstream port of a hub: what `State.receive` makes of the packet first, then what
the row does with one that is taken. Each outcome of `State.receive` has one equation, and so has each of the two with a packet taken. -/

namespace Sys2Proof.Machine
section
variable {s : State} {n ty op : Nat} {p : Pkt} {k : State → State}

/-! ### Rules of the link and the counters -/

@[simp] theorem State.link_setLink (s : State) (n : Nat) (l : Link) : (s.setLink n l).link n = l := PMap.get_put_same ..

@[simp] theorem State.f_setLink {l : Link} {F : Fld} {u i : Nat} : (s.setLink n l).f F u i = s.f F u i := rfl

@[simp] theorem State.noted_link : (s.noted n).link n = s.link n := State.link_setLink ..

theorem State.ran_none {dir till : Nat} : s.ran n dir 0 till = s := rfl

theorem State.count_none {b ev sub : Nat} {inst : Option Nat} : s.count b ev sub inst 0 = s := rfl

/-- DAT alone has payload blocks (R83). -/
theorem payBlocks_eq_zero {hdr data : List (BitVec 8)} (h : hType hdr ≠ 0x30) : payBlocks hdr data = 0 := by
  simp [payBlocks, h]

theorem State.took_eq_noted (h : hType p.hdr ≠ 0x30) : s.took n p = s.noted n := by
  simp only [State.took, payBlocks_eq_zero h, State.ran_none, State.count_none]
  rfl

theorem State.carries_iff : s.carries n = true ↔ (4 ≤ s.lstate n ∧ s.lstate n ≤ 6) ∧ (s.link n).idleEnd = none := by
  simp [State.carries]

theorem State.takes_iff : s.takes n p ty = true ↔
    s.live 0x30 n = true ∧ s.hubPort n = false ∧ s.hubRole n = false ∧ pktOk p = true ∧ hType p.hdr = ty ∧
    s.carries n = true ∧ hLvl p.hdr = s.f KRP_STAT_LVL n := by
  simp [State.takes, and_assoc]

theorem State.takesUp_iff : s.takesUp n p = true ↔ s.live 0x30 n = true ∧ s.hubRole n = true ∧ pktOk p = true ∧
    typeKnown (hType p.hdr) = true ∧ s.carries n = true ∧ hLvl p.hdr = s.f KRP_STAT_LVL n := by
  simp [State.takesUp, and_assoc]

/-! ### What becomes of a packet -/

theorem State.receive_badHeader (hp : pktOk p = false) : s.receive n p = ((s.satF KRP_CNT_HCRC_COUNT n 0 1).chargeBad n, false) := by
  simp [State.receive, hp]

theorem State.receive_notCarrying (hp : pktOk p = true) (hc : s.carries n = false) :
    s.receive n p = (s.satF KRP_CNT_DISCARD_COUNT n 0 1, false) := by
  simp [State.receive, hp, hc]

theorem State.receive_otherLevel (hp : pktOk p = true) (hc : s.carries n = true) (hl : hLvl p.hdr ≠ s.f KRP_STAT_LVL n) :
    s.receive n p = (((s.satF KRP_CNT_DISCARD_COUNT n 0 1).err KRP_ERR_PROTO n).chargeBad n, false) := by
  simp [State.receive, hp, hc, hl]

theorem State.receive_taken (hp : pktOk p = true) (hc : s.carries n = true) (hk : typeKnown (hType p.hdr) = true)
    (hl : hLvl p.hdr = s.f KRP_STAT_LVL n) : s.receive n p = (s.took n p, true) := by
  simp [State.receive, hp, hc, hk, hl, State.took]

theorem State.receive_takesUp (h : s.takesUp n p = true) : s.receive n p = (s.took n p, true) := by
  obtain ⟨-, -, hp, hk, hc, hlvl⟩ := State.takesUp_iff.1 h
  exact State.receive_taken hp hc hk hlvl

/-- A packet on a root port that faces downstream, of the row's type where its header arrived whole. -/
theorem State.packetIn_down (hl : s.live 0x30 n = true) (hh : s.hubPort n = false) (hr : s.hubRole n = false)
    (ht : pktOk p = true → hType p.hdr = ty) :
    s.packetIn n p ty k = (if (s.receive n p).2 then k (s.receive n p).1 else (s.receive n p).1).goOn n := by
  have hrow : (pktOk p && typeKnown (hType p.hdr) && hType p.hdr != ty) = false := by
    cases hp : pktOk p with
    | false => rfl
    | true => simp [ht hp]
  simp only [State.packetIn, hh, hl, hr, hrow]
  rfl

/-- One that is not to be handled is counted, and the port's turn goes on. -/
theorem State.packetIn_dropped {u : State} (hl : s.live 0x30 n = true) (hh : s.hubPort n = false) (hr : s.hubRole n = false)
    (ht : pktOk p = true → hType p.hdr = ty) (hu : s.receive n p = (u, false)) : s.packetIn n p ty k = u.goOn n := by
  simp [State.packetIn_down hl hh hr ht, hu]

theorem State.packetIn_takes (h : s.takes n p ty = true) (hk : typeKnown ty = true) :
    s.packetIn n p ty k = (k (s.took n p)).goOn n := by
  obtain ⟨hl, hh, hr, hp, rfl, hc, hlvl⟩ := State.takes_iff.1 h
  simp [State.packetIn_down hl hh hr fun _ => rfl, State.receive_taken hp hc hk hlvl]

/-- As `State.packetIn_takes`, for a packet without data. -/
theorem State.packetIn_handshake (h : s.takes n p ty = true) (hk : typeKnown ty = true) (hty : ty ≠ 0x30) :
    s.packetIn n p ty k = (k (s.noted n)).goOn n := by
  obtain ⟨-, -, -, -, rfl, -, -⟩ := State.takes_iff.1 h
  rw [State.packetIn_takes h hk, State.took_eq_noted hty]

/-- A LNK packet whose header did not arrive whole is like any other such packet. -/
theorem State.lnkIn_badHeader (hp : pktOk p = false) : s.lnkIn n p op k = s.packetIn n p 0x60 k := by
  simp [State.lnkIn, hp]

theorem State.lnkIn_takes (h : s.takes n p 0x60 = true) (hop : hSel p.hdr = op) : s.lnkIn n p op k = (k (s.noted n)).goOn n := by
  rw [State.lnkIn, if_neg (by simp [hop]), State.packetIn_handshake h (by decide) (by decide)]

theorem State.askedIn_takesUp {k : State → Nat → State} (h : s.takesUp n p = true) (ht : hType p.hdr = 0x60)
    (hop : hSel p.hdr = op) : s.askedIn n p op k = k (s.noted n) (hArg p.hdr) := by
  have hrec := State.receive_takesUp h
  obtain ⟨hl, hr, -⟩ := State.takesUp_iff.1 h
  rw [State.askedIn, if_neg (by simp [hl, hr, ht, hop])]
  simp only [hrec, if_true, State.took_eq_noted (p := p) (by omega)]

/-- PING on a root port that faces downstream is a LNK packet like the others. -/
theorem exec_ping_down (hh : s.hubPort n = false) (hr : s.hubRole n = false) :
    exec (.ping n p) s = .next (s.lnkIn n p 0x08 fun s => s.pong n p.hdr) := by
  simp [exec, execPing, hr, hh]

theorem exec_hubRoleDownstreamPacket_takesUp (h : s.takesUp n p = true) (ht : hType p.hdr ≠ 0x30) :
    exec (.hubRoleDownstreamPacket n p) s = .next ((s.noted n).hubDown n p) := by
  have hrec := State.receive_takesUp h
  obtain ⟨hl, hr, -⟩ := State.takesUp_iff.1 h
  simp [exec, execHubRoleDownstreamPacket, hl, hr, hrec, State.took_eq_noted ht]

end
end Sys2Proof.Machine

open Sys2Proof Sys2Proof.Machine in
/-- Settles O15: the three ways in which a packet is discarded, each by its equation of `State.receive`. -/
theorem kpbPacketChecks : Obligations.KpbPacketChecks := by
  unfold Obligations.KpbPacketChecks
  intro s n p hl hh hr
  refine ⟨fun hp => ?_, fun hp ht hc => ?_, fun hp ht hc hlvl => ?_⟩
  · have hin {ty : Nat} {k : State → State} : s.packetIn n p ty k = ((s.satF KRP_CNT_HCRC_COUNT n 0 1).chargeBad n).goOn n :=
      State.packetIn_dropped hl hh hr (by simp [hp]) (State.receive_badHeader hp)
    have hlnk {op : Nat} {k : State → State} : s.lnkIn n p op k = ((s.satF KRP_CNT_HCRC_COUNT n 0 1).chargeBad n).goOn n :=
      (State.lnkIn_badHeader hp).trans hin
    simp only [List.forall_mem_cons]
    exact ⟨congrArg _ hin, congrArg _ hin, congrArg _ hin, congrArg _ hin, congrArg _ hin, congrArg _ hin,
      (exec_ping_down hh hr).trans (congrArg _ hlnk), congrArg _ hlnk, congrArg _ hlnk, congrArg _ hlnk, congrArg _ hlnk, congrArg _ hlnk,
      List.forall_mem_nil _⟩
  · exact congrArg Host.Outcome.next (State.packetIn_dropped hl hh hr (fun _ => ht) (State.receive_notCarrying hp hc))
  · exact congrArg Host.Outcome.next (State.packetIn_dropped hl hh hr (fun _ => ht) (State.receive_otherLevel hp hc hlvl))

/-! # Handshakes (R90 to R98, R133, R134) -/

namespace Sys2Proof.Machine
section
variable {s : State} {n : Nat} {h : List (BitVec 8)} {t : Step}

/-- SEL of 0 is endpoint 0, OUT (Table 03-4). -/
theorem hEp_of_sel (hs : hSel h = 0) : hEp h = 0 := by
  have hb : hByte h 2 = 0 := hs
  rw [hEp, hb]

theorem hIn_of_sel (hs : hSel h = 0) : hIn h = false := by
  have hb : hByte h 2 = 0 := hs
  rw [hIn, hb]
  rfl

theorem State.ackIn_unawaited (hc : s.ctrlFor n (hAddr h) = none) : s.ackIn n h = s := by
  simp [State.ackIn, hc]

/-- The ACK of a setup or status stage ends it (R98). -/
theorem State.ackIn_stage (hc : s.ctrlFor n (hAddr h) = some t) (hd : t.dirIn = false) (hs : hSel h = 0) (hseq : hSeq h = t.seq)
    (hst : t.stage ≠ 1) : s.ackIn n h = s.stageDone n t := by
  simp [State.ackIn, hc, hd, hIn_of_sel hs, hEp_of_sel hs, hseq, hst]

/-- A NAK puts a bulk step off (R91). -/
theorem State.nakIn_bulk (hk : t.kind ≤ 2) :
    let s1 := s.count (bankQuad n) 0xC7 (n % 4) (some (s.krpOwner n))
    s1.svcHandFor n h = none → s1.handFor n h = some t →
      s.nakIn n h = (((s1.dropStep n t).putOff n t).keepTries t).wrrEnd (wrrKey 1 n) := by
  intro s1 hv ht
  simp only [State.nakIn, s1, hv, ht, if_pos hk]

/-- An STL fails the step that it answers (R91). -/
theorem State.stlIn_step (hv : s.svcHandFor n h = none) (ht : s.handFor n h = some t) : s.stlIn n h = s.stepFail n t 0x12 := by
  simp only [State.stlIn, hv, ht]

/-- A BUR beyond the packets of its burst is a bad response (R93, R95). -/
theorem State.burIn_beyond (ht : s.stepFor n (hAddr h) (hEp h) false = some t) (hk : t.kind = 2) (hin : hIn h = false)
    (hn : t.credit < (hSeq h + 1024 - t.seq) % 1024) : s.burIn n h = s.attemptBad n t := by
  simp [State.burIn, ht, hk, hin, hn]

/-- A BUR within its burst, where no descriptor is left: the step goes, NEXT and CREDIT are taken over (R95). -/
theorem State.burIn_within (ht : s.stepFor n (hAddr h) (hEp h) false = some t) (hk : t.kind = 2) (hin : hIn h = false)
    (hn : (hSeq h + 1024 - t.seq) % 1024 ≤ t.credit) (h0 : 0 < (hSeq h + 1024 - t.seq) % 1024) :
    let s1 := (s.dropStep n t).setBseq n t.addr t.ep false (hSeq h)
    let s2 := s1.setTree n { s1.tree n with credits := PMap.put (s1.tree n).credits (epKey t.addr t.ep false) (hCredit h) }
    s2.stepDesc t = none → s.burIn n h = s2 := by
  intro s1 s2 hd
  simp [State.burIn, ht, hk, hin, Nat.not_lt.2 hn, Nat.ne_of_gt h0, s1, s2, hd]

/-- A HUB packet that answers a poll (R133, R134). -/
theorem State.hubIn_poll (ht : (s.sq n).steps.find? (fun t => !t.idle && t.kind == 5 && t.addr == hAddr h) = some t) :
    let s1 := (s.dropStep n t).sendAck n t.addr 1 true 0
    let s2 := s1.setTree n { s1.tree n with
      hubs := PMap.put (s1.tree n).hubs t.addr { PMap.get (s1.tree n).hubs t.addr {} with due := true } }
    s.hubIn n h = s2.hubReport n t.addr (hSel h) (leAt h 4 2) (leAt h 6 2) := by
  simp only [State.hubIn, ht]

end
end Sys2Proof.Machine

open Sys2Proof Sys2Proof.Machine in
/-- Settles O16: the packet is taken, and its row's own equation gives what it does to the step. -/
theorem kpbHandshakes : Obligations.KpbHandshakes := by
  unfold Obligations.KpbHandshakes
  intro s n p t
  have hin {ty : Nat} {k : State → State} {u : State} (h : s.takes n p ty = true) (hk : typeKnown ty = true) (hty : ty ≠ 0x30)
      (hu : k (s.noted n) = u) : (.next (s.packetIn n p ty k) : Res) = .next (u.goOn n) :=
    hu ▸ congrArg Host.Outcome.next (State.packetIn_handshake h hk hty)
  refine ⟨fun h => ⟨fun hc => ?_, fun hc hd hs hseq hst => ?_⟩, fun h hv ht hk => ?_, fun h hv ht => ?_,
    fun h ht hk hdir => ⟨fun hn => ?_, fun hn h0 hd => ?_⟩, fun h ht => ?_⟩
  · exact hin h (by decide) (by decide) (State.ackIn_unawaited hc)
  · exact hin h (by decide) (by decide) (State.ackIn_stage hc hd hs hseq hst)
  · exact hin h (by decide) (by decide) (State.nakIn_bulk hk hv ht)
  · exact hin h (by decide) (by decide) (State.stlIn_step hv ht)
  · exact hin h (by decide) (by decide) (State.burIn_beyond ht hk hdir hn)
  · exact hin h (by decide) (by decide) (State.burIn_within ht hk hdir hn h0 hd)
  · exact hin h (by decide) (by decide) (State.hubIn_poll ht)

/-! # LNK packets (R88, R109 to R114, R165, Table 03-7) -/

namespace Sys2Proof.Machine
section
variable {s : State} {n : Nat} {h : List (BitVec 8)}

@[simp] theorem State.noted_now : (s.noted n).now = s.now := rfl

@[simp] theorem State.noted_f {F : Fld} {u i : Nat} : (s.noted n).f F u i = s.f F u i := rfl

@[simp] theorem State.noted_dwell : (s.noted n).dwell n = s.dwell n := rfl

theorem hType_mkHdr_lnk {addr sel lvl flags : Nat} {body : List (BitVec 8)} : hType (mkHdr 0x60 addr sel lvl flags body) = 0x60 := rfl

/-- A LNK packet has no payload to count: sending one writes no register. -/
theorem State.sendLnk_regs {op arg nonce : Nat} : (s.sendLnk n op arg nonce).regs = s.regs := by
  have hpay {addr sel lvl flags : Nat} {body data : List (BitVec 8)} : payBlocks (mkHdr 0x60 addr sel lvl flags body) data = 0 :=
    payBlocks_eq_zero (by rw [hType_mkHdr_lnk]; decide)
  simp only [State.sendLnk, State.send, State.wire, hpay, State.ran_none]
  rfl

/-- Outside SLEEP a PING is answered and wakes nothing (R88). -/
theorem State.pong_awake (hw : s.f PWR_STAT_STATE ≠ 2) : s.pong n h = s.sendLnk n 0x09 0 (hTail h) := by
  have hf : (s.sendLnk n 0x09 0 (hTail h)).f PWR_STAT_STATE ≠ 2 := by rwa [State.f_congr State.sendLnk_regs]
  simp [State.pong, hf]

/-- A widening waits for a training block on each waking lane (Table 03-11). -/
theorem State.widenGo_unwoken (hr : (s.link n).runs = []) (hw : krpLanes (s.f KRP_STAT_WIDTH n) < krpLanes (s.link n).reqArg) :
    s.widenGo n = s := by
  have hwoken : ((List.range (krpLanes (s.link n).reqArg - krpLanes (s.f KRP_STAT_WIDTH n))).all fun k => (PMap.find (s.link n).runs
      (s.laneAt n (krpLanes (s.f KRP_STAT_WIDTH n) + k) (s.b KRP_STAT_LANE_REV n))).isSome) = false := by
    rw [List.all_eq_false]
    exact ⟨0, List.mem_range.2 (by omega), by simp [hr, PMap.find]⟩
  simp only [State.widenGo, hwoken, Bool.and_false, Bool.false_eq_true, if_false]

end
end Sys2Proof.Machine

open Sys2Proof Sys2Proof.Machine in
/-- Settles O17: the packet is taken, and its operation finds the request that it answers or, in hub role, is answered itself. -/
theorem kpbLinkPackets : Obligations.KpbLinkPackets := by
  unfold Obligations.KpbLinkPackets
  intro s n p
  have hlnk (h : s.takes n p 0x60 = true) {op : Nat} (hop : hSel p.hdr = op) {k : State → State} {u : State}
      (hu : k (s.noted n) = u) : (.next (s.lnkIn n p op k) : Res) = .next (u.goOn n) :=
    hu ▸ congrArg Host.Outcome.next (State.lnkIn_takes h hop)
  have hask (h : s.takesUp n p = true) (ht : hType p.hdr = 0x60) {op : Nat} (hop : hSel p.hdr = op) {k : State → Nat → State} :
      (.next (s.askedIn n p op k) : Res) = .next (k (s.noted n) (hArg p.hdr)) :=
    congrArg Host.Outcome.next (State.askedIn_takesUp h ht hop)
  refine ⟨fun h => ⟨fun hop hw => ?_, fun hop t hping => ?_, fun hop hreq harg => ?_, fun hop hreq harg hruns hlanes => ?_,
    fun hop hreq harg => ?_, fun hop harg hreq => ?_, fun hop harg hreq hdown => ?_⟩,
    fun h ht => ⟨fun hop => ?_, fun hop => ?_, fun hop => ?_, fun hop => ?_⟩⟩
  · obtain ⟨-, hh, hr, -⟩ := State.takes_iff.1 h
    exact (exec_ping_down hh hr).trans (hlnk h hop (State.pong_awake hw))
  · exact hlnk h hop (by simp [hping])
  · exact hlnk h hop (by simp [hreq, harg])
  · have hgo : ((s.noted n).setLink n { s.link n with acked := true }).widenGo n =
        (s.noted n).setLink n { s.link n with acked := true } :=
      State.widenGo_unwoken (by simp [hruns]) (by simpa using hlanes)
    refine hlnk h hop ?_
    simp only [State.noted_link]
    exact (if_pos (by simp [hreq, harg])).trans hgo
  · exact hlnk h hop (by simp [hreq, harg])
  · exact hlnk h hop (by simp [hreq, harg])
  · exact hlnk h hop (by simp [hreq, harg, hdown])
  · obtain ⟨-, hr, -⟩ := State.takesUp_iff.1 h
    exact (congrArg Host.Outcome.next (if_pos hr)).trans (hask h ht hop)
  · exact hask h ht hop
  · exact hask h ht hop
  · exact (hask h ht hop).trans (by simp)

/-! # Periodic data, and a hub's forwarding (R85, R97, R130, R218, R219) -/

namespace Sys2Proof.Machine
section
variable {s : State} {n : Nat} {p : Pkt}

/-- A periodic packet whose data arrived whole (R85). -/
theorem State.datIn_periodic (hd : pktDataOk p = true) (hf : bit (hFlags p.hdr) 1 = true) : s.datIn n p = s.datPeriodic n p := by
  simp [State.datIn, hd, hf]

/-- A periodic packet that no service waits for is stray (R218). -/
theorem State.datPeriodic_stray (h : s.svcFor n (hAddr p.hdr) (hEp p.hdr) = none) :
    s.datPeriodic n p = s.satF KSCH_CNT_STRAY_COUNT n 0 1 := by
  simp [State.datPeriodic, h]

/-- A periodic packet adds to the service that it answers (R97, R219). -/
theorem State.datPeriodic_service {v : Svc} (h : s.svcFor n (hAddr p.hdr) (hEp p.hdr) = some v) (hin : hIn p.hdr = true)
    (hd : pktDataOk p = true) (hpoison : bit (hFlags p.hdr) 2 = false) :
    s.datPeriodic n p = s.setSq n { s.sq n with svc := some { v with
      begun := true, missing := v.missing || hSeq p.hdr != v.idx, idx := hSeq p.hdr + 1, last := v.last || bit (hFlags p.hdr) 0,
      data := v.data ++ p.data, done := bit (hFlags p.hdr) 0 || decide (svcPackets (eBytes v.ent) ≤ hSeq p.hdr + 1) } } := by
  have hsvc : ((s.svcFor n (hAddr p.hdr) (hEp p.hdr)).filter fun _ => hIn p.hdr) = some v := by simp [h, hin]
  simp only [State.datPeriodic, hsvc]
  simp [hd, hpoison]

/-- A FRM goes to the device function, where port 4 is ENABLED, and to the other ports (R130). -/
theorem State.hubDown_frm (ht : hType p.hdr = 0x10) :
    s.hubDown n p = ((((if s.hportOn 4 then s.hubFrm n p.hdr else s).hubForward n 1 p).hubForward n 2 p).hubForward n 3 p) := by
  cases h4 : s.hportOn 4 <;> simp [State.hubDown, ht, h4]

/-- A token for an address with no route is dropped (R130). -/
theorem State.hubDown_noRoute (ht : hType p.hdr = 0x20) (h0 : hAddr p.hdr ≠ 0) (hall : hAddr p.hdr ≠ 255)
    (hown : hAddr p.hdr ≠ s.hub.addr) (hr : PMap.find s.hub.routes (hAddr p.hdr) = none) : s.hubDown n p = s := by
  simp [State.hubDown, ht, h0, hall, hown, hr]

/-- LNK is never forwarded (Table 03-3). -/
theorem State.hubDown_lnk (ht : hType p.hdr = 0x60) : s.hubDown n p = s := by
  simp [State.hubDown, ht]

end
end Sys2Proof.Machine

open Sys2Proof Sys2Proof.Machine in
/-- Settles O18: a DAT that is taken is periodic data of a service or stray, and a packet of the upstream port goes where R130 sends it. -/
theorem kpbDataAndForwarding : Obligations.KpbDataAndForwarding := by
  unfold Obligations.KpbDataAndForwarding
  intro s n p
  refine ⟨fun h hd hf hin => ?_, fun h => ⟨fun ht => ?_, fun ht h0 hall hown hr => ?_, fun ht => ?_⟩⟩
  · have hdat {u : State} (hu : (s.took n p).datPeriodic n p = u) : exec (.dat n p) s = .next (u.goOn n) := by
      rw [← hu, ← State.datIn_periodic hd hf]
      exact congrArg Host.Outcome.next (State.packetIn_takes h (by decide))
    exact ⟨fun hv => hdat (State.datPeriodic_stray hv), fun v hv hpoison => hdat (State.datPeriodic_service hv hin hd hpoison)⟩
  · exact (exec_hubRoleDownstreamPacket_takesUp h (by omega)).trans (congrArg _ (State.hubDown_frm ht))
  · exact (exec_hubRoleDownstreamPacket_takesUp h (by omega)).trans (congrArg _ (State.hubDown_noRoute ht h0 hall hown hr))
  · exact (exec_hubRoleDownstreamPacket_takesUp h (by omega)).trans (congrArg _ (State.hubDown_lnk ht))

/-! # The lanes of a root port (R74, R100 to R109, R125)

What a lane hears is written to SRDS_STAT and SRDS_MARGIN and, of KRP_STAT, to the partner and the order of lanes. `SamePort` says what these
writes leave alone: all that decides how the port goes on. -/

namespace Sys2Proof.Machine
section
variable {s t u : State} {n lane v i x : Nat} {F G : Fld}

/-- The fields that decide in which state root port `n` is, which way it faces, and whether its power is on. -/
def portFields (n : Nat) : List Nat :=
  [KRP_STAT_LSTATE.addr n 0, SRDS_CTL_HUB_ROLE.addr (n / 4) 0, SRDS_CTL_MODE.addr (n / 4) 0, KHUB_PWR_MAP_FITTED.addr 0 n,
    KHUB_PWR_STAT_PSTATE.addr 0 n]

/-- Root port `n` stands in `t` as in `s`: the links and the fields that decide how it goes on are the same. -/
structure SamePort (n : Nat) (s t : State) : Prop where
  links : t.links = s.links
  field : ∀ a ∈ portFields n, PMap.find t.regs a = PMap.find s.regs a

theorem SamePort.refl : SamePort n s s := ⟨rfl, fun _ _ => rfl⟩

theorem SamePort.trans (h : SamePort n s t) (h' : SamePort n t u) : SamePort n s u :=
  ⟨h'.links.trans h.links, fun a ha => (h'.field a ha).trans (h.field a ha)⟩

/-- A write of any other field leaves the port as it stands. -/
theorem SamePort.setF (h : F.addr v i ∉ portFields n) : SamePort n s (s.setF F v i x) :=
  ⟨rfl, fun _ ha => PMap.find_put_ne _ _ fun e => h (e ▸ ha)⟩

theorem SamePort.foldl {α : Type} {k : State → α → State} {l : List α} (h : ∀ t, ∀ a ∈ l, SamePort n t (k t a)) :
    SamePort n s (l.foldl k s) :=
  List.foldlRecOn (motive := fun t => SamePort n s t) l k .refl fun _ ht a ha => ht.trans (h _ a ha)

theorem SamePort.link (h : SamePort n s t) : t.link n = s.link n := by rw [State.link, h.links, State.link]

theorem SamePort.lstate (h : SamePort n s t) : t.lstate n = s.lstate n :=
  State.f_of_find (h.field _ (by simp [portFields]))

theorem SamePort.hubRole (h : SamePort n s t) : t.hubRole n = s.hubRole n := by
  have hrole : t.f SRDS_CTL_HUB_ROLE (n / 4) = s.f SRDS_CTL_HUB_ROLE (n / 4) := State.f_of_find (h.field _ (by simp [portFields]))
  have hmode : t.f SRDS_CTL_MODE (n / 4) = s.f SRDS_CTL_MODE (n / 4) := State.f_of_find (h.field _ (by simp [portFields]))
  simp only [State.hubRole, State.quadMode, State.b, hrole, hmode]

theorem SamePort.portOn (h : SamePort n s t) : t.portOn n = s.portOn n := by
  have hmap : t.f KHUB_PWR_MAP_FITTED 0 n = s.f KHUB_PWR_MAP_FITTED 0 n := State.f_of_find (h.field _ (by simp [portFields]))
  have hstat : t.f KHUB_PWR_STAT_PSTATE 0 n = s.f KHUB_PWR_STAT_PSTATE 0 n := State.f_of_find (h.field _ (by simp [portFields]))
  simp only [State.portOn, State.b, hmap, hstat]

/-! ### What a lane's registers leave alone -/

/-- The registers in which a quad shows its lanes: SRDS_STAT and SRDS_MARGIN (Table 03-14). -/
abbrev Fld.ofLane (F : Fld) : Prop := F.blk = 0x70 ∧ (F.off = 0x44 ∨ F.off = 0x48) ∧ F.lo < 32

theorem Fld.ofLane.addr_notMem (hF : F.ofLane) (hn : n < 96) : F.addr v 0 ∉ portFields n := by
  obtain ⟨hblk, hoff, hlo⟩ := hF
  simp only [portFields, Fld.addr, hblk, KRP_STAT_LSTATE, SRDS_CTL_HUB_ROLE, SRDS_CTL_MODE, KHUB_PWR_MAP_FITTED, KHUB_PWR_STAT_PSTATE,
    List.mem_cons, List.not_mem_nil, or_false]
  omega

theorem SamePort.laneStat {on : Bool} {fs : List Fld} (hn : n < 96) (hfs : ∀ F ∈ fs, F.ofLane) :
    SamePort n s (s.laneStat lane on fs) :=
  .foldl fun _ F hF => .setF ((hfs F hF).addr_notMem hn)

theorem marginOf_ofLane : (marginOf lane).ofLane := by
  unfold marginOf
  split
  · decide
  · split
    · decide
    · split <;> decide

theorem SamePort.laneIdle (hn : n < 96) : SamePort n s (s.laneIdle lane) :=
  (SamePort.laneStat hn (by decide)).trans (.setF (marginOf_ofLane.addr_notMem hn))

theorem partnerHub_notMem (hn : n < 96) : KRP_STAT_PARTNER_HUB.addr n 0 ∉ portFields n := by
  simp only [portFields, Fld.addr, KRP_STAT_PARTNER_HUB, KRP_STAT_LSTATE, SRDS_CTL_HUB_ROLE, SRDS_CTL_MODE, KHUB_PWR_MAP_FITTED,
    KHUB_PWR_STAT_PSTATE, List.mem_cons, List.not_mem_nil, or_false]
  omega

theorem laneRev_notMem (hn : n < 96) : KRP_STAT_LANE_REV.addr n 0 ∉ portFields n := by
  simp only [portFields, Fld.addr, KRP_STAT_LANE_REV, KRP_STAT_LSTATE, SRDS_CTL_HUB_ROLE, SRDS_CTL_MODE, KHUB_PWR_MAP_FITTED,
    KHUB_PWR_STAT_PSTATE, List.mem_cons, List.not_mem_nil, or_false]
  omega

theorem SamePort.sendTs {k : Nat} : SamePort n s (s.sendTs n k) := by
  unfold State.sendTs
  split
  · exact .refl
  · exact ⟨rfl, fun _ _ => rfl⟩

/-! ### Training blocks -/

/-- There are 96 root ports (R22). -/
theorem State.laneOf_port (h : s.laneOf n lane = true) : n < 96 := by
  simp only [State.laneOf, Bool.and_eq_true] at h
  obtain ⟨⟨⟨⟨⟨hl, -⟩, -⟩, -⟩, -⟩, -⟩ := h
  have hu := State.live_listed hl
  simp [unitListed, blockUnits] at hu
  omega

/-- How many training blocks of kind `k` have now come in a row on the lane. -/
def Link.run (l : Link) (lane k : Nat) : Nat := match PMap.find l.runs lane with
  | some r => if r.1 = k then r.2 + 1 else 1
  | none => 1

/-- The link after a training block that changes neither the phase nor the selection: its lane's run is one longer, and the partner's
capabilities are noted. -/
def State.tsHeard (s : State) (n lane : Nat) (ts : List (BitVec 8)) (rev : Bool) : Link :=
  let l := s.link n
  { l with
    runs := PMap.put l.runs lane (tsKind ts rev, l.run lane (tsKind ts rev))
    lastTs := s.now, caps := (leAt ts 3 1 % 8, leAt ts 3 1 / 16 % 8, leAt ts 4 1 % 16)
    sent := if l.phase = 3 then PMap.put l.sent lane (PMap.get l.sent lane 0 + 1) else [] }

/-- The lane shows signal and lock. -/
def State.laneHeard (s : State) (lane : Nat) : State := s.laneStat lane true [SRDS_STAT_SIG_DET, SRDS_STAT_CDR_LOCK, SRDS_STAT_FEC_LOCK]

theorem SamePort.laneHeard (hn : n < 96) : SamePort n s (s.laneHeard lane) := SamePort.laneStat hn (by decide)

/-- What a valid training block writes once the link has taken note of it. -/
def State.tsShown (s : State) (n st len : Nat) (ts : List (BitVec 8)) (rev : Bool) : State :=
  if 1 ≤ st && st ≤ 3 then
    let s := s.setF KRP_STAT_PARTNER_HUB n 0 (b2n (tsHub ts))
    if 8 ≤ len then s.setF KRP_STAT_LANE_REV n 0 (b2n rev) else s
  else s

theorem SamePort.tsShown {st len : Nat} {ts : List (BitVec 8)} {rev : Bool} (hn : n < 96) :
    SamePort n s (s.tsShown n st len ts rev) := by
  unfold State.tsShown
  split
  · have hhub {x : Nat} : SamePort n s (s.setF KRP_STAT_PARTNER_HUB n 0 x) := .setF (partnerHub_notMem hn)
    dsimp only
    split
    · exact hhub.trans (.setF (laneRev_notMem hn))
    · exact hhub
  · exact .refl

/-- Outside CONFIG and RETRAIN a valid training block is noted, shown, and answered on a lane that sends them. -/
theorem State.tsTake_eq {ts : List (BitVec 8)} {rev : Bool} (h3 : s.lstate n ≠ 3) (h7 : s.lstate n ≠ 7) :
    s.tsTake n lane ts rev =
      let u := ((s.setLink n (s.tsHeard n lane ts rev)).laneHeard lane).tsShown n (s.lstate n) ((s.link n).run lane (tsKind ts rev)) ts rev
      if tsLane ts < u.tsLanes n then u.sendTs n (tsLane ts) else u := by
  cases hr : PMap.find (s.link n).runs lane <;>
    simp [State.tsTake, State.tsHeard, State.laneHeard, State.tsShown, Link.run, h3, h7, hr]

/-- Beyond the note on its link it leaves the port as it stands. -/
theorem State.tsTake_samePort {ts : List (BitVec 8)} {rev : Bool} (hn : n < 96) (h3 : s.lstate n ≠ 3) (h7 : s.lstate n ≠ 7) :
    SamePort n (s.setLink n (s.tsHeard n lane ts rev)) (s.tsTake n lane ts rev) := by
  have hu := (SamePort.laneHeard (s := s.setLink n (s.tsHeard n lane ts rev)) (lane := lane) hn).trans
    (SamePort.tsShown (st := s.lstate n) (len := (s.link n).run lane (tsKind ts rev)) (ts := ts) (rev := rev) hn)
  rw [State.tsTake_eq h3 h7]
  dsimp only
  split
  · exact hu.trans .sendTs
  · exact hu

/-- On a link in FULL or STEPPED a training block is noted and not answered. -/
theorem State.tsTake_running {ts : List (BitVec 8)} {rev : Bool} (hn : n < 96) (hst : s.lstate n = 4 ∨ s.lstate n = 6) :
    s.tsTake n lane ts rev = (s.setLink n (s.tsHeard n lane ts rev)).laneHeard lane := by
  have hstate : ((s.setLink n (s.tsHeard n lane ts rev)).laneHeard lane).lstate n = s.lstate n := (SamePort.laneHeard hn).lstate
  have hlanes : ((s.setLink n (s.tsHeard n lane ts rev)).laneHeard lane).tsLanes n = 0 := by
    rcases hst with hst | hst <;> simp [State.tsLanes, hstate, hst]
  have hshown {t : State} {len : Nat} : t.tsShown n (s.lstate n) len ts rev = t := by
    rcases hst with hst | hst <;> simp [State.tsShown, hst]
  rw [State.tsTake_eq (by omega) (by omega), hshown]
  simp [hlanes]

/-- A training block that is invalid, or of a lane out of order, ends its lane's run (R74, R101). -/
theorem State.tsIn_invalid {raw : List (BitVec 8)} (h : tsOk (tsTrue raw) = false ∨ s.laneRev n lane (tsTrue raw) = none) :
    s.tsIn n lane raw = s.setLink n { s.link n with runs := PMap.del (s.link n).runs lane } := by
  have hrev : ((s.laneRev n lane (tsTrue raw)).filter fun _ => tsOk (tsTrue raw)) = none := by
    rcases h with h | h <;> simp [h]
  simp only [State.tsIn, hrev]

theorem State.laneRev_filter {raw : List (BitVec 8)} {rev : Bool} (hts : tsOk (tsTrue raw) = true)
    (hrev : s.laneRev n lane (tsTrue raw) = some rev) : ((s.laneRev n lane (tsTrue raw)).filter fun _ => tsOk (tsTrue raw)) = some rev := by
  simp [hts, hrev]

/-- On a link in FULL or STEPPED a valid one changes no state. -/
theorem State.tsIn_running {raw : List (BitVec 8)} {rev : Bool} (hts : tsOk (tsTrue raw) = true)
    (hrev : s.laneRev n lane (tsTrue raw) = some rev) (hst : s.lstate n = 4 ∨ s.lstate n = 6) :
    s.tsIn n lane raw = s.tsTake n lane (tsTrue raw) rev := by
  simp only [State.tsIn, State.laneRev_filter hts hrev]
  rcases hst with hst | hst <;> simp [hst]

/-- In DETECT the eighth of a kind leads on (Table 03-9). -/
theorem State.tsIn_detect {raw : List (BitVec 8)} {rev : Bool} (hn : n < 96) (hts : tsOk (tsTrue raw) = true)
    (hrev : s.laneRev n lane (tsTrue raw) = some rev) (hst : s.lstate n = 1) (hr : s.hubRole n = false) (hon : s.portOn n = true)
    (hrun : PMap.find (s.link n).runs lane = some (tsKind (tsTrue raw) rev, 7)) :
    s.tsIn n lane raw = let u := s.tsTake n lane (tsTrue raw) rev
      if tsReady (tsTrue raw) then u.linkConfigNew n else u.linkTo n 2 := by
  have hsame := State.tsTake_samePort (lane := lane) (ts := tsTrue raw) (rev := rev) (s := s) hn (by omega) (by omega)
  have hrole : (s.tsTake n lane (tsTrue raw) rev).hubRole n = false := hsame.hubRole.trans hr
  have hpower : (s.tsTake n lane (tsTrue raw) rev).portOn n = true := hsame.portOn.trans hon
  have height : PMap.find ((s.tsTake n lane (tsTrue raw) rev).link n).runs lane = some (tsKind (tsTrue raw) rev, 8) := by
    rw [hsame.link, State.link_setLink]
    simp [State.tsHeard, Link.run, hrun]
  simp only [State.tsIn, State.laneRev_filter hts hrev]
  simp [hst, hrole, hpower, height]

/-- TS on a lane of a root port. -/
theorem exec_ts {raw : List (BitVec 8)} (hh : s.hubPort n = false) (hl : s.laneOf n lane = true) :
    exec (.ts n lane raw) s = .next (((s.tsIn n lane raw).serve n).enumTurn n) := by
  simp [exec, execTs, hh, hl]

/-! ### Markers, errors and the loss of block lock -/

theorem exec_eie_down (hl : s.laneOf n lane = true) (hr : s.hubRole n = false) : exec (.eie n lane) s = .next (s.laneIdle lane) := by
  have hrole : (s.laneIdle lane).hubRole n = false := (SamePort.laneIdle (State.laneOf_port hl)).hubRole.trans hr
  simp [exec, execEie, hl, hrole]

/-- On lane 0 of an upstream port EIE starts the idle that a port reset is made of (R125). -/
theorem exec_eie_up (hl : s.laneOf n n = true) (hr : s.hubRole n = true) (hw : (s.link n).stepWait = none) :
    exec (.eie n n) s = .next ((s.laneIdle n).setLink n { s.link n with eieAt := some s.now }) := by
  have hsame : SamePort n s (s.laneIdle n) := .laneIdle (State.laneOf_port hl)
  simp only [exec, execEie, hl, if_true, hsame.hubRole, hr, hsame.link, hw, beq_self_eq_true, Bool.and_self, Option.isSome_none]
  rfl

theorem exec_eix_short {t : Nat} (hl : s.laneOf n n = true) (ht : (s.link n).eieAt = some t) (h : s.now < t + 6553600000) :
    exec (.eix n n) s = .next (s.setLink n { s.link n with eieAt := none }) := by
  have hus : us 100 = 6553600000 := rfl
  have hlate : ¬ t + us 100 ≤ (s.setLink n { s.link n with eieAt := none }).now := by
    rw [hus]
    exact Nat.not_le.2 h
  simp only [exec, execEix, hl, beq_self_eq_true, Bool.and_self, if_true, ht, if_neg hlate]

theorem exec_eix_long {t : Nat} (hl : s.laneOf n n = true) (ht : (s.link n).eieAt = some t) (h : t + 6553600000 ≤ s.now) :
    exec (.eix n n) s = .next ((s.setLink n { s.link n with eieAt := none }).kpbReset 0) := by
  have hlate : t + us 100 ≤ (s.setLink n { s.link n with eieAt := none }).now := h
  simp only [exec, execEix, hl, beq_self_eq_true, Bool.and_self, if_true, ht, if_pos hlate]

/-- What a hub's port does to its own record leaves the hub's address and configuration, and all memory, alone. -/
structure SameHub (s t : State) : Prop where
  addr : t.hub.addr = s.hub.addr
  cfg : t.hub.cfg = s.hub.cfg
  mem : t.mem = s.mem

theorem SameHub.hportStat {p x : Nat} : SameHub s (s.hportStat p x) := by
  unfold State.hportStat
  dsimp only
  split <;> exact ⟨rfl, rfl, rfl⟩

theorem SameHub.hportBits {b : Nat} {on : Bool} {l : List Nat} : SameHub s (l.foldl (fun s p => s.hportBit p b on) s) :=
  List.foldlRecOn (motive := fun t => SameHub s t) l _ ⟨rfl, rfl, rfl⟩ fun _ ht _ _ =>
    have hp := SameHub.hportStat
    ⟨hp.addr.trans ht.addr, hp.cfg.trans ht.cfg, hp.mem.trans ht.mem⟩

/-- The reset of a hub's KPB state (R125). -/
theorem State.kpbReset_hub : (s.kpbReset 0).hub.addr = 0 ∧ (s.kpbReset 0).hub.cfg = 0 ∧ (s.kpbReset 0).hub.routes = [] ∧
    (s.kpbReset 0).hub.last = 0 ∧ (s.kpbReset 0).mem = s.mem :=
  have hports := SameHub.hportBits (l := [1, 2, 3, 4])
  ⟨hports.addr, hports.cfg, rfl, rfl, hports.mem⟩

theorem exec_wsw {w : Nat} (hc : s.carries n = true) (hw : w ≤ 2) :
    exec (.wsw n w) s = .next (s.setLink n { s.link n with rxWidth := w }) := by
  simp [exec, execWsw, hc, hw]

theorem exec_fecUncorrectable_few {run : Nat} (hl : s.laneOf n lane = true) (hrun : run < 3) :
    exec (.fecUncorrectable n lane run) s = .next (s.addF KRP_CNT_FEC_UNC_COUNT n 0 1) := by
  simp [exec, execFecUncorrectable, hl, Nat.not_le.2 hrun]

theorem exec_fecUncorrectable_burst {run : Nat} (hl : s.laneOf n lane = true) (hrun : 3 ≤ run)
    (hc : (s.addF KRP_CNT_FEC_UNC_COUNT n 0 1).carries n = true) : exec (.fecUncorrectable n lane run) s =
      .next (((s.addF KRP_CNT_FEC_UNC_COUNT n 0 1).err KRP_ERR_UNC_BURST n).linkRecover n) := by
  simp [exec, execFecUncorrectable, hl, hrun, hc]

theorem exec_blockLockLoss (hh : s.hubPort n = false) (hc : s.carries n = true) : exec (.blockLockLoss n) s = .next (s.linkRecover n) := by
  simp [exec, execBlockLockLoss, hh, hc]

end
end Sys2Proof.Machine

open Sys2Proof Sys2Proof.Machine in
/-- Settles O19: a training block is judged in the state that the link had, which taking note of it leaves alone; the other events act as
their guards say. -/
theorem kpbLanes : Obligations.KpbLanes := by
  unfold Obligations.KpbLanes
  intro s n lane
  refine ⟨fun hh hl => ⟨fun raw h => ?_, fun raw rev hts hrev => ⟨fun hst hr hon hrun => ?_, fun hst => ?_⟩,
    fun hr => exec_eie_down hl hr, fun run hrun => exec_fecUncorrectable_few hl hrun,
    fun run hrun hc => exec_fecUncorrectable_burst hl hrun hc⟩,
    fun hc => ⟨fun w hw => exec_wsw hc hw, fun hh => exec_blockLockLoss hh hc⟩, fun hl hr hw => exec_eie_up hl hr hw,
    fun hl t ht => ⟨fun h => exec_eix_short hl ht h, fun h => ⟨_, exec_eix_long hl ht h, State.kpbReset_hub⟩⟩⟩
  · rw [exec_ts hh hl, State.tsIn_invalid h]
  · rw [exec_ts hh hl, State.tsIn_detect (State.laneOf_port hl) hts hrev hst hr hon hrun]
  · rw [exec_ts hh hl, State.tsIn_running hts hrev hst, State.tsTake_running (State.laneOf_port hl) hst]
    rfl

/-! # The timers of a root link, and KRP_CMD (R90, R100 to R108) -/

namespace Sys2Proof.Machine
section
variable {s : State} {n : Nat}

/-- A link's record decides whether it carries packets by the idle of a port reset alone. -/
theorem State.carries_setLink {l : Link} (h : l.idleEnd = (s.link n).idleEnd) : (s.setLink n l).carries n = s.carries n := by
  simp only [State.carries, State.link_setLink, h]
  rfl

theorem exec_presentTimeout (hh : s.hubPort n = false) (hst : s.lstate n = 2) : exec (.presentTimeout n) s =
    .next (if (s.link n).lastTs + 65536000000 ≤ s.now then s.linkTo n 1 else s) := by
  have hms : ms 1 = 65536000000 := rfl
  simp [exec, execPresentTimeout, hh, hst, hms]

theorem exec_configTimeout (hh : s.hubPort n = false) (hst : s.lstate n = 3) : exec (.configTimeout n) s =
    .next (if (s.link n).since + 50 * 65536000000 ≤ s.now then s.configFailed n else s) := by
  have hms : ms 50 = 50 * 65536000000 := rfl
  simp [exec, execConfigTimeout, hh, hst, hms]

theorem exec_retrainTimeout (hst : s.lstate n = 7) : exec (.retrainTimeout n) s =
    .next (if (s.link n).since + (s.link n).bound ≤ s.now then s.linkReconfig n true else s) := by
  simp [exec, execRetrainTimeout, hst]

/-- The oldest step on the wire is timed against RSP_TMO, in units of 10 ns (R90). -/
theorem exec_responseTimeout {t : Step} (ht : (s.sq n).steps.find? (fun t => !t.idle && t.rest.isEmpty) = some t) :
    exec (.responseTimeout n) s =
      .next (if t.since + s.f KRP_TMO_RSP_TMO n * 655360 ≤ s.now then (s.stepTimeout n t).goOn n else s) := by
  have hns : ns (10 * s.f KRP_TMO_RSP_TMO n) = s.f KRP_TMO_RSP_TMO n * 655360 := by
    unfold ns
    omega
  simp only [exec, execResponseTimeout, ht, hns]
  rfl

/-- A step that no boundary cut and that has attempts left is to be sent again (R90). -/
theorem State.stepTimeout_retry {t : Step} (hc : t.cut = false) (ht : t.tries < s.f KRP_TMO_RETRY_MAX n) :
    s.stepTimeout n t = (s.satF KRP_CNT_RETRY_COUNT n 0 1).mapStep n (fun x => x == t) fun _ =>
      { t with idle := true, cut := false, rest := [], tries := t.tries + 1 } := by
  simp [State.stepTimeout, hc, State.attemptFailed, Nat.not_le.2 ht, State.mapStep]

theorem exec_krpCmdRetrain (ho : s.opens 0x30 n = true) :
    exec (.krpCmdRetrain 0 n) s = .next (if s.carries n then s.linkRecover n else s) := by
  obtain ⟨hl, hr⟩ := State.opens_iff.1 ho
  exact congrArg Host.Outcome.next (State.act_manager _ hl hr)

theorem exec_krpCmdWiden (ho : s.opens 0x30 n = true) : exec (.krpCmdWiden 0 n) s = .next (s.linkWidenCmd n) := by
  obtain ⟨hl, hr⟩ := State.opens_iff.1 ho
  exact congrArg Host.Outcome.next (State.act_manager _ hl hr)

/-- What a port asks for that wants more bandwidth and has nothing else to do: it widens in SHED, steps up in STEPPED, and has what it
wants in FULL (R110, R111). -/
theorem State.linkGo_wanting (hr : s.hubRole n = false) (hq : (s.link n).req = 0) (hw : (s.link n).stepWait = none)
    (hs : (s.link n).seed = false) (hc : s.carries n = true) (hwant : (s.link n).want = true) :
    s.linkGo n = if s.lstate n = 5 then s.linkWiden n else if s.lstate n = 6 then s.linkStep n (s.link n).tRate false
      else s.setLink n { s.link n with want := false } := by
  simp [State.linkGo, hr, hq, hw, hs, hc, hwant]

/-- As `State.linkGo_wanting`, for a port that comes to want it. -/
theorem State.linkUp_free (hr : s.hubRole n = false) (hq : (s.link n).req = 0) (hw : (s.link n).stepWait = none)
    (hs : (s.link n).seed = false) (hi : (s.link n).idleEnd = none) :
    let u := s.setLink n { s.link n with want := true }
    (s.lstate n = 4 → s.linkUp n = u.setLink n { u.link n with want := false }) ∧
    (s.lstate n = 5 → s.linkUp n = u.linkWiden n) ∧
    (s.lstate n = 6 → s.linkUp n = u.linkStep n (s.link n).tRate false) := by
  intro u
  have hlink : u.link n = { s.link n with want := true } := State.link_setLink ..
  have hstate : u.lstate n = s.lstate n := rfl
  have hgo (h4 : 4 ≤ s.lstate n) (h6 : s.lstate n ≤ 6) : s.linkUp n = if u.lstate n = 5 then u.linkWiden n
      else if u.lstate n = 6 then u.linkStep n (u.link n).tRate false else u.setLink n { u.link n with want := false } := by
    have hc : u.carries n = true := State.carries_iff.2 ⟨⟨h4, h6⟩, by rw [hlink]; exact hi⟩
    rw [State.linkUp, if_pos (by simp; omega)]
    exact State.linkGo_wanting hr (by rw [hlink]; exact hq) (by rw [hlink]; exact hw) (by rw [hlink]; exact hs) hc (by rw [hlink])
  refine ⟨fun h => ?_, fun h => ?_, fun h => ?_⟩
  · rw [hgo (by omega) (by omega), if_neg (by omega), if_neg (by omega)]
  · rw [hgo (by omega) (by omega), if_pos (by omega)]
  · rw [hgo (by omega) (by omega), if_neg (by omega), if_pos (by omega), hlink]

/-- A window without corrected symbols is a window of the link alone (R108). -/
theorem exec_kpbUtilWindow_clean (hl : s.live 0x30 n = true) (hw : (s.link n).winAt + 6553600000 ≤ s.now)
    (hc : (s.addF KRP_CNT_FEC_CORR_COUNT n 0 0).carries n = true) :
    exec (.kpbUtilWindow n 0) s = .next ((s.addF KRP_CNT_FEC_CORR_COUNT n 0 0).utilWindow n) := by
  have hus : us 100 = 6553600000 := rfl
  simp [exec, execKpbUtilWindow, hl, hus, hw, State.count_none, hc]

/-- The utilisation of the window, of ten bits. -/
theorem State.utilWindow_util : (s.utilWindow n).f KRP_UTIL_UTIL n =
    min 1023 (max (s.link n).txBlk (s.link n).rxBlk * 1000 / blocksPer100 (s.f KRP_STAT_RATE n) (s.f KRP_STAT_WIDTH n)) := by
  have hw : KRP_UTIL_UTIL.w = 10 := rfl
  simp only [State.utilWindow, State.f_setLink, State.f_setF_same, hw]
  exact Nat.mod_eq_of_lt (by omega)

theorem State.utilWindow_link : ((s.utilWindow n).link n).txBlk = 0 ∧ ((s.utilWindow n).link n).rxBlk = 0 ∧
    ((s.utilWindow n).link n).winAt = s.now := by
  simp [State.utilWindow]

/-- The count of corrected symbols is none of the fields that the utilisation is worked out from. -/
theorem corrCount_ne : KRP_STAT_RATE.addr n 0 ≠ KRP_CNT_FEC_CORR_COUNT.addr n 0 ∧
    KRP_STAT_WIDTH.addr n 0 ≠ KRP_CNT_FEC_CORR_COUNT.addr n 0 := by
  simp only [Fld.addr, KRP_STAT_RATE, KRP_STAT_WIDTH, KRP_CNT_FEC_CORR_COUNT]
  omega

end
end Sys2Proof.Machine

open Sys2Proof Sys2Proof.Machine in
/-- Settles O20: each timer acts once its bound has passed, and KRP_CMD reaches the port that the manager opens. -/
theorem kpbLinkTimers : Obligations.KpbLinkTimers := by
  unfold Obligations.KpbLinkTimers
  intro s n
  refine ⟨fun hh => ⟨exec_presentTimeout hh, fun hst hlate => ?_, fun hst hearly => ?_⟩, exec_retrainTimeout,
    fun t ht => ⟨fun hearly => ?_, fun hlate hcut htries => ?_⟩, fun ho => ⟨exec_krpCmdRetrain ho, fun hr hq hw hs hi => ?_⟩,
    fun hl hw hc => ?_⟩
  · rw [exec_configTimeout hh hst, if_pos hlate]
    simp [State.configFailed]
  · rw [exec_configTimeout hh hst, if_neg (by omega)]
  · rw [exec_responseTimeout ht, if_neg (by omega)]
  · rw [exec_responseTimeout ht, if_pos hlate, State.stepTimeout_retry hcut htries]
    simp [State.mapStep]
  · obtain ⟨hfull, hshed, hstepped⟩ := State.linkUp_free
      (s := s.setLink n { s.link n with noShed := s.now + s.dwell n, noStep := s.now + s.dwell n }) (n := n) hr
      (by simpa using hq) (by simpa using hw) (by simpa using hs) (by simpa using hi)
    rw [exec_krpCmdWiden ho]
    refine ⟨fun h => congrArg _ (hfull h), fun h => congrArg _ (hshed h), fun h => congrArg _ ((hstepped h).trans ?_)⟩
    simp
  · obtain ⟨hrate, hwidth⟩ := corrCount_ne (n := n)
    refine ⟨_, exec_kpbUtilWindow_clean hl hw hc, ?_, ?_⟩
    · rw [State.utilWindow_util]
      have hr : (s.addF KRP_CNT_FEC_CORR_COUNT n 0 0).f KRP_STAT_RATE n = s.f KRP_STAT_RATE n := State.f_setF_ne _ _ hrate
      have hwd : (s.addF KRP_CNT_FEC_CORR_COUNT n 0 0).f KRP_STAT_WIDTH n = s.f KRP_STAT_WIDTH n := State.f_setF_ne _ _ hwidth
      rw [hr, hwd]
      rfl
    · obtain ⟨htx, hrx, hwin⟩ := State.utilWindow_link (s := s.addF KRP_CNT_FEC_CORR_COUNT n 0 0) (n := n)
      exact ⟨htx, hrx, hwin, rfl⟩

/-! # Shedding, stepping, widening and PING (R109 to R113, R125, R165) -/

namespace Sys2Proof.Machine
section
variable {s : State} {n : Nat}

theorem exec_kpbShedStart_barred (h : s.b KRP_CTL_LPM_EN n = false) : exec (.kpbShedStart n) s = .next s := by
  simp [exec, execKpbShedStart, h]

theorem exec_kpbStepDownStart_barred (h : s.b KRP_CTL_LPM_EN n = false) : exec (.kpbStepDownStart n) s = .next s := by
  simp [exec, execKpbStepDownStart, h]

theorem exec_kpbWidenStart_busy (hc : s.carries n = true) (hb : s.busy n = true) : exec (.kpbWidenStart n) s = .next (s.linkUp n) := by
  simp [exec, execKpbWidenStart, hc, hb]

theorem exec_kpbWidenStart_quiet (hb : s.busy n = false) : exec (.kpbWidenStart n) s = .next s := by
  simp [exec, execKpbWidenStart, hb]

theorem exec_stepWaitLimit (hs : (s.link n).stepSeed = true) (hw : (s.link n).stepWait.isSome = true) : exec (.stepWaitLimit n) s =
    .next (if (s.link n).stepAt + 100 * 65536000000 ≤ s.now then s.setLink n { s.link n with stepForce := true } else s) := by
  have hms : ms 100 = 100 * 65536000000 := rfl
  simp [exec, execStepWaitLimit, hs, hw, hms]

/-- A PING goes out a second after the last one (R165). -/
theorem exec_pingTimer (hc : s.carries n = true) (hr : s.hubRole n = false) : exec (.pingTimer n) s =
    .next (if (s.link n).pingAt + 65536000000000 ≤ s.now then
      (s.setLink n { s.link n with ping := some (Config.freeNat s.draws % 2 ^ 32, s.now), pingAt := s.now }).bump.sendLnk n 8 0
        (Config.freeNat s.draws % 2 ^ 32)
    else s) := by
  have hsec : sec 1 = 65536000000000 := rfl
  simp only [exec, execPingTimer, hc, hr, hsec, Bool.not_false, Bool.and_self, Bool.true_and, decide_eq_true_eq]

theorem exec_portResetIdleEnd {t : Nat} (ht : (s.link n).idleEnd = some t) : exec (.portResetIdleEnd n) s =
    .next (if t ≤ s.now then (s.setLink n { s.link n with idleEnd := none }).detectAgain n else s) := by
  simp only [exec, execPortResetIdleEnd, ht]

end
end Sys2Proof.Machine

open Sys2Proof Sys2Proof.Machine in
/-- Settles O21: each request is made when its guard holds, and a wait for more bandwidth ends as the link's state says. -/
theorem kpbLowPower : Obligations.KpbLowPower := by
  unfold Obligations.KpbLowPower
  intro s n
  refine ⟨fun hlpm hc hr hq hwant hs => ⟨fun hst hwidth hlow hbar => ?_, fun hst hw hrate hwidth hmin hlow hbar hload => ?_⟩,
    fun hlpm => ⟨exec_kpbShedStart_barred hlpm, exec_kpbStepDownStart_barred hlpm⟩, fun _ hb => exec_kpbWidenStart_quiet hb,
    fun hc hb hr hq hw hs => ?_, exec_stepWaitLimit, fun hc hr => ⟨fun h => ?_, fun h => ?_⟩,
    fun t ht => ⟨fun h => ?_, fun h => ?_⟩⟩
  · simp [exec, execKpbShedStart, hlpm, hc, hr, hq, hwant, hs, hst, hwidth, hlow, hbar, State.linkAsk]
  · simp [exec, execKpbStepDownStart, hlpm, hc, hr, hq, hwant, hs, hst, hw, hrate, hwidth, hmin, hlow, hbar, hload]
  · rw [exec_kpbWidenStart_busy hc hb]
    obtain ⟨hfull, hshed, hstepped⟩ := State.linkUp_free hr hq hw hs (State.carries_iff.1 hc).2
    exact ⟨fun h => congrArg _ (hshed h), fun h => congrArg _ (hstepped h), fun h => congrArg _ (hfull h)⟩
  · rw [exec_pingTimer hc hr, if_neg (by omega)]
  · rw [exec_pingTimer hc hr, if_pos h]
  · rw [exec_portResetIdleEnd ht, if_neg (by omega)]
  · rw [exec_portResetIdleEnd ht, if_pos h]

/-! # The enumeration engine's timers (R123, R126, R134, R136, Table 04-4) -/

namespace Sys2Proof.Machine
section
variable {s : State} {n : Nat} {e : Enum}

/-- Without ENUM_EN no port of the tree has its turn (R139). -/
theorem State.enumTurn_disabled (h : s.f KHUB_TREE_CTL_ENUM_EN 0 n = 0) : s.enumTurn n = s := by
  simp [State.enumTurn, h]

/-- The first port of the queue that is due and ready has its turn when the engine is free (R136). -/
theorem State.enumTurn_first {q : TPort × Nat × Bool} (hen : s.f KHUB_TREE_CTL_ENUM_EN 0 n = 1) (he : (s.tree n).enum = none)
    (hf : (s.tree n).fid = 0) (hq : (s.tree n).queue.find? (fun q => q.2.2 && s.isReady n q.1) = some q) :
    let s1 := s.setTree n { s.tree n with queue := (s.tree n).queue.filter fun x => x.1 != q.1 }
    s.enumTurn n = if (s1.freeAddr n).isSome then s1.enumStart n { at_ := q.1 } else s1.enumStarved n { at_ := q.1 } := by
  simp [State.enumTurn, hen, he, hf, hq]

theorem exec_enumDebounceEnd {hub hport at_ : Nat}
    (hq : (s.tree n).queue.find? (fun q => q.1 == ⟨hub, hport⟩ && !q.2.2) = some (⟨hub, hport⟩, at_, false)) :
    exec (.enumDebounceEnd n hub hport) s = .next (
      if s.now < at_ + s.f KHUB_CTL_DEBOUNCE * 65536000000 then s
      else if s.isReady n ⟨hub, hport⟩ then
        s.setTree n { s.tree n with
          queue := (s.tree n).queue.map fun x => if x.1 = ⟨hub, hport⟩ then (x.1, x.2.1, true) else x }
      else s.setTree n { s.tree n with queue := (s.tree n).queue.filter fun x => x.1 != ⟨hub, hport⟩ }) := by
  simp only [exec, execEnumDebounceEnd, hq, ms, beq_iff_eq]

/-- A wait of the enumeration ends at its time, unless a table fault parks the engine (R143). -/
theorem exec_enumWaitEnd {w : Nat} (he : (s.tree n).enum = some e) (hw : e.wait = some w) (hf : (s.tree n).fid = 0) :
    exec (.enumWaitEnd n) s = .next (if w ≤ s.now then (s.enumWaited n { e with wait := none }).serve n else s) := by
  simp [exec, execEnumWaitEnd, he, hw, hf]

theorem State.enumWaited_device (h : e.step = 4) : s.enumWaited n e = s.setEnum n (some (e.ask 0 (reqGetDesc 1 32))) := by
  simp [State.enumWaited, h]

theorem State.enumWaited_config (h : e.step = 6) :
    s.enumWaited n e = s.setEnum n (some ({ e with sub := 1 }.ask e.addr (reqGetDesc 2 16))) := by
  simp [State.enumWaited, h]

/-- An attempt that has used up its 100 ms fails (Table 04-4): Zhoem's control transfer leaves the wire first. -/
theorem exec_enumAttemptTimeout_late (he : (s.tree n).enum = some e) (hf : (s.tree n).fid = 0) (h3 : 3 ≤ e.step)
    (hlate : e.since + 100 * 65536000000 ≤ s.now) : exec (.enumAttemptTimeout n) s =
      .next (((s.setSq n { s.sq n with steps := (s.sq n).steps.filter fun t => t.kind != 4 }).bump.enumFail n e s.freeStatus).serve n) := by
  have hms : ms 100 = 100 * 65536000000 := rfl
  simp only [exec, execEnumAttemptTimeout, he, hf, hms, hlate, h3, decide_true, beq_self_eq_true, Bool.true_or, Bool.and_self, if_true]
  rfl

theorem exec_hubStatusPoll_due {hub : Nat} {h : HubSt} (hh : PMap.find (s.tree n).hubs hub = some h) (hc : (s.ent n hub).state = 2)
    (hdue : h.pollAt ≤ s.now) : exec (.hubStatusPoll n hub) s =
      .next ((s.setTree n { s.tree n with
        hubs := PMap.put (s.tree n).hubs hub { h with due := true, pollAt := s.now + s.f KHUB_CTL_STAT_POLL * 655360000 } }).serve n) := by
  have hus : us (10 * s.f KHUB_CTL_STAT_POLL) = s.f KHUB_CTL_STAT_POLL * 655360000 := by
    unfold us
    omega
  simp [exec, execHubStatusPoll, hh, hc, hdue, hus]

end
end Sys2Proof.Machine

open Sys2Proof Sys2Proof.Machine in
/-- Settles O22: each timer acts once its time has come, and the turn goes to the first port that is due and ready. -/
theorem kpbEnumeration : Obligations.KpbEnumeration := by
  unfold Obligations.KpbEnumeration
  intro s n
  have hturn : exec (.enumPortTurn n) s = .next ((s.enumTurn n).serve n) := rfl
  refine ⟨fun hub hport at_ hq => exec_enumDebounceEnd hq, fun hen => ?_, fun q hen he hf hq => ?_, fun e w he hw hf => ?_,
    fun e he hf h3 hlate => exec_enumAttemptTimeout_late he hf h3 hlate, fun hub h hh hc hdue => exec_hubStatusPoll_due hh hc hdue⟩
  · rw [hturn, State.enumTurn_disabled hen]
  · rw [hturn, State.enumTurn_first hen he hf hq]
  · rw [exec_enumWaitEnd he hw hf]
    refine ⟨fun hearly => ?_, fun hlate hstep => ?_, fun hlate hstep => ?_⟩
    · rw [if_neg (by omega)]
    · rw [if_pos hlate, State.enumWaited_device (e := { e with wait := none }) hstep]
    · rw [if_pos hlate, State.enumWaited_config (e := { e with wait := none }) hstep]

/-! # The registers of a root port's tree (R136, R140 to R142, R147, R156, Table 04-8) -/

namespace Sys2Proof.Machine
section
variable {s : State} {n v : Nat} {k : State → State}

/-- The manager's write of a register of a root port on KHUB acts. -/
theorem State.actTree_manager (hn : n ≤ 95) (hs : s.serves 0x32 = true) (hr : s.resetting 0 = false) : s.actTree 0 n k = k s := by
  simp [State.actTree, hs, hr, hn]

/-- That of a function which does not hold the port is refused (R156). -/
theorem State.actTree_stranger {fn : Nat} (hn : n ≤ 95) (hs : s.serves 0x32 = true) (hf : fn ≠ 0) (hk : s.holdsKrp fn n = false) :
    s.actTree fn n k = s.refuse fn := by
  simp [State.actTree, hs, hf, hk, hn]

@[simp] theorem State.tree_setF {F : Fld} {u i : Nat} : (s.setF F u i v).tree n = s.tree n := rfl

theorem State.f_err_ne {F G : Fld} {u u' i' : Nat} (h : G.addr u' i' ≠ (hd PAGE_ERR_WORD F.blk).addr u 0) :
    (s.err F u).f G u' i' = s.f G u' i' := State.f_setF_ne _ _ h

/-- TREE_BASE is none of the fields in which a tree's counts show. -/
theorem treeBase_ne_treeStat : KHUB_TREE_BASE_ADDR.addr 0 n ≠ KHUB_TREE_STAT_DEVICES.addr 0 n ∧
    KHUB_TREE_BASE_ADDR.addr 0 n ≠ KHUB_TREE_STAT_ADDR_EXHAUSTED.addr 0 n ∧
    KHUB_TREE_BASE_ADDR.addr 0 n ≠ KHUB_TREE_STAT_TOO_DEEP.addr 0 n := by
  simp only [Fld.addr, KHUB_TREE_BASE_ADDR, KHUB_TREE_STAT_DEVICES, KHUB_TREE_STAT_ADDR_EXHAUSTED, KHUB_TREE_STAT_TOO_DEEP]
  omega

theorem State.treeBase_treeShow : (s.treeShow n).f KHUB_TREE_BASE_ADDR 0 n = s.f KHUB_TREE_BASE_ADDR 0 n := by
  obtain ⟨hdevices, hexhausted, hdeep⟩ := treeBase_ne_treeStat (n := n)
  rw [State.treeShow, State.f_setF_ne _ _ hdeep, State.f_setF_ne _ _ hexhausted, State.f_setF_ne _ _ hdevices]

/-- TREE_BASE lies on KHUB and OVERLOAD on the port's KSCH page. -/
theorem treeBase_ne_overload (hn : n ≤ 95) : KHUB_TREE_BASE_ADDR.addr 0 n ≠ KSCH_STAT_OVERLOAD.addr n 0 ∧
    KHUB_TREE_BASE_ADDR.addr 0 n ≠ (hd PAGE_ERR_WORD KSCH_ERR_OVERLOAD.blk).addr n 0 := by
  simp only [Fld.addr, hd, PAGE_ERR_WORD, KHUB_TREE_BASE_ADDR, KSCH_STAT_OVERLOAD, KSCH_ERR_OVERLOAD]
  omega

theorem State.treeBase_overload (hn : n ≤ 95) : (s.overload n).f KHUB_TREE_BASE_ADDR 0 n = s.f KHUB_TREE_BASE_ADDR 0 n := by
  obtain ⟨hstat, herr⟩ := treeBase_ne_overload hn
  rw [State.overload, State.f_setF_ne _ _ hstat, apply_ite (State.f · KHUB_TREE_BASE_ADDR 0 n), State.f_err_ne herr, ite_self]

/-- While TREE_BASE is 0 no record is written (R142). -/
theorem State.tableWrite_unbased {l : List Nat} (hn : n ≤ 95) (h : s.f KHUB_TREE_BASE_ADDR 0 n = 0) :
    s.tableWrite n l = (s.treeShow n).overload n := by
  have hbase : ((s.treeShow n).overload n).f KHUB_TREE_BASE_ADDR 0 n = 0 := by rw [State.treeBase_overload hn, State.treeBase_treeShow, h]
  simp [State.tableWrite, hbase]

theorem exec_khubTreeBaseWrite (hn : n ≤ 95) (hs : s.serves 0x32 = true) (hr : s.resetting 0 = false) :
    exec (.khubTreeBaseWrite 0 n v) s = .next (s.treeBase n v) := by
  have hok : KHUB_TREE_BASE_ADDR.ok v = true := rfl
  simp only [exec, execKhubTreeBaseWrite, State.actTree_manager hn hs hr, hok, if_true]

theorem exec_khubTreeAckWrite (hn : n ≤ 95) (hs : s.serves 0x32 = true) (hr : s.resetting 0 = false) (hv : v < 2 ^ 32) :
    exec (.khubTreeAckWrite 0 n v) s = .next (s.treeAck n v) := by
  simp only [exec, execKhubTreeAckWrite, State.actTree_manager hn hs hr, Nat.mod_eq_of_lt hv]

theorem exec_enumEnWrite {on : Bool} (hn : n ≤ 95) (hs : s.serves 0x32 = true) (hr : s.resetting 0 = false) :
    exec (.enumEnWrite 0 n on) s = .next ((s.enumEn n on).serve n) :=
  congrArg Host.Outcome.next (State.actTree_manager hn hs hr)

theorem exec_rescan (hn : n ≤ 95) (hs : s.serves 0x32 = true) (hr : s.resetting 0 = false) :
    exec (.rescan 0 n) s = .next (s.rescan n) :=
  congrArg Host.Outcome.next (State.actTree_manager hn hs hr)

end
end Sys2Proof.Machine

open Sys2Proof Sys2Proof.Machine in
/-- Settles O23: the manager's writes reach the tree, other functions' without the port none, and with TREE_BASE 0 the table stays unwritten. -/
theorem kpbTreeRegisters : Obligations.KpbTreeRegisters := by
  unfold Obligations.KpbTreeRegisters
  intro s n v hn hs
  refine ⟨fun hr => ⟨⟨exec_khubTreeBaseWrite hn hs hr, fun hv => ?_⟩, exec_khubTreeAckWrite hn hs hr,
    fun on => exec_enumEnWrite hn hs hr, exec_rescan hn hs hr⟩, fun fn hf hk c hc => ?_⟩
  · rw [exec_khubTreeBaseWrite hn hs hr, State.treeBase, State.tableWrite_unbased hn (by simp [hv])]
  · have hrefused (k : State → State) : Host.Outcome.next (s.actTree fn n k) = (.next (s.refuse fn) : Res) :=
      congrArg Host.Outcome.next (State.actTree_stranger hn hs hf hk)
    simp only [List.mem_cons, List.not_mem_nil, or_false] at hc
    obtain rfl | rfl | rfl | rfl | rfl | rfl := hc <;> exact hrefused _

/-! # Power of the root ports (R148 to R151, Table 04-6) -/

namespace Sys2Proof.Machine
section
variable {s : State} {n st t : Nat} {still : Bool}

@[simp] theorem State.pwr_setF {F : Fld} {u i v : Nat} : (s.setF F u i v).pwr n = s.pwr n := rfl

theorem exec_portPowerOn (hn : n ≤ 95) (hs : s.serves 0x32 = true) (hr : s.resetting 0 = false) :
    exec (.portPowerOn 0 n) s = .next (s.powerOn n) :=
  congrArg Host.Outcome.next (State.actTree_manager hn hs hr)

theorem exec_portPowerOff (hn : n ≤ 95) (hs : s.serves 0x32 = true) (hr : s.resetting 0 = false) :
    exec (.portPowerOff 0 n) s = .next (s.powerOff n) :=
  congrArg Host.Outcome.next (State.actTree_manager hn hs hr)

/-- A port in PSTATE 1 whose switch has not been told to switch on waits for the stagger (R149). -/
theorem exec_powerStaggerAllows (hp : s.f KHUB_PWR_STAT_PSTATE 0 n = 1) (ho : (s.pwr n).opAt = none) :
    exec (.powerStaggerAllows n) s = .next (if s.recentOn.length < s.f KHUB_PMB_STAGGER then
      ({ s with staggered := s.now :: s.recentOn }.setPwr n { s.pwr n with opAt := some s.now, onAt := s.now }).pmOperation n 0x80
    else s) := by
  simp [exec, execPowerStaggerAllows, State.powerAllow, hp, ho]

theorem exec_powerGood (hp : s.f KHUB_PWR_STAT_PSTATE 0 n = 1) (ho : (s.pwr n).opAt = some t) :
    exec (.powerGood n) s = .next (((s.pmRead n 0x79).setF KHUB_PWR_STAT_PSTATE 0 n 2).setF KHUB_PWR_STAT_PG 0 n 1) := by
  simp [exec, execPowerGood, hp, ho]

theorem exec_powerGoodTimeout (hp : s.f KHUB_PWR_STAT_PSTATE 0 n = 1) (ho : (s.pwr n).opAt = some t) :
    exec (.powerGoodTimeout n) s = .next (if t + s.f KHUB_PMB_PG_TMO * 65536000000 ≤ s.now then
      ((s.pmOperation n 0x00).setF KHUB_PWR_STAT_PSTATE 0 n 3).err KHUB_ERR_PG_TIMEOUT 0 else s) := by
  have hms : ms (s.f KHUB_PMB_PG_TMO) = s.f KHUB_PMB_PG_TMO * 65536000000 := rfl
  simp [exec, execPowerGoodTimeout, hp, ho, hms]

/-- An alert at which the switch of one port answers, which the map has as fitted. -/
theorem exec_pmbAlert_one (hn : n ≤ 95)
    (hm : (((s.emit (.alertRead 0)).emit (.alertRead 1)).setF KHUB_PMB_STAT_ALERT 0 0 (b2n still)).b KHUB_PWR_MAP_FITTED 0 n = true) :
    exec (.pmbAlert [(n, st)] still) s =
      .next (((((s.emit (.alertRead 0)).emit (.alertRead 1)).setF KHUB_PMB_STAT_ALERT 0 0 (b2n still)).pmRead n 0x79).switchFault n st) := by
  have hlt : n < 96 := by omega
  simp [exec, execPmbAlert, hm, hlt]

theorem State.switchFault_none (h : pmFault st = false) : s.switchFault n st = s := by
  simp [State.switchFault, h]

/-- The link of a port that was on, or being switched on, goes with its power (R151). -/
theorem State.switchFault_on (h : pmFault st = true) (hp : s.f KHUB_PWR_STAT_PSTATE 0 n = 1 ∨ s.f KHUB_PWR_STAT_PSTATE 0 n = 2) :
    s.switchFault n st =
      (((s.setF KHUB_PWR_STAT_PSTATE 0 n 3).setF KHUB_PWR_STAT_OVERCURRENT 0 n 1).err KHUB_ERR_OVERCURRENT 0).powerLost n 2 := by
  simp [State.switchFault, h, hp]

/-- A port that was off or in FAULT has no link to take down. -/
theorem State.switchFault_off (h : pmFault st = true) (hp : s.f KHUB_PWR_STAT_PSTATE 0 n = 0 ∨ s.f KHUB_PWR_STAT_PSTATE 0 n = 3) :
    s.switchFault n st =
      (((s.setF KHUB_PWR_STAT_PSTATE 0 n 3).setF KHUB_PWR_STAT_OVERCURRENT 0 n 1).err KHUB_ERR_OVERCURRENT 0).detach n {} 2 := by
  have hoff : ¬ (s.f KHUB_PWR_STAT_PSTATE 0 n = 1 ∨ s.f KHUB_PWR_STAT_PSTATE 0 n = 2) := by omega
  simp [State.switchFault, h, hoff]

end
end Sys2Proof.Machine

open Sys2Proof Sys2Proof.Machine in
/-- Settles O24: each step of a switch follows from PSTATE and the last OPERATION, and a fault from PSTATE and STATUS_WORD. -/
theorem kpbPortPower : Obligations.KpbPortPower := by
  unfold Obligations.KpbPortPower
  intro s n hn
  refine ⟨fun hs hr => ?_, fun hp ho => ?_, fun hp t ho => ⟨exec_powerGood hp ho, exec_powerGoodTimeout hp ho⟩,
    fun still => ⟨rfl, fun st hm => ?_⟩⟩
  · rw [exec_portPowerOn hn hs hr, exec_portPowerOff hn hs hr]
    refine ⟨fun hm => ?_, fun hm hp => ?_, fun hm => ?_, fun hm => ?_⟩
    · simp [State.powerOn, hm]
    · simp [State.powerOn, hm, hp]
    · simp [State.powerOff, hm]
    · simp [State.powerOff, hm]
  · rw [exec_powerStaggerAllows hp ho]
    exact ⟨fun h => by rw [if_pos h], fun h => by rw [if_neg (by omega)]⟩
  · rw [exec_pmbAlert_one hn hm]
    exact ⟨fun h => by rw [State.switchFault_none h], fun h hp => by rw [State.switchFault_on h hp],
      fun h hp => by rw [State.switchFault_off h hp]⟩

/-! # Phases of the regulators (R502, R528, R529) -/

namespace Sys2Proof.Machine
section
variable {s : State} {k p : Nat} {w : Worn}

/-- What the failure of phase `p` of stook `k` reports. -/
abbrev phaseFault (k p : Nat) : Worn := { kind := 2, dom := 1 + k, unit := k, place := p, cause := 1 }

theorem exec_phaseFail : exec (.phaseFail k p) s =
    .next (if k < 8 ∧ p < 14 ∧ s.domOn (1 + k) = true ∧ s.powered = true then
      s.fault (phaseFault k p) else s) := by
  simp [exec, execPhaseFail, and_assoc]

theorem exec_phaseSenseFail : exec (.phaseSenseFail k p) s =
    .next (if k < 8 ∧ p < 14 ∧ s.domOn (1 + k) = true ∧ s.powered = true then
      s.nominate { kind := 2, dom := 1 + k, unit := k, place := p, cause := 5, at_ := s.now } else s) := by
  simp [exec, execPhaseSenseFail, and_assoc]

/-- A phase `w` is out, before anything takes over from it: the repair map has it, its stook's rail is limited to one phase fewer, and one
throttle event counts (R528). -/
def State.phaseOut (s : State) (w : Worn) : State :=
  let t := ({ s with rsv := { s.rsv with noms := s.rsv.noms.filter fun x => !(x.same w) } } : State).markFailed 2 w.unit w.place
  ({ t with power := { t.power with limited := t.power.limited.filter (fun k => k != w.unit) ++ [w.unit] } }.setF
    PWR_DOM_STAT_PHASES_OK (1 + w.unit) 0 (t.f PWR_DOM_STAT_PHASES_OK (1 + w.unit) - 1)).satF
    PWR_DOM_CNT_PHASE_THR_COUNT (1 + w.unit) 0 1

/-- `State.fault`, for a phase. -/
theorem State.fault_phase (hk : w.kind = 2) : s.fault w =
    let t := s.phaseOut w
    if t.rsvLeft 2 w.unit ≤ (t.rsv.takes.filter fun x => x.kind == 2 && t.rsvLeft x.kind x.unit != 0 && x.unit == w.unit).length then
      t.rsvLost w
    else
      let u : State := { t with rsv := { t.rsv with takes := t.rsv.takes ++ [{ w with at_ := t.now }] } }
      if u.rsvServes then u else { u with fenced := u.fenced ++ (wornPages 2 w.unit).filter fun p => !(u.fenced.contains p) } := by
  obtain ⟨kind, dom, unit, place, cause, at_⟩ := w
  subst hk
  rfl

/-- The fields of a rail lie apart, and apart from DEV_SERVICE. -/
theorem phaseRsv_ne {d : Nat} : PWR_DOM_STAT_PHASE_RSV.addr d 0 ≠ PWR_DOM_STAT_PHASES_OK.addr d 0 ∧
    PWR_DOM_STAT_PHASE_RSV.addr d 0 ≠ PWR_DOM_CNT_PHASE_THR_COUNT.addr d 0 := by
  simp only [Fld.addr, PWR_DOM_STAT_PHASE_RSV, PWR_DOM_STAT_PHASES_OK, PWR_DOM_CNT_PHASE_THR_COUNT]
  omega

theorem phasesOk_ne_throttleCount {d : Nat} : PWR_DOM_STAT_PHASES_OK.addr d 0 ≠ PWR_DOM_CNT_PHASE_THR_COUNT.addr d 0 := by
  simp only [Fld.addr, PWR_DOM_STAT_PHASES_OK, PWR_DOM_CNT_PHASE_THR_COUNT]
  omega

theorem service_ne_rail {d : Nat} : DEV_SERVICE_SERVICE.addr 0 0 ≠ PWR_DOM_STAT_PHASES_OK.addr d 0 ∧
    DEV_SERVICE_SERVICE.addr 0 0 ≠ PWR_DOM_CNT_PHASE_THR_COUNT.addr d 0 := by
  simp only [Fld.addr, DEV_SERVICE_SERVICE, PWR_DOM_STAT_PHASES_OK, PWR_DOM_CNT_PHASE_THR_COUNT]
  omega

/-- A phase that goes out changes no field but its rail's count of phases and count of throttle events. -/
theorem State.f_phaseOut_ne {F : Fld} {u i : Nat} (hp : F.addr u i ≠ PWR_DOM_STAT_PHASES_OK.addr (1 + w.unit) 0)
    (hc : F.addr u i ≠ PWR_DOM_CNT_PHASE_THR_COUNT.addr (1 + w.unit) 0) : (s.phaseOut w).f F u i = s.f F u i :=
  (State.f_setF_ne _ _ hc).trans (State.f_setF_ne _ _ hp)

theorem State.phasesOk_phaseOut : (s.phaseOut w).f PWR_DOM_STAT_PHASES_OK (1 + w.unit) =
    (s.f PWR_DOM_STAT_PHASES_OK (1 + w.unit) - 1) % 16 :=
  (State.f_setF_ne _ _ phasesOk_ne_throttleCount).trans (State.f_setF_same ..)

theorem State.throttleCount_phaseOut : (s.phaseOut w).f PWR_DOM_CNT_PHASE_THR_COUNT (1 + w.unit) =
    min (s.f PWR_DOM_CNT_PHASE_THR_COUNT (1 + w.unit) + 1) (2 ^ PWR_DOM_CNT_PHASE_THR_COUNT.w - 1) := by
  rw [State.phaseOut, State.f_satF_same, State.f_setF_ne _ _ phasesOk_ne_throttleCount.symm]
  rfl

theorem State.phaseRsv_phaseOut : (s.phaseOut w).rsvLeft 2 w.unit = s.f PWR_DOM_STAT_PHASE_RSV (1 + w.unit) :=
  State.f_phaseOut_ne phaseRsv_ne.1 phaseRsv_ne.2

theorem State.rsvServes_phaseOut : (s.phaseOut w).rsvServes = s.rsvServes := by
  rw [State.rsvServes, State.f_phaseOut_ne service_ne_rail.1 service_ne_rail.2, State.rsvServes]

theorem State.limited_phaseOut : w.unit ∈ (s.phaseOut w).power.limited :=
  List.mem_append_right _ (List.mem_singleton_self _)

/-- In full service a reserve phase that is left starts to take over, where nothing else waits for it (R502). -/
theorem State.fault_phase_reserve (hk : w.kind = 2) (hs : s.rsvServes = true) (hr : s.f PWR_DOM_STAT_PHASE_RSV (1 + w.unit) ≠ 0)
    (ht : s.rsv.takes = []) : s.fault w =
      { s.phaseOut w with rsv := { (s.phaseOut w).rsv with takes := [{ w with at_ := s.now }] } } := by
  have htakes : (s.phaseOut w).rsv.takes = [] := ht
  have hnow : (s.phaseOut w).now = s.now := rfl
  have hleft : (s.phaseOut w).rsvLeft 2 w.unit ≠ 0 := by rwa [State.phaseRsv_phaseOut]
  have hserves (r : Rsv) : ({ s.phaseOut w with rsv := r } : State).rsvServes = true :=
    (State.rsvServes_phaseOut (s := s) (w := w)).trans hs
  rw [State.fault_phase hk, ← hnow]
  simp [htakes, hleft, hserves]

/-- RESERVE_PHASE_IN ends the takeover of the first phase of the stook that waits. -/
theorem State.takeover_phase (hw : (s.rsv.takes.find? fun w => w.kind == 2 && w.unit == k) = some w) (hs : s.rsvServes = true)
    (hr : s.rsvLeft 2 k ≠ 0) :
    s.takeover 2 k = ({ s with rsv := { s.rsv with takes := s.rsv.takes.erase w } } : State).rsvIn w true := by
  have hleft : ({ s with rsv := { s.rsv with takes := s.rsv.takes.erase w } } : State).rsvLeft 2 k = s.rsvLeft 2 k := rfl
  simp [State.takeover, hw, hs, hleft, hr]

theorem State.takeover_idle {kind : Nat}
    (h : (s.rsv.takes.find? fun w => w.kind == kind && w.unit == k) = none ∨ s.rsvServes = false) : s.takeover kind k = s := by
  unfold State.takeover
  rcases h with h | h
  · rw [h]
  · split
    · rfl
    · simp [h]

end
end Sys2Proof.Machine

/-! # Temperature (R531, R532) -/

namespace Sys2Proof.Machine
section
variable {s : State} {k d temp : Nat}

theorem exec_thermalThrottleTick_off (h : 8 ≤ k ∨ s.domOn (1 + k) = false ∨ s.powered = false) :
    exec (.thermalThrottleTick k temp) s = .next s := by
  simp [exec, execThermalThrottleTick, or_assoc, h]

theorem exec_thermalRaiseTick_off (h : 8 ≤ k ∨ s.domOn (1 + k) = false ∨ s.powered = false) :
    exec (.thermalRaiseTick k temp) s = .next s := by
  simp [exec, execThermalRaiseTick, or_assoc, h]

theorem exec_thermalThrottleTick (hk : k < 8) (hd : s.domOn (1 + k) = true) (hp : s.powered = true) (ht : temp < 256) :
    exec (.thermalThrottleTick k temp) s =
      let t := s.tempIs (1 + k) temp
      .next (if 100 ≤ sgn temp 8 ∧ t.f PWR_CTL_THERM_FLOOR < t.f PWR_DOM_STAT_CLOCK (1 + k) ∧
          (PMap.get t.power.stepAt k 0) + 6553600000 ≤ t.now then
        t.clockIs k (t.f PWR_DOM_STAT_CLOCK (1 + k) - 1) else t) := by
  have hus : us 100 = 6553600000 := rfl
  simp [exec, execThermalThrottleTick, State.clockDue, hk, hd, hp, hus, Nat.mod_eq_of_lt ht, and_assoc]

theorem exec_thermalRaiseTick (hk : k < 8) (hd : s.domOn (1 + k) = true) (hp : s.powered = true) (ht : temp < 256) :
    exec (.thermalRaiseTick k temp) s =
      let t := s.tempIs (1 + k) temp
      .next (if sgn temp 8 < 98 ∧ t.f PWR_DOM_STAT_CLOCK (1 + k) < 16 ∧
          (PMap.get t.power.stepAt k 0) + 65536000000 ≤ t.now then
        t.clockIs k (t.f PWR_DOM_STAT_CLOCK (1 + k) + 1) else t) := by
  have hms : ms 1 = 65536000000 := rfl
  simp [exec, execThermalRaiseTick, State.clockDue, hk, hd, hp, hms, Nat.mod_eq_of_lt ht, and_assoc]

/-- A sensor trips at 110 °C, or at 105 °C with every stook at its floor (R532). -/
theorem exec_thermalTrip (ht : temp < 256) : exec (.thermalTrip d temp) s =
    .next (if d = 0 ∨ 50 < d ∨ s.domOn d = false ∨ s.powered = false then s
    else if 110 ≤ sgn temp 8 ∨ (105 ≤ sgn temp 8 ∧ s.atFloor = true) then
      (((s.tempIs d temp).err PWR_ERR_THERM_TRIP 0).noReturn 2).emit (.pwrReq false)
    else s) := by
  simp [exec, execThermalTrip, Nat.mod_eq_of_lt ht, or_assoc]

end
end Sys2Proof.Machine

/-! # Telemetry and energy (R151, R152, R533 to R536, R541) -/

namespace Sys2Proof.Machine
section
variable {s : State} {n st pin v : Nat} {ok : Bool} {x : NrgSt}

theorem exec_telemetryPoll_off (h : s.telemeters n = false) : exec (.telemetryPoll n st pin ok) s = .next s := by
  simp [exec, execTelemetryPoll, State.telemetry, h]

/-- Reading a switch changes nothing but what goes out on the segment. -/
theorem State.pmRead_eq {c : Nat} : s.pmRead n c = { s with out := (s.pmRead n c).out } := by
  simp only [State.pmRead, State.pmPage]
  split <;> rfl

@[simp] theorem State.pmReading_now : (s.pmReading n).now = s.now := by
  rw [State.pmReading, State.pmRead_eq, State.pmRead_eq]

@[simp] theorem State.pmReading_regs : (s.pmReading n).regs = s.regs := by
  rw [State.pmReading, State.pmRead_eq, State.pmRead_eq]

/-- A first poll that fails, with its one repetition (R148, R152). -/
theorem exec_telemetryPoll_failed (h : s.telemeters n = true) (hp : (s.pwr n).polled = 0) :
    exec (.telemetryPoll n st pin false) s =
      let v := ((s.pmReading n).pmReading n).setPwr n { s.pwr n with polled := s.now, fails := (s.pwr n).fails + 1 }
      .next (if (s.pwr n).fails < 2 then v else ((v.setF KHUB_PWR_STAT_TELEMETRY_STALE 0 n 1).nrgEstimate n true).nrgMissed n) := by
  have hthird : (s.pwr n).fails + 1 < 3 ↔ (s.pwr n).fails < 2 := by omega
  simp [exec, execTelemetryPoll, State.telemetry, h, hp, hthird, -Order.lt_two_iff]

/-- PIN and the map of the switches lie apart. -/
theorem pwrMapSeg_ne_pin : KHUB_PWR_MAP_SEG.addr 0 n ≠ KHUB_PWR_STAT_PIN.addr 0 n := by
  simp only [Fld.addr, KHUB_PWR_MAP_SEG, KHUB_PWR_STAT_PIN]
  omega

/-- A first poll of a switch on segment 0. -/
theorem exec_telemetryPoll_good (h : s.telemeters n = true) (hp : (s.pwr n).polled = 0) (hseg : s.b KHUB_PWR_MAP_SEG 0 n = false) :
    exec (.telemetryPoll n st pin true) s =
      let t := (((s.pmReading n).setPwr n { s.pwr n with polled := s.now, fails := 0 }).setF KHUB_PWR_STAT_PIN 0 n pin).setF
        KHUB_PMB_STAT_SEG0_FAULT 0 0 0
      let u := (t.setF KHUB_PWR_STAT_TELEMETRY_STALE 0 n 0).setF KHUB_PWR_STAT_PG 0 n (if bit st 11 then 0 else 1)
      .next (((u.nrgEstimate n false).nrgSample n (pin % 65536)).switchFault n st) := by
  have hseg' (q : PortPwr) : (((s.pmReading n).setPwr n q).setF KHUB_PWR_STAT_PIN 0 n pin).b KHUB_PWR_MAP_SEG 0 n = false := by
    rw [State.b, State.f_setF_ne _ _ pwrMapSeg_ne_pin, State.f_congr (t := (s.pmReading n).setPwr n q) State.pmReading_regs]
    exact hseg
  have hpg : b2n (!(bit st 11)) = if bit st 11 then 0 else 1 := by cases bit st 11 <;> rfl
  simp [exec, execTelemetryPoll, State.telemetry, h, hp, hseg', hpg]

theorem exec_demandIntervalEnd_none (h : s.nrgs = []) : exec .demandIntervalEnd s = .next s := by
  simp [exec, execDemandIntervalEnd, h]

/-- The interval of the one port that is accounted closes where no sample is outstanding and the boundary has passed (R536). -/
theorem exec_demandIntervalEnd_one (h : s.nrgs = [(n, x)]) : exec .demandIntervalEnd s =
    let b := s.nextDemand s.devTime - 65536000000000 * s.demandLen
    .next (if x.isOpen = true ∧ x.last = none ∧ x.start < b then (s.nrgClose n b false).nrgOpen n b false else s) := by
  have hsec : sec s.demandLen = 65536000000000 * s.demandLen := Nat.mul_comm ..
  have hx : s.nrg n = x := by simp [State.nrg, h, PMap.get, PMap.find]
  have hturn (t : Nat) (ho : x.isOpen = true) : s.nrgTurn n t false = (s.nrgClose n t false).nrgOpen n t false := by
    rw [State.nrgTurn, hx, if_pos ho]
  simp only [exec, execDemandIntervalEnd, h, hsec, List.foldl_cons, List.foldl_nil]
  by_cases ho : x.isOpen = true
  · simp [ho, hturn]
  · simp [ho]

/-- Away from the points of the table, and before device time is set, the band stays (R535). -/
theorem exec_tariffPoint_off
    (h : (s.tariffPoints.find? fun p => p.1 == s.timeOfDay s.devTime) = none ∨ s.b TIME_STAT_SET_ONCE = false) :
    exec .tariffPoint s = .next s := by
  simp only [exec, execTariffPoint]
  split
  · next p hp =>
    rw [h.resolve_left (by simp [hp])]
    rfl
  · rfl

theorem exec_tariffPoint_at {p : Nat × Nat} (hp : (s.tariffPoints.find? fun p => p.1 == s.timeOfDay s.devTime) = some p)
    (hset : s.b TIME_STAT_SET_ONCE = true) : exec .tariffPoint s = .next ((s.setBand s.devTime p.2).bandHeld false) := by
  simp only [exec, execTariffPoint, hp, hset, if_true]

theorem exec_pwrTariffSet (ho : s.opens 0x03 0 = true) : exec (.pwrTariffSet 0 v) s = .next (s.tariffSet v) := by
  obtain ⟨hl, hr⟩ := State.opens_iff.1 ho
  exact congrArg Host.Outcome.next (State.act_manager _ hl hr)

theorem exec_nrgCmdClearAcc (ho : s.opens 0x04 n = true) : exec (.nrgCmdClearAcc 0 n) s = .next (s.clearAcc n) := by
  obtain ⟨hl, hr⟩ := State.opens_iff.1 ho
  exact congrArg Host.Outcome.next (State.act_manager _ hl hr)

theorem exec_nrgCmdClearMax (ho : s.opens 0x04 n = true) : exec (.nrgCmdClearMax 0 n) s = .next (s.clearMax n) := by
  obtain ⟨hl, hr⟩ := State.opens_iff.1 ho
  exact congrArg Host.Outcome.next (State.act_manager _ hl hr)

end
end Sys2Proof.Machine

open Sys2Proof Sys2Proof.Machine in
/-- Settles O55: each event is its function of the model where its guard holds, and leaves the state where it does not. -/
theorem regulatorsHeatAndEnergy : Obligations.RegulatorsHeatAndEnergy := by
  unfold Obligations.RegulatorsHeatAndEnergy
  refine ⟨fun s k p => ⟨fun hoff => ?_, fun hk hp hd hon => ⟨?_, fun hs hr ht => ?_⟩, ?_⟩,
    fun s k temp ht => ⟨fun hoff => ?_, fun hk hd hp => ?_⟩, fun s d temp ht => ?_, fun s n st pin ok => ?_, fun s n x => ?_,
    fun s v => ?_, fun s n ho => ?_⟩
  · have hoff' : ¬ (k < 8 ∧ p < 14 ∧ s.domOn (1 + k) = true ∧ s.powered = true) := by
      simpa only [not_and_or, Nat.not_lt, Bool.not_eq_true] using hoff
    rw [exec_phaseFail, exec_phaseSenseFail, if_neg hoff', if_neg hoff']
    exact ⟨rfl, rfl⟩
  · rw [exec_phaseSenseFail, if_pos ⟨hk, hp, hd, hon⟩]
  · rw [exec_phaseFail, if_pos ⟨hk, hp, hd, hon⟩, State.fault_phase_reserve (w := phaseFault k p) rfl hs hr ht]
    exact ⟨_, rfl, rfl, State.phasesOk_phaseOut (w := phaseFault k p), State.limited_phaseOut (w := phaseFault k p),
      State.throttleCount_phaseOut (w := phaseFault k p), fun _ => rfl, rfl⟩
  · exact ⟨fun h => congrArg _ (State.takeover_idle h), fun w hw hs hr => congrArg _ (State.takeover_phase hw hs hr)⟩
  · exact ⟨exec_thermalThrottleTick_off hoff, exec_thermalRaiseTick_off hoff⟩
  · have hthrottle := exec_thermalThrottleTick hk hd hp ht
    have hraise := exec_thermalRaiseTick hk hd hp ht
    exact ⟨fun h => hthrottle.trans (congrArg _ (if_pos h)), fun h => hthrottle.trans (congrArg _ (if_neg h)),
      fun h => hraise.trans (congrArg _ (if_pos h)), fun h => hraise.trans (congrArg _ (if_neg h))⟩
  · rw [exec_thermalTrip ht]
    refine ⟨fun hoff => by rw [if_pos hoff], fun h110 h105 => ?_, fun h1 h50 hd hp htrip => ?_⟩
    · rw [if_neg (c := 110 ≤ _ ∨ _), ite_self]
      rintro (h | ⟨h, hfloor⟩)
      · omega
      · rcases h105 with h105 | h105
        · omega
        · simp [h105] at hfloor
    · rw [if_neg (by simp [hd, hp]; omega), if_pos htrip]
  · refine ⟨exec_telemetryPoll_off, fun h hp => ⟨fun hf => ?_, fun hf => ?_, exec_telemetryPoll_good h hp⟩⟩
    · exact (exec_telemetryPoll_failed h hp).trans (congrArg _ (if_pos hf))
    · exact (exec_telemetryPoll_failed h hp).trans (congrArg _ (if_neg (Nat.not_lt.2 hf)))
  · refine ⟨exec_demandIntervalEnd_none, fun h => ?_⟩
    have hend := exec_demandIntervalEnd_one h
    refine ⟨fun ho hl hb => hend.trans (congrArg _ (if_pos ⟨ho, hl, hb⟩)), fun hnot => hend.trans (congrArg _ (if_neg ?_))⟩
    rintro ⟨ho, hl, hb⟩
    rcases hnot with h | h | h
    · simp [ho] at h
    · simp [hl] at h
    · omega
  · refine ⟨exec_tariffPoint_off, fun p => exec_tariffPoint_at, fun ho => ?_⟩
    rw [exec_pwrTariffSet ho]
    exact ⟨fun h => by simp [State.tariffSet, h], fun h hv => by simp [State.tariffSet, h, Nat.mod_eq_of_lt hv]⟩
  · exact ⟨exec_nrgCmdClearAcc ho, exec_nrgCmdClearMax ho⟩

/-! # PERST_N and the host links (R589, R605) -/

namespace Sys2Proof.Machine
section
variable {s : State} {p speed width : Nat} {flit : Bool}

theorem exec_perstNAssert_off (h : 3 < p ∨ p ∈ s.boot.perst) : exec (.perstNAssert p) s = .next s := by
  simp [exec, execPerstNAssert, h]

/-- PERST_N falls: it is noted, and in service the port's functions are reset. -/
theorem exec_perstNAssert (hp : p ≤ 3) (h : p ∉ s.boot.perst) : exec (.perstNAssert p) s =
    let t : State := { s with boot := { s.boot with perst := s.boot.perst ++ [p] } }
    .next (if s.boot.phase < 2 ∨ s.f PWR_STAT_STATE = 4 then t
      else if (t.hostReset p).leadPort = p then (t.hostReset p).wakeBy 7 p 0 else t.hostReset p) := by
  have hreg (b : Boot) : ({ s with boot := b } : State).f PWR_STAT_STATE = s.f PWR_STAT_STATE := rfl
  simp [exec, execPerstNAssert, Nat.not_lt.2 hp, h, hreg, eq_comm (a := p)]

theorem exec_perstNRelease : exec (.perstNRelease p) s = .next (if p ∈ s.boot.perst then
    { s with boot := { s.boot with perst := s.boot.perst.filter (fun q => q != p), perstUp := PMap.put s.boot.perstUp p s.now } }
    else s) := by
  simp [exec, execPerstNRelease]

theorem exec_hostLinkDown_A (hp : p ≤ 3) : exec (.hostLinkDown p 0) s = .next (if s.activeLink p 0 = true then
    (s.hostDown p).setF HOST_STAT_LINK_B_UP p 0 (s.f HOST_STAT_LINK_B_UP p) else s.setF HOST_STAT_LINK_A_UP p 0 0) := by
  simp [exec, execHostLinkDown, Nat.not_lt.2 hp]

theorem exec_hostLinkDown_B (hp : p ≤ 3) : exec (.hostLinkDown p 1) s = .next (if s.activeLink p 1 = true then
    (s.hostDown p).setF HOST_STAT_LINK_A_UP p 0 (s.f HOST_STAT_LINK_A_UP p) else s.setF HOST_STAT_LINK_B_UP p 0 0) := by
  simp [exec, execHostLinkDown, Nat.not_lt.2 hp]

theorem exec_hostLinkUp_off (h : p ∈ s.boot.perst ∨ s.domReady (33 + p) = false ∨ s.boot.phase = 0) :
    exec (.hostLinkUp p 0 speed width flit) s = .next s := by
  rcases h with h | h | h <;> simp [exec, execHostLinkUp, h]

theorem exec_hostLinkUp_unsplit (h : s.b HOST_CTL_SPLIT p = false) : exec (.hostLinkUp p 1 speed width flit) s = .next s := by
  simp [exec, execHostLinkUp, h]

/-- Link A comes up; 64 GT/s, speed 6, is FLIT mode always (R605). -/
theorem exec_hostLinkUp_A (hp : p ≤ 3) (h : p ∉ s.boot.perst) (hd : s.domReady (33 + p) = true) (h0 : s.boot.phase ≠ 0)
    (hs : speed ≤ 6) : exec (.hostLinkUp p 0 speed width flit) s =
      let t := s.setF HOST_STAT_LINK_A_UP p 0 1
      .next (if t.activeLink p 0 then
          (((t.setF HOST_STAT_SPEED p 0 speed).setF HOST_STAT_WIDTH p 0 (min width (if t.b HOST_CTL_SPLIT p then 8 else 16))).setF
            HOST_STAT_FLIT p 0 (if flit = true ∨ speed = 6 then 1 else 0)) else t) := by
  have h6 : 6 ≤ speed ↔ speed = 6 := by omega
  simp [exec, execHostLinkUp, Nat.not_lt.2 hp, h, hd, h0, Nat.min_eq_left hs, h6, b2n]

end
end Sys2Proof.Machine

/-! # Functions and their configuration space (R451, R463, R483, R605) -/

namespace Sys2Proof.Machine
section
variable {s : State} {i k l p v : Nat} {wr : Bool}

/-- VF Enable is set in service, and not in RECOVERY (R595). -/
theorem exec_vfEnableSet : exec (.vfEnableSet i) s =
    .next (if s.boot.phase < 2 ∨ s.boot.phase = 5 ∨ i = 0 ∨ 64 < i then s
      else ({ s with fns := PMap.put s.fns i { s.fn i with vfEnable := true } } : State).setF INST_STAT_VF_ENABLED i 0 1) := by
  have hoff : (!(hasMbx i) || !(s.serves 0)) = true ↔ s.boot.phase < 2 ∨ s.boot.phase = 5 ∨ i = 0 ∨ 64 < i := by
    simp only [hasMbx, State.serves, Bool.not_and, Nat.reduceBEq, Bool.or_false, Bool.or_eq_true, Bool.not_eq_true',
      decide_eq_false_iff_not, bne_eq_false_iff_eq]
    omega
  simp only [exec, execVfEnableSet, hoff]

theorem exec_msiXUnmask_off (h : 64 < i) : exec (.msiXUnmask i v) s = .next s := by
  simp [exec, execMsiXUnmask, h]

theorem exec_msiXUnmask (h : i ≤ 64) : exec (.msiXUnmask i v) s =
    let c := s.fn i
    let d : FnCfg := if v = 0 then { c with mask0 := false } else if v = 1 then { c with mask1 := false } else { c with maskAll := false }
    .next (({ s with fns := PMap.put s.fns i d } : State).msixFlush i) := by
  simp [exec, execMsiXUnmask, Nat.not_lt.2 h]

theorem State.configSilent_iff : s.configSilent p l = true ↔ p ∈ s.boot.perst ∨ 1 < l ∨
    s.b (if l = 0 then HOST_STAT_LINK_A_UP else HOST_STAT_LINK_B_UP) p = false ∨ s.boot.phase = 0 ∨
    (s.boot.phase = 1 ∧ s.now < s.boot.at_ + 1310720000000) := by
  have hms : ms 20 = 1310720000000 := rfl
  simp [State.configSilent, hms, or_assoc]

/-- A configuration request to function 0 or to one that INST_STAT names. -/
theorem exec_configurationRequest (hi : i ≤ 64) (hn : i = 0 ∨ s.instState i ≠ 0)
    (hp : p = if i = 0 then s.leadPort else s.f INST_CTL_PORT i) : exec (.configurationRequest ⟨i, l⟩ k v wr) s =
      .next (if s.configSilent p l = true then s
        else if s.activeLink p l = false then s.emit (.config i 2 0)
        else if s.configRetry i p = true then s.emit (.config i 1 0)
        else if wr then (({ s with fns := PMap.put s.fns i ((s.fn i).write k v) } : State).msixFlush i).emit (.config i 0 0)
        else match (s.fn i).field k with
          | some v => s.emit (.config i 0 v)
          | none => (s.emit (.config i 0 (Config.freeNat s.draws % 2 ^ 32))).bump) := by
  have hnamed : (i == 0 || (i ≤ 64 && s.instState i != 0)) = true := by simpa [hi] using hn
  subst hp
  simp only [exec, execConfigurationRequest, hnamed, Bool.true_and, Bool.not_true, Bool.not_eq_true', Bool.false_eq_true, if_false,
    beq_iff_eq] <;> rfl

end
end Sys2Proof.Machine

/-! # The time reference, remote fault and PMBus segments (R148, R186, R299) -/

namespace Sys2Proof.Machine
section
variable {s : State} {n : Nat} {pps on : Bool}

theorem exec_ref10mReturn_off (h : s.live 0x24 0 = false) : exec (.ref10mReturn pps) s = .next s := by
  simp [exec, execRef10mReturn, h]

/-- REF10M is back: with PPS_IN holdover ends and locking begins anew (R186). -/
theorem exec_ref10mReturn (h : s.live 0x24 0 = true) : exec (.ref10mReturn pps) s =
    let t := ({ s with tm := { s.tm with ref10 := true } } : State).setF TIME_STAT_REF10_PRESENT 0 0 1
    .next (if t.f TIME_CTL_MODE = 1 ∧ t.b TIME_STAT_HOLDOVER = true ∧ pps = true then
      ({ t with tm := { t.tm with good := 0 } } : State).setF TIME_STAT_HOLDOVER 0 0 0 else t) := by
  simp [exec, execRef10mReturn, h, and_assoc]

theorem exec_remoteFault : exec (.remoteFault n on) s = .next (if s.live 0x40 n = true ∧ s.b EMAC_STAT_LINK_UP n = true then
    s.setF EMAC_STAT_REMOTE_FAULT n 0 (if on then 1 else 0) else s) := by
  simp [exec, execRemoteFault, b2n]

theorem exec_pmbSegmentFault_off (h : 1 < n ∨ s.domReady 45 = false) : exec (.pmbSegmentFault n) s = .next s := by
  simp [exec, execPmbSegmentFault, h]

end
end Sys2Proof.Machine

open Sys2Proof Sys2Proof.Machine in
/-- Settles O60: each pin, link and request acts as its row's equation says, one case for each of its guards. -/
theorem pinsAndHostPorts : Obligations.PinsAndHostPorts := by
  unfold Obligations.PinsAndHostPorts
  refine ⟨fun s p => ⟨exec_perstNAssert_off, fun hp h => ?_, fun h => ?_, fun h => ?_⟩, fun s p speed width flit hp => ?_, fun s i v => ?_,
    fun s i l k v wr hi hn => ?_, fun s pps on n => ?_⟩
  · have hassert := exec_perstNAssert hp h
    refine ⟨fun hoff => hassert.trans (congrArg _ (if_pos hoff)), fun h2 h4 hl => hassert.trans (congrArg _ ?_),
      fun h2 h4 hl => hassert.trans (congrArg _ ?_)⟩
    · exact (if_neg (by omega)).trans (if_neg hl)
    · exact (if_neg (by omega)).trans (if_pos hl)
  · rw [exec_perstNRelease, if_neg h]
  · rw [exec_perstNRelease, if_pos h]
  · rw [exec_hostLinkDown_A hp, exec_hostLinkDown_B hp]
    refine ⟨fun h => by rw [if_pos h], fun h => by simp [h], fun h => by rw [if_pos h], fun h => by simp [h],
      exec_hostLinkUp_off, exec_hostLinkUp_unsplit, fun h hd h0 hs _ => exec_hostLinkUp_A hp h hd h0 hs⟩
  · refine ⟨fun h => ?_, fun h2 h5 h1 h64 => ?_, exec_msiXUnmask_off, exec_msiXUnmask⟩
    · rw [exec_vfEnableSet, if_pos h]
    · rw [exec_vfEnableSet, if_neg (by omega)]
  · intro p c silent
    have hrow (wr : Bool) := exec_configurationRequest (l := l) (k := k) (v := v) (wr := wr) hi hn (p := p) rfl
    refine ⟨fun h => ?_, fun h ha => ?_, fun h ha hr => ?_, fun h ha hr => ⟨?_, fun x hx => ?_⟩⟩
    · rw [hrow, if_pos (State.configSilent_iff.2 h)]
    · rw [hrow, if_neg (State.configSilent_iff.not.2 h), if_pos ha]
    · rw [hrow, if_neg (State.configSilent_iff.not.2 h), if_neg (by simp [ha]), if_pos hr]
    · rw [hrow, if_neg (State.configSilent_iff.not.2 h), if_neg (by simp [ha]), if_neg (by simp [hr])]
      rfl
    · rw [hrow, if_neg (State.configSilent_iff.not.2 h), if_neg (by simp [ha]), if_neg (by simp [hr]), hx]
      rfl
  · refine ⟨exec_ref10mReturn_off, fun h => ⟨fun hnot => ?_, fun hm hh hp => ?_⟩, fun hoff => ?_, fun hl hu => ?_,
      exec_pmbSegmentFault_off, fun hd => ?_⟩
    · refine (exec_ref10mReturn h).trans (congrArg _ (if_neg ?_))
      simpa only [not_and_or, Bool.not_eq_true] using hnot
    · exact (exec_ref10mReturn h).trans (congrArg _ (if_pos ⟨hm, hh, hp⟩))
    · rw [exec_remoteFault, if_neg (by simpa only [not_and_or, Bool.not_eq_true] using hoff)]
    · rw [exec_remoteFault, if_pos ⟨hl, hu⟩]
    · simp [exec, execPmbSegmentFault, hd]

/-! # Fields of one page (R33)

Two fields of a page lie apart where their offsets do, whatever the page's unit. -/

namespace Sys2Proof.Machine
section
variable {s : State} {u v : Nat}

theorem State.f_setF_apart (F G : Fld) (hblk : G.blk = F.blk) (h : G.off * 8 + G.lo ≠ F.off * 8 + F.lo) :
    (s.setF F u 0 v).f G u = s.f G u :=
  State.f_setF_ne _ _ (by simp only [Fld.addr, hblk]; omega)

theorem State.b_setF_apart (F G : Fld) (hblk : G.blk = F.blk) (h : G.off * 8 + G.lo ≠ F.off * 8 + F.lo) :
    (s.setF F u 0 v).b G u = s.b G u := by
  rw [State.b, State.f_setF_apart F G hblk h, State.b]

/-- An error bit lies in the header, before every field of the page's own. -/
theorem State.b_err_apart (F G : Fld) (hblk : G.blk = F.blk) (h : 0x40 ≤ G.off) : (s.err F u).b G u = s.b G u := by
  rw [State.b, State.f_err_ne (by simp only [Fld.addr, hd, PAGE_ERR_WORD, hblk]; omega), State.b]

end
end Sys2Proof.Machine

/-! # Events that are counted (R543, R544)

Counting an event writes registers of the PMC pages; a counter that wraps signals and triggers the Gleaner. `Counted` says that nothing else
changes. -/

namespace Sys2Proof.Machine

/-- `t` is `s` but for the PMC registers, what a wrapping counter signals, and the Gleaner's codes and records. -/
structure Counted (s t : State) : Prop where
  eq : t = { s with regs := t.regs, events := t.events, gln := t.gln, glnRecs := t.glnRecs, glnTimes := t.glnTimes }
  find : ∀ a, 2 ^ 26 ≤ a → PMap.find t.regs a = PMap.find s.regs a

section
variable {s₀ s t : State} {b c n u i v : Nat} {F : Fld}

theorem Counted.refl : Counted s s := ⟨rfl, fun _ _ => rfl⟩

theorem Counted.trans (h : Counted s₀ s) (h' : Counted s t) : Counted s₀ t :=
  ⟨h'.eq.trans (by rw [h.eq]), fun a ha => (h'.find a ha).trans (h.find a ha)⟩

theorem Counted.ite {p : Prop} [Decidable p] {u : State} (ht : Counted s₀ t) (hu : Counted s₀ u) :
    Counted s₀ (if p then t else u) := by
  split
  · exact ht
  · exact hu

theorem Counted.foldl {α : Type} {k : State → α → State} {l : List α} (h : Counted s₀ s) (hk : ∀ t, ∀ a ∈ l, Counted t (k t a)) :
    Counted s₀ (l.foldl k s) :=
  List.foldlRecOn (motive := fun t => Counted s₀ t) l k h fun _ ht a ha => ht.trans (hk _ a ha)

/-- A write of a field whose page lies below 2²⁶, as every PMC page does. -/
theorem Counted.setF (h : Counted s₀ s) (hF : F.addr u i < 2 ^ 26) : Counted s₀ (s.setF F u i v) :=
  h.trans ⟨rfl, fun _ ha => PMap.find_put_ne _ _ (by omega)⟩

theorem Counted.post {kind : Nat} (h : Counted s₀ s) : Counted s₀ (s.post kind u) := h.trans ⟨rfl, fun _ _ => rfl⟩

theorem Counted.glnTrigger {code origin arg : Nat} {soft : Bool} {words : List Nat} (h : Counted s₀ s) :
    Counted s₀ (s.glnTrigger code soft origin arg words) := by
  unfold State.glnTrigger
  dsimp only
  split
  · exact h
  · split
    · exact h.trans ⟨rfl, fun _ _ => rfl⟩
    · exact h.trans ⟨rfl, fun _ _ => rfl⟩

theorem Counted.glnKind {kind src origin : Nat} (h : Counted s₀ s) : Counted s₀ (s.glnKind kind src origin) :=
  h.foldl fun _ _ _ => Counted.refl.glnTrigger

/-- The registers of a PMC page that counting writes lie below 2²⁶. -/
theorem pmc_addr_lt (hb : b < 256) (hc : c < 16) : PMC_OVF_BITS.addr b 0 < 2 ^ 26 ∧ PMC_CNT_COUNT.addr b c < 2 ^ 26 := by
  simp only [Fld.addr, PMC_OVF_BITS, PMC_CNT_COUNT]
  omega

theorem pmcCounters_le : pmcCounters b ≤ 16 := by
  unfold pmcCounters
  repeat' split
  all_goals decide

theorem Counted.pmcWrap (h : Counted s₀ s) (hb : b < 256) (hc : c < 16) : Counted s₀ (s.pmcWrap b c) := by
  obtain ⟨hovf, hcnt⟩ := pmc_addr_lt hb hc
  exact .glnKind (.ite ((h.setF hovf).setF hcnt).post ((h.setF hovf).setF hcnt))

theorem Counted.pmcAdd (h : Counted s₀ s) (hb : b < 256) (hc : c < 16) : Counted s₀ (s.pmcAdd b c n) := by
  have hcnt := (pmc_addr_lt hb hc).2
  unfold State.pmcAdd
  dsimp only
  split
  · exact h.setF hcnt
  · exact (h.pmcWrap hb hc).setF hcnt

theorem Counted.count {ev sub : Nat} {inst : Option Nat} (h : Counted s₀ s) (hb : b < 256) :
    Counted s₀ (s.count b ev sub inst n) := by
  unfold State.count
  split
  · exact h
  · refine h.foldl fun t c hc => ?_
    have hc16 : c < 16 := Nat.lt_of_lt_of_le (List.mem_range.1 hc) pmcCounters_le
    split
    · exact Counted.refl.pmcAdd hb hc16
    · exact .refl

/-- A field of a page from 0x08 on reads as before. -/
theorem Counted.f (h : Counted s t) (hF : 0x08 ≤ F.blk) : t.f F u i = s.f F u i := by
  have haddr : 2 ^ 26 ≤ F.addr u i := by unfold Fld.addr; omega
  simp only [State.f, h.find _ haddr]

theorem Counted.mem (h : Counted s t) : t.mem = s.mem := by rw [h.eq]
theorem Counted.out (h : Counted s t) : t.out = s.out := by rw [h.eq]
theorem Counted.cmts (h : Counted s t) : t.cmts = s.cmts := by rw [h.eq]
theorem Counted.prefs (h : Counted s t) : t.prefs = s.prefs := by rw [h.eq]

end
end Sys2Proof.Machine

/-! # What leaves the references as they are (R157, R177, R178, R196, R198)

Compare units and sequencers look at a reference and never write it. `SameRefs` says what they leave alone: memory, the references
themselves, and the registers of their pages but PAGE_ERR. -/

namespace Sys2Proof.Machine

/-- The references and their registers but PAGE_ERR stand in `t` as in `s`, and so does memory. -/
structure SameRefs (s t : State) : Prop where
  mem : t.mem = s.mem
  prefs : t.prefs = s.prefs
  find : ∀ a, 0x20 * 2 ^ 23 ≤ a → a < 0x21 * 2 ^ 23 → a % 2 ^ 15 ≠ 128 → PMap.find t.regs a = PMap.find s.regs a

/-- A field of the PREF pages behind their headers. -/
abbrev Fld.ofPref (F : Fld) : Prop := F.blk = 0x20 ∧ 0x40 ≤ F.off ∧ F.off * 8 + F.lo < 2 ^ 15

section
variable {s₀ s t u : State} {F : Fld} {p n v fuel : Nat} {old new : Int} {c : Prop} [Decidable c]

theorem SameRefs.refl : SameRefs s s := ⟨rfl, rfl, fun _ _ _ _ => rfl⟩

theorem SameRefs.trans (h : SameRefs s₀ s) (h' : SameRefs s t) : SameRefs s₀ t :=
  ⟨h'.mem.trans h.mem, h'.prefs.trans h.prefs, fun a ha hb hc => (h'.find a ha hb hc).trans (h.find a ha hb hc)⟩

theorem SameRefs.pref (h : SameRefs s t) : t.pref p = s.pref p := by rw [State.pref, h.prefs, State.pref]

theorem SameRefs.f (h : SameRefs s t) (hF : F.ofPref) (hp : p < 8) : t.f F p = s.f F p := by
  obtain ⟨hblk, hoff, hlo⟩ := hF
  refine State.f_of_find (h.find _ ?_ ?_ ?_) <;> simp only [Fld.addr, hblk] <;> omega

theorem SameRefs.b (h : SameRefs s t) (hF : F.ofPref) (hp : p < 8) : t.b F p = s.b F p := by
  rw [State.b, h.f hF hp, State.b]

theorem SameRefs.ite (ht : SameRefs s₀ t) (hu : SameRefs s₀ u) : SameRefs s₀ (if c then t else u) := by
  split
  · exact ht
  · exact hu

theorem SameRefs.foldl {α : Type} {k : State → α → State} {l : List α} (h : SameRefs s₀ s) (hk : ∀ {t a}, SameRefs t (k t a)) :
    SameRefs s₀ (l.foldl k s) :=
  List.foldlRecOn (motive := fun t => SameRefs s₀ t) l k h fun _ ht _ _ => ht.trans hk

/-! ### Compare units and sequencers -/

theorem SameRefs.setPcu {q : Pcu} (h : SameRefs s₀ s) : SameRefs s₀ (s.setPcu n q) := h.trans ⟨rfl, rfl, fun _ _ _ _ => rfl⟩

theorem SameRefs.setSq {q : SeqSt} (h : SameRefs s₀ s) : SameRefs s₀ (s.setSq n q) := h.trans ⟨rfl, rfl, fun _ _ _ _ => rfl⟩

theorem SameRefs.post {kind : Nat} (h : SameRefs s₀ s) : SameRefs s₀ (s.post kind n) := h.trans ⟨rfl, rfl, fun _ _ _ _ => rfl⟩

/-- The pages of the compare units lie behind those of the references, whatever unit is named. -/
theorem SameRefs.setPcuF (h : SameRefs s₀ s) (hF : F.blk = 0x21) : SameRefs s₀ (s.setF F n 0 v) :=
  h.trans ⟨rfl, rfl, fun a _ hb _ => PMap.find_put_ne _ _ (by simp only [Fld.addr, hF]; omega)⟩

/-- PAGE_ERR lies in the header of its page, whichever page is named. -/
theorem SameRefs.errOn {blk : Nat} (h : SameRefs s₀ s) : SameRefs s₀ (s.errOn F blk n) :=
  h.trans ⟨rfl, rfl, fun a _ _ hc => PMap.find_put_ne _ _ (by simp only [Fld.addr, hd, PAGE_ERR_WORD]; omega)⟩

theorem SameRefs.setCmts {l : PMap Armed} (h : SameRefs s₀ s) : SameRefs s₀ { s with cmts := l } :=
  h.trans ⟨rfl, rfl, fun _ _ _ _ => rfl⟩

theorem SameRefs.abandonPos (h : SameRefs s₀ s) : SameRefs s₀ (s.abandonPos n) :=
  h.setCmts.foldl fun {_ _} => SameRefs.refl.errOn

theorem SameRefs.disarm (h : SameRefs s₀ s) : SameRefs s₀ (s.disarm n) := .ite (h.setPcuF rfl).setPcu.abandonPos h

theorem SameRefs.nextTarget (h : SameRefs s₀ s) : SameRefs s₀ (s.nextTarget n).1 := by
  have hleft : SameRefs s₀ ((if s.f PCU_LEFT_COUNT n == 0 then s
      else s.setF PCU_LEFT_COUNT n 0 (s.f PCU_LEFT_COUNT n - 1)).setF PCU_STAT_PREDICT n 0 0) :=
    (SameRefs.ite h (h.setPcuF rfl)).setPcuF rfl
  unfold State.nextTarget
  dsimp only
  split
  · exact hleft
  · exact hleft.setPcu

theorem SameRefs.passOver (h : SameRefs s₀ s) : SameRefs s₀ (s.passOver n old new fuel) := by
  induction fuel generalizing s with
  | zero => exact h
  | succ fuel ih => exact .ite (.ite h.nextTarget.disarm (ih h.nextTarget)) h

/-- MISSED, with its event where it is enabled (R177). -/
theorem SameRefs.missed (h : SameRefs s₀ s) : SameRefs s₀ (if (s.setF PCU_STAT_MISSED n 0 1).b PCU_CTL_EV_EN n then
    (s.setF PCU_STAT_MISSED n 0 1).post 0x5 n else s.setF PCU_STAT_MISSED n 0 1) :=
  .ite (h.setPcuF rfl).post (h.setPcuF rfl)

theorem SameRefs.jumpUnit (h : SameRefs s₀ s) : SameRefs s₀ (s.jumpUnit n old new) := by
  have hjump {t : State} (ht : SameRefs s₀ t) {same : Bool} {q : Pcu} : SameRefs s₀ (if same then t.setPcu n q else t) :=
    .ite ht.setPcu ht
  refine .ite (.ite (hjump h).setPcu (hjump h).setPcu.missed.setPcu) (SameRefs.setPcu ?_)
  exact .ite (hjump h) (.ite (hjump h).missed.disarm (hjump h).missed.passOver)

theorem SameRefs.jumpSeqs (h : SameRefs s₀ s) : SameRefs s₀ (s.jumpSeqs p new) := h.foldl SameRefs.refl.setSq.setSq

theorem SameRefs.jump (h : SameRefs s₀ s) : SameRefs s₀ (s.jump p old new) := (h.foldl SameRefs.refl.jumpUnit).jumpSeqs

theorem SameRefs.noticeUnit {seen : Option Nat} (h : SameRefs s₀ s) : SameRefs s₀ (s.noticeUnit n seen) :=
  .ite h.setPcu (.ite h.setPcu h.setPcu)

theorem SameRefs.noticeSeq (h : SameRefs s₀ s) : SameRefs s₀ (s.noticeSeq n) := by
  unfold State.noticeSeq
  dsimp only
  split
  · exact h.setSq
  · exact h.setSq.setSq

theorem SameRefs.noticeSeqs (h : SameRefs s₀ s) : SameRefs s₀ (s.noticeSeqs p) := h.foldl SameRefs.refl.noticeSeq

theorem SameRefs.noticeMotion (h : SameRefs s₀ s) : SameRefs s₀ (s.noticeMotion p) := (h.foldl SameRefs.refl.noticeUnit).noticeSeqs

theorem SameRefs.moveUnits (h : SameRefs s₀ s) : SameRefs s₀ (s.moveUnits p) := (h.foldl SameRefs.refl.noticeUnit).noticeSeqs

theorem SameRefs.settleUnits (h : SameRefs s₀ s) : SameRefs s₀ (s.settleUnits p) := h.foldl SameRefs.refl.setPcu

theorem SameRefs.count {b ev sub : Nat} {inst : Option Nat} (h : SameRefs s₀ s) (hb : b < 256) :
    SameRefs s₀ (s.count b ev sub inst n) :=
  have hc : Counted s (s.count b ev sub inst n) := Counted.refl.count hb
  h.trans ⟨hc.mem, hc.prefs, fun a ha _ _ => hc.find a (by omega)⟩

end
end Sys2Proof.Machine

/-! # Encoder edges (R158 to R163, R170 to R174, R611)

An edge first has its effect on count and levels; what follows it, estimate, stuck channels and the index period, leaves them alone
(`SameCount`). -/

namespace Sys2Proof.Machine

/-- Count and levels of reference `p` stand in `t` as in `s`, and so does memory. -/
structure SameCount (p : Nat) (s t : State) : Prop where
  mem : t.mem = s.mem
  cnt : (t.pref p).cnt = (s.pref p).cnt
  lvA : (t.pref p).lvA = (s.pref p).lvA
  lvB : (t.pref p).lvB = (s.pref p).lvB
  lvZ : (t.pref p).lvZ = (s.pref p).lvZ

section
variable {s₀ s t u : State} {F G : Fld} {p i n v ch at_ first : Nat} {old new x : Int} {a b chB : Bool} {undo : EdgeUndo}
  {c : Prop} [Decidable c]

@[simp] theorem State.pref_setPref (s : State) (p : Nat) (r : Pref) : (s.setPref p r).pref p = r := PMap.get_put_same ..
@[simp] theorem State.f_setPref {r : Pref} : (s.setPref p r).f F v i = s.f F v i := rfl
@[simp] theorem State.b_setPref {r : Pref} : (s.setPref p r).b F v i = s.b F v i := rfl

theorem SameCount.refl : SameCount p s s := ⟨rfl, rfl, rfl, rfl, rfl⟩

theorem SameCount.trans (h : SameCount p s₀ s) (h' : SameCount p s t) : SameCount p s₀ t :=
  ⟨h'.mem.trans h.mem, h'.cnt.trans h.cnt, h'.lvA.trans h.lvA, h'.lvB.trans h.lvB, h'.lvZ.trans h.lvZ⟩

theorem SameRefs.sameCount (h : SameRefs s t) : SameCount p s t := by
  have hpref := h.pref (p := p)
  exact ⟨h.mem, by rw [hpref], by rw [hpref], by rw [hpref], by rw [hpref]⟩

theorem SameCount.ite (ht : SameCount p s₀ t) (hu : SameCount p s₀ u) : SameCount p s₀ (if c then t else u) := by
  split
  · exact ht
  · exact hu

theorem SameCount.setF (h : SameCount p s₀ s) : SameCount p s₀ (s.setF F v i n) := h.trans ⟨rfl, rfl, rfl, rfl, rfl⟩

theorem SameCount.err (h : SameCount p s₀ s) : SameCount p s₀ (s.err F v) := h.setF

/-- A write of the reference that keeps count and levels. -/
theorem SameCount.setPref {r : Pref} (h : SameCount p s₀ s) (hr : r.cnt = (s.pref p).cnt ∧ r.lvA = (s.pref p).lvA ∧
    r.lvB = (s.pref p).lvB ∧ r.lvZ = (s.pref p).lvZ := by exact ⟨rfl, rfl, rfl, rfl⟩) : SameCount p s₀ (s.setPref p r) := by
  obtain ⟨hc, hA, hB, hZ⟩ := hr
  exact h.trans ⟨rfl, by simp [hc], by simp [hA], by simp [hB], by simp [hZ]⟩

theorem SameCount.unreliable (h : SameCount p s₀ s) : SameCount p s₀ (s.unreliable p) := .ite h h.setF.err

theorem SameCount.prefFlag (h : SameCount p s₀ s) : SameCount p s₀ (s.prefFlag p F G) := .ite h h.setF.err

theorem SameCount.track (h : SameCount p s₀ s) : SameCount p s₀ (s.track p old new at_) := h.setPref.setF.setF

theorem SameCount.stuckRun (h : SameCount p s₀ s) : SameCount p s₀ (s.stuckRun p b) :=
  .ite h.setPref.setF.prefFlag.unreliable h.setPref.setF

theorem SameCount.indexRun (h : SameCount p s₀ s) : SameCount p s₀ (s.indexRun p) :=
  .ite h.setPref.prefFlag.unreliable h.setPref

/-! ### UNRELIABLE -/

/-- OVERSPEED is left alone by what makes a reference unreliable. -/
theorem State.overspeed_unreliable : (s.unreliable p).b PREF_STAT_OVERSPEED p = s.b PREF_STAT_OVERSPEED p := by
  unfold State.unreliable
  split
  · rfl
  · rw [State.b_err_apart PREF_ERR_UNRELIABLE PREF_STAT_OVERSPEED rfl (by decide),
      State.b_setF_apart PREF_STAT_UNRELIABLE PREF_STAT_OVERSPEED rfl (by decide)]

theorem State.unreliable_set : (s.unreliable p).b PREF_STAT_UNRELIABLE p = true := by
  unfold State.unreliable
  split
  · assumption
  · rw [State.b_err_apart PREF_ERR_UNRELIABLE PREF_STAT_UNRELIABLE rfl (by decide), State.b, State.f_setF_same]
    rfl

/-! ### An edge -/

/-- What follows the new levels of an illegal transition: direction, standstill, stuck channels, OVERSPEED and UNRELIABLE (R159). -/
def State.overspeed (s : State) (p dir : Nat) (chB : Bool) : State :=
  (((((s.setF PREF_STAT_DIR p 0 dir).setF PREF_STAT_STANDSTILL p 0 0).stuckRun p chB).setF
    PREF_STAT_OVERSPEED p 0 1).unreliable p).settleUnits p

theorem SameCount.overspeed {dir : Nat} (h : SameCount p s₀ s) : SameCount p s₀ (s.overspeed p dir chB) :=
  (h.setF.setF.stuckRun.setF.unreliable).trans SameRefs.refl.settleUnits.sameCount

theorem State.b_overspeed {dir : Nat} (hp : p < 8) : (s.overspeed p dir chB).b PREF_STAT_OVERSPEED p = true := by
  rw [State.overspeed, SameRefs.refl.settleUnits.b (by decide) hp, State.overspeed_unreliable, State.b,
    State.f_setF_same]
  rfl

/-- An illegal transition takes the new levels and the count that it is given, and sets OVERSPEED (R159). -/
theorem State.illegalEdge_eq : ∃ r : Pref, r.cnt = undo.cnt ∧ r.lvA = a ∧ r.lvB = b ∧
    s.illegalEdge p a b chB at_ first undo = (s.setPref p r).overspeed p (b2n undo.back) chB :=
  ⟨_, rfl, rfl, rfl, rfl⟩

theorem State.illegalEdge_spec (hp : p < 8)
    (h : t = s.illegalEdge p a b chB at_ first undo) :
    t.mem = s.mem ∧ (t.pref p).cnt = undo.cnt ∧ (t.pref p).lvA = a ∧ (t.pref p).lvB = b ∧ t.b PREF_STAT_OVERSPEED p = true := by
  obtain ⟨r, hc, hA, hB, heq⟩ : ∃ r : Pref, r.cnt = undo.cnt ∧ r.lvA = a ∧ r.lvB = b ∧
      t = (s.setPref p r).overspeed p (b2n undo.back) chB := h ▸ State.illegalEdge_eq
  have hrest : SameCount p (s.setPref p r) t := heq ▸ SameCount.refl.overspeed
  refine ⟨hrest.mem, ?_, ?_, ?_, heq ▸ State.b_overspeed hp⟩
  · rw [hrest.cnt, State.pref_setPref, hc]
  · rw [hrest.lvA, State.pref_setPref, hA]
  · rw [hrest.lvB, State.pref_setPref, hB]

/-- An edge on `ch` comes within FILT_NS of the last one, which was on the other channel (R159). -/
def State.nearEdge (s : State) (p ch : Nat) : Bool :=
  (s.pref p).run != 0 && (s.pref p).runB != (ch == 1) &&
    decide (s.now - ns (s.f PREF_FILT_FILT_NS p) ≤ (s.pref p).stillAt + ns (s.f PREF_FILT_FILT_NS p))

/-- The levels after an edge on `ch`. -/
def Pref.edgeA (r : Pref) (ch : Nat) : Bool := if ch == 1 then r.lvA else !r.lvA
def Pref.edgeB (r : Pref) (ch : Nat) : Bool := if ch == 0 then r.lvB else !r.lvB

theorem Pref.edgeA_single {r : Pref} (hch : ch < 2) : r.edgeA ch = if ch = 0 then !r.lvA else r.lvA := by
  obtain rfl | rfl : ch = 0 ∨ ch = 1 := by omega
  · rfl
  · rfl

theorem Pref.edgeB_single {r : Pref} (hch : ch < 2) : r.edgeB ch = if ch = 1 then !r.lvB else r.lvB := by
  obtain rfl | rfl : ch = 0 ∨ ch = 1 := by omega
  · rfl
  · rfl

/-- The step of the count at an edge on `ch`. -/
def State.edgeStep (s : State) (p ch : Nat) : Int :=
  if ((quadIdx ((s.pref p).edgeA ch) ((s.pref p).edgeB ch) + 4 - quadIdx (s.pref p).lvA (s.pref p).lvB) % 4 == 1) !=
    s.b PREF_CTL_INVERT_DIR p then 1 else -1

/-- The crossings that are looked for before an edge change nothing that the edge depends on. -/
theorem State.pref_noticeMotion : (s.noticeMotion p).pref p = s.pref p := SameRefs.refl.noticeMotion.pref

theorem State.now_noticeMotion : (s.noticeMotion p).now = s.now := Keeps.refl.noticeMotion.now

theorem State.nearEdge_noticeMotion (hp : p < 8) : (s.noticeMotion p).nearEdge p ch = s.nearEdge p ch := by
  simp only [State.nearEdge, State.pref_noticeMotion, State.now_noticeMotion,
    SameRefs.refl.noticeMotion.f (F := PREF_FILT_FILT_NS) (by decide) hp]

theorem State.edgeStep_noticeMotion (hp : p < 8) : (s.noticeMotion p).edgeStep p ch = s.edgeStep p ch := by
  simp only [State.edgeStep, State.pref_noticeMotion, SameRefs.refl.noticeMotion.b (F := PREF_CTL_INVERT_DIR) (by decide) hp]

/-- An edge on both channels is an illegal transition, as is one near the last edge of the other channel; any other moves the count. -/
theorem State.encoderEdge_eq : ∃ (at_ first : Nat) (here undo : EdgeUndo) (r : Pref),
    let u := s.noticeMotion p
    here.cnt = (u.pref p).cnt ∧ r.cnt = (u.pref p).cnt + u.edgeStep p ch ∧ r.lvA = (u.pref p).edgeA ch ∧ r.lvB = (u.pref p).edgeB ch ∧
    s.encoderEdge p ch =
      if ch == 2 then (u.stuckRun p false).illegalEdge p ((u.pref p).edgeA ch) ((u.pref p).edgeB ch) true at_ at_ here
      else if u.nearEdge p ch then u.illegalEdge p ((u.pref p).edgeA ch) ((u.pref p).edgeB ch) (ch == 1) at_ first undo
      else ((((u.setPref p r).track p (u.pref p).cnt r.cnt at_).stuckRun p (ch == 1)).indexRun p).moveUnits p := by
  unfold State.encoderEdge
  exact ⟨_, _, _, _, _, rfl, rfl, rfl, rfl, rfl⟩

theorem Pref.quadStep {r : Pref} (hch : ch < 2) :
    ((quadIdx (r.edgeA ch) (r.edgeB ch) + 4 - quadIdx r.lvA r.lvB) % 4 == 1) = (if ch = 0 then r.lvA == r.lvB else r.lvA != r.lvB) := by
  rw [Pref.edgeA_single hch, Pref.edgeB_single hch]
  obtain rfl | rfl : ch = 0 ∨ ch = 1 := by omega
  · cases r.lvA <;> cases r.lvB <;> rfl
  · cases r.lvA <;> cases r.lvB <;> rfl

theorem State.encoderEdge_moves (hp : p < 8) (hch : ch < 2) (h : s.nearEdge p ch = false) (ht : t = s.encoderEdge p ch) :
    t.mem = s.mem ∧ (t.pref p).lvA = (s.pref p).edgeA ch ∧ (t.pref p).lvB = (s.pref p).edgeB ch ∧
      (t.pref p).cnt = (s.pref p).cnt + s.edgeStep p ch := by
  obtain ⟨at_, first, here, undo, r, -, hc, hA, hB, heq⟩ := State.encoderEdge_eq (s := s) (p := p) (ch := ch)
  have hnear : ¬ (s.noticeMotion p).nearEdge p ch = true := by rw [State.nearEdge_noticeMotion hp, h]; decide
  rw [← ht, if_neg (by simp; omega), if_neg hnear] at heq
  have hrest : SameCount p ((s.noticeMotion p).setPref p r) t :=
    heq ▸ (SameCount.refl.track.stuckRun.indexRun).trans SameRefs.refl.moveUnits.sameCount
  rw [State.pref_noticeMotion] at hc hA hB
  rw [State.edgeStep_noticeMotion hp] at hc
  refine ⟨hrest.mem.trans SameRefs.refl.noticeMotion.mem, ?_, ?_, ?_⟩
  · rw [hrest.lvA, State.pref_setPref, hA]
  · rw [hrest.lvB, State.pref_setPref, hB]
  · rw [hrest.cnt, State.pref_setPref, hc]

theorem State.encoderEdge_overspeed (hp : p < 8) (hch : ch < 2) (h : s.nearEdge p ch = true) (ht : t = s.encoderEdge p ch) :
    t.mem = s.mem ∧ (t.pref p).lvA = (s.pref p).edgeA ch ∧ (t.pref p).lvB = (s.pref p).edgeB ch ∧ t.b PREF_STAT_OVERSPEED p = true := by
  obtain ⟨at_, first, here, undo, r, -, -, -, -, heq⟩ := State.encoderEdge_eq (s := s) (p := p) (ch := ch)
  rw [← ht, if_neg (by simp; omega), if_pos (by rw [State.nearEdge_noticeMotion hp, h]), State.pref_noticeMotion] at heq
  obtain ⟨hmem, -, hA, hB, hover⟩ := State.illegalEdge_spec hp heq
  exact ⟨hmem.trans SameRefs.refl.noticeMotion.mem, hA, hB, hover⟩

theorem State.encoderEdge_both (hp : p < 8) (ht : t = s.encoderEdge p 2) :
    t.mem = s.mem ∧ (t.pref p).cnt = (s.pref p).cnt ∧ (t.pref p).lvA = !(s.pref p).lvA ∧ (t.pref p).lvB = !(s.pref p).lvB ∧
      t.b PREF_STAT_OVERSPEED p = true := by
  obtain ⟨at_, first, here, undo, r, hc, -, -, -, heq⟩ := State.encoderEdge_eq (s := s) (p := p) (ch := 2)
  rw [← ht, if_pos (by decide), State.pref_noticeMotion] at heq
  obtain ⟨hmem, hcnt, hA, hB, hover⟩ := State.illegalEdge_spec hp heq
  have hstuck : SameCount p (s.noticeMotion p) ((s.noticeMotion p).stuckRun p false) := SameCount.refl.stuckRun
  exact ⟨hmem.trans (hstuck.mem.trans SameRefs.refl.noticeMotion.mem), hcnt.trans (hc.trans (by rw [State.pref_noticeMotion])), hA, hB, hover⟩

/-- A reference has one of the eight PREF pages (Table 02-1). -/
theorem State.prefOn_lt {src : Nat} (h : s.prefOn p src = true) : p < 8 := by
  simp only [State.prefOn, Bool.and_eq_true] at h
  have hlisted := State.live_listed h.1
  simp [unitListed, blockUnits] at hlisted
  omega

/-- The edge and the event that counts it. -/
theorem exec_encoderEdge (hon : s.prefOn p 1 = true) (hch : ch ≤ 2) : ∃ t, exec (.encoderEdge p ch) s = .next t ∧
    SameRefs (s.encoderEdge p ch) t :=
  ⟨_, congrArg Host.Outcome.next (if_pos (by simp [hon, hch])), SameRefs.refl.count (by decide)⟩

end
end Sys2Proof.Machine

/-! # Glitches, the index and the loss of motion (R158, R161 to R163, R166, R173) -/

namespace Sys2Proof.Machine
section
variable {s : State} {F : Fld} {p ch : Nat} {x : Int} {level : Bool}

theorem exec_glitch (hon : s.prefOn p 1 = true) (hch : ch < 2) : exec (.glitch p ch) s =
    let s1 := (s.satF PREF_CNT_GLITCH_COUNT p 0 1).count 109 0x241 p none
    let g := (s.now :: (s.pref p).glitches.filter fun t => decide (s.now ≤ t + 65536000)).take 8
    .next (if g.length = 8 then ((s1.setPref p { s.pref p with glitches := g }).setF PREF_STAT_OVERSPEED p 0 1).unreliable p
      else s1.setPref p { s.pref p with glitches := g }) := by
  have hcount : Counted (s.satF PREF_CNT_GLITCH_COUNT p 0 1) ((s.satF PREF_CNT_GLITCH_COUNT p 0 1).count 109 0x241 p none) :=
    Counted.refl.count (by decide)
  have hpref : ((s.satF PREF_CNT_GLITCH_COUNT p 0 1).count 109 0x241 p none).pref p = s.pref p := by
    rw [State.pref, hcount.prefs]
    rfl
  have hnow : ((s.satF PREF_CNT_GLITCH_COUNT p 0 1).count 109 0x241 p none).now = s.now := by
    rw [hcount.eq]
    rfl
  have hus : us 1 = 65536000 := rfl
  simp [exec, execGlitch, hon, Nat.not_le.2 hch, hpref, hnow, hus]

theorem exec_glitch_Z (hon : s.prefOn p 1 = true) : exec (.glitch p 2) s =
    .next ((s.satF PREF_CNT_GLITCH_COUNT p 0 1).count 109 0x241 p none) := by
  simp [exec, execGlitch, hon]

theorem exec_indexEdge_inactive (hon : s.prefOn p 1 = true) (hl : level = s.b PREF_CTL_INDEX_POL p) :
    exec (.indexEdge p level) s = .next (s.setPref p { s.pref p with lvZ := level }) := by
  simp [exec, execIndexEdge, hon, hl]

/-- An index edge is noted: the level of Z, the index error, the count of indexes, and INDEX_MISSING clears (R161). -/
def State.indexNoted (s : State) (p : Nat) (level : Bool) : State :=
  (((s.setPref p { s.pref p with lvZ := level }).setF PREF_IDX_ERR_ERR p 0 (unsgn (sgn (s.f PREF_INDEX_POS_COUNT p) 48 - (s.pref p).cnt) 32)).addF
    PREF_CNT_INDEX_COUNT p 0 1).setF PREF_STAT_INDEX_MISSING p 0 0

/-- The range of the count since the last index edge begins anew (R163). -/
def State.rangeAnew (s : State) (p : Nat) : State := s.setPref p { s.pref p with lo := (s.pref p).cnt, hi := (s.pref p).cnt }

/-- The count becomes INDEX_POS at the index that homes (R162). -/
def State.homed (s : State) (p : Nat) : State :=
  ((s.indexSet p).setF PREF_STAT_HOMED p 0 1).setPref p { (s.indexSet p).pref p with homing := false }

theorem exec_indexEdge_active (hon : s.prefOn p 1 = true) (hl : level ≠ s.b PREF_CTL_INDEX_POL p)
    (hq : s.b PREF_CTL_INDEX_QUAL p = false ∨ ((s.pref p).lvA = true ∧ (s.pref p).lvB = true)) : exec (.indexEdge p level) s =
    let t := s.indexNoted p level
    let m := t.f PREF_CTL_INDEX_MODE p
    .next ((if m == 3 then t.indexSet p else if m == 2 && (s.pref p).homing then t.homed p
      else if m != 0 && sgn (s.f PREF_INDEX_POS_COUNT p) 48 - (s.pref p).cnt != 0 then t.unreliable p else t).rangeAnew p) := by
  have hqual : ¬ (level == s.b PREF_CTL_INDEX_POL p || (s.b PREF_CTL_INDEX_QUAL p && !((s.pref p).lvA && (s.pref p).lvB))) = true := by
    rcases hq with hq | ⟨hA, hB⟩
    · simp [hl, hq]
    · simp [hl, hA, hB]
  exact congrArg Host.Outcome.next ((if_neg (by simp [hon])).trans (if_neg hqual))

/-- What an index edge writes lies behind the fields that configure the reference. -/
theorem State.f_indexNoted_config (hblk : F.blk = 0x20) (h : F.off * 8 + F.lo < 0x70 * 8) : (s.indexNoted p level).f F p = s.f F p := by
  have hapart {G : Fld} (hG : 0x70 ≤ G.off) : F.off * 8 + F.lo ≠ G.off * 8 + G.lo := by omega
  rw [State.indexNoted, State.f_setF_apart PREF_STAT_INDEX_MISSING F hblk (hapart (by decide)), State.addF,
    State.f_setF_apart PREF_CNT_INDEX_COUNT F hblk (hapart (by decide)), State.f_setF_apart PREF_IDX_ERR_ERR F hblk (hapart (by decide)),
    State.f_setPref]

theorem State.indexMode_indexNoted : (s.indexNoted p level).f PREF_CTL_INDEX_MODE p = s.f PREF_CTL_INDEX_MODE p :=
  State.f_indexNoted_config rfl (by decide)

theorem State.indexPos_indexNoted : (s.indexNoted p level).f PREF_INDEX_POS_COUNT p = s.f PREF_INDEX_POS_COUNT p :=
  State.f_indexNoted_config rfl (by decide)

theorem State.idxErr_indexNoted : (s.indexNoted p level).f PREF_IDX_ERR_ERR p =
    unsgn (sgn (s.f PREF_INDEX_POS_COUNT p) 48 - (s.pref p).cnt) 32 % 2 ^ 32 := by
  rw [State.indexNoted, State.f_setF_apart PREF_STAT_INDEX_MISSING PREF_IDX_ERR_ERR rfl (by decide), State.addF,
    State.f_setF_apart PREF_CNT_INDEX_COUNT PREF_IDX_ERR_ERR rfl (by decide), State.f_setF_same]
  rfl

theorem State.indexCount_indexNoted : (s.indexNoted p level).f PREF_CNT_INDEX_COUNT p =
    (s.f PREF_CNT_INDEX_COUNT p + 1) % 2 ^ PREF_CNT_INDEX_COUNT.w := by
  rw [State.indexNoted, State.f_setF_apart PREF_STAT_INDEX_MISSING PREF_CNT_INDEX_COUNT rfl (by decide), State.f_addF_same,
    State.f_setF_apart PREF_IDX_ERR_ERR PREF_CNT_INDEX_COUNT rfl (by decide), State.f_setPref]

theorem State.indexMissing_indexNoted : (s.indexNoted p level).f PREF_STAT_INDEX_MISSING p = 0 := by
  rw [State.indexNoted, State.f_setF_same]
  rfl

theorem State.pref_indexNoted : (s.indexNoted p level).pref p = { s.pref p with lvZ := level } := State.pref_setPref ..

theorem SameCount.rangeAnew : SameCount p s (s.rangeAnew p) := SameCount.refl.setPref

theorem SameCount.homed : SameCount p (s.indexSet p) (s.homed p) := SameCount.refl.setF.setPref

/-- A jump places the count, whatever the source of the reference. -/
theorem State.jumpTo_spec : (s.jumpTo p x).mem = s.mem ∧ ((s.jumpTo p x).pref p).cnt = x / 65536 ∧
    ((s.jumpTo p x).pref p).lvZ = (s.pref p).lvZ := by
  have hrest : SameCount p ((s.noticeMotion p).place p x) (s.jumpTo p x) :=
    SameCount.trans (.ite SameCount.refl.setPref (.ite SameCount.refl.setPref .refl)) SameRefs.refl.jump.sameCount
  refine ⟨hrest.mem.trans SameRefs.refl.noticeMotion.mem, ?_, ?_⟩
  · rw [hrest.cnt, State.place, State.pref_setPref]
  · rw [hrest.lvZ, State.place, State.pref_setPref, State.pref_noticeMotion]

/-- The count becomes INDEX_POS (R162). -/
theorem State.indexSet_spec : (s.indexSet p).mem = s.mem ∧ ((s.indexSet p).pref p).cnt = sgn (s.f PREF_INDEX_POS_COUNT p) 48 ∧
    ((s.indexSet p).pref p).lvZ = (s.pref p).lvZ := by
  have hcount : sgn (s.f PREF_INDEX_POS_COUNT p) 48 * 65536 / 65536 = sgn (s.f PREF_INDEX_POS_COUNT p) 48 :=
    Int.mul_ediv_cancel _ (by decide)
  unfold State.indexSet
  dsimp only
  split
  · refine ⟨rfl, ?_, ?_⟩
    · rw [State.place, State.pref_setPref, hcount]
    · rw [State.place, State.pref_setPref]
      rfl
  · obtain ⟨hmem, hcnt, hZ⟩ := State.jumpTo_spec (s := s.reliable p) (p := p) (x := sgn (s.f PREF_INDEX_POS_COUNT p) 48 * 65536)
    exact ⟨hmem, hcnt.trans hcount, hZ⟩

/-- With INDEX_MODE 0 an index edge is noted and no more. -/
theorem exec_indexEdge_noted (hon : s.prefOn p 1 = true) (hl : level ≠ s.b PREF_CTL_INDEX_POL p)
    (hq : s.b PREF_CTL_INDEX_QUAL p = false) (hm : s.f PREF_CTL_INDEX_MODE p = 0) :
    exec (.indexEdge p level) s = .next ((s.indexNoted p level).rangeAnew p) := by
  simp only [exec_indexEdge_active hon hl (.inl hq), State.indexMode_indexNoted, hm]
  rfl

/-- With INDEX_MODE 3, and with 2 when homing, the index places the count. -/
theorem exec_indexEdge_sets (hon : s.prefOn p 1 = true) (hl : level ≠ s.b PREF_CTL_INDEX_POL p)
    (hq : s.b PREF_CTL_INDEX_QUAL p = false ∨ ((s.pref p).lvA = true ∧ (s.pref p).lvB = true))
    (hm : s.f PREF_CTL_INDEX_MODE p = 3 ∨ (s.f PREF_CTL_INDEX_MODE p = 2 ∧ (s.pref p).homing = true)) :
    ∃ t, exec (.indexEdge p level) s = .next t ∧ SameCount p ((s.indexNoted p level).indexSet p) t := by
  rcases hm with hm | ⟨hm, hh⟩
  · refine ⟨((s.indexNoted p level).indexSet p).rangeAnew p, ?_, .rangeAnew⟩
    simp only [exec_indexEdge_active hon hl hq, State.indexMode_indexNoted, hm]
    rfl
  · refine ⟨((s.indexNoted p level).homed p).rangeAnew p, ?_, SameCount.homed.trans .rangeAnew⟩
    simp only [exec_indexEdge_active hon hl hq, State.indexMode_indexNoted, hm, hh]
    rfl

/-- With INDEX_MODE 1, and with 2 when not homing, an index error makes the reference unreliable. -/
theorem exec_indexEdge_unreliable (hon : s.prefOn p 1 = true) (hl : level ≠ s.b PREF_CTL_INDEX_POL p)
    (hq : s.b PREF_CTL_INDEX_QUAL p = false ∨ ((s.pref p).lvA = true ∧ (s.pref p).lvB = true))
    (hm : s.f PREF_CTL_INDEX_MODE p = 1 ∨ (s.f PREF_CTL_INDEX_MODE p = 2 ∧ (s.pref p).homing = false))
    (hd : sgn (s.f PREF_INDEX_POS_COUNT p) 48 ≠ (s.pref p).cnt) :
    exec (.indexEdge p level) s = .next (((s.indexNoted p level).unreliable p).rangeAnew p) := by
  have hdiff : (sgn (s.f PREF_INDEX_POS_COUNT p) 48 - (s.pref p).cnt != 0) = true := by
    rw [bne_iff_ne]
    omega
  rcases hm with hm | ⟨hm, hh⟩
  · simp only [exec_indexEdge_active hon hl hq, State.indexMode_indexNoted, hm, hdiff]
    rfl
  · simp only [exec_indexEdge_active hon hl hq, State.indexMode_indexNoted, hm, hh, hdiff]
    rfl

/-! ### Standstill and the loss of a source (R166, R173) -/

theorem exec_standstill (hon : s.prefOn p 1 = true) (hs : s.b PREF_STAT_STANDSTILL p = false) : exec (.standstill p) s =
    .next (if (s.pref p).stillAt + s.f PREF_STILL_STILL_TMO p * 65536000 ≤ s.now then (s.freeze p).setF PREF_STAT_STANDSTILL p 0 1 else s) := by
  have hus : us (s.f PREF_STILL_STILL_TMO p) = s.f PREF_STILL_STILL_TMO p * 65536000 := rfl
  simp [exec, execStandstill, hon, hs, hus]

theorem exec_srcLost (hon : s.prefOn p 2 = true) (hs : s.b PREF_STAT_SRC_LOST p = false)
    (hm : s.f PREF_KPB_LOST_FRAMES p < (s.pref p).missed) : exec (.srcLost p) s =
    .next ((((s.freeze p).setF PREF_STAT_SRC_LOST p 0 1).err PREF_ERR_SRC_LOST p).unreliable p) := by
  have hfrozen : (s.freeze p).b PREF_STAT_SRC_LOST p = false := hs
  simp [exec, execSrcLost, hon, hs, hm, State.prefFlag, hfrozen]

end
end Sys2Proof.Machine

open Sys2Proof Sys2Proof.Machine in
/-- Settles O25: each event of an encoder acts by its own rule on count and levels, and what follows it leaves them alone. -/
theorem encoderAndSamples : Obligations.EncoderAndSamples := by
  unfold Obligations.EncoderAndSamples
  intro s p r
  refine ⟨fun hon => ?_, exec_srcLost⟩
  have hp : p < 8 := State.prefOn_lt hon
  have hns : ns (s.f PREF_FILT_FILT_NS p) = 65536 * s.f PREF_FILT_FILT_NS p := Nat.mul_comm ..
  refine ⟨fun ch hch hnear => ?_, ?_, fun ch hch hrun hB hat => ?_, fun ch hch => ?_, exec_glitch_Z hon,
    fun level => exec_indexEdge_inactive hon, fun level hl hq hm => ?_, fun level hl hq => ⟨fun hm => ?_, fun hm hd => ?_⟩, fun hs => ?_⟩
  · obtain ⟨t, ht, hsame⟩ := exec_encoderEdge hon (Nat.le_of_lt hch)
    obtain ⟨hmem, hA, hB, hcnt⟩ := State.encoderEdge_moves hp hch (by rw [State.nearEdge, hns]; exact hnear) rfl
    refine ⟨t, ht, hsame.mem.trans hmem, ?_, ?_, ?_⟩
    · rw [hsame.pref, hA, Pref.edgeA_single hch]
    · rw [hsame.pref, hB, Pref.edgeB_single hch]
    · rw [hsame.pref, hcnt, State.edgeStep, Pref.quadStep hch]
  · obtain ⟨t, ht, hsame⟩ := exec_encoderEdge hon (ch := 2) (Nat.le_refl _)
    obtain ⟨hmem, hcnt, hA, hB, hover⟩ := State.encoderEdge_both hp (s := s) rfl
    refine ⟨t, ht, hsame.mem.trans hmem, ?_, ?_, ?_, ?_⟩
    · rw [hsame.pref, hcnt]
    · rw [hsame.pref, hA]
    · rw [hsame.pref, hB]
    · rw [hsame.b (by decide) hp, hover]
  · obtain ⟨t, ht, hsame⟩ := exec_encoderEdge hon (Nat.le_of_lt hch)
    have hnear : s.nearEdge p ch = true := by
      simp only [State.nearEdge, hns, Bool.and_eq_true, bne_iff_ne, decide_eq_true_eq]
      exact ⟨⟨hrun, hB⟩, hat⟩
    obtain ⟨hmem, hA, hB, hover⟩ := State.encoderEdge_overspeed hp hch hnear rfl
    refine ⟨t, ht, hsame.mem.trans hmem, ?_, ?_, ?_⟩
    · rw [hsame.pref, hA, Pref.edgeA_single hch]
    · rw [hsame.pref, hB, Pref.edgeB_single hch]
    · rw [hsame.b (by decide) hp, hover]
  · have hglitch := exec_glitch hon hch
    exact ⟨fun h => hglitch.trans (congrArg _ (if_neg (Nat.ne_of_lt h))), fun h => hglitch.trans (congrArg _ (if_pos h))⟩
  · have hrange : SameCount p (s.indexNoted p level) ((s.indexNoted p level).rangeAnew p) := .rangeAnew
    have hpref := State.pref_indexNoted (s := s) (p := p) (level := level)
    refine ⟨_, exec_indexEdge_noted hon hl hq hm, State.idxErr_indexNoted, State.indexCount_indexNoted, State.indexMissing_indexNoted,
      ?_, ?_, ?_, ?_, hrange.mem⟩
    · rw [hrange.lvZ, hpref]
    · rw [State.rangeAnew, State.pref_setPref, hpref]
    · rw [State.rangeAnew, State.pref_setPref, hpref]
    · rw [hrange.cnt, hpref]
  · obtain ⟨t, ht, hsame⟩ := exec_indexEdge_sets hon hl hq hm
    obtain ⟨hmem, hcnt, hZ⟩ := State.indexSet_spec (s := s.indexNoted p level) (p := p)
    refine ⟨t, ht, ?_, ?_, hsame.mem.trans hmem⟩
    · rw [hsame.cnt, hcnt, State.indexPos_indexNoted]
    · rw [hsame.lvZ, hZ, State.pref_indexNoted]
  · have hrest : SameCount p (s.indexNoted p level) (((s.indexNoted p level).unreliable p).rangeAnew p) :=
      (SameCount.unreliable .refl).trans .rangeAnew
    refine ⟨_, exec_indexEdge_unreliable hon hl hq hm hd, State.unreliable_set, ?_, ?_, hrest.mem⟩
    · rw [hrest.cnt, State.pref_indexNoted]
    · rw [hrest.lvZ, State.pref_indexNoted]
  · have hstill := exec_standstill hon hs
    exact ⟨fun h => hstill.trans (congrArg _ (if_pos h)), fun h => hstill.trans (congrArg _ (if_neg (Nat.not_le.2 h)))⟩

/-! # Writes of a reference (R167 to R169, R612) -/

namespace Sys2Proof.Machine
section
variable {s : State} {p v : Nat}

theorem exec_prefSet (ho : s.opens 0x20 p = true) (hv : v < 2 ^ 64) :
    exec (.prefSet 0 p v) s = .next ((s.reliable p).jumpTo p (sgn v 64)) := by
  obtain ⟨hl, hr⟩ := State.opens_iff.1 ho
  have hset : s.prefSet p v = (s.reliable p).jumpTo p (sgn v 64) := by rw [State.prefSet, Nat.mod_eq_of_lt hv]
  exact congrArg Host.Outcome.next ((State.act_manager _ hl hr).trans hset)

theorem exec_prefHostVel (ho : s.opens 0x20 p = true) (hv : v < 2 ^ 64) :
    exec (.prefHostVel 0 p v) s = .next (s.setPref p { s.pref p with hostRate := sgn v 64 }) := by
  obtain ⟨hl, hr⟩ := State.opens_iff.1 ho
  have hset : s.hostVel p v = s.setPref p { s.pref p with hostRate := sgn v 64 } := by rw [State.hostVel, Nat.mod_eq_of_lt hv]
  exact congrArg Host.Outcome.next ((State.act_manager _ hl hr).trans hset)

theorem exec_prefHostMove (ho : s.opens 0x20 p = true) : exec (.prefHostMove 0 p v) s = .next (s.hostMove p v) := by
  obtain ⟨hl, hr⟩ := State.opens_iff.1 ho
  exact congrArg Host.Outcome.next (State.act_manager _ hl hr)

theorem State.hostMove_foreign (h : s.f PREF_CTL_SRC p ≠ 3) : s.hostMove p v = s := if_pos (by simpa using h)

/-- Where no compare unit is set up none stands on a reference. -/
theorem State.unitsOn_none {m : Nat} (h : s.pcus = []) : s.unitsOn m p = [] := by simp [State.unitsOn, h]

theorem State.noticeSeqs_none (h : s.seqs = []) : s.noticeSeqs p = s := by simp [State.noticeSeqs, h]

/-- With no compare unit and no sequencer nothing looks for crossings. -/
theorem State.noticeMotion_none (hu : s.pcus = []) (hq : s.seqs = []) : s.noticeMotion p = s := by
  rw [State.noticeMotion, State.noticeUnits, State.unitsOn_none hu]
  exact State.noticeSeqs_none hq

theorem State.moveUnits_none (hu : s.pcus = []) (hq : s.seqs = []) : s.moveUnits p = s := by
  rw [State.moveUnits, State.unitsOn_none hu]
  exact State.noticeSeqs_none hq

/-- The reference after a host move: the place, the rate, and DIR by the move (R167). -/
def State.hostPlaced (s : State) (p : Nat) (x : Int) : State :=
  let t := (s.place p x).setPref p { (s.place p x).pref p with rate := (s.pref p).hostRate }
  if x = s.position p then t else t.setF PREF_STAT_DIR p 0 (b2n (decide (x < s.position p)))

theorem State.hostPlaced_eq {x : Int} : s.hostPlaced p x =
    if x = s.position p then (s.place p x).setPref p { (s.place p x).pref p with rate := (s.pref p).hostRate }
    else ((s.place p x).setPref p { (s.place p x).pref p with rate := (s.pref p).hostRate }).setF PREF_STAT_DIR p 0
      (b2n (decide (x < s.position p))) := rfl

theorem State.hostPlaced_watchers {x : Int} : (s.hostPlaced p x).pcus = s.pcus ∧ (s.hostPlaced p x).seqs = s.seqs := by
  rw [State.hostPlaced_eq]
  split <;> exact ⟨rfl, rfl⟩

/-- A host move with no compare unit and no sequencer fires nothing, and DIR is then that of a rate that is not 0 (R167). -/
theorem State.hostMove_bare (hsrc : s.f PREF_CTL_SRC p = 3) (hu : s.pcus = []) (hq : s.seqs = []) (hv : v < 2 ^ 64) :
    s.hostMove p v = if (s.pref p).hostRate = 0 then s.hostPlaced p (sgn v 64)
      else (s.hostPlaced p (sgn v 64)).setF PREF_STAT_DIR p 0 (b2n (decide ((s.pref p).hostRate < 0))) := by
  obtain ⟨hpcus, hseqs⟩ := State.hostPlaced_watchers (s := s) (p := p) (x := sgn v 64)
  simp only [State.hostMove, hsrc, State.noticeMotion_none hu hq, Nat.mod_eq_of_lt hv, beq_iff_eq, ← State.hostPlaced_eq]
  rw [State.unitsOn_none (hpcus.trans hu)]
  by_cases hrate : (s.pref p).hostRate = 0
  · simp [hrate, State.moveFires, State.moveUnits_none (hpcus.trans hu) (hseqs.trans hq)]
  · simp [hrate, State.moveFires, State.moveUnits_none (s := (s.hostPlaced p (sgn v 64)).setF _ _ _ _) (hpcus.trans hu) (hseqs.trans hq)]

end
end Sys2Proof.Machine

open Sys2Proof Sys2Proof.Machine in
/-- Settles O26: the manager's writes reach the reference, and each is its function of the model. -/
theorem referenceWrites : Obligations.ReferenceWrites := by
  unfold Obligations.ReferenceWrites
  intro s p v ho hv
  refine ⟨?_, exec_prefHostVel ho hv, fun hsrc => ?_, fun hsrc hu hq => ?_⟩
  · rw [exec_prefSet ho hv]
    simp only [State.jumpTo, State.reliable, beq_iff_eq]
  · rw [exec_prefHostMove ho, State.hostMove_foreign hsrc]
  · exact (exec_prefHostMove ho).trans (congrArg _ (State.hostMove_bare hsrc hu hq hv))

/-! # Compare units and trigger pins (R178 to R184, R191) -/

namespace Sys2Proof.Machine
section
variable {s : State} {F : Fld} {u v at_ : Nat}

@[simp] theorem State.pcu_setF {n : Nat} : (s.setF F v 0 n).pcu u = s.pcu u := rfl

/-! ### Firing -/

theorem exec_pcuFire_waits (h : s.reached u = false) : exec (.pcuFire u) s = .next s :=
  congrArg Host.Outcome.next (if_neg (by simp [h]))

/-- A unit with STEP 0 is done after its target (R179). -/
theorem State.nextTarget_oneShot (h : s.f PCU_INTERVAL_STEP u = 0) : s.nextTarget u =
    ((if s.f PCU_LEFT_COUNT u == 0 then s else s.setF PCU_LEFT_COUNT u 0 (s.f PCU_LEFT_COUNT u - 1)).setF PCU_STAT_PREDICT u 0 0, true) :=
  if_pos (by simp [h])

/-- A firing that makes no event, task, pin action or commit counts in FIRED and nothing else outside the unit. -/
structure FiredBare (u : Nat) (s t : State) : Prop where
  count : t.f PCU_FIRED_COUNT u = (s.f PCU_FIRED_COUNT u + 1) % 2 ^ PCU_FIRED_COUNT.w
  mem : t.mem = s.mem
  out : t.out = s.out
  cmts : t.cmts = s.cmts

theorem State.nextTarget_bare (h : s.f PCU_INTERVAL_STEP u = 0) : ∃ t, s.nextTarget u = (t, true) ∧
    t.f PCU_FIRED_COUNT u = s.f PCU_FIRED_COUNT u ∧ t.mem = s.mem ∧ t.out = s.out ∧ t.cmts = s.cmts := by
  refine ⟨_, State.nextTarget_oneShot h, ?_, ?_⟩
  · refine (State.f_setF_apart PCU_STAT_PREDICT PCU_FIRED_COUNT rfl (by decide)).trans ?_
    split
    · rfl
    · exact State.f_setF_apart PCU_LEFT_COUNT PCU_FIRED_COUNT rfl (by decide)
  · split <;> exact ⟨rfl, rfl, rfl⟩

theorem State.fireOnce_bare {c : Int} (hev : s.b PCU_CTL_EV_EN u = false)
    (hpin : s.b PCU_CTL_PIN_EN u = false) (hkpb : s.b PCU_CTL_KPB_EN u = false) :
    s.fireOnce u c = (s.addF PCU_FIRED_COUNT u 0 1).nextTarget u := by
  have hev' : (s.addF PCU_FIRED_COUNT u 0 1).b PCU_CTL_EV_EN u = false :=
    (State.b_setF_apart PCU_FIRED_COUNT PCU_CTL_EV_EN rfl (by decide)).trans hev
  have hkpb' : (s.addF PCU_FIRED_COUNT u 0 1).b PCU_CTL_KPB_EN u = false :=
    (State.b_setF_apart PCU_FIRED_COUNT PCU_CTL_KPB_EN rfl (by decide)).trans hkpb
  simp [State.fireOnce, State.queuePin, hpin, hev', hkpb']

theorem State.fireNow_bare (hstep : s.f PCU_INTERVAL_STEP u = 0) (htask : s.b PCU_CTL_TASK_EN u = false)
    (hev : s.b PCU_CTL_EV_EN u = false) (hpin : s.b PCU_CTL_PIN_EN u = false) (hkpb : s.b PCU_CTL_KPB_EN u = false) :
    ∃ t, s.fireNow u = (t, true) ∧ FiredBare u s t := by
  obtain ⟨w, c, hw, hfire⟩ : ∃ w c, Counted (s.setPcu u { s.pcu u with due := false }) w ∧ s.fireNow u = w.fireOnce u c := by
    unfold State.fireNow
    refine ⟨_, _, ?_, rfl⟩
    rw [State.fireTask, if_pos (by rw [Bool.not_eq_true']; exact htask)]
    exact Counted.refl.count (by decide)
  have hf (F : Fld) (hF : 0x08 ≤ F.blk) : w.f F u = s.f F u := hw.f hF
  have hb (F : Fld) (hF : 0x08 ≤ F.blk) : w.b F u = s.b F u := by rw [State.b, hf F hF, State.b]
  obtain ⟨t, ht, hcount, hmem, hout, hcmts⟩ := State.nextTarget_bare (s := w.addF PCU_FIRED_COUNT u 0 1) (u := u)
    ((State.f_setF_apart PCU_FIRED_COUNT PCU_INTERVAL_STEP rfl (by decide)).trans ((hf _ (by decide)).trans hstep))
  refine ⟨t, ?_, ?_, hmem.trans hw.mem, hout.trans hw.out, hcmts.trans hw.cmts⟩
  · rw [hfire, State.fireOnce_bare ((hb _ (by decide)).trans hev) ((hb _ (by decide)).trans hpin)
      ((hb _ (by decide)).trans hkpb), ht]
  · rw [hcount, State.f_addF_same, hf _ (by decide)]

theorem State.fires_done (hr : s.reached u = true) (hd : (s.fireNow u).2 = true) : s.fires u (s.mostTargets u) = s.fireNow u :=
  (if_pos hr).trans (if_pos hd)

/-- Without pending commits none is abandoned. -/
theorem State.abandonPos_none (h : s.cmts = []) :
    (s.abandonPos u).regs = s.regs ∧ (s.abandonPos u).mem = s.mem ∧ (s.abandonPos u).out = s.out := by
  simp [State.abandonPos, h]

/-- A unit that is done disarms; where no commit is pending none waits for it. -/
theorem State.fired_done (h : s.cmts = []) : ∃ q : Pcu, s.fired u true at_ =
    ((s.setPcu u q).setF PCU_STAT_ARMED u 0 0).abandonPos u := by
  refine ⟨{ s.pcu u with prev := s.pcuNow u, far := s.pcuNow u, skip := 0, due := false, trgSent := false }, ?_⟩
  simp only [State.fired, if_true, Bool.not_true, Bool.and_false]
  rw [State.group_none fun e he => absurd he (by simp [h, State.setPcu])]

theorem exec_pcuFire_bare (hl : s.live 0x21 u = true) (hr : s.reached u = true) (hc : s.cmts = []) (hstep : s.f PCU_INTERVAL_STEP u = 0)
    (htask : s.b PCU_CTL_TASK_EN u = false) (hev : s.b PCU_CTL_EV_EN u = false) (hpin : s.b PCU_CTL_PIN_EN u = false)
    (hkpb : s.b PCU_CTL_KPB_EN u = false) : ∃ t, exec (.pcuFire u) s = .next t ∧
      t.f PCU_FIRED_COUNT u = (s.f PCU_FIRED_COUNT u + 1) % 2 ^ PCU_FIRED_COUNT.w ∧ t.b PCU_STAT_ARMED u = false ∧ t.mem = s.mem ∧
      t.out = s.out := by
  obtain ⟨w, hfire, hw⟩ := State.fireNow_bare hstep htask hev hpin hkpb
  obtain ⟨q, hq⟩ := State.fired_done (u := u) (at_ := s.firesAt u) (hw.cmts.trans hc)
  have hfires : s.fires u (s.mostTargets u) = (w, true) := (State.fires_done hr (by rw [hfire])).trans hfire
  obtain ⟨hregs, hmem, hout⟩ := State.abandonPos_none (s := (w.setPcu u q).setF PCU_STAT_ARMED u 0 0) (u := u) (hw.cmts.trans hc)
  refine ⟨_, congrArg Host.Outcome.next ((if_pos (by simp [hl, hr])).trans ?_), ?_, ?_, hmem.trans hw.mem,
    hout.trans hw.out⟩
  · rw [hfires]
    exact hq
  · rw [State.f_congr hregs, State.f_setF_apart PCU_STAT_ARMED PCU_FIRED_COUNT rfl (by decide)]
    exact hw.count
  · rw [State.b_congr hregs, State.b, State.f_setF_same]
    rfl

/-! ### Arming -/

theorem exec_pcuArmArm (ho : s.opens 0x21 u = true) : exec (.pcuArmArm 0 u false) s = .next (s.arm u) := by
  obtain ⟨hl, hr⟩ := State.opens_iff.1 ho
  exact congrArg Host.Outcome.next (State.act_manager _ hl hr)

theorem exec_pcuArmDisarm (ho : s.opens 0x21 u = true) : exec (.pcuArmDisarm 0 u) s = .next (s.disarm u) := by
  obtain ⟨hl, hr⟩ := State.opens_iff.1 ho
  exact congrArg Host.Outcome.next (State.act_manager _ hl hr)

theorem State.arm_off (h : s.f PCU_CTL_MODE u = 0) : s.arm u = s := if_pos (by simp [h])

theorem State.disarm_unarmed (h : s.b PCU_STAT_ARMED u = false) : s.disarm u = s := if_neg (by simp [h])

theorem State.disarm_armed (h : s.b PCU_STAT_ARMED u = true) : s.disarm u =
    ((s.setF PCU_STAT_ARMED u 0 0).setPcu u { s.pcu u with due := false, trgSent := false }).abandonPos u := if_pos h

/-- In position mode the next target is TGT, and the unit looks for it from where its reference stands (R178). -/
theorem State.loadTarget_position (h : s.f PCU_CTL_MODE u = 1) : s.loadTarget u =
    let t := (s.setF PCU_LEFT_COUNT u 0 (s.f PCU_COUNT_COUNT u)).setF PCU_STAT_PREDICT u 0 0
    t.setPcu u { s.pcu u with
      next := sgn (s.f PCU_TGT_TGT u) 64, prev := t.position (t.f PCU_CTL_PREF u), far := t.position (t.f PCU_CTL_PREF u), due := false,
      dueAt := s.now, skip := 0, snap := t.snapshot (t.f PCU_CTL_PREF u), trgSent := false } := by
  have hmode : ((s.setF PCU_LEFT_COUNT u 0 (s.f PCU_COUNT_COUNT u)).setF PCU_STAT_PREDICT u 0 0).f PCU_CTL_MODE u = 1 :=
    (State.f_setF_apart PCU_STAT_PREDICT PCU_CTL_MODE rfl (by decide)).trans
      ((State.f_setF_apart PCU_LEFT_COUNT PCU_CTL_MODE rfl (by decide)).trans h)
  simp only [State.loadTarget, State.firstTarget, State.pcuNow, h, hmode, Nat.reduceBEq, Bool.false_and, Bool.false_eq_true, if_false,
    State.pcu_setF, State.setF_now]

/-- ARM in position mode (R191). -/
theorem State.arm_position (h : s.f PCU_CTL_MODE u = 1) : s.arm u =
    let t := ((((s.setF PCU_STAT_ARMED u 0 1).setF PCU_STAT_MISSED u 0 0).setF PCU_STAT_LATE u 0 0).setF PCU_LEFT_COUNT u 0
      (s.f PCU_COUNT_COUNT u)).setF PCU_STAT_PREDICT u 0 0
    t.setPcu u { s.pcu u with
      next := sgn (s.f PCU_TGT_TGT u) 64, prev := t.position (t.f PCU_CTL_PREF u), far := t.position (t.f PCU_CTL_PREF u), due := false,
      dueAt := s.now, skip := 0, snap := t.snapshot (t.f PCU_CTL_PREF u), trgSent := false } := by
  have hconf (G : Fld) (hG : G.blk = 0x21) (hoff : G.off * 8 + G.lo < 0x3c0) :
      (((s.setF PCU_STAT_ARMED u 0 1).setF PCU_STAT_MISSED u 0 0).setF PCU_STAT_LATE u 0 0).f G u = s.f G u := by
    have hstat {F : Fld} (hF : F.off * 8 = 0x3c0) : G.off * 8 + G.lo ≠ F.off * 8 + F.lo := by omega
    rw [State.f_setF_apart _ _ hG (hstat rfl), State.f_setF_apart _ _ hG (hstat rfl), State.f_setF_apart _ _ hG (hstat rfl)]
  have harm : s.arm u = (((s.setF PCU_STAT_ARMED u 0 1).setF PCU_STAT_MISSED u 0 0).setF PCU_STAT_LATE u 0 0).loadTarget u :=
    if_neg (by simp [h])
  rw [harm, State.loadTarget_position ((hconf _ rfl (by decide)).trans h), hconf PCU_COUNT_COUNT rfl (by decide),
    hconf PCU_TGT_TGT rfl (by decide)]
  rfl

/-! ### Pins (R181, R182) -/

theorem exec_pinAction_none (h : s.pinQ = []) : exec (.pinAction u) s = .next s := by simp [exec, execPinAction, h]

/-- The one action placed on a pin sets its level, where no pulse is in progress. -/
theorem exec_pinAction_sets {a : PinAct} (h : s.pinQ = [a]) (hpin : a.pin = u) (hat : a.at_ ≤ s.now) (hact : a.act = 2)
    (hp : (s.pin u).pulse = none) : exec (.pinAction u) s =
      let s1 := ({ s with pinQ := [] } : State).count 109 0x243 (if s.f PCU_CTL_MODE a.unit == 1 then s.f PCU_CTL_PREF a.unit else 8) none
      .next (((s1.addF TRG_CNT_PULSE_COUNT u 0 1).setPin u { s1.pin u with level := true }).drivePin u) := by
  subst hpin
  simp [exec, execPinAction, h, hat, hact, hp, State.pinAct, insAct]
  rfl

theorem exec_pulseEnd {e : Nat} (h : (s.pin u).pulse = some e) : exec (.pulseEnd u) s =
    .next (if e ≤ s.now ∧ s.pulseBefore u (e + 262144) = false then
      (s.setPin u { s.pin u with pulse := none, lastEnd := some e }).drivePin u else s) := by
  have hns : ns 4 = 262144 := rfl
  simp only [exec, execPulseEnd, State.endPulse, h, State.pulseOver, hns, Bool.and_eq_true, decide_eq_true_eq, Bool.not_eq_true']
  split
  · next hend => rw [if_neg (by simp [hend.2])]
  · rfl

end
end Sys2Proof.Machine

open Sys2Proof Sys2Proof.Machine in
/-- Settles O27: each command on a unit or pin is the case of its function that the unit's registers or the pin's queue decide. -/
theorem compareUnitsAndPins : Obligations.CompareUnitsAndPins := by
  unfold Obligations.CompareUnitsAndPins
  intro s u
  refine ⟨exec_pcuFire_waits, exec_pcuFire_bare, fun ho => ⟨fun h => ?_, fun h => ?_, fun h => ?_, fun h => ?_⟩, exec_pinAction_none,
    fun a => exec_pinAction_sets, fun e he => ⟨fun h => ?_, fun h hp => ?_⟩⟩
  · rw [exec_pcuArmArm ho, State.arm_off h]
  · exact (exec_pcuArmArm ho).trans (congrArg _ (State.arm_position h))
  · rw [exec_pcuArmDisarm ho, State.disarm_unarmed h]
  · rw [exec_pcuArmDisarm ho, State.disarm_armed h]
  · exact (exec_pulseEnd he).trans (congrArg _ (if_neg fun hend => Nat.not_le.2 h hend.1))
  · exact (exec_pulseEnd he).trans (congrArg _ (if_pos ⟨h, hp⟩))

/-! # Device time (R185 to R189, R193) -/

namespace Sys2Proof.Machine
section
variable {s : State} {v : Nat}

theorem sec_one : sec 1 = 65536000000000 := Nat.one_mul _

/-! ### The inputs -/

/-- Outside REF mode an edge of PPS_IN is recorded and no more (R189). -/
theorem exec_ppsIn_unservoed {ref10 : Bool} (hl : s.live 0x24 0 = true) (hm : s.f TIME_CTL_MODE ≠ 1) : exec (.ppsIn ref10) s =
    .next ((({ s with tm := { s.tm with lastPps := some s.now, ref10 := ref10 } } : State).setF TIME_PPS_IN_TIME 0 0
      (time96 s.devTime)).setF TIME_STAT_PPS_PRESENT 0 0 1 |>.setF TIME_STAT_REF10_PRESENT 0 0 (b2n ref10)) := by
  have hmode (u : State) (hu : u.f TIME_CTL_MODE = s.f TIME_CTL_MODE) {a b c : Nat} :
      (((u.setF TIME_PPS_IN_TIME 0 0 a).setF TIME_STAT_PPS_PRESENT 0 0 b).setF TIME_STAT_REF10_PRESENT 0 0 c).f TIME_CTL_MODE =
        s.f TIME_CTL_MODE := by
    rw [State.f_setF_apart TIME_STAT_REF10_PRESENT TIME_CTL_MODE rfl (by decide), State.f_setF_apart TIME_STAT_PPS_PRESENT TIME_CTL_MODE rfl (by decide),
      State.f_setF_apart TIME_PPS_IN_TIME TIME_CTL_MODE rfl (by decide), hu]
  exact congrArg Host.Outcome.next ((if_neg (by simp [hl])).trans (if_neg fun h => hm ((hmode _ rfl).symm.trans (beq_iff_eq.1 h))))

theorem exec_ref10mLoss (hl : s.live 0x24 0 = true) : exec .ref10mLoss s =
    let t := ({ s with tm := { s.tm with ref10 := false } } : State).setF TIME_STAT_REF10_PRESENT 0 0 0
    .next (if t.f TIME_CTL_MODE = 1 then t.holdover else t) := by
  simp only [exec, execRef10mLoss, hl, Bool.not_true, Bool.false_eq_true, if_false, beq_iff_eq]

/-- PPS_IN counts as missing 1.1 s after its last edge (R186). -/
theorem exec_ppsMissing {t : Nat} (hl : s.live 0x24 0 = true) (ht : s.tm.lastPps = some t) : exec .ppsMissing s =
    let u := s.setF TIME_STAT_PPS_PRESENT 0 0 0
    .next (if s.now < t + 1100 * 65536000000 then s else if u.f TIME_CTL_MODE = 1 then u.holdover else u) := by
  simp only [exec, execPpsMissing, hl, ht, ms, Option.getD_some, Bool.not_true, Bool.false_or, decide_eq_true_eq, beq_iff_eq]

/-! ### TIME_CMD and TIME_RATE -/

theorem exec_timeRateWrite (ho : s.opens 0x24 0 = true) : exec (.timeRateWrite 0 v) s = .next (s.setF TIME_RATE_ADJ 0 0 v) := by
  obtain ⟨hl, hr⟩ := State.opens_iff.1 ho
  exact congrArg Host.Outcome.next (State.act_manager _ hl hr)

theorem exec_timeCmdSet {step : Bool} (ho : s.opens 0x24 0 = true) : exec (.timeCmdSet 0 step) s = .next (s.timeCmd true step) := by
  obtain ⟨hl, hr⟩ := State.opens_iff.1 ho
  exact congrArg Host.Outcome.next (State.act_manager _ hl hr)

theorem exec_timeCmdStep (ho : s.opens 0x24 0 = true) : exec (.timeCmdStep 0) s = .next (s.timeCmd false true) := by
  obtain ⟨hl, hr⟩ := State.opens_iff.1 ho
  exact congrArg Host.Outcome.next (State.act_manager _ hl hr)

/-- A TIME_SET with a whole second or more of nanoseconds is malformed (R187). -/
theorem State.timeCmd_malformed {step : Bool} (h : 65536000000000 ≤ s.f TIME_SET_TIME % 2 ^ 48) :
    s.timeCmd true step = s.err TIME_ERR_STEP_REFUSED 0 := by
  simp only [State.timeCmd, sec_one, h, Bool.not_true, Bool.false_and, Bool.false_eq_true, if_false, Bool.true_and, decide_true,
    Bool.true_or, if_true]

/-- A TIME_SET in the layout of R10 lies within the range of device time. -/
theorem ofTime96_lt {x : Nat} (hns : x % 2 ^ 48 < sec 1) (hs : x / 2 ^ 48 < 2 ^ 48) : ofTime96 x < 2 ^ 48 * sec 1 := by
  rw [sec_one] at hns
  rw [ofTime96, sec_one]
  omega

theorem State.timeCmd_set (hns : s.f TIME_SET_TIME % 2 ^ 48 < 65536000000000) (hs : s.f TIME_SET_TIME / 2 ^ 48 < 2 ^ 48) :
    s.timeCmd true false = (s.timeJump (ofTime96 (s.f TIME_SET_TIME))).addF TIME_STAT_STEPS 0 0 1 := by
  have hlt := ofTime96_lt hns hs
  rw [sec_one] at hlt
  simp only [State.timeCmd, sec_one, Bool.not_true, Bool.false_and, Bool.false_eq_true, if_false, if_true, Bool.true_and, Bool.or_eq_true,
    decide_eq_true_eq]
  exact if_neg (by omega)

theorem State.timeCmd_step_below (h : (s.devTime : Int) + sgn (s.f TIME_STEP_OFFSET) 64 < 0) :
    s.timeCmd false true = s.err TIME_ERR_STEP_REFUSED 0 := by
  simp [State.timeCmd, h]

theorem State.timeCmd_step (h0 : 0 ≤ (s.devTime : Int) + sgn (s.f TIME_STEP_OFFSET) 64)
    (h : (s.devTime : Int) + sgn (s.f TIME_STEP_OFFSET) 64 < 2 ^ 48 * 65536000000000) : s.timeCmd false true =
      (s.timeJump ((s.devTime : Int) + sgn (s.f TIME_STEP_OFFSET) 64).toNat).addF TIME_STAT_STEPS 0 0 1 := by
  simp only [State.timeCmd, sec_one, Bool.not_false, Bool.not_true, Bool.and_false, Bool.false_and, Bool.false_eq_true, if_false, if_true,
    Bool.or_eq_true, decide_eq_true_eq, false_or]
  exact if_neg (by omega)

/-! ### PPS_OUT (R189) -/

theorem exec_ppsOutSecond (hl : s.live 0x24 0 = true) : exec .ppsOutSecond s =
    let t : State := { s with tm := { s.tm with ppsSec := s.devTime / 65536000000000 } }
    .next (if s.tm.ppsSec < s.devTime / 65536000000000 then (if s.b TIME_CTL_PPS_OUT_EN = true then t.ppsPulse else t) else s) := by
  simp [exec, execPpsOutSecond, hl, sec_one]

theorem exec_ppsOutPulseEnd {e : Nat} (he : s.tm.ppsEnd = some e) : exec .ppsOutPulseEnd s =
    .next (if e ≤ s.now then ({ s with tm := { s.tm with ppsEnd := none } } : State).emit (.ppsOut false) else s) := by
  simp only [exec, execPpsOutPulseEnd, he]

end
end Sys2Proof.Machine

open Sys2Proof Sys2Proof.Machine in
/-- Settles O28: each time input and command acts as its own equation says, one case for each of its guards. -/
theorem deviceTime : Obligations.DeviceTime := by
  unfold Obligations.DeviceTime
  refine ⟨fun s hl => ⟨fun r hm => exec_ppsIn_unservoed hl (by omega), exec_ref10mLoss hl, fun t ht => ⟨fun h => ?_, fun h => ?_⟩,
    fun h => ?_, fun h => ?_⟩, fun s v ho _ => ⟨exec_timeRateWrite ho, fun h st => ?_, fun hns hs => ?_, fun h => ?_, fun h0 h => ?_⟩,
    fun s e => exec_ppsOutPulseEnd⟩
  · exact (exec_ppsMissing hl ht).trans (congrArg _ (if_pos h))
  · exact (exec_ppsMissing hl ht).trans (congrArg _ (if_neg (Nat.not_lt.2 h)))
  · exact (exec_ppsOutSecond hl).trans (congrArg _ (if_pos h))
  · exact (exec_ppsOutSecond hl).trans (congrArg _ (if_neg (Nat.not_lt.2 h)))
  · rw [exec_timeCmdSet ho, State.timeCmd_malformed h]
  · rw [exec_timeCmdSet ho, State.timeCmd_set hns hs]
  · rw [exec_timeCmdStep ho, State.timeCmd_step_below h]
  · rw [exec_timeCmdStep ho, State.timeCmd_step h0 h]

/-! # Frame sequencers (R194 to R203, R213, R218) -/

namespace Sys2Proof.Machine
section
variable {s : State} {n b : Nat} {v : Svc}

/-! ### Boundaries and the FRM -/

/-- FLEN.MAX counts in 10 ns (R200). -/
theorem SeqSt.longest_eq (q : SeqSt) : q.longest = 655360 * q.fmax := by
  rw [SeqSt.longest, ns]
  omega

theorem exec_positionBoundary_stopped (h : s.b KSCH_STAT_RUNNING n = false) : exec (.positionBoundary n) s = .next s :=
  congrArg Host.Outcome.next (if_pos (by simp [h]))

theorem exec_timeBoundary_stopped (h : s.b KSCH_STAT_RUNNING n = false) : exec (.timeBoundary n) s = .next s :=
  congrArg Host.Outcome.next (if_neg (by simp [h]))

theorem exec_fillerBoundary_stopped (h : s.b KSCH_STAT_RUNNING n = false) : exec (.fillerBoundary n) s = .next s :=
  congrArg Host.Outcome.next (if_neg (by simp [h]))

/-- Only a sequencer that runs sends its FRM (R203). -/
theorem State.frmMay_stopped (h : s.b KSCH_STAT_RUNNING n = false) : s.frmMay n = false := by simp [State.frmMay, h]

theorem exec_frmDepart : exec (.frmDepart n) s =
    .next (if s.frmMay n = true then ((s.frmLeave n).frameSamples n).goOn n else s) := rfl

theorem exec_positionBoundary_uncrossed (hr : s.b KSCH_STAT_RUNNING n = true) (hc : (s.sq n).clock = 0) (hx : s.crossing n = none) :
    exec (.positionBoundary n) s = .next (s.lookedTo n (s.position (s.sq n).pref)) := by
  simp only [exec, execPositionBoundary, hr, hc, hx, Bool.not_true, bne_self_eq_false, Bool.or_false, Bool.false_eq_true, if_false]

/-- A forward crossing is a boundary, and the high-water mark of R197. -/
theorem exec_positionBoundary_crossed {m : Int} (hr : s.b KSCH_STAT_RUNNING n = true) (hc : (s.sq n).clock = 0)
    (hx : s.crossing n = some (m, false)) : exec (.positionBoundary n) s =
      let t := ((s.setSq n { s.sq n with hwm := some m }).lookedTo n m).loopCheck n
      .next (if t.b KSCH_STAT_PREF_LOOP n then t
        else t.boundary n false false false (some m) (t.reachedAt (s.sq n).pref m)) := by
  simp only [exec, execPositionBoundary, hr, hc, hx, Bool.not_true, bne_self_eq_false, Bool.or_false, Bool.false_eq_true, if_false]

/-- A frame clocked by time is as long as FLEN.MAX allows (R200). -/
theorem exec_timeBoundary_due (hr : s.b KSCH_STAT_RUNNING n = true) (hc : (s.sq n).clock = 1) (hb : (s.sq n).lastBnd = some b)
    (hdue : b + (s.sq n).longest ≤ s.now) :
    exec (.timeBoundary n) s = .next ((s.loopCheck n).boundary n false true false none (b + (s.sq n).longest)) := by
  simp [exec, execTimeBoundary, hr, hc, hb, hdue]

/-- Before the first FRM a filler frame is due when FLEN.MAX has passed since the start (R201). -/
theorem exec_fillerBoundary_due (hr : s.b KSCH_STAT_RUNNING n = true) (hc : (s.sq n).clock = 0) (hh : (s.sq n).held = none)
    (hb : (s.sq n).lastBnd = none) (hf : (s.sq n).lastFrm = none) (hdue : (s.sq n).startAt + (s.sq n).longest ≤ s.now) :
    exec (.fillerBoundary n) s =
      .next ((s.loopCheck n).boundary n true false false none ((s.sq n).startAt + (s.sq n).longest)) := by
  simp [exec, execFillerBoundary, hr, hc, hh, hb, hf, hdue]

/-! ### Services and control turns -/

/-- An IN service is over at its end, an OUT service when its last packet has left (R218). -/
theorem exec_serviceEnd_done (hv : (s.sq n).svc = some v) (hd : v.done = true) (h : eIn v.ent = true ∨ v.since ≤ s.now) :
    exec (.serviceEnd n) s = .next ((s.svcOver n).goOn n) := by
  simp [exec, execServiceEnd, State.goOn, hv, hd, h]

/-- An IN service whose response has not begun in one block time and TURN ends as missing data (R218). -/
theorem exec_serviceResponseTimeout_due (hv : (s.sq n).svc = some v) (hb : v.begun = false) (hi : eIn v.ent = true) :
    let p := s.pathOf n (eAddr v.ent) (s.rootNow n)
    v.since + (p.1 + s.turnOf n p.2) * 65536 / 5376 ≤ s.now → exec (.serviceResponseTimeout n) s =
      .next (((s.setSq n { s.sq n with svc := some { v with missing := true } }).svcOver n).goOn n) := by
  intro p hdue
  simp only [exec, execServiceResponseTimeout, hv]
  exact congrArg Host.Outcome.next (if_pos (by simp [hb, hi, hdue, p]))

/-- Without a sequencer that runs, the control turn comes every 125 µs (R194). -/
theorem exec_controlTurnTimer (hl : s.carries n = true) (hr : s.b KSCH_STAT_RUNNING n = false) : exec (.controlTurnTimer n) s =
    .next (if (s.sq n).ctrlAt + 8192000000 ≤ s.now then
      (s.setSq n { s.sq n with turn := 2, ctrl := 0, ctrlAt := s.now }).serve n else s) := by
  have hturn : us 125 = 8192000000 := rfl
  exact congrArg Host.Outcome.next (if_congr (by simp [hl, hr, ← hturn]) rfl rfl)

/-! ### Admission (R213) -/

theorem exec_kschCmdAdmit (ho : s.opens 0x31 n = true) : exec (.kschCmdAdmit 0 n) s = .next (s.admitGo n 0) := by
  obtain ⟨hl, hr⟩ := State.opens_iff.1 ho
  exact congrArg Host.Outcome.next (State.act_manager _ hl hr)

theorem exec_kschCmdDropCand (ho : s.opens 0x31 n = true) : exec (.kschCmdDropCand 0 n) s = .next (s.dropCand n) := by
  obtain ⟨hl, hr⟩ := State.opens_iff.1 ho
  exact congrArg Host.Outcome.next (State.act_manager _ hl hr)

theorem State.admitGo_busy {fn : Nat} (h : s.b KSCH_ADM_STAT_RUNNING n = true) : s.admitGo n fn = s := if_pos h

theorem State.admitGo_free {fn : Nat} (h : s.b KSCH_ADM_STAT_RUNNING n = false) : s.admitGo n fn =
    (s.setF KSCH_ADM_STAT_RUNNING n 0 1).setSq n { s.sq n with candAt := s.now, admFn := fn } := if_neg (by simp [h])

theorem exec_admissionDone : exec (.admissionDone n) s =
    .next (if s.b KSCH_ADM_STAT_RUNNING n = true then (s.admission n).perUpdate else s) := rfl

theorem exec_candValid_settled (hr : s.b KSCH_ADM_STAT_RUNNING n = false) (hc : (s.sq n).cand.isSome = true) :
    exec (.candValid n) s = .next (s.setF KSCH_ADM_STAT_CAND_VALID n 0 1) :=
  congrArg Host.Outcome.next (if_pos (by simp [hr, hc]))

end
end Sys2Proof.Machine

open Sys2Proof Sys2Proof.Machine in
/-- Settles O29: each event of a sequencer, of its services and of its admission is the case of its function that the registers and the
sequencer's own state decide. -/
theorem sequencer : Obligations.Sequencer := by
  unfold Obligations.Sequencer
  refine ⟨fun s n hr => ⟨exec_positionBoundary_stopped hr, exec_timeBoundary_stopped hr, exec_fillerBoundary_stopped hr, ?_⟩,
    fun s n hr => ⟨exec_positionBoundary_uncrossed hr, fun hc m => exec_positionBoundary_crossed hr hc, fun hc b hb hdue => ?_,
      fun hc hh hb hf hdue => ?_, fun hm => ?_⟩,
    fun s n v hv => ⟨exec_serviceEnd_done hv, exec_serviceResponseTimeout_due hv⟩, fun s n => exec_controlTurnTimer,
    fun s n ho => ⟨fun hr => ⟨?_, ?_⟩, fun hr => ⟨?_, ?_, exec_candValid_settled hr⟩, exec_kschCmdDropCand ho⟩⟩
  · rw [exec_frmDepart, if_neg (by simp [State.frmMay_stopped hr])]
  · rw [← SeqSt.longest_eq] at hdue ⊢
    exact exec_timeBoundary_due hr hc hb hdue
  · rw [← SeqSt.longest_eq] at hdue ⊢
    exact exec_fillerBoundary_due hr hc hh hb hf hdue
  · rw [exec_frmDepart, if_pos hm]
  · rw [exec_kschCmdAdmit ho, State.admitGo_busy hr]
  · rw [exec_admissionDone, if_pos hr]
  · rw [exec_kschCmdAdmit ho, State.admitGo_free hr]
  · rw [exec_admissionDone, if_neg (by simp [hr])]

/-! # Doorbells and the push window (R247 to R252, R460, R608) -/

namespace Sys2Proof.Machine
section
variable {s : State} {fn slot q n v size o op : Nat} {bs : List (BitVec 8)}

/-! ### What reaches a queue -/

/-- Only a single 4-byte write is a doorbell (R247). -/
theorem State.slotWrite_notDoorbell (h4 : size ≠ 4) (hsz : size ≤ 0x200) (hr : s.resetting fn = false)
    (hq : (s.slotQ fn slot).isSome = true) : s.slotWrite fn slot v size = s := by
  obtain ⟨q, hq⟩ := Option.isSome_iff_exists.1 hq
  simp [State.slotWrite, hr, hq, h4, Nat.not_lt.2 hsz]

/-- A write past the slot, by a function that resets or without a granted queue is refused whatever its size (R460, R608). -/
theorem State.slotWrite_refused (h : 0x200 < size ∨ s.resetting fn = true ∨ s.slotQ fn slot = none) :
    s.slotWrite fn slot v size = s.refuse fn :=
  if_pos (by simpa [or_assoc] using h)

theorem State.slotWrite_doorbell (hr : s.resetting fn = false) (hq : s.slotQ fn slot = some q) :
    s.slotWrite fn slot v 4 = s.doorbell fn slot v := by
  simp [State.slotWrite, hr, hq]

/-- A doorbell word of Table 07-4 acts on its queue, where that is enabled. -/
theorem State.doorbell_word (hq : s.slotQ fn slot = some q) (hr : s.resetting fn = false) (hs : slot < 1024) (hn : n < 65536)
    (hop : op < 2) : s.doorbell fn slot (slot * 65536 + n + op * 2 ^ 30) =
      if s.qb WQ_CFG_ENABLE q = true then (if op = 0 then s.dbTail q n else s.dbInvalidate q n) else (s.pushEmpty q).dbErr q := by
  have hOp : bits (slot * 65536 + n + op * 2 ^ 30) 30 2 = op := by unfold bits; omega
  have hSlot : bits (slot * 65536 + n + op * 2 ^ 30) 16 10 = slot := by unfold bits; omega
  have hIndex : (slot * 65536 + n + op * 2 ^ 30) % 65536 = n := by omega
  generalize slot * 65536 + n + op * 2 ^ 30 = v at hOp hSlot hIndex
  cases hE : s.qb WQ_CFG_ENABLE q <;> simp [State.doorbell, hq, hr, hOp, hSlot, hIndex, hE, hop]

/-- DOORBELL_TAIL with the queue's own slot number. -/
theorem exec_doorbellTail (hq : s.slotQ fn slot = some q) (hr : s.resetting fn = false) (hs : slot < 1024) (hn : n < 65536) :
    exec (.doorbellTail fn slot (slot * 65536 + n) 4) s =
      .next (if s.qb WQ_CFG_ENABLE q = true then s.dbTail q n else (s.pushEmpty q).dbErr q) := by
  have hv : (slot * 65536 + n) % 2 ^ 30 = slot * 65536 + n + 0 * 2 ^ 30 := by omega
  rw [exec, execDoorbellTail, State.slotWrite_doorbell hr hq, hv, State.doorbell_word hq hr hs hn (by decide), if_pos rfl]

/-- DOORBELL_INVALIDATE with the queue's own slot number. -/
theorem exec_doorbellInvalidate (hq : s.slotQ fn slot = some q) (hr : s.resetting fn = false) (hs : slot < 1024) (hn : n < 65536) :
    exec (.doorbellInvalidate fn slot (slot * 65536 + n) 4) s =
      .next (if s.qb WQ_CFG_ENABLE q = true then s.dbInvalidate q n else (s.pushEmpty q).dbErr q) := by
  have hv : (slot * 65536 + n) % 2 ^ 30 + 2 ^ 30 = slot * 65536 + n + 1 * 2 ^ 30 := by omega
  rw [exec, execDoorbellInvalidate, State.slotWrite_doorbell hr hq, hv, State.doorbell_word hq hr hs hn (by decide), if_neg Nat.one_ne_zero]

/-! ### TAIL and INVALIDATE -/

theorem WqSt.pushed_nil {w : WqSt} (h : w.push = []) (k : Nat) : w.pushed k = none := by
  simp [WqSt.pushed, h, PMap.find]

/-- With nothing pushed no entry of the push window becomes a copy (R248, R250). -/
theorem State.dbTail_taken (hp : (s.wq q).push = []) (hsz : diff16 n (s.head q) ≤ s.wqSize q)
    (hfwd : diff16 n (s.tail q) ≤ diff16 n (s.head q)) :
    s.dbTail q n = ((s.setWq q { s.wq q with stop := none, push := [] }).setQ WQ_IDX_TAIL q n).dbTaken q := by
  simp [State.dbTail, hsz, hfwd, WqSt.pushed_nil hp]

/-- A TAIL beyond the queue's size is stale or wrong (R248). -/
theorem State.dbTail_dropped (hsz : s.wqSize q < diff16 n (s.head q)) :
    s.dbTail q n = if diff16 (s.tail q) n < s.wqSize q then s.pushEmpty q else (s.pushEmpty q).dbErr q :=
  if_neg (by simp [hsz])

/-- Copies from FROM on are dropped, and fetching stops there (R252). -/
theorem State.dbInvalidate_taken (hstop : (s.wq q).stop = none) (hf : diff16 n (s.head q) ≤ diff16 (s.tail q) (s.head q)) :
    s.dbInvalidate q n = (s.setWq q { s.wq q with
      cached := (s.wq q).cached.filter fun e => diff16 e.1 (s.head q) < diff16 n (s.head q),
      taken := (s.wq q).taken.filter fun e => diff16 e.1 (s.head q) < diff16 n (s.head q), stop := some n, push := [] }).dbTaken q := by
  simp only [State.dbInvalidate, Nat.not_lt.2 hf, if_false, hstop]

/-! ### The push window -/

theorem exec_pushWindowWrite_ungranted (hq : s.slotQ fn slot = none) : exec (.pushWindowWrite fn slot o bs) s = .next (s.refuse fn) := by
  simp only [exec, execPushWindowWrite, hq]

theorem exec_pushWindowWrite_crossing (hq : s.slotQ fn slot = some q) (h : 0x200 < o + bs.length) :
    exec (.pushWindowWrite fn slot o bs) s = .next (s.refuse fn) := by
  simp [exec, execPushWindowWrite, hq, h]

/-- A write that is misaligned, of another length or outside an entry is ignored (R250). -/
theorem exec_pushWindowWrite_ignored (hq : s.slotQ fn slot = some q) (hr : s.resetting fn = false) (h : o + bs.length ≤ 0x200)
    (hok : pushOk o bs.length = false) : exec (.pushWindowWrite fn slot o bs) s = .next s := by
  simp [exec, execPushWindowWrite, hq, hr, hok, Nat.not_lt.2 h]

/-- The words of an admissible write stand in the window from its place on. -/
theorem exec_pushWindowWrite_put (hq : s.slotQ fn slot = some q) (hr : s.resetting fn = false) (h : o + bs.length ≤ 0x200)
    (hok : pushOk o bs.length = true) : exec (.pushWindowWrite fn slot o bs) s = .next (s.setWq q { s.wq q with
      push := (List.range (bs.length / 8)).foldl (fun m j => PMap.put m ((o - 0x40) / 8 + j) (leAt bs (8 * j) 8)) (s.wq q).push }) := by
  simp [exec, execPushWindowWrite, hq, hr, hok, Nat.not_lt.2 h]

theorem pushOk_word (ho : o % 8 = 0) (h0 : 0x40 ≤ o) (h1 : o + 8 ≤ 0x200) : pushOk o 8 = true := by
  simp [pushOk, ho, h0, h1]

theorem pushOk_half : pushOk o 4 = false := by simp [pushOk]

end
end Sys2Proof.Machine

open Sys2Proof Sys2Proof.Machine in
/-- Settles O30: a write that reaches a queue is a doorbell of it or a word of its push window, and each doorbell is the case that INDEX or
FROM decides. -/
theorem doorbells : Obligations.Doorbells := by
  unfold Obligations.Doorbells
  refine ⟨fun s fn slot v size => ⟨fun h4 hsz hr hq => ?_, fun h => ?_⟩, fun s fn slot bs => exec_pushWindowWrite_ungranted,
    fun s fn slot q n hq hr hs hn => ⟨fun hE => ?_, fun hE => ⟨fun hp hsz hfwd => ?_, fun hsz hfar => ?_, fun hsz hnear => ?_,
      fun hstop hf => ?_⟩, fun o bs hl ho h0 h1 => ?_, fun o bs hl h => ?_, fun o bs => exec_pushWindowWrite_crossing hq⟩⟩
  · exact ⟨congrArg _ (State.slotWrite_notDoorbell h4 hsz hr hq), congrArg _ (State.slotWrite_notDoorbell h4 hsz hr hq)⟩
  · exact ⟨congrArg _ (State.slotWrite_refused h), congrArg _ (State.slotWrite_refused h)⟩
  · have hoff : ¬s.qb WQ_CFG_ENABLE q = true := by simp [hE]
    exact ⟨(exec_doorbellTail hq hr hs hn).trans (congrArg _ (if_neg hoff)),
      (exec_doorbellInvalidate hq hr hs hn).trans (congrArg _ (if_neg hoff))⟩
  · rw [exec_doorbellTail hq hr hs hn, if_pos hE, State.dbTail_taken hp hsz hfwd]
  · rw [exec_doorbellTail hq hr hs hn, if_pos hE, State.dbTail_dropped hsz, if_neg (Nat.not_lt.2 hfar)]
  · rw [exec_doorbellTail hq hr hs hn, if_pos hE, State.dbTail_dropped hsz, if_pos hnear]
  · rw [exec_doorbellInvalidate hq hr hs hn, if_pos hE, State.dbInvalidate_taken hstop hf]
  · have h8 : o + 8 ≤ 0x200 := by omega
    rw [exec_pushWindowWrite_put hq hr (by rwa [hl]) (by rw [hl]; exact pushOk_word ho h0 h8), hl]
    rfl
  · exact exec_pushWindowWrite_ignored hq hr (by rwa [hl]) (by rw [hl]; exact pushOk_half)

/-! # Fields of queues and rings (R239, R240)

Two fields of a queue's entry lie apart where their registers or bits do, and so do the fields of a queue and those of a ring. -/

namespace Sys2Proof.Machine
section
variable {s : State} {q c v : Nat}

theorem State.q_setQ_apart (F G : Fld) (hblk : G.blk = F.blk) (hstr : G.stride = F.stride) (h : G.off * 8 + G.lo ≠ F.off * 8 + F.lo) :
    (s.setQ F q v).q G q = s.q G q :=
  State.f_setF_ne _ _ (by simp only [Fld.addr, hblk, hstr]; omega)

/-- HEAD lies in the lower half of a register word, RESERVED_SLOTS in the upper. -/
theorem State.reservedSlots_setQ_head :
    (s.setQ WQ_IDX_HEAD q v).q CQ_STAT_RESERVED_SLOTS c = s.q CQ_STAT_RESERVED_SLOTS c :=
  State.f_setF_ne _ _ (by simp only [Fld.addr, WQ_IDX_HEAD, CQ_STAT_RESERVED_SLOTS]; omega)

end
end Sys2Proof.Machine

/-! # Fetch and acceptance of descriptors (R240 to R243, R252) -/

namespace Sys2Proof.Machine
section
variable {s : State} {q i : Nat} {b : List (BitVec 8)}

/-- An index that is not announced, or held already, or of a queue that is disabled or parked is not read (R252, R263). -/
theorem exec_descriptorFetch_idle (h : s.qb WQ_CFG_ENABLE q = false ∨ s.qb WQ_STAT_PARKED q = true ∨ ((s.wq q).copy i).isSome = true ∨
    s.fetchable q i = false) : exec (.descriptorFetch q i) s = .next s :=
  congrArg Host.Outcome.next (if_pos (by
    simp only [Bool.or_eq_true, Bool.not_eq_true']
    tauto))

theorem WqSt.room_free {w : WqSt} {h : Nat} (hl : w.cached.length < 16) : w.room h i = some w.cached := if_pos hl

/-- With room for a copy, an announced index is read from its slot and held (R252). -/
theorem exec_descriptorFetch_held (hE : s.qb WQ_CFG_ENABLE q = true) (hP : s.qb WQ_STAT_PARKED q = false) (hc : (s.wq q).copy i = none)
    (hf : s.fetchable q i = true) (hl : (s.wq q).cached.length < 16)
    (hb : s.readV (s.wqOwner q) (s.q WQ_BASE_ADDR q + 64 * (i % s.wqSize q)) 64 = .ok b) : exec (.descriptorFetch q i) s =
      .next ((s.bump.setWq q { s.wq q with cached := PMap.put (s.wq q).cached i b }).wqShow q) := by
  simp [exec, execDescriptorFetch, hE, hP, hc, hf, WqSt.room_free hl, hb]

theorem exec_descriptorAccept_none (h : s.acceptable q = none) : exec (.descriptorAccept q) s = .next s := by
  simp only [exec, execDescriptorAccept, h, ite_self]

theorem exec_descriptorAccept (hq : q < 16384) (h : s.acceptable q = some b) (hty : s.q WQ_CFG_TYPE q ≠ 6) :
    exec (.descriptorAccept q) s = .next (s.accept q b).paceQueues := by
  simp [exec, execDescriptorAccept, Nat.not_le.2 hq, h, hty]

/-- The order of HSEQ is the first thing a descriptor can be turned away for (R243). -/
theorem State.seqBad_of_acceptStatus (h : s.acceptStatus q b = none) : s.seqBad q b = false := by
  cases hbad : s.seqBad q b with
  | false => rfl
  | true => simp [State.acceptStatus, hbad] at h

/-- A descriptor that nothing turns away is accepted and starts its queue's work (R241, R243). -/
theorem State.accept_served (hst : s.acceptStatus q b = none) : s.accept q b =
    let w := s.wq q
    let c := s.wqRing q
    let d : Desc := { idx := w.gen * 65536 + s.head q, bytes := b, cq := c, at_ := s.now }
    let t := (s.setWq q { w with cached := PMap.del w.cached (s.head q), taken := PMap.del w.taken (s.head q), fresh := false,
                                 prev := dHseq b, acc := w.acc ++ [d] }).setQ WQ_IDX_HEAD q ((s.head q + 1) % 65536)
    let u := ((t.setQ CQ_STAT_RESERVED_SLOTS c (t.q CQ_STAT_RESERVED_SLOTS c + 1)).setQ WQ_HSEQ_HSEQ q (dHseq b)).setF WQ_RSY_HSEQ
      (s.wqOwner q) 0 (dHseq b)
    (((u.wqShow q).cqShow c).rsyShow (s.wqOwner q)).acted q d := by
  dsimp only
  rw [State.reservedSlots_setQ_head]
  simp only [State.accept, hst, State.seqBad_of_acceptStatus hst, Bool.false_eq_true, if_false]

end
end Sys2Proof.Machine

open Sys2Proof Sys2Proof.Machine in
/-- Settles O31: an index is read or left as the guards of the fetch say, and a descriptor with no status against it is served. -/
theorem queueFetchAndAccept : Obligations.QueueFetchAndAccept := by
  unfold Obligations.QueueFetchAndAccept
  refine ⟨fun s q i => ⟨exec_descriptorFetch_idle, fun b => exec_descriptorFetch_held⟩, fun s q hq => ⟨exec_descriptorAccept_none,
    fun b hb hty hst => ?_⟩⟩
  rw [exec_descriptorAccept hq hb hty, State.accept_served hst]

/-! # Control of queues (R240, R265, R267) -/

namespace Sys2Proof.Machine

theorem bit_setBit (x i : Nat) : bit (setBit x i) i = true := by
  have h2 : 0 < 2 ^ i := Nat.two_pow_pos i
  unfold setBit
  split
  · assumption
  · next h =>
    simp only [bit, beq_iff_eq, Nat.add_div_right x h2] at h ⊢
    omega

theorem bit_clrBit (x i : Nat) : bit (clrBit x i) i = false := by
  have h2 : 0 < 2 ^ i := Nat.two_pow_pos i
  unfold clrBit
  split
  · next h =>
    simp only [bit, beq_iff_eq, beq_eq_false_iff_ne] at h ⊢
    have h1 : (x - 2 ^ i) / 2 ^ i = x / 2 ^ i - 1 := by simpa using Nat.sub_mul_div x (2 ^ i) 1
    omega
  · next h => simpa using h

section
variable {s t : State} {q v i : Nat} {d : Desc}

theorem State.wq_congr (h : t.wqs = s.wqs) : t.wq q = s.wq q := by rw [State.wq, h, State.wq]

/-! ### WQ_CFG -/

/-- The manager's writes reach every device queue (R63). -/
theorem State.onWq_manager (f : State → Nat → State) (hs : s.serves 0x58 = true) (hr : s.resetting 0 = false) (hq : q < 16384) :
    s.onWq 0 q f = f s q := by
  simp [State.onWq, State.wqFor, hs, hr, hq]

/-- ENABLE rises with the write (R240). -/
theorem State.wqCfgWrite_on (he : s.encOk 0x58 (q / 64) (WQ_CFG_ENABLE.off + 48 * (q % 64)) 4 v = true) (hE : s.qb WQ_CFG_ENABLE q = false)
    (hv : bit v 31 = true) :
    s.wqCfgWrite 0 q v = (s.writePage 0 0x58 (q / 64) (WQ_CFG_ENABLE.off + 48 * (q % 64)) 4 v).wqOn q := by
  simp [State.wqCfgWrite, he, hE, hv]

/-- ENABLE falls with the write (R265). -/
theorem State.wqCfgWrite_off (he : s.encOk 0x58 (q / 64) (WQ_CFG_ENABLE.off + 48 * (q % 64)) 4 v = true) (hE : s.qb WQ_CFG_ENABLE q = true)
    (hv : bit v 31 = false) :
    s.wqCfgWrite 0 q v = (s.writePage 0 0x58 (q / 64) (WQ_CFG_ENABLE.off + 48 * (q % 64)) 4 v).wqOff q := by
  simp [State.wqCfgWrite, he, hE, hv]

/-- A queue starts empty (R240). -/
theorem State.wqOn_empty : s.wqOn q =
    let u := (((s.setQ WQ_CFG_ENABLE q 1).setQ WQ_IDX_HEAD q 0).setQ WQ_IDX_TAIL q 0).setQ WQ_HSEQ_HSEQ q 0
    (u.setWq q { u.wq q with
      cached := [], taken := [], push := [], stop := none, fresh := true, gen := (u.wq q).gen + 1 }).wqShow q := rfl

/-! ### What is cut short -/

theorem State.unparkFetch_unparked (h : (s.wq q).fid = 0) : s.unparkFetch q = s := if_pos (by simp [h])

theorem State.cut_nil {p : Desc → Bool} (h : (s.wq q).acc = []) : s.cut q p = s := by simp [State.cut, h]

/-- A receive queue's one buffer is returned unused (R267). -/
theorem State.cut_buffer (h : (s.wq q).acc = [d]) (hty : s.q WQ_CFG_TYPE q = 4) (hty' : (s.rxUnused q d 0x23).q WQ_CFG_TYPE q = 4) :
    s.cut q (fun _ => true) = (s.rxUnused q d 0x23).rxSettle q := by
  have hcut : s.cutDesc q d = s.rxUnused q d 0x23 := by simp [State.cutDesc, hty]
  simp [State.cut, h, hcut, hty']

/-- Without anything accepted or parked, disabling clears ENABLE and the copies (R265). -/
theorem State.wqOff_idle (ha : (s.wq q).acc = []) (hf : (s.wq q).fid = 0) : s.wqOff q =
    (((s.setQ WQ_CFG_ENABLE q 0).setWq q { s.wq q with cached := [], taken := [], push := [], stop := none }).wqShow q) := by
  have hpark : (s.setQ WQ_CFG_ENABLE q 0).unparkFetch q = s.setQ WQ_CFG_ENABLE q 0 := State.unparkFetch_unparked hf
  have hcut (p : Desc → Bool) : (s.setQ WQ_CFG_ENABLE q 0).cut q p = s.setQ WQ_CFG_ENABLE q 0 := State.cut_nil ha
  simp only [State.wqOff, hpark, hcut]
  rfl

/-! ### WQ_CMD -/

/-- The type and the target of a queue say what takes up its work. -/
theorem State.wqKick_resumed : (s.setQ WQ_STAT_HALTED q 0).wqKick q =
    let t := s.setQ WQ_STAT_HALTED q 0
    if s.q WQ_CFG_TYPE q = 1 ∨ s.q WQ_CFG_TYPE q = 2 then t.serve (s.q WQ_BIND_TARGET q % 128)
    else if s.q WQ_CFG_TYPE q = 5 then t.dmaWake (s.q WQ_BIND_TARGET q % 512) else t := by
  have hty : (s.setQ WQ_STAT_HALTED q 0).q WQ_CFG_TYPE q = s.q WQ_CFG_TYPE q :=
    State.q_setQ_apart WQ_STAT_HALTED WQ_CFG_TYPE rfl rfl (by decide)
  have hto : (s.setQ WQ_STAT_HALTED q 0).q WQ_BIND_TARGET q = s.q WQ_BIND_TARGET q :=
    State.q_setQ_apart WQ_STAT_HALTED WQ_BIND_TARGET rfl rfl (by decide)
  simp only [State.wqKick, hty, hto, Bool.or_eq_true, beq_iff_eq]

theorem diff16_self (n : Nat) : diff16 n n = 0 := by unfold diff16; omega

theorem State.squashWaiting_zero {idx : Nat} : s.squashWaiting q idx 0 = s := rfl

/-- ABORT of a queue with nothing accepted, parked or announced (R265). -/
theorem State.wqAbort_idle (ha : (s.wq q).acc = []) (hf : (s.wq q).fid = 0) (hh : s.head q = s.tail q) : s.wqAbort q =
    ((((s.setQ WQ_IDX_HEAD q (s.tail q)).setWq q { s.wq q with cached := [], taken := [], stop := none }).setQ WQ_STAT_HALTED q 0).wqShow
      q).paceQueues := by
  simp only [State.wqAbort, State.unparkFetch_unparked hf, State.cut_nil ha, hh, diff16_self, State.squashWaiting_zero]
  rfl

/-! ### WQ_RSY_CTL -/

/-- A function's own write of WQ_RSY_CTL reaches its resynchronisation registers. -/
theorem exec_wqRsyCtl (hs : s.serves 0 = true) (hr : s.resetting i = false) (hi : i ≤ 64) :
    exec (.wqRsyCtlQuiesce i i) s = .next (s.quiesce i 1) ∧ exec (.wqRsyCtlResume i i) s = .next (s.quiesce i 0) ∧
    exec (.wqRsyCtlSquash i i) s = .next (s.rsySquash i) := by
  have hown (k : State → State) : (if 64 < i then s else s.actOwn i i k) = k s :=
    (if_neg (Nat.not_lt.2 hi)).trans (State.actOwn_own k hs (.inr rfl) hr)
  exact ⟨congrArg _ (hown _), congrArg _ (hown _), congrArg _ (hown _)⟩

theorem State.rsySquash_none (h : s.queuesOf i = []) : s.rsySquash i = s.rsyShow i := by simp [State.rsySquash, h]

theorem State.rsySquash_one (h : s.queuesOf i = [q]) : s.rsySquash i = (s.cut q fun _ => true).rsyShow i := by
  simp [State.rsySquash, h]

end
end Sys2Proof.Machine

open Sys2Proof Sys2Proof.Machine in
/-- Settles O32: each write reaches its queue or its function's registers, where the bit written says which change it is. -/
theorem queueControl : Obligations.QueueControl := by
  unfold Obligations.QueueControl
  refine ⟨fun s q v hs hr hq hv => ?_, fun s i hs hr hi => ?_⟩
  · have hmod : v % 2 ^ 32 = v := Nat.mod_eq_of_lt hv
    refine ⟨fun he hE => ?_, fun he hE ha hf hwqs => ?_, ?_, fun ha hf hh => ?_⟩
    · rw [exec, execWqEnable, State.onWq_manager _ hs hr hq, hmod, State.wqCfgWrite_on he hE (bit_setBit v 31),
        State.wqOn_empty]
    · have hwq : (s.writePage 0 0x58 (q / 64) (WQ_CFG_ENABLE.off + 48 * (q % 64)) 4 (clrBit v 31)).wq q = s.wq q :=
        State.wq_congr hwqs
      rw [exec, execWqDisable, State.onWq_manager _ hs hr hq, hmod, State.wqCfgWrite_off he hE (bit_clrBit v 31),
        State.wqOff_idle (by rw [hwq, ha]) (by rw [hwq, hf]), hwq]
    · rw [exec, execWqCmdResume, State.onWq_manager _ hs hr hq, State.wqResume, State.wqKick_resumed]
    · rw [exec, execWqCmdAbort, State.onWq_manager _ hs hr hq, State.wqAbort_idle ha hf hh]
  · obtain ⟨hQuiesce, hResume, hSquash⟩ := exec_wqRsyCtl hs hr hi
    refine ⟨hQuiesce, hResume, fun h => ?_, fun q d h ha hty hty' => ?_⟩
    · rw [hSquash, State.rsySquash_none h]
    · rw [hSquash, State.rsySquash_one h, State.cut_buffer ha hty hty']

/-! # Completion rings (R257, R260 to R262) -/

namespace Sys2Proof.Machine
section
variable {s : State} {c v : Nat}

/-- The manager's writes reach every device ring (R63). -/
theorem State.onCq_manager (f : State → Nat → State) (hs : s.serves 0x59 = true) (hr : s.resetting 0 = false) (hc : c < 16384) :
    s.onCq 0 c f = f s c := by
  simp [State.onCq, State.cqFor, hs, hr, hc]

/-- ENABLE rises with the write (R257). -/
theorem State.cqCfgWrite_on (he : s.encOk 0x59 (c / 64) (CQ_CFG_ENABLE.off + 32 * (c % 64)) 4 v = true) (hE : s.qb CQ_CFG_ENABLE c = false)
    (hv : bit v 31 = true) :
    s.cqCfgWrite 0 c v = (s.writePage 0 0x59 (c / 64) (CQ_CFG_ENABLE.off + 32 * (c % 64)) 4 v).cqOn c := by
  simp [State.cqCfgWrite, he, hE, hv]

/-- A count that does not move HEAD on, or moves it beyond what the ring can hold, is an error (R261). -/
theorem State.cqHead_bad (h : later v (s.q CQ_HEAD_COUNT c) 32 = false ∨ s.cqSize c < diff32 (s.q CQ_TAIL_COUNT c) v) :
    s.cqHead c v = s.setQ CQ_STAT_HEAD_ERR c 1 := if_pos (by simpa using h)

/-- HEAD moves on (R260, R261). -/
theorem State.cqHead_moves (hl : later v (s.q CQ_HEAD_COUNT c) 32 = true) (hd : diff32 (s.q CQ_TAIL_COUNT c) v ≤ s.cqSize c) :
    s.cqHead c v = (((s.setQ CQ_HEAD_COUNT c v).setCq c
      { s.cq c with times := (s.cq c).times.drop (diff32 v (s.q CQ_HEAD_COUNT c)) }).cqFlush c).paceQueues :=
  if_neg (by simp [hl, hd])

/-- No event without EV_EN (R262). -/
theorem State.cqEvent_off (h : s.qb CQ_CFG_EV_EN c = false) : s.cqEvent c = s := if_neg (by simp [h])

/-- An armed ring with COAL_CNT entries pending pulses its source, once (R262). -/
theorem State.cqEvent_count (hE : s.qb CQ_CFG_EV_EN c = true) (hA : s.qb CQ_STAT_ARMED c = true)
    (hn : s.q CQ_CFG_COAL_CNT c ≤ diff32 (s.q CQ_TAIL_COUNT c) (s.q CQ_HEAD_COUNT c)) :
    s.cqEvent c = (s.setQ CQ_STAT_ARMED c 0).post 0x3 c := if_pos (by simp [hE, hA, hn])

theorem exec_coalesceTimeout (hc : c < 16384) : exec (.coalesceTimeout c) s = .next (s.cqEvent c) :=
  congrArg Host.Outcome.next (if_pos hc)

end
end Sys2Proof.Machine

open Sys2Proof Sys2Proof.Machine in
/-- Settles O33: each write reaches its ring, and the event test is the case that EV_EN, ARMED and the count decide. -/
theorem completionRings : Obligations.CompletionRings := by
  unfold Obligations.CompletionRings
  intro s c v hs hr hc hv
  have hmod : v % 2 ^ 32 = v := Nat.mod_eq_of_lt hv
  have hHead : exec (.cqHeadWrite 0 c v) s = .next (s.cqHead c v) := by
    rw [exec, execCqHeadWrite, State.onCq_manager _ hs hr hc, hmod]
  refine ⟨fun he hE => ?_, fun h => ?_, fun hl hd => ?_, ?_, fun h => ?_, fun hE hA hn => ?_⟩
  · rw [exec, execCqEnable, State.onCq_manager _ hs hr hc, hmod, State.cqCfgWrite_on he hE (bit_setBit v 31)]
    rfl
  · rw [hHead, State.cqHead_bad h]
  · rw [hHead, State.cqHead_moves hl hd]
  · rw [exec, execCqArm, State.onCq_manager _ hs hr hc]
  · rw [exec_coalesceTimeout hc, State.cqEvent_off h]
  · rw [exec_coalesceTimeout hc, State.cqEvent_count hE hA hn]

/-! # Held effects and stream operations (R253, R276, R379, R397, R408 to R411) -/

namespace Sys2Proof.Machine
section
variable {s u : State} {t x : Task} {w : Nat}

/-! ### The answers of an instruction -/

section
variable {is : Nat → Bool} {body : State → Task → Nat → Ans}

/-- An instruction with a result retires. -/
theorem State.tiller_next (hr : s.runsWord t w = true) (hw : is w = true) (hb : body (s.issued t w) t w = .next u x) :
    s.tiller t.sheaf t.seq is body = u.retires x x.ctx := by
  rw [State.tiller_runs hr is body hw, hb]

/-- An instruction raises its exception in the state in which it was issued. -/
theorem State.tiller_exc {cause detail : Nat} (hr : s.runsWord t w = true) (hw : is w = true)
    (hb : body (s.issued t w) t w = .exc cause detail) : s.tiller t.sheaf t.seq is body = (s.issued t w).except t cause detail := by
  rw [State.tiller_runs hr is body hw, hb]

/-- An instruction with which its task leaves the tiller. -/
theorem State.tiller_gone (hr : s.runsWord t w = true) (hw : is w = true) (hb : body (s.issued t w) t w = .gone u) :
    s.tiller t.sheaf t.seq is body = u := by
  rw [State.tiller_runs hr is body hw, hb]

end

/-! ### Held doorbells and register writes -/

/-- Up to 16 data bytes cost 32 bytes of the commit buffer (R379). -/
theorem holdCost {n cost : Nat} (hn : cdiv n 16 = 1) : cost + 16 + cdiv n 16 * 16 = cost + 32 := by omega

theorem State.hold_within {e : Held} {n : Nat} (hn : cdiv n 16 = 1) (hc : t.cost + 32 ≤ 8192) :
    s.hold_ t e n = .next s { t with held := t.held ++ [e], cost := t.cost + 32 } := by
  simp only [State.hold_, holdCost hn, if_neg (Nat.not_lt.2 hc)]

theorem State.hold_beyond {e : Held} {n : Nat} (hn : cdiv n 16 = 1) (hc : 8192 < t.cost + 32) :
    s.hold_ t e n = .gone (s.taskAbort t 0x24 0 false) := by
  simp only [State.hold_, holdCost hn, if_pos hc]

theorem exec_dbell_holds (hr : s.runsWord t w = true) (hw : insn w = 0x4023) (hc : t.cost + 32 ≤ 8192) : exec (.dbell t.sheaf t.seq) s =
    .next ((s.issued t w).retires { t with
      held := t.held ++ [.doorbell (t.ctx.g (iRa w) % 2 ^ 32)], cost := t.cost + 32 } t.ctx) :=
  congrArg Host.Outcome.next (State.tiller_next hr (beq_iff_eq.2 hw) (State.hold_within rfl hc))

/-- Above 8 KiB since the last commit the task ends as BUSY (R379). -/
theorem exec_dbell_busy (hr : s.runsWord t w = true) (hw : insn w = 0x4023) (hc : 8192 < t.cost + 32) :
    exec (.dbell t.sheaf t.seq) s = .next ((s.issued t w).taskAbort t 0x24 0 false) :=
  congrArg Host.Outcome.next (State.tiller_gone hr (beq_iff_eq.2 hw) (State.hold_beyond rfl hc))

/-- PGW of four or eight bytes holds the low bytes of rb (R397). -/
theorem exec_pgw_holds {n : Nat} (hr : s.runsWord t w = true) (hw : insn w = 0x4024) (hc : t.cost + 32 ≤ 8192)
    (hn : (if bit w 0 then 8 else 4) = n) (hn1 : cdiv n 16 = 1) : exec (.pgw t.sheaf t.seq) s =
      .next ((s.issued t w).retires { t with
        held := t.held ++ [.page (t.ctx.g (iRa w)) n (t.ctx.g (iRb w) % 256 ^ n)], cost := t.cost + 32 } t.ctx) := by
  subst hn
  exact congrArg Host.Outcome.next (State.tiller_next hr (beq_iff_eq.2 hw) (State.hold_within hn1 hc))

/-! ### Issue of stream operations -/

/-- Only an SGET waits for operations that read its bytes (R406). -/
theorem State.issueOk_reads {kind off n : Nat} (hk : kind ≠ 1) : s.issueOk t kind off n = true := by simp [State.issueOk, hk]

theorem State.issueOk_none {kind off n : Nat} (h : s.opsOf t = []) : s.issueOk t kind off n = true := by simp [State.issueOk, h]

/-- With fewer than 32 outstanding and nothing in the way, an operation joins those of its task (R408). -/
theorem State.issue_joins {o : StreamOp} (hl : (s.opsOf t).length < 32) (hok : s.issueOk t o.kind o.off o.len = true) : s.issue t o =
    .next { s with
      ops := s.ops ++ [{ o with id := s.nextOp, sheaf := t.sheaf, seq := t.seq, inst := t.inst, at_ := s.now }],
      nextOp := s.nextOp + 1 } t :=
  if_neg (by simp [hl, hok])

section
variable {c tag : Nat} {o : StreamOp}

/-- Status NOT_READY of a channel that is disabled (R276, R409). -/
theorem State.issueDma_notReady (hc : c < 512) (hown : s.dmaOwner c = t.inst) (hsrc : s.f DMA_CTL_SRC c = 2)
    (hsh : s.f DMA_CTL_SHEAF c = t.sheaf) (h : s.f DMA_STAT_STATE c = 0 ∨ s.b DMA_CTL_ENABLE c = false) :
    s.issueDma t c tag o = .next s { t with kept := t.kept ++ [(tag, 0x22, s.nextOp)] } := by
  simp [State.issueDma, hc, hown, hsrc, hsh, h]

/-- A channel that runs queues the operation (R275). -/
theorem State.issueDma_queued (hc : c < 512) (hown : s.dmaOwner c = t.inst) (hsrc : s.f DMA_CTL_SRC c = 2)
    (hsh : s.f DMA_CTL_SHEAF c = t.sheaf) (hst : s.f DMA_STAT_STATE c ≠ 0) (hen : s.b DMA_CTL_ENABLE c = true)
    (hroom : (s.dma c).sq.length < 64) (hi : s.issue t o = .next u x) :
    s.issueDma t c tag o = .next ((u.setDma c { u.dma c with sq := (u.dma c).sq ++ [s.nextOp] }).dmaWake c) x := by
  simp [State.issueDma, hc, hown, hsrc, hsh, hst, hen, hi, Nat.not_le.2 hroom]

/-- A channel that is not bound to the task's sheaf refuses the operation, at the fixed time (R276, R460). -/
theorem State.issueDma_refused (h : s.dmaOwner c ≠ t.inst ∨ s.f DMA_CTL_SRC c ≠ 2 ∨ s.f DMA_CTL_SHEAF c ≠ t.sheaf)
    (hi : s.issue t { o with phase := 4, status := 0x21 } = .next u x) :
    s.issueDma t c tag o = .next (u.refuseLater t.inst 3 s.nextOp) x := by
  have hnot : (decide (c < 512) && s.dmaOwner c == t.inst && s.f DMA_CTL_SRC c == 2 && s.f DMA_CTL_SHEAF c == t.sheaf) = false := by
    rcases h with h | h | h <;> simp [h]
  simp [State.issueDma, hnot, hi]

end

/-- The tag of a stream operation is the word's low four bits (Table 12-4). -/
theorem bits_tag : bits w 0 4 = w % 16 := by simp [bits]

/-! ### SDMA -/

/-- Bytes outside the window, or misaligned, raise LOCAL (R408). -/
theorem exec_sdma_local (hr : s.runsWord t w = true) (hw : insn w = 0x4030) (hwin : t.winOk (t.ctx.g (iRa w)) 64 64 false = false) :
    exec (.sdma t.sheaf t.seq) s = .next ((s.issued t w).except t 4 0) :=
  congrArg Host.Outcome.next (State.tiller_exc hr (beq_iff_eq.2 hw) (if_pos (by simp [hwin])))

theorem exec_sdma_next (hr : s.runsWord t w = true) (hw : insn w = 0x4030) (hwin : t.winOk (t.ctx.g (iRa w)) 64 64 false = true)
    (hi : (s.issued t w).bump.issueDma t (t.ctx.g (iRd w) % 512) (w % 16)
      { kind := 0, tag := w % 16, off := t.ctx.g (iRa w), len := 64, chan := t.ctx.g (iRd w) % 512,
        bytes := (s.issued t w).winLoad t (t.ctx.g (iRa w)) 64 } = .next u x) :
    exec (.sdma t.sheaf t.seq) s = .next (u.retires x x.ctx) := by
  rw [← bits_tag] at hi
  exact congrArg Host.Outcome.next (State.tiller_next hr (beq_iff_eq.2 hw) ((if_neg (by simp [hwin])).trans hi))

/-! ### SGET and SPUT -/

section
variable {op kind : Nat}

/-- A length of 0 or above 2,048, and bytes outside the window, raise LOCAL (R408). -/
theorem State.getPut_local (hr : s.runsWord t w = true) (hw : insn w = 0x4000 + op)
    (h : t.ctx.g (iRd w) % 2 ^ 12 = 0 ∨ 2048 < t.ctx.g (iRd w) % 2 ^ 12 ∨
      t.winOk (t.ctx.g (iRb w)) (t.ctx.g (iRd w) % 2 ^ 12) 1 (kind == 1) = false) :
    s.getPut t.sheaf t.seq op kind = (s.issued t w).except t 4 0 :=
  State.tiller_exc hr (beq_iff_eq.2 hw) (if_pos (by simpa [or_assoc] using h))

/-- The first operation of a task joins at once (R408). -/
theorem State.getPut_joins (hr : s.runsWord t w = true) (hw : insn w = 0x4000 + op) (h0 : t.ctx.g (iRd w) % 2 ^ 12 ≠ 0)
    (hmax : t.ctx.g (iRd w) % 2 ^ 12 ≤ 2048)
    (hwin : t.winOk (t.ctx.g (iRb w)) (t.ctx.g (iRd w) % 2 ^ 12) 1 (kind == 1) = true) (hops : (s.issued t w).bump.opsOf t = []) :
    let v := (s.issued t w).bump
    s.getPut t.sheaf t.seq op kind = ({ v with
      ops := v.ops ++ [{
        id := v.nextOp, kind := kind, sheaf := t.sheaf, seq := t.seq, inst := t.inst, tag := w % 16,
        addr := t.ctx.g (iRa w), off := t.ctx.g (iRb w), len := t.ctx.g (iRd w) % 2 ^ 12,
        bytes := (s.issued t w).winLoad t (t.ctx.g (iRb w)) (t.ctx.g (iRd w) % 2 ^ 12), at_ := v.now }],
      nextOp := v.nextOp + 1 } : State).retires t t.ctx := by
  rw [← bits_tag]
  refine State.tiller_next hr (beq_iff_eq.2 hw) ((if_neg ?_).trans (State.issue_joins ?_ (State.issueOk_none hops)))
  · simpa using ⟨⟨h0, hmax⟩, hwin⟩
  · simp [hops]

end

/-! ### SWAIT, and the end of an operation -/

theorem State.awaitOps_none {p : StreamOp → Bool} {go : Ans} (h : (s.opsOf t).any p = false) : s.awaitOps t p go = go :=
  if_pos (by simp [h])

/-- With no operation of its tag outstanding SWAIT takes the tag's kept statuses (R410). -/
theorem exec_swait_done (hr : s.runsWord t w = true) (hw : insn w = 0x4033)
    (h : ((s.issued t w).opsOf t).any (fun o => o.tag == w % 16) = false) : exec (.swait t.sheaf t.seq) s =
      .next ((s.issued t w).retires { t with kept := t.kept.filter fun k => k.1 != w % 16 }
        (t.ctx.setG (iRd w) (keptStatus t.kept (w % 16)))) := by
  rw [← bits_tag] at h ⊢
  exact congrArg Host.Outcome.next (State.tiller_next (x := { t with
    kept := t.kept.filter fun k => k.1 != bits w 0 4, ctx := t.ctx.setG (iRd w) (keptStatus t.kept (bits w 0 4)) })
    hr (beq_iff_eq.2 hw) (State.awaitOps_none h))

section
variable {h q g : Nat}

theorem exec_streamOpEnd_noTask (ht : s.taskOf h q = none) : exec (.streamOpEnd h q g) s = .next s := by
  simp only [exec, execStreamOpEnd, ht]

theorem exec_streamOpEnd_noOp (ht : s.taskOf h q = some t)
    (ho : ((s.opsOf t).find? fun o => o.tag == g && o.kind != 0 && o.phase == 0) = none) : exec (.streamOpEnd h q g) s = .next s := by
  simp only [exec, execStreamOpEnd, ht, ho]

/-- An operation that has moved all its data ends OK (R408, R410). -/
theorem exec_streamOpEnd_ok {o o' : StreamOp} (ht : s.taskOf h q = some t)
    (ho : ((s.opsOf t).find? fun o => o.tag == g && o.kind != 0 && o.phase == 0) = some o)
    (hm : s.opMove o t (cdiv o.len 64 + 1) = (u, x, o', none)) : exec (.streamOpEnd h q g) s =
      .next (((((u.setTask x).setOp o').count (bankSheaf h) 0x54 0 (some t.inst) (64 * (o'.units - o.units))).opEnd o.id 0).bump) := by
  simp only [exec, execStreamOpEnd, ht, ho, hm]

end
end
end Sys2Proof.Machine

open Sys2Proof Sys2Proof.Machine in
/-- Settles O47: a task that runs an instruction's word goes on with the answer of the instruction's body, which its guards decide. -/
theorem tillerStreams : Obligations.TillerStreams := by
  unfold Obligations.TillerStreams
  refine ⟨fun s t w hr => ?_, fun s h q g => ⟨exec_streamOpEnd_noTask, fun t => exec_streamOpEnd_noOp,
    fun t o s' t' o' => exec_streamOpEnd_ok⟩⟩
  refine ⟨fun hw => ⟨exec_dbell_holds hr hw, exec_dbell_busy hr hw⟩, fun hw hc => ⟨fun hb => ?_, fun hb => ?_⟩, fun hw => ?_,
    ⟨fun hw => ⟨fun h => ?_, fun h0 hmax hwin hops => ?_⟩, fun hw => ⟨fun h => ?_, fun h0 hmax hwin hops => ?_⟩⟩,
    fun hw => exec_swait_done hr hw⟩
  · exact exec_pgw_holds hr hw hc (n := 4) (by simp [hb]) rfl
  · exact exec_pgw_holds hr hw hc (n := 8) (by simp [hb]) rfl
  · intro ch o s1
    have hch : ch < 512 := Nat.mod_lt _ (by decide)
    refine ⟨exec_sdma_local hr hw, fun hwin hown hsrc hsh => ⟨fun h => ?_, fun hst hen hroom hl => ?_⟩, fun hwin h hl => ?_⟩
    · exact exec_sdma_next hr hw hwin (State.issueDma_notReady hch hown hsrc hsh h)
    · exact exec_sdma_next hr hw hwin (State.issueDma_queued hch hown hsrc hsh hst hen hroom
        (State.issue_joins hl (State.issueOk_reads Nat.zero_ne_one)))
    · exact exec_sdma_next hr hw hwin (State.issueDma_refused h (State.issue_joins hl (State.issueOk_reads Nat.zero_ne_one)))
  · exact congrArg Host.Outcome.next (State.getPut_local (op := 0x31) (kind := 1) hr hw h)
  · exact congrArg Host.Outcome.next (State.getPut_joins (op := 0x31) (kind := 1) hr hw h0 hmax hwin hops)
  · exact congrArg Host.Outcome.next (State.getPut_local (op := 0x32) (kind := 2) hr hw h)
  · exact congrArg Host.Outcome.next (State.getPut_joins (op := 0x32) (kind := 2) hr hw h0 hmax hwin hops)

/-! # Commands and events of DMA channels (R273 to R279, R289 to R293) -/

namespace Sys2Proof.Machine
section
variable {s : State} {c v : Nat}

@[simp] theorem State.f_setDma {F : Fld} {x : DmaSt} {u i : Nat} : (s.setDma c x).f F u i = s.f F u i := rfl

/-- The manager's writes of DMA_CTL and DMA_CMD act (R63). -/
theorem exec_dmaWrites (ho : s.opens 0x50 c = true) :
    exec (.dmaEnable 0 c v) s = .next (s.dmaCtlWrite 0 c (setBit v 31)) ∧
    exec (.dmaDisable 0 c v) s = .next (s.dmaCtlWrite 0 c (clrBit v 31)) ∧
    exec (.dmaCmdKick 0 c) s = .next (s.dmaKick c) ∧ exec (.dmaCmdStop 0 c) s = .next (s.dmaStop c) ∧
    exec (.dmaCmdGo 0 c) s = .next (s.dmaGo c) ∧ exec (.dmaCmdDiscardParked 0 c) s = .next (s.dmaDiscard c) := by
  obtain ⟨hl, hr⟩ := State.opens_iff.1 ho
  have hact (k : State → State) : Host.Outcome.next (s.act 0 0x50 c false k) = (.next (k s) : Res) :=
    congrArg Host.Outcome.next (State.act_manager k hl hr)
  exact ⟨hact _, hact _, hact _, hact _, hact _, hact _⟩

/-! ### DMA_CTL -/

/-- ENABLE rises with the write (R277). -/
theorem State.dmaCtlWrite_on (he : s.encOk 0x50 c 0x40 4 v = true) (hE : s.b DMA_CTL_ENABLE c = false) (hv : bit v 31 = true) :
    s.dmaCtlWrite 0 c v = (s.writePage 0 0x50 c 0x40 4 v).dmaOn c := by
  simp [State.dmaCtlWrite, he, hE, hv]

/-- ENABLE falls with the write (R276, R293). -/
theorem State.dmaCtlWrite_off (he : s.encOk 0x50 c 0x40 4 v = true) (hE : s.b DMA_CTL_ENABLE c = true) (hv : bit v 31 = false) :
    s.dmaCtlWrite 0 c v = (s.writePage 0 0x50 c 0x40 4 v).dmaOff c := by
  simp [State.dmaCtlWrite, he, hE, hv]

/-- A stopped channel that is enabled comes to its first boundary (R277). -/
theorem State.dmaOn_stopped
    (hst : (((s.setF DMA_CTL_ENABLE c 0 1).setF DMA_RING_IDX_NEXT c 0 0).setDma c { s.dma c with off := false }).f DMA_STAT_STATE c = 0) :
    s.dmaOn c = ((((s.setF DMA_CTL_ENABLE c 0 1).setF DMA_RING_IDX_NEXT c 0 0).setDma c
      { s.dma c with off := false }).setF DMA_STAT_STATE c 0 1).dmaBoundary c :=
  if_pos (beq_iff_eq.2 hst)

theorem State.dmaSquashWaiting_nil (h : (s.dma c).sq = []) : s.dmaSquashWaiting c = s.setDma c { s.dma c with sq := [] } := by
  simp [State.dmaSquashWaiting, h]

/-- A channel that runs a descriptor stops at the boundary (R293). -/
theorem State.dmaOff_running {t : State} (ht : (s.setF DMA_CTL_ENABLE c 0 0).dmaSquashWaiting c = t) (hst : t.f DMA_STAT_STATE c = 2) :
    s.dmaOff c = t.setDma c { t.dma c with off := true } := by
  subst ht
  simp [State.dmaOff, hst]

/-! ### DMA_CMD -/

/-- KICK of an idle channel only lifts the hold of its pacing read (R286). -/
theorem State.dmaKick_idle (hst : s.f DMA_STAT_STATE c = 1) : s.dmaKick c = s.setDma c { s.dma c with paceKick := false } := by
  simp [State.dmaKick, hst]

/-- KICK of a channel that polls reads slot NEXT again (R279). -/
theorem State.dmaKick_polling (hst : s.f DMA_STAT_STATE c = 3) :
    s.dmaKick c = (s.setDma c { s.dma c with paceKick := false }).dmaExamine c := by
  simp [State.dmaKick, hst]

/-- STOP waits for the end of the descriptor that runs (R289). -/
theorem State.dmaStop_running (hst : (s.setF DMA_STAT_STOP_PENDING c 0 1).f DMA_STAT_STATE c = 2) :
    s.dmaStop c = s.setF DMA_STAT_STOP_PENDING c 0 1 := by
  simp [State.dmaStop, hst]

/-! ### Polling and reading a ring -/

theorem State.dmaPollDue_iff : s.dmaPollDue c = true ↔
    s.f DMA_CTL_POLL_US c ≠ 0 ∧ (s.dma c).polled + s.f DMA_CTL_POLL_US c * 65536000 ≤ s.now := by
  rw [State.dmaPollDue, Bool.and_eq_true, bne_iff_ne, decide_eq_true_eq, us]

theorem exec_dmaPoll_due (hst : s.f DMA_STAT_STATE c = 3) (hd : s.dmaPollDue c = true) :
    exec (.dmaPoll c) s = .next (s.dmaExamine c) := by
  simp [exec, execDmaPoll, hd, hst]

theorem exec_dmaPoll_early (hd : s.dmaPollDue c ≠ true) : exec (.dmaPoll c) s = .next s :=
  congrArg Host.Outcome.next (if_pos (by simpa using hd))

theorem exec_dmaRingRead_disabled (hE : s.b DMA_CTL_ENABLE c = false) : exec (.dmaRingRead c) s = .next s :=
  congrArg Host.Outcome.next (if_neg (by simp [hE]))

theorem exec_dmaRingRead_idle (hst : s.f DMA_STAT_STATE c = 1) (hE : s.b DMA_CTL_ENABLE c = true) (hsrc : s.f DMA_CTL_SRC c = 0) :
    exec (.dmaRingRead c) s = .next (s.dmaExamine c) :=
  congrArg Host.Outcome.next (if_pos (by simp [hst, hE, hsrc]))

/-- A channel that its boundary leaves idle reads its slot (R279). -/
theorem State.dmaExamine_idle (h : (s.dmaBoundary c).f DMA_STAT_STATE c = 1) : s.dmaExamine c = (s.dmaBoundary c).dmaFetch c :=
  if_pos (beq_iff_eq.2 h)

/-! ### The descriptor in progress -/

theorem exec_dmaDescriptorEnd (hst : s.f DMA_STAT_STATE c = 2) : exec (.dmaDescriptorEnd c) s = .next (s.dmaRun c) :=
  congrArg Host.Outcome.next (if_pos (beq_iff_eq.2 hst))

theorem State.dmaRun_none (hcur : (s.dma c).cur = none) : s.dmaRun c = s := by simp only [State.dmaRun, hcur]

section
variable {d : DmaCur} (hcur : (s.dma c).cur = some d) (hwb : d.wb = false)
include hcur hwb

/-- A malformed descriptor moves nothing (R285). -/
theorem State.dmaRun_malformed (hok : dmaOk d.bytes = false) : s.dmaRun c = s.dmaReport c d 0x11 0 0 := by
  simp [State.dmaRun, hcur, hwb, hok]

/-- A descriptor whose units have all moved ends OK (R273). -/
theorem State.dmaRun_moved (hok : dmaOk d.bytes = true)
    (hm : (s.dmaMove (s.dmaInst c) (dmaBody d.bytes) (s.f DMA_CURSOR_UNITS c)
      ((dmaBody d.bytes).units - s.f DMA_CURSOR_UNITS c)).2.2 = none) :
    let r := s.dmaMove (s.dmaInst c) (dmaBody d.bytes) (s.f DMA_CURSOR_UNITS c) ((dmaBody d.bytes).units - s.f DMA_CURSOR_UNITS c)
    s.dmaRun c = (r.1.setF DMA_CURSOR_UNITS c 0 r.2.1).dmaReport c d 0 (dmaBody d.bytes).dstBytes (dmaBody d.bytes).units := by
  simp [State.dmaRun, hcur, hwb, hok, hm]

end
end
end Sys2Proof.Machine

open Sys2Proof Sys2Proof.Machine in
/-- Settles O34: a write of DMA_CTL is an enabling or a disabling by the bit written; every other command and event is the case of its
function that the channel's state decides. -/
theorem dmaChannels : Obligations.DmaChannels := by
  unfold Obligations.DmaChannels
  intro s c v ho _
  obtain ⟨hEnable, hDisable, hKick, hStop, hGo, hDiscard⟩ := exec_dmaWrites (v := v) ho
  refine ⟨fun he hE hst => ?_, fun he hE hsq hst => ?_, fun hst => ?_, fun hst => ?_, fun hst => ?_, fun hst => ?_, fun hst => ?_,
    fun hst => ?_, fun hst => ?_, fun hst hp hd => exec_dmaPoll_due hst (State.dmaPollDue_iff.2 ⟨hp, hd⟩), fun hd => ?_,
    exec_dmaRingRead_disabled, fun hst hE hsrc hidle => ?_, fun hst => ⟨fun hcur => ?_, fun d hcur hwb hok => ?_,
    fun d hcur hwb hok hm => ?_⟩⟩
  · rw [hEnable, State.dmaCtlWrite_on he hE (bit_setBit v 31), State.dmaOn_stopped hst]
    rfl
  · rw [hDisable, State.dmaCtlWrite_off he hE (bit_clrBit v 31),
      State.dmaOff_running (State.dmaSquashWaiting_nil hsq) hst]
  · rw [hKick, State.dmaKick_idle hst]
  · rw [hKick, State.dmaKick_polling hst]
  · rw [hStop, State.dmaStop_running hst]
  · rw [hGo, State.dmaGo, if_neg (by simpa using hst)]
  · rw [hGo, State.dmaGo, if_pos (beq_iff_eq.2 hst)]
  · rw [hDiscard, State.dmaDiscard, if_pos (beq_iff_eq.2 hst)]
  · rw [hDiscard, State.dmaDiscard, if_neg (by simpa using hst)]
  · exact exec_dmaPoll_early fun hdue => by
      obtain ⟨hp, hpast⟩ := State.dmaPollDue_iff.1 hdue
      omega
  · rw [exec_dmaRingRead_idle hst hE hsrc, State.dmaExamine_idle hidle]
  · rw [exec_dmaDescriptorEnd hst, State.dmaRun_none hcur]
  · rw [exec_dmaDescriptorEnd hst, State.dmaRun_malformed hcur hwb hok]
  · rw [exec_dmaDescriptorEnd hst, State.dmaRun_moved hcur hwb hok hm]

/-! # The state of an Ethernet port (R299, R322) -/

namespace Sys2Proof.Machine
section
variable {s : State} {n : Nat} {e : Emac} {F : Fld} {u i v : Nat}

@[simp] theorem State.emac_setEmac : (s.setEmac n e).emac n = e := PMap.get_put_same ..
@[simp] theorem State.emac_setF {m : Nat} : (s.setF F u i v).emac m = s.emac m := rfl

/-- Within its window a port's utilisation is up to date (R322). -/
theorem State.utilRoll_current (h : (s.emac n).win = s.utilWin) : s.utilRoll n = s := if_pos (beq_iff_eq.2 h)

/-- DWELL counts in 100 µs (Table 09-12). -/
theorem State.lsxDwell_eq : s.lsxDwell n = 65536 * 100000 * s.f EMAC_LSX_DWELL n := by
  simp only [State.lsxDwell, us]
  omega

/-- While the link is up no descriptor is dropped for its being down (R300). -/
theorem State.txDown_up (hup : s.b EMAC_STAT_LINK_UP n = true) : s.txDown n = s := if_pos (by simp [hup])

/-- The manager's EMAC_CMD reaches its port (R63). -/
theorem State.act_emac (ho : s.opens 0x40 n = true) (k : State → State) : s.act 0 0x40 n false k = k s := by
  obtain ⟨hl, hr⟩ := State.opens_iff.1 ho
  exact State.act_manager k hl hr

end
end Sys2Proof.Machine

/-! # Frames that a port sends (R299, R300, R303 to R309) -/

namespace Sys2Proof.Machine

/-- A port may start a frame: its link is up without remote fault, stays up, and nothing is in transmission (R299, R300). -/
structure State.TxFree (s : State) (n : Nat) : Prop where
  up : s.b EMAC_STAT_LINK_UP n = true
  sound : s.b EMAC_STAT_REMOTE_FAULT n = false
  idle : (s.emac n).flight = none
  stays : (s.emac n).closing = false

/-- `s` once port `n` is free again and has counted frame `f`, for itself and for its class (R307, R309). -/
def State.flightCounted (s : State) (n : Nat) (f : TxFrame) : State :=
  let s0 := (s.setEmac n { s.emac n with flight := none }).txCount n f.len
  s0.addF EMAC_CNT_TC_COUNT n (s0.txClass f.q) 1

section
variable {s : State} {n q : Nat} {d : Desc} {f : TxFrame}

/-! ### The fetch of a frame -/

theorem exec_txFrameFetched_notTransmit (h : s.q WQ_CFG_TYPE q ≠ 3) : exec (.txFrameFetched q) s = .next s := if_pos (by simp [h])

theorem exec_txFrameFetched_none (h : s.txNext (s.txPort q) q = none) : exec (.txFrameFetched q) s = .next s := by
  simp [exec, execTxFrameFetched, h]

theorem exec_txFrameFetched (hq : s.q WQ_CFG_TYPE q = 3) (hup : s.b EMAC_STAT_LINK_UP (s.txPort q) = true)
    (hd : s.txNext (s.txPort q) q = some d) : exec (.txFrameFetched q) s = .next (s.txFetch (s.txPort q) q d) := by
  simp [exec, execTxFrameFetched, hq, hup, hd]

/-- A sound descriptor whose segments read gives its frame (R303, R305). -/
theorem State.txFetch_sound {segs : List (BitVec 8)} (hm : s.txMalformed n d.bytes = false)
    (hs : s.txSegments (s.wqOwner q) d.bytes = .ok segs) (hp : s.ptpBad n d.bytes (txAssemble d.bytes segs) = false) :
    s.txFetch n q d = (s.setDesc q { d with phase := 1 }).addFrame n { q := q, idx := d.idx, bytes := txAssemble d.bytes segs } := by
  simp [State.txFetch, hm, hs, hp]

/-! ### The start of a frame -/

theorem State.txStart_held (h : s.b EMAC_STAT_LINK_UP n = false ∨ s.b EMAC_STAT_REMOTE_FAULT n = true ∨
    (s.emac n).flight.isSome = true ∨ (s.emac n).closing = true) : s.txStart n = s :=
  if_pos (by simpa [or_assoc] using h)

/-- Outside a width switch the first control or LSX frame goes first (R320). -/
theorem State.txStart_control {c : List (BitVec 8)} {cs : List (List (BitVec 8))} (hfree : s.TxFree n) (hc : (s.emac n).ctl = c :: cs)
    (hsw : s.f EMAC_STAT_LSX_STATE n ≠ 2) (hp : beAt c 12 2 ≠ 0x8808) :
    s.txStart n = ((s.setEmac n { s.emac n with ctl := cs }).emit (.frame n (wireFrame c))).txCount n (c.length + 4) := by
  obtain ⟨hup, hrf, hfl, hcl⟩ := hfree
  simp [State.txStart, hup, hrf, hfl, hcl, hc, hsw, hp]

/-- With no frame of the port's own the class and queue whose turn it is send, unless protection refuses (R307). -/
theorem State.txStart_queue {c : Nat} {w : Wrr} (hfree : s.TxFree n) (hc : (s.emac n).ctl = [])
    (hsw : s.f EMAC_STAT_LSX_STATE n ≠ 2) (hpick : s.txPick n = some (c, q, w)) (hready : s.txReady n q = some (d, f))
    (hsec : (s.wrrServe (wrrKey 3 (n * 8 + c)) q w).secRefuse n q (leAt d.bytes 39 1) = none) :
    let m := (s.wrrServe (wrrKey 3 (n * 8 + c)) q w).txMake n d f true
    s.txStart n = ((m.1.charge n c (m.2.1.length + 4)).emit (.frame n (wireFrame m.2.1))).setFlight n m.2.2 := by
  obtain ⟨hup, hrf, hfl, hcl⟩ := hfree
  simp [State.txStart, hup, hrf, hfl, hcl, hc, hsw, hpick, hready, hsec]

/-! ### The end of a frame -/

theorem State.txEnd_idle (h : (s.emac n).flight = none) : s.txEnd n = s := by simp [State.txEnd, h]

/-- A frame that has left is counted, and its descriptor completes (R309). -/
theorem State.txEnd_flight (h : (s.emac n).flight = some f)
    (hd : ((s.flightCounted n f).wq f.q).acc.find? (fun d => d.idx == f.idx) = some d) :
    s.txEnd n = (s.flightCounted n f).txDone n f.q d f := by
  rw [State.flightCounted] at hd ⊢
  simp only [State.txEnd, h, hd]

theorem State.txDone_noRecord (h : leAt d.bytes 48 8 = 0) :
    s.txDone n q d f = ((s.dropFrame n q d.idx).descDone q d 0 f.len f.body).txHead n q :=
  if_pos (beq_iff_eq.2 h)

/-- On a link that is up and stays so nothing follows the end of a frame (R300). -/
theorem exec_txFrameEnd_up {t : State} (ht : s.txEnd n = t) (hup : t.b EMAC_STAT_LINK_UP n = true) (hcl : (t.emac n).closing = false) :
    exec (.txFrameEnd n) s = .next t := by
  subst ht
  simp [exec, execTxFrameEnd, hcl, State.txDown_up hup]

end
end Sys2Proof.Machine

open Sys2Proof Sys2Proof.Machine in
/-- Settles O35: a fetch, a start and an end are each the case of their function that the queue's descriptor and the port's state decide. -/
theorem ethernetTransmit : Obligations.EthernetTransmit := by
  unfold Obligations.EthernetTransmit
  refine ⟨fun s q => ⟨exec_txFrameFetched_notTransmit, exec_txFrameFetched_none, fun d segs hq hup hd hm hs hp => ?_⟩,
    fun s n => ⟨fun h => ?_, fun c cs hup hrf hfl hcl hc hsw hp => ?_, fun c q w d f hup hrf hfl hcl hc hsw hpick hready hsec => ?_,
      fun hup hfl hcl => ?_, fun f d hfl hd hrec hup hcl => ?_⟩⟩
  · rw [exec_txFrameFetched hq hup hd, State.txFetch_sound hm hs hp]
  · exact congrArg _ (State.txStart_held h)
  · exact congrArg _ (State.txStart_control ⟨hup, hrf, hfl, hcl⟩ hc hsw hp)
  · exact congrArg _ (State.txStart_queue ⟨hup, hrf, hfl, hcl⟩ hc hsw hpick hready hsec)
  · exact exec_txFrameEnd_up (State.txEnd_idle hfl) hup hcl
  · exact exec_txFrameEnd_up ((State.txEnd_flight hfl hd).trans (State.txDone_noRecord hrec)) hup hcl

/-! # Frames that a port receives (R302, R321, R353) -/

namespace Sys2Proof.Machine

/-- `s` once port `n` has counted a sound frame of `len` bytes, in the monitors and in the utilisation too (R302, R322). -/
def State.rxCounted (s : State) (n len : Nat) : State :=
  let s := (s.addF EMAC_CNT_RX_FRAMES_COUNT n 0 1).addF EMAC_CNT_RX_BYTES_COUNT n 0 len
  let s := s.count (bankQuad n) 0x100 (n % 4) (some (s.emacOwner n))
  (s.count (bankQuad n) 0x101 (n % 4) (some (s.emacOwner n)) len).utilAdd n 0 len

section
variable {s : State} {n age : Nat} {bs : List (BitVec 8)} {ok : Bool}

theorem exec_rxFrame_linkDown (h : s.b EMAC_STAT_LINK_UP n = false) : exec (.rxFrame n bs ok age) s = .next s :=
  congrArg Host.Outcome.next (if_pos (by simp [h]))

section
variable (hl : s.live 0x40 n = true) (hup : s.b EMAC_STAT_LINK_UP n = true)
include hl hup

theorem exec_rxFrame_runt (h : bs.length + 4 < 64) :
    exec (.rxFrame n bs ok age) s = .next (s.addF EMAC_CNT_RX_RUNT_COUNT n 0 1) := by
  simp [exec, execRxFrame, hl, hup, h]

variable (hmin : 64 ≤ bs.length + 4)
include hmin

theorem exec_rxFrame_oversize (h : s.f EMAC_MTU_MTU n < bs.length + 4) :
    exec (.rxFrame n bs ok age) s = .next (s.addF EMAC_CNT_RX_OVERSIZE_COUNT n 0 1) := by
  simp [exec, execRxFrame, hl, hup, Nat.not_lt.2 hmin, h]

variable (hmax : bs.length + 4 ≤ s.f EMAC_MTU_MTU n)
include hmax

theorem exec_rxFrame_badFcs :
    exec (.rxFrame n bs false age) s = .next (s.addF EMAC_CNT_RX_FCS_COUNT n 0 1) := by
  simp [exec, execRxFrame, hl, hup, Nat.not_lt.2 hmin, Nat.not_lt.2 hmax]

/-- In SLEEP a sound frame is matched for wake and goes no further (R302, R353). -/
theorem exec_rxFrame_asleep (h : (s.rxCounted n (bs.length + 4)).f PWR_STAT_STATE = 2) :
    exec (.rxFrame n bs true age) s =
      .next (((s.rxCounted n (bs.length + 4)).wakeMatch n bs).addF EFLT_CNT_SLEEP_DROP_COUNT n 0 1) := by
  rw [State.rxCounted] at h ⊢
  simp [exec, execRxFrame, hl, hup, Nat.not_lt.2 hmin, Nat.not_lt.2 hmax, h]

section
variable (hawake : (s.rxCounted n (bs.length + 4)).f PWR_STAT_STATE ≠ 2)
include hawake

/-- A control or LSX frame is consumed (R302, Table 10-1). -/
theorem exec_rxFrame_consumed {t : State} (hc : ((s.rxCounted n (bs.length + 4)).wakeMatch n bs).rxControl n bs = some t) :
    exec (.rxFrame n bs true age) s = .next t := by
  rw [State.rxCounted] at hawake hc
  simp [exec, execRxFrame, hl, hup, Nat.not_lt.2 hmin, Nat.not_lt.2 hmax, hawake, hc]

theorem exec_rxFrame_stages (hc : ((s.rxCounted n (bs.length + 4)).wakeMatch n bs).rxControl n bs = none) :
    let t := (s.rxCounted n (bs.length + 4)).wakeMatch n bs
    exec (.rxFrame n bs true age) s = .next (t.rxStages n bs (t.devTime - age)) := by
  rw [State.rxCounted] at hawake hc ⊢
  simp [exec, execRxFrame, hl, hup, Nat.not_lt.2 hmin, Nat.not_lt.2 hmax, hawake, hc]

end
end
end
end Sys2Proof.Machine

/-! # An Ethernet link that comes up and goes down (R298, R299) -/

namespace Sys2Proof.Machine

/-- `s` once port `n` shows a link that has just come up without auto-negotiation, at full width (R298). -/
def State.linkShown (s : State) (n : Nat) : State :=
  let s2 := (((s.setF EMAC_STAT_LINK_UP n 0 1).setF EMAC_STAT_FEC_LOCK n 0 1).setF EMAC_STAT_AN_DONE n 0 0).setF EMAC_STAT_LOCAL_FAULT n 0 0
  (s2.setF EMAC_STAT_LANES n 0 (s2.fullCode n)).setF EMAC_STAT_LSX_STATE n 0 0

/-- `s` once port `n` shows and counts a link that has just gone down (R299). -/
def State.linkLost (s : State) (n : Nat) (l r : Bool) : State :=
  let s1 := (s.satF EMAC_CNT_LINK_COUNT n 0 1).err EMAC_ERR_LINK_DOWN n
  let s2 := (((s1.setF EMAC_STAT_LINK_UP n 0 0).setF EMAC_STAT_FEC_LOCK n 0 0).setF EMAC_STAT_AN_DONE n 0 0).setF EMAC_STAT_LANES n 0 0
  let s3 := (((s2.setF EMAC_STAT_LOCAL_FAULT n 0 (b2n l)).setF EMAC_STAT_REMOTE_FAULT n 0 (b2n r)).setF EMAC_STAT_PARTNER_ZHOEM n 0 0).setF
    EMAC_STAT_LEADER n 0 0
  s3.setF EMAC_STAT_LSX_STATE n 0 0

section
variable {s : State} {n : Nat} {r l g : Bool}

/-! ### Up -/

theorem exec_emacLinkUp_disabled (h : s.b EMAC_CTL_ENABLE n = false) : exec (.emacLinkUp n r) s = .next s := if_neg (by simp [h])

theorem exec_emacLinkUp (hl : s.live 0x40 n = true) (he : s.b EMAC_CTL_ENABLE n = true) (hs : s.f DEV_SERVICE_SERVICE ≠ 1) :
    exec (.emacLinkUp n r) s = .next (s.emacUp n r) := if_pos (by simp [hl, he, hs])

/-- On a link that is up only the remote fault changes (R299). -/
theorem State.emacUp_already (h : (s.setF EMAC_STAT_REMOTE_FAULT n 0 (b2n r)).b EMAC_STAT_LINK_UP n = true) :
    s.emacUp n r = s.setF EMAC_STAT_REMOTE_FAULT n 0 (b2n r) := if_pos h

theorem State.emacUp_rises {t : State} (ht : s.setF EMAC_STAT_REMOTE_FAULT n 0 (b2n r) = t) (h : t.b EMAC_STAT_LINK_UP n = false)
    (han : t.b EMAC_CFG_AN_EN n = false) :
    s.emacUp n r = (t.linkShown n).setEmac n { (t.linkShown n).emac n with
      busyAt := (t.linkShown n).now, helloOut := 0, req := 0, noShed := 0, ackOut := false, ackIn := false, widening := false } := by
  subst ht
  simp only [State.emacUp, h, han, Bool.false_and, Bool.false_eq_true, if_false]
  rfl

/-! ### Down -/

theorem State.emacDown_already (h : s.b EMAC_STAT_LINK_UP n = false) : s.emacDown n l r g = s := if_pos (by simp [h])

theorem State.emacDown_falls (h : s.b EMAC_STAT_LINK_UP n = true) :
    let s4 := s.linkLost n l r
    let s5 := s4.setEmac n { s4.emac n with ctl := [], req := 0, ackOut := false, ackIn := false, widening := false }
    s.emacDown n l r g = (if g then s5.addF EMAC_CNT_RX_FCS_COUNT n 0 1 else s5).txDown n := by
  simp only [State.emacDown, State.linkLost, State.emac_setF, h, Bool.not_true, Bool.false_eq_true, if_false]

/-- RETRAIN takes the link down for the port's own sake, whether or not a frame is being received (Table 09-12). -/
theorem exec_emacCmdRetrain (ho : s.opens 0x40 n = true) : exec (.emacCmdRetrain 0 n) s = .next (s.emacDrop n) :=
  congrArg _ (State.act_emac ho _)

theorem State.emacDrop_already (h : s.b EMAC_STAT_LINK_UP n = false) : s.emacDrop n = s := if_neg (by simp [h])

theorem State.emacDrop_falls (h : s.b EMAC_STAT_LINK_UP n = true) :
    s.emacDrop n = (s.emacDown n false false (Config.choice s.draws)).bump := if_pos h

end
end Sys2Proof.Machine

open Sys2Proof Sys2Proof.Machine in
/-- Settles O36: a received frame is the case of R302's order that its length and FCS decide, and a link rises or falls as its port's
registers say. -/
theorem ethernetReceiveAndLink : Obligations.EthernetReceiveAndLink := by
  unfold Obligations.EthernetReceiveAndLink
  refine ⟨fun s n bs ok age => ⟨exec_rxFrame_linkDown, fun hl hup => ⟨exec_rxFrame_runt hl hup, exec_rxFrame_oversize hl hup,
    fun hmin hmax hok => ?_, fun hmin hmax hok => ?_⟩⟩, fun s n r l g => ⟨exec_emacLinkUp_disabled, fun hl he hs => ⟨fun h => ?_,
    fun h han => ?_⟩, fun h => ?_, fun h => ?_, fun ho h => ?_⟩⟩
  · subst hok
    exact exec_rxFrame_badFcs hl hup hmin hmax
  · subst hok
    exact ⟨exec_rxFrame_asleep hl hup hmin hmax, exec_rxFrame_stages hl hup hmin hmax,
      fun hawake t => exec_rxFrame_consumed hl hup hmin hmax hawake⟩
  · rw [exec_emacLinkUp hl he hs, State.emacUp_already h]
  · rw [exec_emacLinkUp hl he hs]
    exact congrArg _ (State.emacUp_rises rfl h han)
  · exact congrArg _ (State.emacDown_already h)
  · intro down
    have hdown (l r g : Bool) : s.emacDown n l r g = down l r g := State.emacDown_falls h
    refine ⟨congrArg _ (hdown l r g), fun ho => ?_⟩
    rw [exec_emacCmdRetrain ho, State.emacDrop_falls h, hdown]
  · rw [exec_emacCmdRetrain ho, State.emacDrop_already h]

/-! # LSX frames that a port receives (R320 to R323) -/

namespace Sys2Proof.Machine
section
variable {s : State} {n addr arg nonce : Nat}

/-! ### What becomes of an LSX frame -/

/-- In SLEEP a frame of the port's own is counted and dropped (R353). -/
theorem State.ownFrame_asleep (hup : s.b EMAC_STAT_LINK_UP n = true) (hp : s.f PWR_STAT_STATE = 2) (k : State → State) :
    s.ownFrame n k = .next ((s.rxOwn n).addF EFLT_CNT_SLEEP_DROP_COUNT n 0 1) := by
  simp [State.ownFrame, hup, hp]

/-- Outside SLEEP it is counted and handed on (R302). -/
theorem State.ownFrame_awake (hup : s.b EMAC_STAT_LINK_UP n = true) (hp : s.f PWR_STAT_STATE ≠ 2) (k : State → State) :
    s.ownFrame n k = .next (k (s.rxOwn n)) := by
  simp [State.ownFrame, hup, hp]

theorem exec_lsx_asleep (hup : s.b EMAC_STAT_LINK_UP n = true) (hp : s.f PWR_STAT_STATE = 2) {c : Instr}
    (hc : c ∈ [Instr.hello n addr arg nonce, Instr.lsxShedReq n arg nonce, Instr.lsxShedAck n arg nonce,
      Instr.lsxWidenReq n arg nonce, Instr.lsxWidenAck n arg nonce, Instr.lsxRefuse n arg nonce]) :
    exec c s = .next ((s.rxOwn n).addF EFLT_CNT_SLEEP_DROP_COUNT n 0 1) := by
  have hasleep (op addr : Nat) := State.ownFrame_asleep hup hp fun s => (s.ctrlTake n).lsxIn n op addr arg nonce
  simp only [List.mem_cons, List.not_mem_nil, or_false] at hc
  rcases hc with rfl | rfl | rfl | rfl | rfl | rfl
  exacts [hasleep 1 addr, hasleep 2 0, hasleep 3 0, hasleep 4 0, hasleep 5 0, hasleep 6 0]

/-- Each row hands the frame, once taken, to the rule of its OP (Table 09-8). -/
theorem exec_lsx_taken (hup : s.b EMAC_STAT_LINK_UP n = true) (hp : s.f PWR_STAT_STATE ≠ 2) :
    let s0 := (s.rxOwn n).ctrlTake n
    exec (.hello n addr arg nonce) s = .next (s0.lsxHello n addr arg) ∧
    exec (.lsxShedReq n arg nonce) s = .next (s0.lsxShedReq n arg nonce) ∧
    exec (.lsxShedAck n arg nonce) s = .next (s0.lsxShedAck n arg nonce) ∧
    exec (.lsxWidenReq n arg nonce) s = .next (s0.lsxWidenReq n arg nonce) ∧
    exec (.lsxWidenAck n arg nonce) s = .next (s0.lsxWidenAck n arg nonce) ∧
    exec (.lsxRefuse n arg nonce) s = .next (s0.lsxRefuse n arg nonce) :=
  have htaken (op addr : Nat) := State.ownFrame_awake hup hp fun s => (s.ctrlTake n).lsxIn n op addr arg nonce
  ⟨htaken 1 addr, htaken 2 0, htaken 3 0, htaken 4 0, htaken 5 0, htaken 6 0⟩

/-- The address is not among the fields that a HELLO sets (R321). -/
theorem State.lsxHello_eq :
    let s1 := s.setF EMAC_STAT_PARTNER_ZHOEM n 0 1
    let s2 := s1.setF EMAC_STAT_LEADER n 0 (b2n (decide (s1.f EMAC_ADDR_ADDR n < addr)))
    s.lsxHello n addr arg =
      s2.setEmac n { s2.emac n with helloIn := s2.now, partner := addr, partnerLpm := bit arg 7, partnerMin := arg % 4 } := by
  intro s1
  have haddr : s1.f EMAC_ADDR_ADDR n = s.f EMAC_ADDR_ADDR n := State.f_setF_apart _ _ rfl (by decide)
  rw [haddr]
  rfl

/-! ### Shedding (R322) -/

theorem State.lsxShedReq_ignored (h : s.b EMAC_STAT_LEADER n = true ∨ s.f EMAC_STAT_LSX_STATE n = 2) :
    s.lsxShedReq n arg nonce = s := if_pos (by simpa using h)

section
variable (hlead : s.b EMAC_STAT_LEADER n = false) (hsw : s.f EMAC_STAT_LSX_STATE n ≠ 2)
include hlead hsw

theorem State.lsxShedReq_refused (h : s.lpmOn n = false ∨ (s.emac n).partner = s.f EMAC_ADDR_ADDR n ∨
    arg + 1 ≠ s.f EMAC_STAT_LANES n ∨ arg < s.f EMAC_LSX_MIN_LANES n) : s.lsxShedReq n arg nonce = s.lsxFrame n 6 2 nonce := by
  have hnot : (s.lpmOn n && (s.emac n).partner != s.f EMAC_ADDR_ADDR n && arg + 1 == s.f EMAC_STAT_LANES n &&
      decide (s.f EMAC_LSX_MIN_LANES n ≤ arg)) = false := by
    rcases h with h | h | h | h <;> simp [h]
  simp [State.lsxShedReq, hlead, hsw, hnot]

theorem State.lsxShedReq_accepted (hlpm : s.lpmOn n = true) (hpart : (s.emac n).partner ≠ s.f EMAC_ADDR_ADDR n)
    (hw : arg + 1 = s.f EMAC_STAT_LANES n) (hmin : s.f EMAC_LSX_MIN_LANES n ≤ arg) :
    s.lsxShedReq n arg nonce = (s.lsxFrame n 3 arg nonce).lsxSwitch n arg := by
  simp [State.lsxShedReq, hlead, hsw, hlpm, hpart, hw, hmin]

end

theorem State.lsxShedAck_ignored (h : (s.emac n).req ≠ 2 ∨ (s.emac n).reqNonce ≠ nonce ∨ (s.emac n).reqArg ≠ arg) :
    s.lsxShedAck n arg nonce = s :=
  if_neg (by simpa [-not_and, not_and_or, or_assoc] using h)

theorem State.lsxShedAck_answers (hreq : (s.emac n).req = 2) (hnonce : (s.emac n).reqNonce = nonce) (harg : (s.emac n).reqArg = arg) :
    s.lsxShedAck n arg nonce = (s.lsxSwitch n arg).setEmac n { (s.lsxSwitch n arg).emac n with widening := false } :=
  if_pos (by simp [hreq, hnonce, harg])

theorem State.lsxRefuse_ignored (h : (s.emac n).req ≠ 2 ∨ (s.emac n).reqNonce ≠ nonce ∨ arg ≠ 2) : s.lsxRefuse n arg nonce = s :=
  if_neg (by simpa [-not_and, not_and_or, or_assoc] using h)

/-- A refusal ends the request and starts the pause of DWELL (R322). -/
theorem State.lsxRefuse_ends (hreq : (s.emac n).req = 2) (hnonce : (s.emac n).reqNonce = nonce) :
    s.lsxRefuse n 2 nonce =
      s.setEmac n { s.emac n with req := 0, noShed := s.now + 65536 * 100000 * s.f EMAC_LSX_DWELL n } := by
  simp [State.lsxRefuse, hreq, hnonce, State.lsxDwell_eq]

/-! ### Widening (R323) -/

theorem State.lsxWiden_ignored
    (h : s.f EMAC_STAT_LSX_STATE n = 2 ∨ arg ≠ s.f EMAC_STAT_LANES n + 1 ∨ s.fullCode n ≤ s.f EMAC_STAT_LANES n) :
    s.lsxWidenReq n arg nonce = s ∧ s.lsxWidenAck n arg nonce = s := by
  have hnot : (s.f EMAC_STAT_LSX_STATE n == 2 || arg != s.f EMAC_STAT_LANES n + 1 ||
      !(decide (s.f EMAC_STAT_LANES n < s.fullCode n))) = true := by simpa [or_assoc] using h
  exact ⟨if_pos hnot, if_pos (by rw [hnot, Bool.true_or])⟩

theorem State.lsxWidenAck_unawaited (hreq : (s.emac n).req ≠ 4) (hout : (s.emac n).ackOut = false) :
    s.lsxWidenAck n arg nonce = s := if_pos (by simp [hreq, hout])

section
variable (hsw : s.f EMAC_STAT_LSX_STATE n ≠ 2) (harg : arg = s.f EMAC_STAT_LANES n + 1)
  (hw : s.f EMAC_STAT_LANES n < s.fullCode n)
include hsw harg hw

/-- A follower answers, and switches once it has been answered too. -/
theorem State.lsxWidenReq_follower (hlead : s.b EMAC_STAT_LEADER n = false) :
    let s1 := s.lsxFrame n 5 arg nonce
    let s2 := s1.setEmac n { s1.emac n with ackOut := true, widening := true, reqAt := s1.now }
    s.lsxWidenReq n arg nonce = if (s2.emac n).ackIn then s2.lsxSwitch n arg else s2 := by
  simp [State.lsxWidenReq, hsw, harg, hw, hlead]

theorem State.lsxWidenReq_leader (hlead : s.b EMAC_STAT_LEADER n = true) : s.lsxWidenReq n arg nonce = s.emacWiden n := by
  simp [State.lsxWidenReq, hsw, harg, hw, hlead]

/-- With its own acknowledgement sent a port switches (R323). -/
theorem State.lsxWidenAck_switches (hout : (s.emac n).ackOut = true) :
    s.lsxWidenAck n arg nonce = (s.setEmac n { s.emac n with ackIn := true }).lsxSwitch n arg := by
  simp [State.lsxWidenAck, hsw, harg, hw, hout]

end
end
end Sys2Proof.Machine

open Sys2Proof Sys2Proof.Machine in
/-- Settles O37: the port takes the frame, and the rule of its OP is the case that the port's role, width and requests decide. -/
theorem laneSheddingFrames : Obligations.LaneSheddingFrames := by
  unfold Obligations.LaneSheddingFrames
  intro s n addr arg nonce hup
  refine ⟨fun hp c hc => exec_lsx_asleep hup hp hc, fun hp => ?_⟩
  obtain ⟨hHello, hShedReq, hShedAck, hWidenReq, hWidenAck, hRefuse⟩ :=
    exec_lsx_taken (addr := addr) (arg := arg) (nonce := nonce) hup hp
  obtain ⟨-, -, -, -, -, hRefuse2⟩ := exec_lsx_taken (addr := addr) (arg := 2) (nonce := nonce) hup hp
  rw [hHello, hShedReq, hShedAck, hWidenReq, hWidenAck, hRefuse, hRefuse2]
  refine ⟨congrArg _ State.lsxHello_eq, fun h => ?_, fun hlead hsw => ⟨fun h => ?_, fun hlpm hpart hw hmin => ?_⟩, fun h => ?_,
    fun hreq hn ha => ?_, fun h => ?_, fun hreq hn => ?_, fun h => ?_, fun hsw ha hw => ⟨fun hlead => ?_,
      fun hlead => ?_, fun hreq hout => ?_, fun hout => ?_⟩⟩
  · rw [State.lsxShedReq_ignored h]
  · rw [State.lsxShedReq_refused hlead hsw h]
  · exact congrArg _ (State.lsxShedReq_accepted hlead hsw hlpm hpart hw hmin)
  · rw [State.lsxShedAck_ignored h]
  · exact congrArg _ (State.lsxShedAck_answers hreq hn ha)
  · rw [State.lsxRefuse_ignored h]
  · exact congrArg _ (State.lsxRefuse_ends hreq hn)
  · obtain ⟨hreq, hack⟩ := State.lsxWiden_ignored (nonce := nonce) h
    exact ⟨congrArg _ hreq, congrArg _ hack⟩
  · exact congrArg _ (State.lsxWidenReq_follower hsw ha hw hlead)
  · rw [State.lsxWidenReq_leader hsw ha hw hlead]
  · rw [State.lsxWidenAck_unawaited hreq hout]
  · exact congrArg _ (State.lsxWidenAck_switches hsw ha hw hout)

/-! # HELLO sent and missed, and the steps of a shed or a widening (R321 to R323, R326) -/

namespace Sys2Proof.Machine
section
variable {s : State} {n : Nat}

/-! ### HELLO (R321) -/

theorem exec_helloTimer_down (h : s.b EMAC_STAT_LINK_UP n = false) : exec (.helloTimer n) s = .next s := if_neg (by simp [h])

/-- The first HELLO of a link is due at once. -/
theorem exec_helloTimer_first (hup : s.b EMAC_STAT_LINK_UP n = true) (hfull : 0 < s.fullCode n) (hout : (s.emac n).helloOut = 0) :
    let t := s.lsxFrame n 1 (128 * b2n (s.b EMAC_LSX_LPM_EN n && !(s.emac n).lpmDead) + s.f EMAC_LSX_MIN_LANES n) s.nonce
    exec (.helloTimer n) s = .next (t.setEmac n { t.emac n with helloOut := s.now }).bump :=
  if_pos (by simp [hup, hfull, hout])

theorem exec_helloAbsence_heard (h : s.now < (s.emac n).helloIn + sec 3) : exec (.helloAbsence n) s = .next s :=
  if_neg (by simp [h])

theorem exec_helloAbsence_silent (hz : s.b EMAC_STAT_PARTNER_ZHOEM n = true) (h : (s.emac n).helloIn + sec 3 ≤ s.now) :
    exec (.helloAbsence n) s = .next ((s.setF EMAC_STAT_PARTNER_ZHOEM n 0 0).setF EMAC_STAT_LEADER n 0 0) :=
  if_pos (by simp [hz, h])

/-! ### Requests (R322, R323) -/

theorem exec_emacCmdWiden (ho : s.opens 0x40 n = true) : exec (.emacCmdWiden 0 n) s = .next (s.emacWiden n) :=
  congrArg _ (State.act_emac ho _)

theorem State.emacWiden_full (h : s.fullCode n ≤ s.f EMAC_STAT_LANES n) : s.emacWiden n = s := if_neg (by simp [Nat.not_lt.2 h])

theorem State.emacWiden_asks (hup : s.b EMAC_STAT_LINK_UP n = true) (hw : s.f EMAC_STAT_LANES n < s.fullCode n)
    (hsw : s.f EMAC_STAT_LSX_STATE n ≠ 2) (hreq : (s.emac n).req ≠ 4) :
    let t := s.lsxAsk n 4 (s.f EMAC_STAT_LANES n + 1)
    s.emacWiden n = t.setEmac n { t.emac n with widening := true } :=
  if_pos (by simp [hup, hw, hsw, hreq])

theorem exec_lsxWidenStart_full (h : s.fullCode n ≤ s.f EMAC_STAT_LANES n) : exec (.lsxWidenStart n) s = .next s := by
  simp [exec, execLsxWidenStart, State.emacWiden_full h]

/-- A port whose LPM_EN is 0 goes back to its full width (R323). -/
theorem exec_lsxWidenStart_off (h : s.b EMAC_LSX_LPM_EN n = false) : exec (.lsxWidenStart n) s = .next (s.emacWiden n) :=
  congrArg Host.Outcome.next (if_pos (by simp [h]))

section
variable (hwin : (s.emac n).win = s.utilWin)
include hwin

theorem exec_lsxShedStart_follower (h : s.b EMAC_STAT_LEADER n = false) : exec (.lsxShedStart n) s = .next s := by
  simp [exec, execLsxShedStart, State.utilRoll_current hwin, h]

/-- The leader of a pair that has been quiet for DWELL asks for the next narrower width (R322). -/
theorem exec_lsxShedStart_leader (hup : s.b EMAC_STAT_LINK_UP n = true) (hlead : s.b EMAC_STAT_LEADER n = true)
    (hlpm : s.lpmOn n = true) (hpart : (s.emac n).partnerLpm = true) (hw : 0 < s.f EMAC_STAT_LANES n)
    (hmin : s.f EMAC_LSX_MIN_LANES n < s.f EMAC_STAT_LANES n) (hpmin : (s.emac n).partnerMin < s.f EMAC_STAT_LANES n)
    (hsw : s.f EMAC_STAT_LSX_STATE n ≠ 2) (hreq : (s.emac n).req = 0) (hno : (s.emac n).noShed ≤ s.now)
    (hbusy : (s.emac n).busyAt + 65536 * 100000 * s.f EMAC_LSX_DWELL n ≤ s.now) :
    exec (.lsxShedStart n) s = .next (s.lsxAsk n 2 (s.f EMAC_STAT_LANES n - 1)) := by
  rw [← State.lsxDwell_eq] at hbusy
  simp [exec, execLsxShedStart, State.utilRoll_current hwin, hup, hlead, hlpm, hpart, hw, hmin, hpmin, hsw, hreq, hno, hbusy]

end

theorem exec_lsxAnswerTimeout_early (h : s.now < (s.emac n).reqAt + us 10) : exec (.lsxAnswerTimeout n) s = .next s :=
  if_neg (by simp [h])

/-- A shed request without an answer ends, and the pause of DWELL starts (R322). -/
theorem exec_lsxAnswerTimeout_due (hreq : (s.emac n).req = 2) (h : (s.emac n).reqAt + us 10 ≤ s.now) :
    exec (.lsxAnswerTimeout n) s =
      .next (s.setEmac n { s.emac n with req := 0, noShed := s.now + 65536 * 100000 * s.f EMAC_LSX_DWELL n }) := by
  rw [← State.lsxDwell_eq]
  exact if_pos (by simp [hreq, h])

/-! ### The switch and the realignment (Table 09-8, R326) -/

section
variable (hsw : s.f EMAC_STAT_LSX_STATE n ≠ 2)
include hsw

theorem State.realigning_not : s.realigning n = false := by simp [State.realigning, hsw]

theorem exec_lsxSwitch_not : exec (.lsxSwitch n) s = .next s := if_neg (by simp [hsw])

theorem exec_lsxRealigned_not : exec (.lsxRealigned n) s = .next s := if_neg (by simp [State.realigning_not hsw])

theorem exec_lsxRealignFail_not (hwid : (s.emac n).widening = false) : exec (.lsxRealignFail n) s = .next s :=
  if_neg (by simp [State.lsxLate, State.realigning_not hsw, hwid])

end

section
variable (hsw : s.f EMAC_STAT_LSX_STATE n = 2)
include hsw

/-- The target width comes into use between frames, once no answer waits (Table 09-8). -/
theorem exec_lsxSwitch (hfl : (s.emac n).flight = none) (hack : (s.emac n).ctl.any isLsxAck = false)
    (hw : s.f EMAC_STAT_LANES n ≠ (s.emac n).target) (hwin : (s.emac n).win = s.utilWin) :
    exec (.lsxSwitch n) s =
      .next ((s.setF EMAC_STAT_LANES n 0 (s.emac n).target).setEmac n { s.emac n with swAt := s.now, recent := [] }) := by
  have hready : (s.f EMAC_STAT_LSX_STATE n == 2 && (s.emac n).flight.isNone && !((s.emac n).ctl.any isLsxAck) &&
      s.f EMAC_STAT_LANES n != (s.emac n).target) = true := by simp [hsw, hfl, hack, hw]
  simp only [exec, execLsxSwitch, hready, State.utilRoll_current hwin, if_true]

theorem State.lsxLate_widen (hwid : (s.emac n).widening = true) : s.lsxLate n = decide ((s.emac n).reqAt + us 60 ≤ s.now) := by
  simp [State.lsxLate, hsw, hwid]

variable (hw : s.f EMAC_STAT_LANES n = (s.emac n).target)
include hw

theorem State.realigning_target : s.realigning n = true := by simp [State.realigning, hsw, hw]

/-- Realigned at full width a port is done (R323). -/
theorem exec_lsxRealigned_full (hfull : s.f EMAC_STAT_LANES n = s.fullCode n) :
    let t := (s.setF EMAC_STAT_LSX_STATE n 0 0).satF EMAC_CNT_LSX_COUNT n 0 1
    exec (.lsxRealigned n) s = .next (t.setEmac n { t.emac n with busyAt := t.now, widening := false }) := by
  simp [exec, execLsxRealigned, State.realigning_target hsw hw, hfull, b2n]

theorem State.lsxLate_shed (hwid : (s.emac n).widening = false) : s.lsxLate n = decide ((s.emac n).swAt + us 20 ≤ s.now) := by
  simp [State.lsxLate, State.realigning_target hsw hw, hwid]

end

theorem exec_lsxRealignFail_early (h : s.lsxLate n = false) : exec (.lsxRealignFail n) s = .next s := if_neg (by simp [h])

theorem exec_lsxRealignFail_late (h : s.lsxLate n = true) :
    let t := (s.emacDrop n).err EMAC_ERR_LSX_FAIL n
    exec (.lsxRealignFail n) s = .next (t.setEmac n { t.emac n with lpmDead := true }) := if_pos h

end
end Sys2Proof.Machine

open Sys2Proof Sys2Proof.Machine in
/-- Settles O38: each event is its case by its guard, and a realignment is late by the bound of a shed or of a widening. -/
theorem laneSheddingActions : Obligations.LaneSheddingActions := by
  unfold Obligations.LaneSheddingActions
  intro s n e w ask
  refine ⟨exec_helloTimer_down, exec_helloTimer_first, fun hz => ⟨exec_helloAbsence_heard, exec_helloAbsence_silent hz⟩,
    fun h => ⟨fun ho => ?_, exec_lsxWidenStart_full h⟩, fun hup hw hsw hreq => ?_,
    fun hwin => ⟨exec_lsxShedStart_follower hwin, exec_lsxShedStart_leader hwin⟩,
    fun hreq => ⟨exec_lsxAnswerTimeout_early, exec_lsxAnswerTimeout_due hreq⟩,
    fun hsw => ⟨exec_lsxSwitch_not hsw, exec_lsxRealigned_not hsw, exec_lsxRealignFail_not hsw⟩, exec_lsxSwitch,
    fun hsw hw => ⟨exec_lsxRealigned_full hsw hw, fun hwid => ⟨fun h => ?_, fun h => ?_⟩, fun hwid => ⟨fun h => ?_, fun h => ?_⟩⟩⟩
  · rw [exec_emacCmdWiden ho, State.emacWiden_full h]
  · have hasks := State.emacWiden_asks hup hw hsw hreq
    exact ⟨fun ho => (exec_emacCmdWiden ho).trans (congrArg _ hasks),
      fun hlpm => (exec_lsxWidenStart_off hlpm).trans (congrArg _ hasks)⟩
  · exact exec_lsxRealignFail_early ((State.lsxLate_shed hsw hw hwid).trans (decide_eq_false (Nat.not_le.2 h)))
  · exact exec_lsxRealignFail_late ((State.lsxLate_shed hsw hw hwid).trans (decide_eq_true h))
  · exact exec_lsxRealignFail_early ((State.lsxLate_widen hsw hwid).trans (decide_eq_false (Nat.not_le.2 h)))
  · exact exec_lsxRealignFail_late ((State.lsxLate_widen hsw hwid).trans (decide_eq_true h))

/-! # What the manager's commands on Ethernet pages reach, and frames on a link that is down (R63, R299) -/

namespace Sys2Proof.Machine
section
variable {s : State} {n : Nat}

/-- The manager's command acts on a page that it opens (R63). -/
theorem State.act_opens {blk u : Nat} {m : Bool} (ho : s.opens blk u = true) (k : State → State) : s.act 0 blk u m k = k s := by
  obtain ⟨hl, hr⟩ := State.opens_iff.1 ho
  exact State.act_manager k hl hr

theorem State.ownFrame_down (h : s.b EMAC_STAT_LINK_UP n = false) (k : State → State) : s.ownFrame n k = .next s :=
  congrArg Host.Outcome.next (if_pos (by simp [h]))

end
end Sys2Proof.Machine

/-! # PAUSE and PFC frames, and the pauses' timers (R344 to R347) -/

namespace Sys2Proof.Machine
section
variable {s : State} {n q v c t : Nat} {ts : List Nat}

/-! ### Frames received -/

theorem State.pauseIn_otherMode (h : s.f EFLT_FC_CTL_MODE n ≠ 1) : s.pauseIn n q = s.ctrlDrop n := if_pos (by simp [h])

/-- A PAUSE frame under PAUSE is for each of the eight classes (R344). -/
theorem State.pauseIn_pauseMode (h : s.f EFLT_FC_CTL_MODE n = 1) :
    s.pauseIn n q = if (s.ctrlTake n).b EFLT_FC_CTL_RX_EN n then (s.ctrlTake n).each 8 (fun s c => s.pauseClass n c q) else s.ctrlTake n :=
  if_neg (by simp [h])

theorem State.pfcIn_otherMode (h : s.f EFLT_FC_CTL_MODE n ≠ 2) : s.pfcIn n v ts = s.ctrlDrop n := if_pos (by simp [h])

section
variable (hmode : s.f EFLT_FC_CTL_MODE n = 2)
include hmode

theorem State.pfcIn_taken (h : (s.ctrlTake n).b EFLT_FC_CTL_RX_EN n = false) : s.pfcIn n v ts = s.ctrlTake n := by
  simp [State.pfcIn, hmode, h]

/-- A PFC frame under PFC is for the classes that its vector enables, each for its own time (R344). -/
theorem State.pfcIn_pauses (h : (s.ctrlTake n).b EFLT_FC_CTL_RX_EN n = true) :
    s.pfcIn n v ts = (s.ctrlTake n).each 8 fun s c => if bit v c then s.pauseClass n c (ts.getD c 0) else s := by
  simp [State.pfcIn, hmode, h]

end

theorem exec_pauseFrame : exec (.pauseFrame n q) s = s.ownFrame n fun s => s.pauseIn n (q % 2 ^ 16) := rfl

theorem exec_pfcFrame :
    exec (.pfcFrame n v ts) s = s.ownFrame n fun s => s.pfcIn n (v % 256) (ts.map fun t => t % 2 ^ 16) := rfl

/-! ### Timers -/

theorem exec_pauseTimerExpiry (hp : PMap.find (s.emac n).pauses c = some t) :
    exec (.pauseTimerExpiry n c) s = .next (if t ≤ s.now then s.pauseClass n c 0 else s) := by
  simp only [exec, execPauseTimerExpiry, hp]

theorem exec_pauseResend_early (h : s.f EFLT_FC_STAT_ASSERTED n = 0 ∨ s.now < (s.emac n).resendAt) :
    exec (.pauseResend n) s = .next s :=
  congrArg Host.Outcome.next (if_neg (by
    simp only [Bool.and_eq_true, bne_iff_ne, decide_eq_true_eq]
    omega))

theorem exec_pauseResend_due (ha : s.f EFLT_FC_STAT_ASSERTED n ≠ 0) (h : (s.emac n).resendAt ≤ s.now) :
    exec (.pauseResend n) s = .next (s.pauseSend n (s.f EFLT_FC_STAT_ASSERTED n) (s.f EFLT_FC_STAT_ASSERTED n)) :=
  congrArg Host.Outcome.next (if_pos (by simp [ha, h]))

end
end Sys2Proof.Machine

/-! # Re-keying, imbalance windows and drains (R341 to R343) -/

namespace Sys2Proof.Machine
section
variable {s : State} {n : Nat} {d : Drain}

theorem exec_estrCmdRekey (ho : s.opens 0x42 n = true) :
    exec (.estrCmdRekey 0 n) s = .next { s.setEmac n { s.emac n with rekey := true } with epochReq := true } :=
  congrArg Host.Outcome.next (State.act_opens ho _)

theorem exec_imbalanceWindow_early (h : s.now < (s.emac n).impAt + ms 100) : exec (.imbalanceWindow n) s = .next s :=
  if_neg (by simp [h])

theorem exec_imbalanceWindow_due (hl : s.live 0x42 n = true) (h : (s.emac n).impAt + ms 100 ≤ s.now) :
    exec (.imbalanceWindow n) s = .next (s.imbWindow n) :=
  if_pos (by simp [hl, h])

/-- A window without a byte is below every MIN but 0 (R342). -/
theorem State.imbWindow_silent (hs : (s.emac n).spread = []) (hmin : 0 < s.f ESTR_IMB_MIN n) :
    s.imbWindow n = s.setEmac n { s.emac n with spread := [], impAt := s.now } := by
  have htotal (qs : List Nat) : (qs.map fun q => PMap.get (s.emac n).spread q 0).sum = 0 := by
    simp [hs, PMap.get, PMap.find]
  have hbelow : 0 < s.f ESTR_IMB_MIN n * 1250000 := by omega
  exact if_pos (by simp only [htotal]; exact Bool.or_eq_true_iff.2 (.inl (decide_eq_true hbelow)))

theorem exec_steeringDrainEnd_none (hd : (s.emac n).drain = none) : exec (.steeringDrainEnd n) s = .next s := by
  simp only [exec, execSteeringDrainEnd, hd]

section
variable (hd : (s.emac n).drain = some d)
include hd

/-- A drain goes on while a frame or task from before the boundary is left, for 1 ms (R343). -/
theorem exec_steeringDrainEnd_early (h : s.now < d.at_ + ms 1) (hl : s.preLeft n = true) :
    exec (.steeringDrainEnd n) s = .next s := by
  simp [exec, execSteeringDrainEnd, hd, hl, h]

theorem exec_steeringDrainEnd_empty (hl : s.preLeft n = false) : exec (.steeringDrainEnd n) s = .next (s.drainEnd n) := by
  simp [exec, execSteeringDrainEnd, hd, hl]

end
end
end Sys2Proof.Machine

open Sys2Proof Sys2Proof.Machine in
/-- Settles O39: MODE and RX_EN decide what a frame does, and each timer, window and drain ends once its bound has passed. -/
theorem pausesAndRekeys : Obligations.PausesAndRekeys := by
  unfold Obligations.PausesAndRekeys
  intro s n e
  refine ⟨fun hdown q v ts => ⟨exec_pauseFrame.trans (State.ownFrame_down hdown _),
      exec_pfcFrame.trans (State.ownFrame_down hdown _)⟩,
    fun hup hp q v ts => ⟨exec_pauseFrame.trans (State.ownFrame_asleep hup hp _),
      exec_pfcFrame.trans (State.ownFrame_asleep hup hp _)⟩,
    fun hup hp q v ts hq => ?_, fun c t ht => ⟨fun h => ?_, fun h => ?_⟩, exec_pauseResend_early, exec_pauseResend_due,
    exec_estrCmdRekey, fun hl => ⟨exec_imbalanceWindow_early, fun h hs hmin => ?_, exec_imbalanceWindow_due hl⟩,
    exec_steeringDrainEnd_none, fun d hd => ⟨exec_steeringDrainEnd_early hd, exec_steeringDrainEnd_empty hd⟩⟩
  · rw [exec_pauseFrame, exec_pfcFrame, State.ownFrame_awake hup hp, State.ownFrame_awake hup hp, Nat.mod_eq_of_lt hq]
    exact ⟨fun h => congrArg _ (State.pauseIn_otherMode h), fun h => congrArg _ (State.pfcIn_otherMode h),
      fun h => congrArg _ (State.pauseIn_pauseMode h), fun h hrx => congrArg _ (State.pfcIn_taken h hrx),
      fun h hrx => congrArg _ (State.pfcIn_pauses h hrx)⟩
  · rw [exec_pauseTimerExpiry ht, if_neg (Nat.not_le.2 h)]
  · rw [exec_pauseTimerExpiry ht, if_pos h]
    rfl
  · rw [exec_imbalanceWindow_due hl h, State.imbWindow_silent hs hmin]

/-! # Commands on the steering banks (R338, R339) -/

namespace Sys2Proof.Machine
section
variable {s : State} {k b l : Nat} {r : List (BitVec 8)} {x : XErr}

/-! ### The start of a command -/

/-- Each write of ESTR_LOAD_CMD asks for the command of its bit. -/
theorem exec_estrLoadCmd {k : Nat × Instr} (ho : s.opens 0x42 96 = true)
    (hk : k ∈ [(1, Instr.estrLoadCmdClear 0), (2, Instr.estrLoadCmdCopy 0), (3, Instr.estrLoadCmdLoad 0)]) :
    exec k.2 s = .next (s.steerCmd k.1) := by
  have hact (j : Nat) : s.act 0 0x42 96 true (fun s => s.steerCmd j) = s.steerCmd j := State.act_opens ho _
  simp only [List.mem_cons, List.not_mem_nil, or_false] at hk
  rcases hk with rfl | rfl | rfl
  exacts [congrArg _ (hact 1), congrArg _ (hact 2), congrArg _ (hact 3)]

theorem State.steerCmd_running (h : s.b ESTR_LOAD_STAT_RUNNING 96 = true) : s.steerCmd k = s := if_pos h

section
variable (hrun : s.b ESTR_LOAD_STAT_RUNNING 96 = false)
include hrun

/-- While a port drains a command ends as BUSY (R338). -/
theorem State.steerCmd_busy (h : ((List.range 96).any fun n => s.b ESTR_STAT_DRAINING n) = true) :
    s.steerCmd k = s.setF ESTR_LOAD_STAT_RESULT 96 0 0x24 := by
  rw [State.steerCmd, if_neg (Bool.eq_false_iff.1 hrun), if_pos h]

theorem State.steerCmd_starts (h : ((List.range 96).any fun n => s.b ESTR_STAT_DRAINING n) = false) :
    s.steerCmd k = ((({ s with steer := { s.steer with cmd := k } } : State).setF ESTR_LOAD_STAT_RUNNING 96 0 1).setF
      ESTR_LOAD_STAT_UNPLACED 96 0 0).setF ESTR_LOAD_STAT_FIRST_BAD 96 0 0 := by
  rw [State.steerCmd, if_neg (Bool.eq_false_iff.1 hrun), if_neg (Bool.eq_false_iff.1 h)]

theorem exec_steeringCommandDone_idle : exec .steeringCommandDone s = .next s := if_pos (by simp [hrun])

end

/-! ### The end of a command -/

section
variable (hrun : s.b ESTR_LOAD_STAT_RUNNING 96 = true)
include hrun

theorem exec_steeringCommandDone_clear (hc : s.steer.cmd = 1) (he : s.b DEV_SERVICE_ENTROPY_READY = true) :
    exec .steeringCommandDone s = .next ((s.setInactive []).bump.steerEnd 0 0) := by
  simp [exec, execSteeringCommandDone, hrun, hc, he]

theorem exec_steeringCommandDone_copy (hc : s.steer.cmd = 2) :
    exec .steeringCommandDone s = .next ((s.setInactive (s.bank (s.f ESTR_BANK_SEL_ACTIVE 96))).steerEnd 0 0) := by
  simp [exec, execSteeringCommandDone, hrun, hc]

theorem exec_steeringCommandDone_load (hc : s.steer.cmd = 3) :
    exec .steeringCommandDone s = .next ((s.setF ESTR_LOAD_STAT_UNPLACED 96 0 0).steerLoad 0 (s.f ESTR_LOAD_LEN_LEN 96)) := by
  simp [exec, execSteeringCommandDone, hrun, hc]

end

/-! ### Loading records -/

theorem State.steerLoad_fault (h : s.readV 0 (s.f ESTR_LOAD_ADDR_ADDR 96 + 48 * k) 48 = .error x) (hx : x.reason ≠ 0) :
    s.steerLoad k (l + 1) = (s.useUp 0 x).steerEnd 0x20 k := by
  simp [State.steerLoad, h, hx]

section
variable (hread : s.readV 0 (s.f ESTR_LOAD_ADDR_ADDR 96 + 48 * k) 48 = .ok r)
include hread

theorem State.steerLoad_bad (h : steerBad r = true) : s.steerLoad k (l + 1) = s.steerEnd 0x11 k := by
  simp [State.steerLoad, hread, h]

theorem State.steerLoad_sound (h : steerBad r = false) : s.steerLoad k (l + 1) = (s.steerApply r).steerLoad (k + 1) l := by
  simp [State.steerLoad, hread, h]

end
end
end Sys2Proof.Machine

/-! # Wake stores (R354) -/

namespace Sys2Proof.Machine
section
variable {s : State} {n : Nat} {bs : List (BitVec 8)} {x : XErr}

theorem exec_efltWakeCmdLoad (ho : s.opens 0x41 n = true) :
    exec (.efltWakeCmdLoad 0 n) s = .next (s.setEmac n { s.emac n with wakeLoad := true }) :=
  congrArg Host.Outcome.next (State.act_opens ho _)

theorem exec_wakeLoadDone_none (h : (s.emac n).wakeLoad = false) : exec (.wakeLoadDone n) s = .next s := if_pos (by simp [h])

section
variable (hload : (s.emac n).wakeLoad = true)
include hload

/-- A store that reads holds 32 records of 160 bytes (R354). -/
theorem exec_wakeLoadDone_read (h : s.readV (s.emacOwner n) (s.f EFLT_WAKE_BASE_ADDR n) 5120 = .ok bs) :
    exec (.wakeLoadDone n) s = .next (((s.setEmac n { s.emac n with
      wakeLoad := false, wake := (List.range 32).map fun i => (bs.drop (160 * i)).take 160 }).setF
        EFLT_WAKE_STAT_LOADED n 0 1).setF EFLT_WAKE_STAT_LOAD_RESULT n 0 0) := by
  simp [exec, execWakeLoadDone, hload, h]

theorem exec_wakeLoadDone_fault (h : s.readV (s.emacOwner n) (s.f EFLT_WAKE_BASE_ADDR n) 5120 = .error x) (hx : x.reason ≠ 0) :
    let t := s.useUp (s.emacOwner n) x
    exec (.wakeLoadDone n) s = .next ((((t.setEmac n { t.emac n with wakeLoad := false, wake := [] }).setF
      EFLT_WAKE_STAT_LOADED n 0 0).setF EFLT_WAKE_STAT_LOAD_RESULT n 0 0x20).err EFLT_ERR_WAKE_LOAD_FAIL n) := by
  simp [exec, execWakeLoadDone, hload, h, hx]

end
end
end Sys2Proof.Machine

/-! # MACsec keys (R359) -/

namespace Sys2Proof.Machine

/-- The association that MSEC_KEY_CMD names by DIR, SC and AN. -/
def saIndex (v : Nat) : Nat := 16 * bits v 1 1 + 4 * bits v 2 2 + bits v 4 2

/-- The association that the staging registers of port `n` hold. -/
def State.stagedSec (s : State) (n : Nat) : SecAssoc :=
  { key := (List.range 4).foldl (fun x i => x + s.f MSEC_KEY_SAK_KEY n i * 2 ^ (64 * i)) 0
    salt := s.f MSEC_KEY_SALT_SALT n
    ssci := s.f MSEC_KEY_SSCI_SSCI n
    low := s.f MSEC_KEY_PN_PN n }

/-- `s` once association `k` of port `n` has taken what is staged and is KEYED (R359). -/
def State.secKeyed (s : State) (n k : Nat) : State :=
  let t := (s.setSec n k (s.stagedSec n)).setF MSEC_SA_PN_PN n k (s.f MSEC_KEY_PN_PN n)
  t.setF MSEC_SA_KEYED_KEYED n 0 (setBit (t.f MSEC_SA_KEYED_KEYED n) k)

section
variable {s : State} {n v : Nat}

/-- The words of the staged key, the lowest first, stated for any base: the kernel is not to compute with 2¹⁹². -/
theorem stagedKey_words (base : Nat) (w : Nat → Nat) :
    (List.range 4).foldl (fun x i => x + w i * base ^ (64 * i)) 0 =
      w 0 + w 1 * base ^ 64 + w 2 * base ^ 128 + w 3 * base ^ 192 := by
  simp [List.range_succ]

theorem State.stagedSec_eq : s.stagedSec n =
    { key := s.f MSEC_KEY_SAK_KEY n 0 + s.f MSEC_KEY_SAK_KEY n 1 * 2 ^ 64 + s.f MSEC_KEY_SAK_KEY n 2 * 2 ^ 128 +
        s.f MSEC_KEY_SAK_KEY n 3 * 2 ^ 192
      salt := s.f MSEC_KEY_SALT_SALT n
      ssci := s.f MSEC_KEY_SSCI_SSCI n
      low := s.f MSEC_KEY_PN_PN n } := by
  rw [State.stagedSec, stagedKey_words 2 fun i => s.f MSEC_KEY_SAK_KEY n i]

theorem exec_msecKeyCmdLoad (ho : s.opens 0x44 n = true) :
    exec (.msecKeyCmdLoad 0 n v) s = .next (if bit v 0 then s.msecLoad n v else s) :=
  congrArg Host.Outcome.next (State.act_opens ho _)

/-- An association in use keeps its key, and the staging registers are cleared all the same (R359). -/
theorem State.msecLoad_busy (h : bit (s.f MSEC_SA_USE_IN_USE n) (saIndex v) = true) :
    s.msecLoad n v = (s.msecClear n).err MSEC_ERR_KEY_BUSY n := if_pos h

theorem State.msecLoad_keyed (h : bit (s.f MSEC_SA_USE_IN_USE n) (saIndex v) = false) :
    let t := s.secKeyed n (saIndex v)
    s.msecLoad n v = (if saIndex v < 16 then
      t.setF MSEC_TX_EXH_EXHAUSTED n 0 (clrBit (t.f MSEC_TX_EXH_EXHAUSTED n) (saIndex v)) else t).msecClear n :=
  if_neg (Bool.eq_false_iff.1 h)

end
end Sys2Proof.Machine

open Sys2Proof Sys2Proof.Machine in
/-- Settles O40: a command starts where none runs and no port drains, and each end is the case that its read, record or association
decides. -/
theorem steeringWakeAndKeys : Obligations.SteeringWakeAndKeys := by
  unfold Obligations.SteeringWakeAndKeys
  refine ⟨fun s ho k hk => ?_, fun s => ⟨exec_steeringCommandDone_idle, fun hrun => ?_⟩, fun s n v => ?_⟩
  · rw [exec_estrLoadCmd ho hk]
    exact ⟨fun hrun => congrArg _ (State.steerCmd_running hrun), fun hrun =>
      ⟨fun h => congrArg _ (State.steerCmd_busy hrun h), fun h => congrArg _ (State.steerCmd_starts hrun h)⟩⟩
  · intro fin
    refine ⟨exec_steeringCommandDone_clear hrun, exec_steeringCommandDone_copy hrun, fun hc => ?_⟩
    rw [exec_steeringCommandDone_load hrun hc]
    intro s1
    refine ⟨fun h => ?_, fun r h hread => ?_, fun x l h hread hx => ?_⟩
    · rw [h]
      rfl
    · rw [h]
      exact ⟨fun hbad => congrArg _ (State.steerLoad_bad hread hbad), fun hok => congrArg _ (State.steerLoad_sound hread hok)⟩
    · rw [h]
      exact congrArg _ (State.steerLoad_fault hread hx)
  · refine ⟨exec_efltWakeCmdLoad, exec_wakeLoadDone_none,
      fun hload => ⟨fun bs => exec_wakeLoadDone_read hload, fun x => exec_wakeLoadDone_fault hload⟩, fun ho => ?_⟩
    rw [exec_msecKeyCmdLoad ho]
    refine ⟨fun hv => ?_, fun hv h => ?_, fun hv h => ?_⟩
    · rw [if_neg (Bool.eq_false_iff.1 hv)]
    · rw [if_pos hv, State.msecLoad_busy h]
      rfl
    · rw [if_pos hv, State.msecLoad_keyed h, State.secKeyed, State.stagedSec_eq]
      rfl

/-! # The step, and the state after reset (R33, R587) -/

open Sys2Proof.Machine in
/-- Settles O1: with a command at the front of the queue a step is that command. -/
theorem stepRunsFrontCommand : Obligations.StepRunsFrontCommand := by
  unfold Obligations.StepRunsFrontCommand
  exact step_front

namespace Sys2Proof.Machine

/-- Time moves the elapsed time on by what passes; what follows from it at the new instant touches neither it nor the queue. -/
theorem State.elapse_clock {s : State} {d : Nat} : (s.elapse d).pending = s.pending ∧ (s.elapse d).now = s.now + d := by
  unfold State.elapse
  extract_lets before s₁ s₂ s₃
  have h₁ : Keeps s s₁ := Keeps.refl.when fun h => h.runTime
  have h₃ : Keeps s₂ s₃ := Keeps.refl.cycles.slots.pausePeriods.msixCount
  have h : Keeps s₂ ((s₃.thermCount before).idleReset before).chainTick.kpbFlow.paceQueues :=
    h₃.thermCount.idleReset.chainTick.kpbFlow.paceQueues
  exact ⟨h.pending.trans h₁.pending, h.now.trans (congrArg (· + d) h₁.now)⟩

/-- At reset no register is listed, so each reads as its table gives it. -/
theorem State.f_reset {F : Fld} {u i : Nat} : State.reset.f F u i = fldReset F u i := rfl

end Sys2Proof.Machine

open Sys2Proof.Machine in
/-- Settles O2: on an empty queue a step is a tick of one nanosecond. -/
theorem idleStepPassesOneNanosecond : Obligations.IdleStepPassesOneNanosecond := by
  unfold Obligations.IdleStepPassesOneNanosecond
  intro s hs
  obtain ⟨hq, hn⟩ := State.elapse_clock (s := s) (d := ns 1)
  exact ⟨s.tick, step_idle s hs, hq.trans hs, hn⟩

open Sys2Proof.Machine in
/-- Settles O3: nothing is listed at reset. -/
theorem resetState : Obligations.ResetState := by
  unfold Obligations.ResetState
  exact ⟨rfl, rfl, rfl, fun _ _ _ => State.f_reset, State.f_reset⟩

/-! # Refused accesses of an instance (R68, R460) -/

namespace Sys2Proof.Machine
section
variable {s : State} {fn off : Nat} {w : Bool}

/-- Slots 6 to 15 of an instance's BAR0 show nothing (Table 02-5). -/
theorem State.reachInst_reservedSlot (hlo : 0x6000 ≤ off) (hhi : off < 0x10000) : s.reachInst fn off = .refused := by
  have h6 : 6 ≤ off / 4096 := by omega
  have h16 : off / 4096 < 16 := by omega
  have hne : ∀ k < 6, (off / 4096 == k) = false := fun k hk => by simp; omega
  simp only [State.reachInst, hne 0 (by decide), hne 1 (by decide), hne 2 (by decide), hne 3 (by decide), hne 4 (by decide),
    hne 5 (by decide), Bool.false_eq_true, if_false, if_pos h16, ite_self]

theorem State.refuses_reservedSlot (h1 : 1 ≤ fn) (hlo : 0x6000 ≤ off) (hhi : off < 0x10000) : s.refuses fn off = true := by
  have hfn : fn ≠ 0 := by omega
  simp [State.refuses, State.reach, hfn, State.reachInst_reservedSlot hlo hhi]

/-- A refused access is counted, and a read waits for its fixed time (R460). -/
theorem exec_instanceRefusedAccess_refused (h1 : 1 ≤ fn) (hin : inBar fn off = true) (hs : s.serves 0 = true)
    (href : s.refuses fn off = true) :
    exec (.instanceRefusedAccess fn off w) s = .next (if w then s.refuse fn else (s.refuse fn).refuseLater fn 1 0) := by
  have hfn : fn ≠ 0 := by omega
  simp [exec, execInstanceRefusedAccess, hin, hfn, hs, href]

theorem inBar_beyond (h : 64 < fn) : inBar fn off = false := by
  simp [inBar, h]

/-- A waiting read is the refusal at the front of its function's (R460). -/
theorem exec_refusalDone_read {r : Refused} {rs : List Refused} (h : s.refusals = r :: rs) (hk : r.kind = 1) :
    exec (.refusalDone r.fn) s =
      .next (if r.arrivedAt + 2 * 65536000 ≤ s.now then { s with refusals := rs, rdata := 0 } else s) := by
  simp [exec, execRefusalDone, State.refusalEnd, h, hk, us]

end
end Sys2Proof.Machine

open Sys2Proof Sys2Proof.Machine in
/-- Settles O14: the reserved slots refuse, a refused read waits its turn, and beyond function 64 there is no BAR0. -/
theorem refusedAccess : Obligations.RefusedAccess := by
  unfold Obligations.RefusedAccess
  refine ⟨fun s fn off h1 h64 hlo hhi hs _ => ?_, fun s r rs => exec_refusalDone_read,
    fun s fn off w h => instanceRefusedAccess_outside (inBar_beyond h)⟩
  have hin : inBar fn off = true := by
    have hfn : fn ≠ 0 := by omega
    simp only [inBar, beq_iff_eq, hfn, if_false, Bool.and_eq_true, decide_eq_true_eq]
    omega
  have href := State.refuses_reservedSlot (s := s) h1 hlo hhi
  exact ⟨exec_instanceRefusedAccess_refused h1 hin hs href, exec_instanceRefusedAccess_refused h1 hin hs href, s.refuse_count fn⟩

/-! # ALU and immediate instructions (R391 to R394) -/

namespace Sys2Proof.Machine
section
variable {s u : State} {t x : Task} {w : Nat}

theorem b2n_decide {p : Prop} [Decidable p] : b2n (decide p) = if p then 1 else 0 := by
  by_cases h : p <;> simp [b2n, h]

/-- The low bits of a word. -/
theorem bits_low {n : Nat} : bits w 0 n = w % 2 ^ n := by simp [bits]

/-- An instruction with a result in rd retires with it. -/
theorem State.tiller_result {is : Nat → Bool} {body : State → Task → Nat → Ans} {v : Nat} (hr : s.runsWord t w = true)
    (hw : is w = true) (hb : body (s.issued t w) t w = result u t w v) :
    s.tiller t.sheaf t.seq is body = u.retires t (t.ctx.setG (iRd w) v) :=
  State.tiller_next hr hw hb

/-- An ALU instruction writes its result to rd (R394). -/
theorem State.alu_result {fn : Nat} {f : Nat → Nat → Nat} {v : Nat} (hr : s.runsWord t w = true) (hw : insn w = fn)
    (hv : f (t.ctx.g (iRa w)) (t.ctx.g (iRb w)) = v) :
    (.next (s.alu t.sheaf t.seq fn f) : Res) = .next ((s.issued t w).retires t (t.ctx.setG (iRd w) v)) :=
  congrArg _ (State.tiller_result hr (beq_iff_eq.2 hw) (hv ▸ rfl))

/-- An immediate instruction writes its result to rd (R393). -/
theorem State.imm_result {op : Nat} {f : Nat → Nat → Nat} {v : Nat} (hr : s.runsWord t w = true) (hw : insn w = 0x4000 + op)
    (hv : f (t.ctx.g (iRa w)) w = v) :
    (.next (s.imm t.sheaf t.seq op f) : Res) = .next ((s.issued t w).retires t (t.ctx.setG (iRd w) v)) :=
  congrArg _ (State.tiller_result hr (beq_iff_eq.2 hw) (hv ▸ rfl))

end

section
variable {w i : Nat}

/-- A 16-bit number sign-extended to 64 bits. -/
def simm16 (i : Nat) : Nat := if 2 ^ 15 ≤ i then 2 ^ 64 - 2 ^ 16 + i else i

theorem unsgn_sgn16 (h : i < 2 ^ 16) : unsgn (sgn i 16) 64 = simm16 i := by
  simp only [unsgn, sgn, simm16]
  split <;> split <;> omega

/-- The immediate of a word, sign-extended (R393). -/
theorem iSimm_eq : iSimm w = simm16 (w % 2 ^ 16) := by
  rw [iSimm, iImm, bits_low, unsgn_sgn16 (Nat.mod_lt _ (by decide))]

/-- Sign extension keeps the value that it is signed to. -/
theorem s64_simm16 (h : i < 2 ^ 16) : s64 (simm16 i) = sgn i 16 := by
  simp only [s64, sgn, simm16]
  split <;> split <;> split <;> omega

end
end Sys2Proof.Machine

open Sys2Proof Sys2Proof.Machine in
/-- Settles O42: each ALU instruction is its function of ra and rb; the comparisons are numbers, and MAX, MINU and MAXU the greater and the
smaller. -/
theorem tillerAlu : Obligations.TillerAlu := by
  unfold Obligations.TillerAlu
  intro s t w hr a b put h q
  have hmax : (if s64 a < s64 b then b else a) = if s64 b ≤ s64 a then a else b := by
    by_cases hab : s64 a < s64 b
    · rw [if_pos hab, if_neg (Int.not_le.2 hab)]
    · rw [if_neg hab, if_pos (Int.not_lt.1 hab)]
  have hminu : min a b = if a < b then a else b := by split <;> omega
  have hmaxu : max a b = if b < a then a else b := by split <;> omega
  exact ⟨(State.alu_result hr · rfl), (State.alu_result hr · rfl), (State.alu_result hr · rfl), (State.alu_result hr · rfl),
    (State.alu_result hr · rfl), (State.alu_result hr · rfl), (State.alu_result hr · b2n_decide), (State.alu_result hr · b2n_decide),
    (State.alu_result hr · rfl), (State.alu_result hr · rfl), (State.alu_result hr · rfl), (State.alu_result hr · rfl),
    (State.alu_result hr · rfl), (State.alu_result hr · rfl), (State.alu_result hr · rfl), (State.alu_result hr · hmax),
    (State.alu_result hr · hminu), (State.alu_result hr · hmaxu), (State.alu_result hr · rfl), (State.alu_result hr · rfl),
    (State.alu_result hr · rfl)⟩

open Sys2Proof Sys2Proof.Machine in
/-- Settles O43: each immediate instruction is its function of ra and the immediate, sign-extended where the table says so. -/
theorem tillerImmediates : Obligations.TillerImmediates := by
  unfold Obligations.TillerImmediates
  intro s t w hr a i x put h q
  have hi : iImm w = i := bits_low
  have hx : iSimm w = x := iSimm_eq
  have hsx : s64 x = sgn i 16 := s64_simm16 (Nat.mod_lt _ (by decide))
  have hsh : bits w 0 6 = w % 64 := bits_low
  have shfi {fn : Nat} {f : Nat → Nat → Nat} (hw : insn w = fn) : (.next (s.tiller h q (fun w => insn w == fn) fun s t w =>
      result s t w (f (t.ctx.g (iRa w)) (bits w 0 6))) : Res) = put (f a (w % 64)) :=
    congrArg _ (State.tiller_result hr (beq_iff_eq.2 hw) (hsh ▸ rfl))
  refine ⟨(State.imm_result hr · (hx ▸ rfl)), (State.imm_result hr · (hi ▸ rfl)), (State.imm_result hr · (hi ▸ rfl)),
    (State.imm_result hr · (hi ▸ rfl)), (State.imm_result hr · ?_), (State.imm_result hr · ?_),
    (State.imm_result hr · (hx ▸ rfl)), (State.imm_result hr · (hi ▸ rfl)), shfi (f := fun a n => a * 2 ^ n),
    shfi (f := fun a n => a / 2 ^ n), shfi (f := sra64), shfi (f := ror64)⟩
  · rw [hsx, ← hi]
    exact b2n_decide
  · rw [← hx]
    exact b2n_decide

/-! # Loads and stores (R395 to R397, R406) -/

namespace Sys2Proof.Machine
section
variable {s : State} {t : Task} {w : Nat}

theorem length_leBytes {n x : Nat} : (leBytes n x).length = n := by
  induction n generalizing x with
  | zero => rfl
  | succ n ih => simp [leBytes, ih]

theorem State.length_winLoad {off n : Nat} : (s.winLoad t off n).length = n := by simp [State.winLoad]

section
variable {α : Type} {b : Bool} {x y : α}

/-! The three tests of a truth value that the model's guards make. -/

theorem if_of_false (h : b = false) : (if b then x else y) = y := if_neg (by simp [h])

theorem if_not_of_true (h : b = true) : (if !b then x else y) = y := if_neg (by simp [h])

theorem if_not_of_false (h : b = false) : (if !b then x else y) = x := if_pos (by simp [h])

end

/-- An instruction that waits leaves the state as it is. -/
theorem State.tiller_wait {is : Nat → Bool} {body : State → Task → Nat → Ans} (hr : s.runsWord t w = true) (hw : is w = true)
    (hb : body (s.issued t w) t w = .wait) : s.tiller t.sheaf t.seq is body = s := by
  rw [State.tiller_runs hr is body hw, hb]

/-- An access has at most 8 bytes (R395). -/
theorem accBytes_le : accBytes w ≤ 8 := by
  have h : bits w 14 2 ≤ 3 := Nat.le_of_lt_succ (Nat.mod_lt _ (by decide))
  exact Nat.pow_le_pow_right (by decide) h

/-- A store that translates is held with its places (R397); its data cost whole units of 16 bytes (R379). -/
theorem State.holdStore_held {va k : Nat} {b : List (BitVec 8)} {p : List (Nat × Option Nat × Nat)} (hu : t.unresolved = false)
    (hp : s.placesOf t.inst va b.length = .ok p) (hk : cdiv (if b.length ≤ 8 then 16 else b.length) 16 * 16 = k)
    (hc : t.cost + 16 + k ≤ 8192) :
    s.holdStore t va b = .next s.bump { t with held := t.held ++ [.store va b p false], cost := t.cost + 16 + k } := by
  subst hk
  simp only [State.holdStore, hu, Bool.false_eq_true, if_false, hp, State.hold_, if_neg (Nat.not_lt.2 hc)]

section
variable (hr : s.runsWord t w = true)
include hr

/-! ### The window -/

section
variable {off : Nat} (ho : (t.ctx.g (iRa w) + bits w 0 12) % 2 ^ 64 = off)
include ho

theorem exec_ldl_local (hw : insn w = 0x4010) (h : t.winOk off (accBytes w) (accBytes w) false = false) :
    exec (.ldl t.sheaf t.seq) s = .next ((s.issued t w).except t 4 0) := by
  subst ho
  exact congrArg Host.Outcome.next (State.tiller_exc hr (beq_iff_eq.2 hw) (if_not_of_false h))

theorem exec_ldl_waits (hw : insn w = 0x4010) (h : t.winOk off (accBytes w) (accBytes w) false = true)
    (hm : (s.issued t w).mustWait t off (accBytes w) false = true) : exec (.ldl t.sheaf t.seq) s = .next s := by
  subst ho
  exact congrArg Host.Outcome.next (State.tiller_wait hr (beq_iff_eq.2 hw) ((if_not_of_true h).trans (if_pos hm)))

theorem exec_ldl_loads (hw : insn w = 0x4010) (h : t.winOk off (accBytes w) (accBytes w) false = true)
    (hm : (s.issued t w).mustWait t off (accBytes w) false = false) : exec (.ldl t.sheaf t.seq) s =
      .next ((s.issued t w).bump.retires t
        (t.ctx.setG (iRd w) (extend w (leNat ((s.issued t w).winLoad t off (accBytes w)))))) := by
  subst ho
  exact congrArg Host.Outcome.next
    (State.tiller_result hr (beq_iff_eq.2 hw) ((if_not_of_true h).trans (if_of_false hm)))

theorem exec_stl_local (hw : insn w = 0x4011) (h : t.winOk off (accBytes w) (accBytes w) true = false) :
    exec (.stl t.sheaf t.seq) s = .next ((s.issued t w).except t 4 0) := by
  subst ho
  exact congrArg Host.Outcome.next (State.tiller_exc hr (beq_iff_eq.2 hw) (if_not_of_false h))

theorem exec_stl_stores (hw : insn w = 0x4011) (h : t.winOk off (accBytes w) (accBytes w) true = true)
    (hm : (s.issued t w).mustWait t off (accBytes w) true = false) : exec (.stl t.sheaf t.seq) s =
      .next ((s.issued t w).retires { t with win := overlay t.win off (leBytes (accBytes w) (t.ctx.g (iRd w))) } t.ctx) := by
  subst ho
  exact congrArg Host.Outcome.next
    (State.tiller_next hr (beq_iff_eq.2 hw) ((if_not_of_true h).trans (if_of_false hm)))

end

/-! ### The address space of the task's instance -/

section
variable {a : Nat} (ha : extAddr t w = a)
include ha

omit ha in
theorem exec_ldx_mode (hw : insn w = 0x4012) (hs : t.ctx.strm = true) :
    exec (.ldx t.sheaf t.seq) s = .next ((s.issued t w).except t 3 0) :=
  congrArg Host.Outcome.next (State.tiller_exc hr (beq_iff_eq.2 hw) (if_pos hs))

theorem exec_ldx_align (hw : insn w = 0x4012) (hs : t.ctx.strm = false) (hal : a % accBytes w ≠ 0) :
    exec (.ldx t.sheaf t.seq) s = .next ((s.issued t w).except t 5 0) := by
  subst ha
  exact congrArg Host.Outcome.next
    (State.tiller_exc hr (beq_iff_eq.2 hw) ((if_of_false hs).trans (if_pos (bne_iff_ne.2 hal))))

theorem exec_ldx_loads {bs : List (BitVec 8)} (hw : insn w = 0x4012) (hs : t.ctx.strm = false) (hal : a % accBytes w = 0)
    (hu : t.unresolved = false) (hb : (s.issued t w).readV t.inst a (accBytes w) = .ok bs) : exec (.ldx t.sheaf t.seq) s =
      .next ((s.issued t w).bump.retires t (t.ctx.setG (iRd w) (extend w (leNat bs)))) := by
  subst ha
  exact congrArg Host.Outcome.next (State.tiller_result hr (beq_iff_eq.2 hw) (by simp [hs, hal, hu, hb]))

theorem exec_stx_align (hw : insn w = 0x4013) (hal : a % accBytes w ≠ 0) :
    exec (.stx t.sheaf t.seq) s = .next ((s.issued t w).except t 5 0) := by
  subst ha
  exact congrArg Host.Outcome.next (State.tiller_exc hr (beq_iff_eq.2 hw) (if_pos (bne_iff_ne.2 hal)))

theorem exec_stx_holds {p : List (Nat × Option Nat × Nat)} (hw : insn w = 0x4013) (hal : a % accBytes w = 0)
    (hu : t.unresolved = false) (hp : (s.issued t w).placesOf t.inst a (accBytes w) = .ok p) (hc : t.cost + 32 ≤ 8192) :
    exec (.stx t.sheaf t.seq) s = .next ((s.issued t w).bump.retires { t with
      held := t.held ++ [.store a (leBytes (accBytes w) (t.ctx.g (iRd w))) p false], cost := t.cost + 16 + 16 } t.ctx) := by
  subst ha
  refine congrArg Host.Outcome.next (State.tiller_next hr (beq_iff_eq.2 hw)
    ((if_neg (by simp [hal])).trans (State.holdStore_held hu ?_ ?_ hc)))
  · rw [length_leBytes]
    exact hp
  · rw [length_leBytes, if_pos accBytes_le]
    rfl

end

section
variable {m : Nat} (hw : insn w = 0x4014) (hm : 16 * (bits w 0 2 + 1) = m)
include hw hm

omit hm in
theorem exec_stxw_align (hal : t.ctx.g (iRa w) % 16 ≠ 0) :
    exec (.stxw t.sheaf t.seq) s = .next ((s.issued t w).except t 5 0) :=
  congrArg Host.Outcome.next (State.tiller_exc hr (beq_iff_eq.2 hw) (if_pos (bne_iff_ne.2 hal)))

theorem exec_stxw_holds {p : List (Nat × Option Nat × Nat)} (hal : t.ctx.g (iRa w) % 16 = 0)
    (hwin : t.winOk (t.ctx.g (iRd w)) m 16 false = true) (hwait : (s.issued t w).mustWait t (t.ctx.g (iRd w)) m false = false)
    (hu : t.unresolved = false) (hp : (s.issued t w).placesOf t.inst (t.ctx.g (iRa w)) m = .ok p) (hc : t.cost + 16 + m ≤ 8192) :
    exec (.stxw t.sheaf t.seq) s = .next ((s.issued t w).bump.retires { t with
      held := t.held ++ [.store (t.ctx.g (iRa w)) ((s.issued t w).winLoad t (t.ctx.g (iRd w)) m) p false],
      cost := t.cost + 16 + m } t.ctx) := by
  have hunit : cdiv m 16 * 16 = m := by rw [← hm, cdiv]; omega
  have hbig : ¬ m ≤ 8 := by omega
  subst hm
  refine congrArg Host.Outcome.next (State.tiller_next hr (beq_iff_eq.2 hw) (((if_neg (by simp [hal])).trans
    ((if_not_of_true hwin).trans (if_of_false hwait))).trans (State.holdStore_held hu ?_ ?_ hc)))
  · rw [State.length_winLoad]
    exact hp
  · rw [State.length_winLoad, if_neg hbig]
    exact hunit

end
end
end
end Sys2Proof.Machine

open Sys2Proof Sys2Proof.Machine in
/-- Settles O44: the guards of a load or store decide the answer of its body, and a task that runs the word goes on with that answer. -/
theorem tillerMemory : Obligations.TillerMemory := by
  unfold Obligations.TillerMemory
  intro s t w hr s1 off a n put hold h q
  have ho : (t.ctx.g (iRa w) + bits w 0 12) % 2 ^ 64 = off := by rw [bits_low]
  have ha : extAddr t w = a := by rw [extAddr, bits_low]
  have hm : 16 * (bits w 0 2 + 1) = 16 * (w % 4 + 1) := by rw [bits_low]; rfl
  exact ⟨fun hw => ⟨exec_ldl_local hr ho hw, exec_ldl_waits hr ho hw, exec_ldl_loads hr ho hw⟩,
    fun hw => ⟨exec_stl_local hr ho hw, exec_stl_stores hr ho hw⟩,
    fun hw => ⟨exec_ldx_mode hr hw, exec_ldx_align hr ha hw, fun _ => exec_ldx_loads hr ha hw⟩,
    fun hw => ⟨exec_stx_align hr ha hw, fun _ => exec_stx_holds hr ha hw⟩,
    fun hw => ⟨exec_stxw_align hr hw, fun _ => exec_stxw_holds hr hw hm⟩⟩

/-! # Branches and jumps (R399, R400, R403) -/

namespace Sys2Proof.Machine
section
variable {s u : State} {t x : Task} {w : Nat}

/-- A branch leaves its delay slot to execute. -/
theorem State.tiller_branch {is : Nat → Bool} {body : State → Task → Nat → Ans} {target : Nat} {leave : Bool}
    (hr : s.runsWord t w = true) (hw : is w = true) (hb : body (s.issued t w) t w = .branch u x target leave) :
    s.tiller t.sheaf t.seq is body = u.branches x target leave := by
  rw [State.tiller_runs hr is body hw, hb]

/-- A conditional branch goes to its target or on after the delay slot (R399). -/
theorem State.condBranch_goes {op : Nat} {p : Nat → Nat → Bool} {c : Prop} [Decidable c] (hr : s.runsWord t w = true)
    (hw : insn w = 0x4000 + op) (hp : p (t.ctx.g (bits w 21 5)) (t.ctx.g (bits w 16 5)) = true ↔ c) :
    (.next (s.condBranch t.sheaf t.seq op p) : Res) =
      .next (if c then (s.issued t w).branches t (addr64 (t.ctx.pc + 4) (4 * sgn (w % 2 ^ 16) 16)) true
        else (s.issued t w).branches t (t.ctx.pc + 8) false) := by
  rw [← bits_low]
  by_cases h : c
  · rw [if_pos h]
    exact congrArg _ (State.tiller_branch hr (beq_iff_eq.2 hw) (if_pos (hp.2 h)))
  · rw [if_neg h]
    exact congrArg _ (State.tiller_branch hr (beq_iff_eq.2 hw) (if_neg (mt hp.1 h)))

theorem jTarget_eq {pc : Nat} : jTarget pc w = addr64 (pc + 4) (4 * sgn (w % 2 ^ 26) 26) := by rw [jTarget, bits_low]

/-- A jump by register to no multiple of 4 raises ALIGN, another leaves its delay slot to execute (R399). -/
theorem State.jumpReg {is : Nat → Bool} {leave : Bool} {link : Task → Nat → Task} (hr : s.runsWord t w = true) (hw : is w = true) :
    let o : Res := .next (s.tiller t.sheaf t.seq is fun s t w =>
      if t.ctx.g (iRa w) % 4 != 0 then .exc 0x05 0 else .branch s (link t w) (t.ctx.g (iRa w)) leave)
    (t.ctx.g (iRa w) % 4 ≠ 0 → o = .next ((s.issued t w).except t 5 0)) ∧
    (t.ctx.g (iRa w) % 4 = 0 → o = .next ((s.issued t w).branches (link t w) (t.ctx.g (iRa w)) leave)) :=
  ⟨fun h => congrArg _ (State.tiller_exc hr hw (if_pos (bne_iff_ne.2 h))),
    fun h => congrArg _ (State.tiller_branch hr hw (if_neg (by simp [h])))⟩

end
end Sys2Proof.Machine

open Sys2Proof Sys2Proof.Machine in
/-- Settles O45: a conditional branch by its comparison, a jump by its immediate or its register. -/
theorem tillerBranches : Obligations.TillerBranches := by
  unfold Obligations.TillerBranches
  intro s t w hr s1 a b pc cond far link h q
  have hfar : jTarget pc w = far := jTarget_eq
  refine ⟨(State.condBranch_goes hr · beq_iff_eq), (State.condBranch_goes hr · bne_iff_ne),
    (State.condBranch_goes hr · decide_eq_true_iff), (State.condBranch_goes hr · decide_eq_true_iff),
    (State.condBranch_goes hr · decide_eq_true_iff), (State.condBranch_goes hr · decide_eq_true_iff), fun hw => ?_, fun hw => ?_,
    fun hw => State.jumpReg (link := fun t _ => t) hr (beq_iff_eq.2 hw),
    fun hw => State.jumpReg (link := fun t w => { t with ctx := t.ctx.setG (iRd w) (t.ctx.pc + 8) }) hr (beq_iff_eq.2 hw)⟩
  · exact congrArg Host.Outcome.next (State.tiller_branch hr (beq_iff_eq.2 hw) (hfar ▸ rfl))
  · exact congrArg Host.Outcome.next (State.tiller_branch hr (beq_iff_eq.2 hw) (hfar ▸ rfl))

/-! # System instructions (R413, R547)

An instruction that issues takes an issue slot whether the sampler is on or not, so the state in which TRAP is worked out is never the one
before it. -/

namespace Sys2Proof.Machine

/-- TRAP as an instruction word (Table 12-5). -/
def trapWord : Nat := 0x20 * 2 ^ 26 + 8

/-- A task of sheaf 0 in plain code at offset 64 of its program. -/
def trapTask : Task := { src := 5, phase := 1, ctx := { pc := 64 } }

/-- The task is about to execute TRAP in a program with a handler at offset 128; nothing counts and nothing is sampled. -/
def State.trapping : State :=
  { State.reset with
    tasks := [trapTask], progs := [(0, { image := leBytes 8 0 ++ leBytes 4 128 ++ leBytes 52 0 ++ leBytes 4 trapWord })] }

theorem State.trapping_runsWord : State.trapping.runsWord trapTask trapWord = true := by decide

end Sys2Proof.Machine

open Sys2Proof Sys2Proof.Machine in
/-- Refutes O46: a TRAP that enters the handler has taken an issue slot of its sheaf, which the state that the statement names has not. -/
theorem not_tillerSystem : ¬ Obligations.TillerSystem := by
  unfold Obligations.TillerSystem
  intro h
  obtain ⟨-, -, -, -, -, htrap, hplain, -, -⟩ := h State.trapping trapTask trapWord State.trapping_runsWord
  have hw : insn trapWord = 0x2008 := by decide
  have hnext := (htrap hw).symm.trans (hplain hw (by decide) (by decide) rfl rfl rfl (by decide))
  have hslots := congrArg State.slotUse (Host.Outcome.next.inj hnext)
  exact absurd hslots (by decide)

/-! # Dispatch, commit instants and program loads (R370, R371, R375, R380, R381, R386) -/

namespace Sys2Proof.Machine
section
variable {s : State} {h q : Nat} {t : Task}

/-! ### Dispatch -/

theorem exec_taskDispatch_off (hoff : s.ready 0x11 h = false ∨ s.tillersRun = false) : exec (.taskDispatch h) s = .next s :=
  congrArg Host.Outcome.next (if_of_false (by rcases hoff with h | h <;> simp [h]))

/-- On a sheaf that is ready, with a free place and no stalled task, the chosen task is dispatched (R371). -/
theorem exec_taskDispatch_on (hr : s.ready 0x11 h = true) (ht : s.tillersRun = true) (hu : s.unstall h = s)
    (hf : s.freePlaces h ≠ 0) : exec (.taskDispatch h) s = .next (match s.chooseTask h with
      | none => s
      | some (t, none) => s.dispatch t
      | some (t, some (k, i, w)) => (s.wrrServe k i w).dispatch t) := by
  have hon : (s.ready 0x11 h && s.tillersRun) = true := by simp [hr, ht]
  refine congrArg Host.Outcome.next ((if_pos hon).trans ?_)
  rw [hu]
  exact if_pos (bne_iff_ne.2 hf)

/-! ### Commit instants and tiller failures -/

theorem exec_commitInstant_noTask (ht : s.taskOf h q = none) : exec (.commitInstant h q) s = .next s := by
  simp only [exec, execCommitInstant, ht]

theorem exec_commitInstant_notWaiting (ht : s.taskOf h q = some t) (hc : t.commit = none) : exec (.commitInstant h q) s = .next s := by
  simp only [exec, execCommitInstant, ht, hc]

/-- A task that waits on its place, with nothing outstanding and nothing to translate again, commits (R380). -/
theorem exec_commitInstant_commits {last : Bool} {held : List Held} (ht : s.taskOf h q = some t) (hc : t.commit = some last)
    (hrun : s.tillersRun = true) (hp : t.phase = 1) (hf : t.fid = 0) (hu : t.unresolved = false) (ho : s.opsOf t = [])
    (hh : s.remark t.inst t.held = .ok held) : exec (.commitInstant h q) s = .next (s.commitTask t last held) := by
  simp [exec, execCommitInstant, ht, hc, hrun, hp, hf, hu, State.parkedOp, ho, hh]

theorem exec_tillerFailure_noTask (ht : s.taskOf h q = none) : exec (.tillerFailure h q) s = .next s := by
  simp only [exec, execTillerFailure, ht]

theorem exec_tillerFailure_notRunning (ht : s.taskOf h q = some t) (hp : t.phase ≠ 1) : exec (.tillerFailure h q) s = .next s := by
  simp [exec, execTillerFailure, ht, hp]

theorem exec_tillerFailure_running (ht : s.taskOf h q = some t) (hp : t.phase = 1) : exec (.tillerFailure h q) s =
    .next ((s.fault { kind := 1, dom := 1 + h / 8, unit := h, place := s.draws, cause := 1 }).bump.replay t) := by
  simp [exec, execTillerFailure, ht, hp]

/-! ### Program loads -/

section
variable {i slot len : Nat}

theorem exec_shfLoadCmdLoad (ho : s.opens 0x11 h = true) : exec (.shfLoadCmdLoad 0 h i slot len) s = .next (s.shfLoad h i slot len) := by
  obtain ⟨hl, hr⟩ := State.opens_iff.1 ho
  exact congrArg Host.Outcome.next (State.act_manager _ hl hr)

theorem State.shfLoad_reserved (hv : len = 0 ∨ 1024 < len ∨ 64 < i) : s.shfLoad h i slot len = s.errOn PAGE_ERR_RESERVED_ENC 0x11 h :=
  if_pos (by simpa [or_assoc] using hv)

section
variable (h1 : 1 ≤ len) (h1024 : len ≤ 1024) (h64 : i ≤ 64)
include h1 h1024 h64

theorem State.shfLoad_admitted : s.shfLoad h i slot len =
    if (PMap.find s.loads h).isSome then s
    else ({ s with loads := PMap.put s.loads h (slot % 32, i, len) } : State).setF SHF_LOAD_STAT_RUNNING h 0 1 :=
  if_neg (by simp only [Bool.or_eq_true, beq_iff_eq, decide_eq_true_eq]; omega)

theorem State.shfLoad_running (hl : (PMap.find s.loads h).isSome = true) : s.shfLoad h i slot len = s :=
  (State.shfLoad_admitted h1 h1024 h64).trans (if_pos hl)

theorem State.shfLoad_starts (hl : PMap.find s.loads h = none) : s.shfLoad h i slot len =
    ({ s with loads := PMap.put s.loads h (slot % 32, i, len) } : State).setF SHF_LOAD_STAT_RUNNING h 0 1 :=
  (State.shfLoad_admitted h1 h1024 h64).trans (if_neg (by simp [hl]))

end

theorem exec_programLoadDone_none (hl : PMap.find s.loads h = none) : exec (.programLoadDone h) s = .next s := by
  simp only [exec, execProgramLoadDone, hl]

/-- The state in which the load of a sheaf has ended, its RESULT not yet shown. -/
def State.loadEnded (s : State) (h : Nat) : State :=
  ({ s with loads := PMap.del s.loads h } : State).setF SHF_LOAD_STAT_RUNNING h 0 0

section
variable (hl : PMap.find s.loads h = some (slot, i, len))
include hl

theorem exec_programLoadDone_notPermitted (hs : slot < 16) :
    exec (.programLoadDone h) s = .next ((s.loadEnded h).setF SHF_LOAD_STAT_RESULT h 0 0x21) := by
  simp only [exec, execProgramLoadDone, hl, if_pos hs]
  rfl

theorem exec_programLoadDone_busy (hs : 16 ≤ slot) (hb : (s.loadEnded h).slotBusy h slot = true) :
    exec (.programLoadDone h) s = .next ((s.loadEnded h).setF SHF_LOAD_STAT_RESULT h 0 0x24) := by
  simp only [exec, execProgramLoadDone, hl, if_neg (Nat.not_lt.2 hs)]
  exact congrArg _ (if_pos hb)

variable (hs : 16 ≤ slot) (hb : (s.loadEnded h).slotBusy h slot = false)
include hs hb

/-- What a load into a free slot makes of its read (R386). -/
theorem exec_programLoadDone_read : exec (.programLoadDone h) s = .next (
    let s₁ := s.loadEnded h
    match s₁.readV 0 (s₁.f SHF_LOAD_ADDR_ADDR h) (64 * len) with
    | .error e =>
      if e.reason == 0 then s
      else (({ s₁.useUp 0 e with progs := PMap.put s₁.progs (h * 32 + slot) { inst := i, image := [] } } : State).setF
        SHF_LOAD_STAT_SLOT_VALID h 0 (clrBit (s₁.f SHF_LOAD_STAT_SLOT_VALID h) (slot - 16))).setF SHF_LOAD_STAT_RESULT h 0 0x20
    | .ok bs =>
      (({ s₁ with progs := PMap.put s₁.progs (h * 32 + slot) { inst := i, image := bs } } : State).setF
        SHF_LOAD_STAT_SLOT_VALID h 0 (setBit (s₁.f SHF_LOAD_STAT_SLOT_VALID h) (slot - 16))).setF SHF_LOAD_STAT_RESULT h 0 0) := by
  simp only [exec, execProgramLoadDone, hl, if_neg (Nat.not_lt.2 hs)]
  exact congrArg _ (if_of_false hb)

end
end
end
end Sys2Proof.Machine

open Sys2Proof Sys2Proof.Machine in
/-- Settles O41: each command or event is the case of its function that the sheaf's tasks and loads decide. -/
theorem tasksAndLoads : Obligations.TasksAndLoads := by
  unfold Obligations.TasksAndLoads
  refine ⟨fun s h q => ⟨exec_taskDispatch_off, fun hr ht hu hf => ⟨fun hn => ?_, fun t hn => ?_, fun t k i w hn => ?_⟩,
      fun ht => ⟨exec_commitInstant_noTask ht, exec_tillerFailure_noTask ht⟩, fun t ht => ⟨exec_commitInstant_notWaiting ht,
        fun last hc hrun hp hf hu ho hh => exec_commitInstant_commits ht hc hrun hp hf hu ho (by rw [hh]; rfl),
        exec_tillerFailure_notRunning ht, exec_tillerFailure_running ht⟩,
      fun hr => congrArg Host.Outcome.next (if_of_false hr), fun hr => congrArg Host.Outcome.next (if_pos hr)⟩,
    fun s h i slot len ho => ?_,
    fun s h slot i len => ⟨exec_programLoadDone_none, fun hl => ⟨exec_programLoadDone_notPermitted hl,
      exec_programLoadDone_busy hl, fun bs hs hb hrd => ?_, fun e hs hb hrd => ?_⟩⟩⟩
  · rw [exec_taskDispatch_on hr ht hu hf, hn]
  · rw [exec_taskDispatch_on hr ht hu hf, hn]
  · rw [exec_taskDispatch_on hr ht hu hf, hn]
  · rw [exec_shfLoadCmdLoad ho]
    exact ⟨fun hv => congrArg _ (State.shfLoad_reserved hv), fun h1 h1024 h64 => ⟨fun hl => congrArg _ (State.shfLoad_running h1 h1024 h64 hl),
      fun hl => congrArg _ (State.shfLoad_starts h1 h1024 h64 hl)⟩⟩
  · have hrd' : (s.loadEnded h).readV 0 ((s.loadEnded h).f SHF_LOAD_ADDR_ADDR h) (64 * len) = .ok bs := hrd
    simp only [exec_programLoadDone_read hl hs hb, hrd']
    rfl
  · have hrd' : (s.loadEnded h).readV 0 ((s.loadEnded h).f SHF_LOAD_ADDR_ADDR h) (64 * len) = .error e := hrd
    simp only [exec_programLoadDone_read hl hs hb, hrd']
    exact ⟨fun he => congrArg _ (if_pos (beq_iff_eq.2 he)), fun he => congrArg _ (if_neg (by simpa using he))⟩

/-! # Walks, translation services and invalidations (R427 to R433, R613) -/

namespace Sys2Proof.Machine
section
variable {s : State} {die i va herr page out n tag v : Nat} {rd wr wrt : Bool}

/-! ### Walks -/

/-- A walk has missed the first-level caches: it is counted on its die and its stook (R430). -/
def State.l1Missed (s : State) (die i : Nat) : State :=
  ((s.addF DTU_CNT_L1_MISS_COUNT die 0 1).count (97 + die) 0x141 s.dtuSub (some i)).count (bankStook (4 * die + s.dtuSub)) 0x83 0 (some i)

/-- It has missed the die's second-level cache as well (R430). -/
def State.l2Missed (s : State) (die i : Nat) : State :=
  ((s.l1Missed die i).addF DTU_CNT_L2_MISS_COUNT die 0 1).count (97 + die) 0x142 (s.l1Missed die i).dtuSub (some i)

/-- It has read `n` table entries. -/
def State.walkRead (s : State) (die i n : Nat) : State :=
  ((s.addF DTU_CNT_WALK_READ_COUNT die 0 n).count (97 + die) 0x143 s.dtuSub (some i) n).bump

/-- An entry of a die's cache covers an address of an instance. -/
def tlbCovers (die i va : Nat) (e : TlbEnt) : Bool :=
  e.die == die && e.inst == i && decide (e.va ≤ va) && decide (va < e.va + e.size)

theorem exec_walkComplete_noRoot (h : s.b DLOG_ROOT_VALID i = false) : exec (.walkComplete die i va wr herr) s = .next s :=
  congrArg Host.Outcome.next (if_pos (by simp [h]))

section
variable (hroot : s.b DLOG_ROOT_VALID i = true) (hd : die ≤ 1)
include hroot hd

theorem exec_walkComplete_hit (hc : (s.l1Missed die i).tlb.any (tlbCovers die i va) = true) :
    exec (.walkComplete die i va wr 0) s = .next ((s.l1Missed die i).tlbHit die i va).bump := by
  have hgo : ¬ (!(s.b DLOG_ROOT_VALID i) || decide (1 < die)) = true := by simp [hroot, hd]
  exact congrArg Host.Outcome.next ((if_neg hgo).trans (if_pos (Bool.and_eq_true_iff.2 ⟨hc, rfl⟩)))

/-- What a walk that no cache covers makes of its end (R431, R613). -/
theorem exec_walkComplete_walk (hc : (s.l1Missed die i).tlb.any (tlbCovers die i va) = false) :
    exec (.walkComplete die i va wr herr) s = .next (
      let s₂ := s.l2Missed die i
      match s₂.walkRoot i va herr with
      | .error e =>
        let t := s₂.walkRead die i (if e.reason == 4 || e.reason == 0 then 4 - e.level else 5 - e.level)
        if e.reason == 6 then { t with tabErrs := t.tabErrs ++ [(i, va / 4096, e.level)] } else t
      | .ok (l, size, level) =>
        let t := s₂.walkRead die i (5 - level)
        let x : TlbEnt := { die := die, inst := i, va := va / size * size, size := size, leaf := l }
        match t.placeOf i va wr l size with
        | .error e => if e.reason == 0 || e.reason == 7 then t.tlbAdd x else t
        | .ok _ => t.tlbAdd x) := by
  have hgo : ¬ (!(s.b DLOG_ROOT_VALID i) || decide (1 < die)) = true := by simp [hroot, hd]
  exact congrArg Host.Outcome.next ((if_neg hgo).trans (if_of_false (Bool.and_eq_false_iff.2 (.inl hc))))

end

/-! ### ATS -/

theorem exec_atsCompletion_off (h : s.b DLOG_ICTL_ATS_EN i = false) : exec (.atsCompletion die i page out rd wr wrt) s = .next s :=
  congrArg Host.Outcome.next (if_pos (by simp [h]))

/-- A result of an instance that translates through ATS is kept for its page (R427). -/
theorem exec_atsCompletion_kept (h : s.b DLOG_ICTL_ATS_EN i = true) (hf : (s.fn i).atsEnable = true) (hd : die ≤ 1) :
    exec (.atsCompletion die i page out rd wr wrt) s = .next (
      let s₁ := s.addF DTU_CNT_ATS_REQ_COUNT die 0 1
      let a : AtsEnt := { inst := i, page := page, out := out, rd := rd, wr := wr, noRd := !wrt && !rd, noWr := wrt && !wr }
      { s₁ with ats := a :: s₁.ats.filter (fun x => !(x.inst == i && x.page == page)) }) :=
  congrArg Host.Outcome.next (if_neg (by simp [h, hf, hd]))

theorem State.markStores_noTasks {p : Nat → Option Nat → Nat → Bool} (h : s.tasks = []) : s.markStores i p = s := by
  simp only [State.markStores, h, List.map_nil]
  rw [← h]

/-- The state after an ATS invalidate request, before its stores are marked and its tag is queued (R427). -/
def State.atsDropped (s : State) (i page n : Nat) : State :=
  let s₁ := (s.addF DTU_CNT_ATS_INV_COUNT 0 0 1).addF DTU_CNT_ATS_INV_COUNT 1 0 1
  { s₁ with ats := s₁.ats.filter fun a => !(a.inst == i && (decide (page ≤ a.page) && decide (a.page < page + n))) }

theorem exec_atsInvalidateRequest_noTasks (h : (s.atsDropped i page n).tasks = []) :
    exec (.atsInvalidateRequest i page n tag) s = .next (let t := s.atsDropped i page n
      t.setXst i { t.xst i with atsInvs := (t.xst i).atsInvs ++ [tag] }) :=
  congrArg (fun t : State => Host.Outcome.next (t.setXst i { t.xst i with atsInvs := (t.xst i).atsInvs ++ [tag] }))
    (State.markStores_noTasks h)

theorem exec_atsInvalidateCompletion_unknown (h : tag ∉ (s.xst i).atsInvs) : exec (.atsInvalidateCompletion i tag) s = .next s :=
  congrArg Host.Outcome.next (if_pos (by simp [h]))

theorem exec_atsInvalidateCompletion_sent (h : tag ∈ (s.xst i).atsInvs) (hp : s.holdsPlaces i = false) :
    exec (.atsInvalidateCompletion i tag) s =
      .next ((s.setXst i { s.xst i with atsInvs := (s.xst i).atsInvs.erase tag }).emit (.atsDone i tag)) :=
  congrArg Host.Outcome.next (if_neg (by simp [h, hp]))

/-! ### Page requests -/

section
variable {g f code : Nat} {w : Waiter}

theorem exec_priResponse_none (h : s.asking i (fun w => w.fid % 512 == g) = none) : exec (.priResponse i g code) s = .next s := by
  simp only [exec, execPriResponse, h]

/-- Success lets the work go on, any other code ends its request (R428). -/
theorem exec_priResponse_some (h : s.asking i (fun w => w.fid % 512 == g) = some w) :
    exec (.priResponse i g code) s = .next (if code == 0 then s.answer w false else s.priFail w) := by
  simp only [exec, execPriResponse, h]

theorem exec_priTimeout_none (h : s.asking i (fun w => w.fid == f) = none) : exec (.priTimeout i f) s = .next s := by
  simp only [exec, execPriTimeout, h]

theorem exec_priTimeout_some (h : s.asking i (fun w => w.fid == f) = some w) : exec (.priTimeout i f) s =
    .next (if w.since + 65536000000 * (10 * s.f DTU_CTL_PRI_TMO w.die) ≤ s.now then s.priFail w else s) := by
  rw [Nat.mul_comm 65536000000]
  simp only [exec, execPriTimeout, h]
  rfl

end

/-! ### Invalidations -/

/-- The manager's writes of the DLOG page's command registers act (R63). -/
theorem exec_dlogWrites (ho : s.opens 0x19 i = true) :
    exec (.dlogInv 0 i v) s = .next (s.dlogInv i (bits v 12 36) (bits v 52 12)) ∧
    exec (.dlogResumeRetry 0 i v) s = .next (s.resume i (v % 65536) false) ∧
    exec (.dlogResumeAbort 0 i v) s = .next (s.resume i (v % 65536) true) ∧
    exec (.dlogResumeRetryAll 0 i) s = .next (s.resumeAll i) ∧
    exec (.dlogFqHeadWrite 0 i v) s = .next (s.fqHead i (v % 2 ^ 32)) ∧
    exec (.dlogSpillTailWrite 0 i v) s = .next (s.spillTail i (v % 2 ^ 32)) := by
  obtain ⟨hl, hr⟩ := State.opens_iff.1 ho
  have hact (k : State → State) : Host.Outcome.next (s.act 0 0x19 i false k) = (.next (k s) : Res) :=
    congrArg Host.Outcome.next (State.act_manager k hl hr)
  exact ⟨hact _, hact _, hact _, hact _, hact _, hact _⟩

theorem exec_invalidationDone_none (h : (s.xst i).invs = []) : exec (.invalidationDone i) s = .next s := by
  simp only [exec, execInvalidationDone, h]

/-- The oldest invalidation completes once no transfer holds translations (R432). -/
theorem exec_invalidationDone_oldest {r : InvReq} {rs : List InvReq} (h : (s.xst i).invs = r :: rs) (hp : s.holdsPlaces i = false) :
    exec (.invalidationDone i) s = .next ((s.setXst i { s.xst i with invs := rs }).setF DLOG_IST_INV_DONE i 0 r.num) := by
  simp only [exec, execInvalidationDone, h]
  exact congrArg _ (if_of_false hp)

end
end Sys2Proof.Machine

open Sys2Proof Sys2Proof.Machine in
/-- Settles O48: each event is the case of its function that the caches, the waiting work and the invalidations decide. -/
theorem walksAndTranslationServices : Obligations.WalksAndTranslationServices := by
  unfold Obligations.WalksAndTranslationServices
  refine ⟨fun s die i va herr wr => ⟨exec_walkComplete_noRoot, fun hroot hd => ⟨fun hc he => ?_, fun hc => ?_⟩⟩,
    fun s die i page out rd w wr => ⟨exec_atsCompletion_off, exec_atsCompletion_kept⟩,
    fun s i page n tag => ⟨exec_atsInvalidateRequest_noTasks, exec_atsInvalidateCompletion_unknown, exec_atsInvalidateCompletion_sent⟩,
    fun s i g f code w => ⟨exec_priResponse_none, fun h => ⟨exec_priResponse_some h, fun hc => ?_⟩, exec_priTimeout_none,
      fun h => ⟨fun hn => ?_, fun hn => ?_⟩⟩,
    fun s i v => ⟨fun ho => (exec_dlogWrites ho).1, exec_invalidationDone_none, fun r rs => exec_invalidationDone_oldest⟩⟩
  · subst he
    exact exec_walkComplete_hit hroot hd hc
  · have hwalk := exec_walkComplete_walk (wr := wr) (herr := herr) hroot hd hc
    refine ⟨fun l size level hw => ?_, fun e hw h0 h4 h6 => ?_⟩
    · have hw' : (s.l2Missed die i).walkRoot i va herr = .ok (l, size, level) := hw
      simp only [hw'] at hwalk
      refine ⟨fun x hx => ?_, fun e hx => ?_⟩
      · have hx' : ((s.l2Missed die i).walkRead die i (5 - level)).placeOf i va wr l size = .ok x := hx
        rw [hwalk, hx']
        rfl
      · have hx' : ((s.l2Missed die i).walkRead die i (5 - level)).placeOf i va wr l size = .error e := hx
        rw [hwalk, hx']
        simp only [Bool.or_eq_true, beq_iff_eq]
        rfl
    · have hw' : (s.l2Missed die i).walkRoot i va herr = .error e := hw
      simp only [hw'] at hwalk
      rw [hwalk, if_neg (by simpa using h6), if_neg (by simp [h0, h4])]
      rfl
  · rw [exec_priResponse_some h, if_neg (by simpa using hc)]
  · rw [exec_priTimeout_some h, if_neg (Nat.not_le.2 hn)]
  · rw [exec_priTimeout_some h, if_pos hn]

/-! # Answers to faults, the fault queue, the spill area and the dirty log (R436, R437, R444, R449) -/

namespace Sys2Proof.Machine
section
variable {s : State} {i v : Nat} {w : Waiter} {abort : Bool}

theorem State.resume_none (h : s.waiting i v = none) : s.resume i v abort = s := by simp only [State.resume, h]

theorem State.resume_some (h : s.waiting i v = some w) : s.resume i v abort = s.answer w abort := by simp only [State.resume, h]

theorem State.resumeAll_nil (h : s.waiters = []) : s.resumeAll i = s := by simp [State.resumeAll, h]

/-- RETRY_ALL of the only fault that waits lets it go on (R437). -/
theorem State.resumeAll_single (h : s.waiters = [w]) (hi : w.inst = i) (hrec : w.recSt = 2) : s.resumeAll i = s.answer w false := by
  have hw : s.waiting i w.fid = some w := by simp [State.waiting, h, hi, hrec]
  simp [State.resumeAll, h, hi, hrec, State.resume_some hw]

theorem State.fqHead_moves (hh : later v (s.f DLOG_FQ_HEAD_COUNT i) 32 = true) (ht : later v (s.f DLOG_FQ_TAIL_COUNT i) 32 = false) :
    s.fqHead i v = (s.setF DLOG_FQ_HEAD_COUNT i 0 v).fqFlush i := if_pos (by simp [hh, ht])

theorem State.fqHead_bad (h : later v (s.f DLOG_FQ_HEAD_COUNT i) 32 = false ∨ later v (s.f DLOG_FQ_TAIL_COUNT i) 32 = true) :
    s.fqHead i v = s.err DLOG_ERR_FQ_ERR i := if_neg (by rcases h with h | h <;> simp [h])

theorem State.spillTail_moves (ht : later v (s.f DLOG_SPILL_TAIL_UNITS i) 32 = true)
    (hh : later v (s.f DLOG_SPILL_HEAD_UNITS i) 32 = false) : s.spillTail i v = s.setF DLOG_SPILL_TAIL_UNITS i 0 v :=
  if_pos (by simp [ht, hh])

theorem State.spillTail_bad (h : later v (s.f DLOG_SPILL_TAIL_UNITS i) 32 = false ∨ later v (s.f DLOG_SPILL_HEAD_UNITS i) 32 = true) :
    s.spillTail i v = s.err DLOG_ERR_SPILL_ERR i := if_neg (by rcases h with h | h <;> simp [h])

theorem exec_dirtyLogFlushDone_none (h : (s.xst i).flushOf = none) : exec (.dirtyLogFlushDone i) s = .next s := by
  simp only [exec, execDirtyLogFlushDone, h]

theorem exec_dirtyLogFlushDone_some {e : Nat} (h : (s.xst i).flushOf = some e) : exec (.dirtyLogFlushDone i) s =
    .next (((s.setXst i { s.xst i with flushOf := none }).setF DLOG_LOG_FLUSH_EPOCH i 0 e).setF DLOG_LOG_STAT_FLUSHING i 0 0) := by
  simp only [exec, execDirtyLogFlushDone, h]

end
end Sys2Proof.Machine

open Sys2Proof Sys2Proof.Machine in
/-- Settles O49: the manager's writes of the DLOG page act, and each is the case of its function that the counts and the waiting faults
decide. -/
theorem faultAnswersAndQueues : Obligations.FaultAnswersAndQueues := by
  unfold Obligations.FaultAnswersAndQueues
  intro s i v ho hv
  obtain ⟨-, hretry, habort, hall, hhead, htail⟩ := exec_dlogWrites (v := v) ho
  rw [Nat.mod_eq_of_lt (by omega)] at hretry habort hhead htail
  rw [hretry, habort, hall, hhead, htail]
  exact ⟨fun h => ⟨congrArg _ (State.resume_none h), congrArg _ (State.resume_none h)⟩,
    fun w h => ⟨congrArg _ (State.resume_some h), congrArg _ (State.resume_some h)⟩,
    fun h => congrArg _ (State.resumeAll_nil h), fun w h hi hrec => congrArg _ (State.resumeAll_single h hi hrec),
    fun hh ht => congrArg _ (State.fqHead_moves hh ht), fun h => congrArg _ (State.fqHead_bad h),
    fun ht hh => congrArg _ (State.spillTail_moves ht hh), fun h => congrArg _ (State.spillTail_bad h),
    exec_dirtyLogFlushDone_none, fun e => exec_dirtyLogFlushDone_some⟩

/-! # Commands of instances and host events (R452, R453, R463, R471 to R473) -/

namespace Sys2Proof.Machine
section
variable {s t : State} {i c : Nat} {x y : InstSt}

@[simp] theorem State.inst_setInst : (s.setInst i x).inst i = x := PMap.get_put_same ..
@[simp] theorem State.inst_setF {F : Fld} {u j v : Nat} : (s.setF F u j v).inst i = s.inst i := rfl

/-- The manager's writes of INST_CMD act (R63). -/
theorem exec_instCmds (ho : s.opens 0x60 i = true) :
    exec (.instCmdStart 0 i) s = .next (s.instStart i) ∧ exec (.instCmdReset 0 i) s = .next (s.instReset i) ∧
    exec (.instCmdFreeze 0 i) s = .next (s.instFreeze i) ∧ exec (.instCmdThaw 0 i) s = .next (s.instThaw i) ∧
    exec (.instCmdSave 0 i) s = .next (s.instImage i 5) ∧ exec (.instCmdRestore 0 i) s = .next (s.instImage i 6) ∧
    exec (.instCmdDestroy 0 i) s = .next (s.instDestroy i) := by
  obtain ⟨hl, hr⟩ := State.opens_iff.1 ho
  have hact (k : State → State) : Host.Outcome.next (s.act 0 0x60 i true k) = (.next (k s) : Res) :=
    congrArg Host.Outcome.next (State.act_manager k hl hr)
  exact ⟨hact _, hact _, hact _, hact _, hact _, hact _, hact _⟩

section
variable (hi : i ≠ 0)
include hi

omit hi in
theorem State.instStart_refused (h : s.instState i ≠ 1 ∨ (s.inst i).cmd ≠ 0) : s.instStart i = s.cmdRefuse i :=
  if_neg (by rcases h with h | h <;> simp [h])

theorem State.instStart_done (hx : s.instState i = 1) (hc : (s.inst i).cmd = 0) :
    s.instStart i = (s.setF INST_STAT_STATE i 0 2).cmdEnd i 0 := if_pos (by simp [hi, hx, hc])

theorem State.instReset_merged (h : s.resetting i = true) : s.instReset i = s.resetStart i false false := by
  simp [State.instReset, hi, h]

theorem State.instReset_refused (h : s.resetting i = false) (h2 : s.instState i ≠ 2) (h4 : s.instState i ≠ 4) :
    s.instReset i = s.cmdRefuse i := by
  simp [State.instReset, hi, h, h2, h4]

theorem State.instReset_starts (h : s.resetting i = false) (hx : s.instState i = 2 ∨ s.instState i = 4) :
    s.instReset i = (s.resetStart i false false).cmdStart i 2 := by
  simp [State.instReset, hi, h, hx]

omit hi in
theorem State.instFreeze_refused (h : s.instState i ≠ 2 ∨ (s.inst i).cmd ≠ 0) : s.instFreeze i = s.cmdRefuse i :=
  if_pos (by rcases h with h | h <;> simp [h])

theorem State.instFreeze_starts (hx : s.instState i = 2) (hc : (s.inst i).cmd = 0) : s.instFreeze i =
    (let cs := (s.chansOf i).filter fun c => s.b DMA_CTL_ENABLE c && !(s.b DMA_STAT_STOP_PENDING c)
     (cs.foldl State.dmaStop
       ((s.setInst i { s.inst i with freezeAt := some s.now, frozenChans := cs }).cmdStart i 3)).suspendEntries i) :=
  if_neg (by simp [hi, hx, hc])

omit hi in
theorem State.instThaw_refused (h : s.instState i ≠ 4 ∨ (s.inst i).cmd ≠ 0) : s.instThaw i = s.cmdRefuse i :=
  if_pos (by rcases h with h | h <;> simp [h])

theorem State.instThaw_done (hx : s.instState i = 4) (hc : (s.inst i).cmd = 0) :
    s.instThaw i = ((s.setF INST_STAT_STATE i 0 2).unfreeze i).cmdEnd i 0 := if_neg (by simp [hi, hx, hc])

omit hi in
/-- SAVE wants a FROZEN instance, RESTORE a READY one (R473). -/
theorem State.instImage_refused (h : s.instState i ≠ (if c == 5 then 4 else 1) ∨ (s.inst i).cmd ≠ 0) :
    s.instImage i c = s.cmdRefuse i := by
  refine if_pos ?_
  rw [Bool.or_eq_true, Bool.or_eq_true, bne_iff_ne, bne_iff_ne]
  exact h.imp_left .inr

theorem State.instImage_starts (hx : s.instState i = if c == 5 then 4 else 1) (hc : (s.inst i).cmd = 0) :
    s.instImage i c = s.cmdStart i c := by
  refine if_neg ?_
  rw [← hx]
  simp [hi, hc]

omit hi in
theorem State.instDestroy_refused (h : s.instState i = 0) : s.instDestroy i = s.cmdRefuse i := if_pos (by simp [h])

theorem State.instDestroy_starts (h : s.instState i ≠ 0) : s.instDestroy i = (s.resetStart i false true).cmdStart i 7 :=
  if_neg (by simp [hi, h])

end

/-! ### Host events -/

/-- Functions 1 to 64 are those of the instances. -/
theorem hasMbx_iff : hasMbx i = true ↔ 1 ≤ i ∧ i ≤ 64 := by simp [hasMbx]

theorem exec_flr_free (h : s.instState i = 0) : exec (.flr i) s = .next s :=
  congrArg Host.Outcome.next (if_pos (by simp [h]))

theorem exec_flr_resets (hi : i ≤ 64) (h : s.instState i ≠ 0) : exec (.flr i) s = .next (s.resetStart i false false) :=
  congrArg Host.Outcome.next (if_neg (by simp [h, hi]))

theorem exec_vfEnableClear (hi : hasMbx i = true) : exec (.vfEnableClear i) s = .next (
    let t := ({ s with fns := PMap.put s.fns i { s.fn i with vfEnable := false } } : State).setF INST_STAT_VF_ENABLED i 0 0
    if t.instState i = 0 then t else t.resetStart i true false) := by
  simp [exec, execVfEnableClear, hi]

end
end Sys2Proof.Machine

open Sys2Proof Sys2Proof.Machine in
/-- Settles O50: the manager's commands act, and the state of the instance decides what each does. -/
theorem instanceCommands : Obligations.InstanceCommands := by
  unfold Obligations.InstanceCommands
  refine ⟨fun s i ho hi => ?_, fun s i h1 h64 => ⟨exec_flr_free, exec_flr_resets h64, exec_vfEnableClear (hasMbx_iff.2 ⟨h1, h64⟩), rfl, rfl⟩⟩
  intro fin run bad x
  obtain ⟨hstart, hreset, hfreeze, hthaw, hsave, hrestore, hdestroy⟩ := exec_instCmds ho
  rw [hstart, hreset, hfreeze, hthaw, hsave, hrestore, hdestroy]
  exact ⟨fun h => ⟨congrArg _ (State.instStart_refused h), congrArg _ (State.instImage_refused h)⟩,
    fun hx hc => ⟨congrArg _ (State.instStart_done hi hx hc), congrArg _ (State.instImage_starts hi hx hc)⟩,
    fun h => congrArg _ (State.instReset_merged hi h),
    fun h => ⟨fun h2 h4 => congrArg _ (State.instReset_refused hi h h2 h4), fun hx => congrArg _ (State.instReset_starts hi h hx)⟩,
    fun h => congrArg _ (State.instFreeze_refused h), fun hx hc => congrArg _ (State.instFreeze_starts hi hx hc),
    fun h => ⟨congrArg _ (State.instThaw_refused h), congrArg _ (State.instImage_refused h)⟩,
    fun hx hc => ⟨congrArg _ (State.instThaw_done hi hx hc), congrArg _ (State.instImage_starts hi hx hc)⟩,
    fun h => congrArg _ (State.instDestroy_refused h), fun h => congrArg _ (State.instDestroy_starts hi h)⟩

/-! # Resets, freezes, images and mailboxes (R463 to R473) -/

namespace Sys2Proof.Machine
section
variable {s u : State} {i t : Nat}

/-! ### Resets -/

theorem exec_instResetCut_none (h : (s.inst i).resetAt = none) : exec (.instResetCut i) s = .next s := by
  simp only [exec, execInstResetCut, h]

theorem exec_instResetDrained_none (h : (s.inst i).resetAt = none) : exec (.instResetDrained i) s = .next s :=
  congrArg Host.Outcome.next (if_pos (by simp [h]))

/-- What still runs is cut 2 ms after the trigger (Table 14-3). -/
theorem exec_instResetCut_some (h : (s.inst i).resetAt = some t) : exec (.instResetCut i) s = .next (
    if s.now < t + ms 2 then s
    else let u := (s.chansOf i).foldl State.cutChan (s.rsySquash i)
      u.setInst i { u.inst i with cut := true }) := by
  simp only [exec, execInstResetCut, h]

theorem exec_instResetDrained_runs (h : s.nothingRuns i = false) : exec (.instResetDrained i) s = .next s :=
  congrArg Host.Outcome.next (if_pos (by simp [h]))

/-- The end of an instance's command leaves its reset as it is. -/
theorem State.inst_cmdEnd_resetAt {v : Nat} : ((s.cmdEnd i v).inst i).resetAt = (s.inst i).resetAt := by simp [State.cmdEnd]

/-- A reset ends once nothing of the instance runs: the manager is told, and the instance leaves RESETTING (R465). -/
theorem exec_instResetDrained_ends (h : (s.inst i).resetAt = some t) (hn : s.nothingRuns i = true) (hi : i ≠ 0) :
    ∃ v : State, (v.inst i).resetAt = none ∧
      let n := v.notice i true 0x0002 []
      let d := n.setF INST_STAT_STATE i 0 (if (s.inst i).destroyAfter then 0
        else if (s.inst i).endReady || !(n.fn i).vfEnable then 1 else 2)
      exec (.instResetDrained i) s =
        .next (if (s.inst i).destroyAfter then (d.releaseGrant i).unbindLost.irqMode else d.irqEval) := by
  have hgo : ¬ ((s.inst i).resetAt.isNone || !(s.nothingRuns i)) = true := by simp [h, hn]
  have hi0 : ¬ (i == 0) = true := by simpa using hi
  have hrow : exec (.instResetDrained i) s = execInstResetDrained i s := rfl
  rw [hrow]
  generalize hexec : execInstResetDrained i s = r
  unfold execInstResetDrained at hexec
  extract_lets x s₁ s₂ s₃ chans s₄ s₅ s₆ s₇ s₈ s₉ s₁₀ s₁₁ s₁₂ y s₁₃ s₁₄ n d at hexec
  rw [if_neg hgo, if_neg hi0] at hexec
  refine ⟨s₁₄, ?_, hexec.symm⟩
  have h₁₃ : (s₁₃.inst i).resetAt = none := congrArg InstSt.resetAt State.inst_setInst
  change ((if _ then s₁₃.cmdEnd i 0 else s₁₃).inst i).resetAt = none
  split
  · exact State.inst_cmdEnd_resetAt.trans h₁₃
  · exact h₁₃

/-! ### Freezes -/

theorem exec_freezeDrained_none (h : (s.inst i).freezeAt = none) : exec (.freezeDrained i) s = .next s := by
  simp only [exec, execFreezeDrained, h]

theorem exec_freezeTimeout_none (h : (s.inst i).freezeAt = none) : exec (.freezeTimeout i) s = .next s := by
  simp only [exec, execFreezeTimeout, h]

/-- A freeze that is drained within 2 ms makes the instance FROZEN (R471). -/
theorem exec_freezeDrained_some (h : (s.inst i).freezeAt = some t) : exec (.freezeDrained i) s = .next (
    if s.drained i && decide (s.now ≤ t + ms 2) then
      ((s.setInst i { s.inst i with freezeAt := none }).setF INST_STAT_STATE i 0 4).cmdEnd i 0
    else s) := by
  simp only [exec, execFreezeDrained, h]

theorem exec_freezeTimeout_some (h : (s.inst i).freezeAt = some t) : exec (.freezeTimeout i) s =
    .next (if t + ms 2 < s.now then (s.unfreeze i).cmdEnd i 0x24 else s) := by
  simp only [exec, execFreezeTimeout, h]

/-! ### Images -/

theorem exec_saveDone_other (h : (s.inst i).cmd ≠ 5) : exec (.saveDone i) s = .next s :=
  congrArg Host.Outcome.next (if_pos (bne_iff_ne.2 h))

theorem exec_restoreDone_other (h : (s.inst i).cmd ≠ 6) : exec (.restoreDone i) s = .next s :=
  congrArg Host.Outcome.next (if_pos (bne_iff_ne.2 h))

theorem exec_saveDone_written (h : (s.inst i).cmd = 5) (hu : s.writeV 0 (s.f INST_IMG_ADDR_ADDR i) (imageBytes (s.saved i)) = .ok u) :
    exec (.saveDone i) s = .next (u.cmdEnd i 0) := by
  simp [exec, execSaveDone, h, hu]

theorem exec_saveDone_error {e : XErr} (h : (s.inst i).cmd = 5)
    (he : s.writeV 0 (s.f INST_IMG_ADDR_ADDR i) (imageBytes (s.saved i)) = .error e) :
    exec (.saveDone i) s = .next (if e.reason = 0 then s else (s.useUp 0 e).cmdEnd i 0x20) := by
  simp [exec, execSaveDone, h, he]

section
variable {m : Saved} (h : (s.inst i).cmd = 6)
include h

theorem exec_restoreDone_error {e : XErr} (he : s.imageAt? (s.f INST_IMG_ADDR_ADDR i) = .error e) :
    exec (.restoreDone i) s = .next (if e.reason = 0 then s else (s.useUp 0 e).cmdEnd i 0x20) := by
  simp [exec, execRestoreDone, h, he]

theorem exec_restoreDone_noImage (hm : s.imageAt? (s.f INST_IMG_ADDR_ADDR i) = .ok none) :
    exec (.restoreDone i) s = .next (s.cmdEnd i 0x11) := by
  simp [exec, execRestoreDone, h, hm]

theorem exec_restoreDone_otherShape (hm : s.imageAt? (s.f INST_IMG_ADDR_ADDR i) = .ok (some m)) (hs : s.sameShape i m = false) :
    exec (.restoreDone i) s = .next (s.cmdEnd i 0x11) := by
  simp [exec, execRestoreDone, h, hm, hs]

theorem exec_restoreDone_restored (hm : s.imageAt? (s.f INST_IMG_ADDR_ADDR i) = .ok (some m)) (hs : s.sameShape i m = true) :
    exec (.restoreDone i) s = .next (((s.restore i m).setF INST_STAT_STATE i 0 4).cmdEnd i 0) := by
  simp [exec, execRestoreDone, h, hm, hs]

end

/-! ### Mailboxes -/

section
variable (hi : hasMbx i = true) (hs : s.serves 0 = true) (hr : s.resetting 0 = false)
include hi hs hr

/-- The manager sends toward the instance, and takes what is for the manager (R467). -/
theorem exec_mbxCmds_manager :
    exec (.mbxCmdSend 0 i) s = .next (s.mbxSend i false) ∧ exec (.mbxCmdTake 0 i) s = .next (s.mbxTake i true) := by
  have hi0 : i ≠ 0 := by have := hasMbx_iff.1 hi; omega
  have hown (k : State → State) : s.actOwn 0 i k = k s := State.actOwn_own k hs (.inl rfl) hr
  constructor
  · exact congrArg Host.Outcome.next ((if_pos hi).trans ((hown _).trans (congrArg (s.mbxSend i) (beq_eq_false_iff_ne.2 hi0.symm))))
  · exact congrArg Host.Outcome.next ((if_pos hi).trans ((hown _).trans (congrArg (s.mbxTake i) (bne_iff_ne.2 hi0.symm))))

end

theorem State.mbxSend_full (h : 16 ≤ (s.mbx i).toInst.length) : s.mbxSend i false = s.setF MBX_STAT_FULL i 0 1 := if_pos h

theorem State.mbxSend_adds (h : (s.mbx i).toInst.length < 16) :
    s.mbxSend i false = s.mbxPush i false (leBytes 256 (s.f MBX_TX_DATA i)) := if_neg (Nat.not_le.2 h)

/-- With no notice waiting TAKE frees the head slot alone. -/
theorem State.mbxTake_noNotice (h : (s.mbx i).waitMgr = []) : s.mbxTake i true =
    s.setMbx i { s.mbx i with toMgr := (s.mbx i).toMgr.drop 1, headMgr := s.now, waitMgr := [] } := by
  simp [State.mbxTake, h]

theorem exec_mbxTimeout_empty (h : (s.mbx i).toMgr = []) : exec (.mbxTimeout i true) s = .next s :=
  congrArg Host.Outcome.next (if_neg (by simp [h]))

theorem exec_mbxTimeout_early (h : s.now < (s.mbx i).headMgr + ms (s.f MBX_CTL_TMO_MS i)) :
    exec (.mbxTimeout i true) s = .next s :=
  congrArg Host.Outcome.next (if_neg (by simp [h]))

/-- A message that has stayed untaken for its time is shown to its sender (R470). -/
theorem exec_mbxTimeout_mgr {a : List (BitVec 8)} {l : List (List (BitVec 8))} (hi : hasMbx i = true) (h : (s.mbx i).toMgr = a :: l)
    (ht : (s.mbx i).headMgr + ms (s.f MBX_CTL_TMO_MS i) ≤ s.now) :
    exec (.mbxTimeout i true) s = .next ((s.setF MBX_STAT_TIMEOUT (128 + i) 0 1).post 0x9 i) :=
  congrArg Host.Outcome.next (if_pos (by simp [hi, h, ht]))

theorem exec_mbxTimeout_inst {a : List (BitVec 8)} {l : List (List (BitVec 8))} (hi : hasMbx i = true) (h : (s.mbx i).toInst = a :: l)
    (ht : (s.mbx i).headInst + ms (s.f MBX_CTL_TMO_MS i) ≤ s.now) :
    exec (.mbxTimeout i false) s = .next ((s.setF MBX_STAT_TIMEOUT i 0 1).post 0x9 (i + 128)) :=
  congrArg Host.Outcome.next (if_pos (by simp [hi, h, ht]))

end
end Sys2Proof.Machine

open Sys2Proof Sys2Proof.Machine in
/-- Settles O51: each event is the case of its function that the instance's reset, freeze, command and mailbox decide. -/
theorem instanceProgress : Obligations.InstanceProgress := by
  unfold Obligations.InstanceProgress
  refine ⟨fun s i => ⟨fun h => ⟨exec_instResetCut_none h, exec_instResetDrained_none h⟩,
      fun t h => ⟨fun ht => ?_, fun ht => ?_, exec_instResetDrained_runs, exec_instResetDrained_ends h⟩,
      fun h => ⟨exec_freezeDrained_none h, exec_freezeTimeout_none h⟩,
      fun t h => ⟨fun hd ht => ?_, fun hd => ?_, fun ht => ?_, fun ht => ?_⟩,
      exec_saveDone_other, fun h => ⟨fun u => exec_saveDone_written h, fun e => exec_saveDone_error h⟩,
      exec_restoreDone_other, fun h => ⟨fun e => exec_restoreDone_error h, exec_restoreDone_noImage h,
        fun m => exec_restoreDone_otherShape h, fun m => exec_restoreDone_restored h⟩⟩,
    fun s i h1 h64 => ?_⟩
  · exact (exec_instResetCut_some h).trans (congrArg _ (if_pos ht))
  · exact (exec_instResetCut_some h).trans (congrArg _ (if_neg (Nat.not_lt.2 ht)))
  · exact (exec_freezeDrained_some h).trans (congrArg _ (if_pos (by simpa using ⟨hd, ht⟩)))
  · refine (exec_freezeDrained_some h).trans (congrArg _ (if_neg ?_))
    rcases hd with hd | hd
    · simp [hd]
    · simp only [Bool.and_eq_true, decide_eq_true_eq, not_and, Nat.not_le]
      exact fun _ => hd
  · exact (exec_freezeTimeout_some h).trans (congrArg _ (if_neg (Nat.not_lt.2 ht)))
  · exact (exec_freezeTimeout_some h).trans (congrArg _ (if_pos ht))
  · have hi := hasMbx_iff.2 ⟨h1, h64⟩
    have hms : ms (s.f MBX_CTL_TMO_MS i) = 65536000000 * s.f MBX_CTL_TMO_MS i := Nat.mul_comm ..
    refine ⟨fun hs hr => ?_, exec_mbxTimeout_empty, fun a l h => ⟨fun ht => exec_mbxTimeout_early (hms ▸ ht),
      fun ht => exec_mbxTimeout_mgr hi h (hms ▸ ht)⟩, fun a l h ht => exec_mbxTimeout_inst hi h (hms ▸ ht)⟩
    obtain ⟨hsend, htake⟩ := exec_mbxCmds_manager hi hs hr
    rw [hsend, htake]
    exact ⟨fun h => congrArg _ (State.mbxSend_full h), fun h => congrArg _ (State.mbxSend_adds h),
      fun h => congrArg _ (State.mbxTake_noNotice h)⟩

/-! # Interrupt sources and targets (R478 to R490) -/

namespace Sys2Proof.Machine
section
variable {s u : State} {t k v g p w kind unit : Nat} {x : IrqSrc}

/-! ### Claims and completions -/

section
variable (hs : s.serves 0x05 = true) (hf : s.fastOff 0x05 t = false) (hr : s.resetting 0 = false) (h64 : 64 ≤ t) (h196 : t ≤ 196)
include h64 h196

/-- The manager reaches every target (Table 02-5). -/
theorem reachesTarget_manager : reachesTarget 0 t = true := by simp [reachesTarget, h64, h196]

include hs hf hr

theorem exec_irqClaim_manager : exec (.irqClaim 0 t 4) s = .next (match s.claimable t with
    | none => { s with rdata := 0 }
    | some k => { s.claim t k with rdata := 2 ^ 31 + k }) := by
  simp only [exec, execIrqClaim, hs, reachesTarget_manager h64 h196, hr, hf]
  rfl

theorem exec_irqComplete_manager : exec (.irqComplete 0 t k) s = .next (s.irqComplete 0 t k) := by
  simp only [exec, execIrqComplete, hs, reachesTarget_manager h64 h196, hr, hf]
  rfl

end

/-- CLAIM takes the source out of pending into service and starts its group's hold-off (R480, R486). -/
theorem State.claim_eq : s.claim t k =
    (let u := s.setSrc k { s.src k with pend := false, insvc := true, svc := t }
     let hold := u.f IRQ_HOLDOFF_HOLD (k / 128) (k / 32 % 4)
     (if hold = 0 then u else { u with hold := PMap.put u.hold (k / 32) (u.now + 65536 * (64 * hold)) } : State).irqEval) := by
  simp only [State.claim, ns, beq_iff_eq, Nat.mul_comm (64 * _) 65536]

theorem State.irqComplete_notInService (hk : k < 2 ^ 13) (h : (s.src k).insvc = false) :
    s.irqComplete 0 t k = s.setF (tgtFld IRQ_TSTAT_COMPLETE_ERR) (tgtUnit t) (tgtIdx t) 1 := by
  simp only [State.irqComplete, Nat.mod_eq_of_lt hk, h, Bool.false_and, Bool.false_eq_true, if_false]

/-- A COMPLETE of a source in service of a target of the writer's ends the service (R485). -/
theorem State.irqComplete_own (hk : k < 2 ^ 13) (h : (s.src k).insvc = true) (ho : ownTarget 0 (s.src k).svc = true) :
    s.irqComplete 0 t k = State.irqDone ((s.setSrc k { s.src k with insvc := false }).relevel k) k := by
  simp only [State.irqComplete, Nat.mod_eq_of_lt hk, h, ho, Bool.true_and, if_true]

/-! ### Signals, hold-offs and storm windows -/

/-- KIND 1 is the page error level; every other kind is a pulse that its origin has raised (R479). -/
theorem exec_sourceSignal_pulse (hk : kind ≠ 1) : exec (.sourceSignal kind v) s = .next (
    if s.events.any fun e => e.kind == kind && e.unit == v then
      let u : State := { s with events := dropEv kind v s.events }
      match u.srcOf kind v with
      | some k => State.irqDone (u.pulseSrc k) k
      | none => u
    else s) :=
  congrArg Host.Outcome.next (if_neg (by simpa using hk))

theorem exec_holdoffExpiry_none (h : PMap.find s.hold g = none) : exec (.holdoffExpiry g) s = .next s := by
  simp only [exec, execHoldoffExpiry, h]

theorem exec_holdoffExpiry_some (h : PMap.find s.hold g = some t) : exec (.holdoffExpiry g) s =
    .next (if t ≤ s.now then ({ s with hold := PMap.del s.hold g } : State).irqEval else s) := by
  simp only [exec, execHoldoffExpiry, h]

theorem State.src_nil (h : s.irq = []) : s.src k = {} := by simp [State.src, h, PMap.get, PMap.find]

theorem State.src_single (h : s.irq = [(k, x)]) : s.src v = if v = k then x else {} := by
  rw [State.src, h]
  by_cases hv : v = k <;> simp [PMap.get, PMap.find, hv]

/-- A source put where no other is listed is the one listed, if it is not in its reset state. -/
theorem State.src_setSrc_single (h : s.irq = [(k, x)]) {y : IrqSrc} : (s.setSrc k y).src v = if v = k then y else {} := by
  by_cases hy : y = {}
  · rw [State.src_nil (by simp [State.setSrc, h, PMap.putD, hy, PMap.del]), hy, ite_self]
  · exact State.src_single (by simp [State.setSrc, h, PMap.putD, hy, PMap.put])

/-- A source counts from zero in a window that it has counted no assertion in (R487). -/
def State.stormReset (s : State) (w k : Nat) : State :=
  if (s.src k).asserts != 0 && (s.src k).win != w then s.setSrc k { s.src k with asserts := 0, win := w } else s

theorem exec_stormWindowEnd : exec (.stormWindowEnd p) s =
    .next (s.each 128 fun u j => u.stormReset (s.stormWin p) (128 * p + j)) := rfl

theorem State.stormReset_quiet (h : (s.src k).asserts = 0) : s.stormReset w k = s := if_neg (by simp [h])

theorem State.stormReset_counted (h : (s.src k).asserts ≠ 0) (hw : (s.src k).win ≠ w) :
    s.stormReset w k = s.setSrc k { s.src k with asserts := 0, win := w } := if_pos (by simp [h, hw])

/-- A fold that changes nothing. -/
theorem State.foldl_same {α : Type} {f : State → α → State} {l : List α} (h : ∀ a ∈ l, f s a = s) : l.foldl f s = s := by
  induction l with
  | nil => rfl
  | cons a l ih => rw [List.foldl_cons, h a List.mem_cons_self, ih fun b hb => h b (List.mem_cons_of_mem _ hb)]

theorem State.each_succ {f : State → Nat → State} {n : Nat} : s.each (n + 1) f = f (s.each n f) n := by
  simp [State.each, List.range_succ]

/-- A fold in which one place alone acts, and acts but once. -/
theorem State.each_once {f : State → Nat → State} {n j : Nat} (hj : j < n) (hs : ∀ i < n, i ≠ j → f s i = s)
    (hu : ∀ i < n, f (f s j) i = f s j) : s.each n f = f s j := by
  have hupto : ∀ m ≤ n, s.each m f = if m ≤ j then s else f s j := by
    intro m
    induction m with
    | zero => intro _; rfl
    | succ m ih =>
      intro hm
      rw [State.each_succ, ih (by omega)]
      rcases Nat.lt_trichotomy m j with h | rfl | h
      · rw [if_pos h.le, if_pos (Nat.succ_le_of_lt h), hs m (by omega) (by omega)]
      · rw [if_pos (Nat.le_refl _), if_neg (by omega)]
      · rw [if_neg (by omega), if_neg (by omega), hu m (by omega)]
  rw [hupto n (Nat.le_refl _), if_neg (by omega)]

theorem exec_stormWindowEnd_nil (h : s.irq = []) : exec (.stormWindowEnd p) s = .next s :=
  congrArg Host.Outcome.next (State.foldl_same fun _ _ => State.stormReset_quiet (by rw [State.src_nil h]))

/-- With one source listed, the page's storm window ends for it alone. -/
theorem exec_stormWindowEnd_single (h : s.irq = [(k, x)]) (hp : k / 128 = p) (ha : x.asserts ≠ 0) (hw : x.win ≠ s.stormWin p) :
    exec (.stormWindowEnd p) s = .next (s.setSrc k { x with asserts := 0, win := s.stormWin p }) := by
  have hk : 128 * p + k % 128 = k := by omega
  have hx : s.src k = x := by rw [State.src_single h, if_pos rfl]
  have hone : s.stormReset (s.stormWin p) (128 * p + k % 128) = s.setSrc k { x with asserts := 0, win := s.stormWin p } := by
    rw [hk, State.stormReset_counted (hx ▸ ha) (hx ▸ hw), hx]
  rw [exec_stormWindowEnd, State.each_once (f := fun u j => u.stormReset (s.stormWin p) (128 * p + j)) (Nat.mod_lt k (by decide)), hone]
  · intro i _ hi
    exact State.stormReset_quiet (by rw [State.src_single h, if_neg (by omega)])
  · intro i _
    simp only [hone]
    refine State.stormReset_quiet ?_
    rw [State.src_setSrc_single h]
    split <;> rfl

/-! ### Register writes -/

/-- The manager's writes of the source registers act (R63). -/
theorem exec_irqWrites (ho : s.opens 0x05 p = true) (hp : p < 64) (hw : w < 4) :
    exec (.irqPendWrite 0 p w v) s = .next (s.pendWrite 0 p w v) ∧ exec (.irqEnWrite 0 p w v) s = .next (s.enWrite 0 p w v) := by
  obtain ⟨hl, hr⟩ := State.opens_iff.1 ho
  have hact (k : State → State) :
      Host.Outcome.next (if p < 64 && w < 4 then s.act 0 0x05 p false k else s) = (.next (k s) : Res) :=
    congrArg Host.Outcome.next ((if_pos (by simp [hp, hw])).trans (State.act_manager k hl hr))
  exact ⟨hact _, hact _⟩

theorem bit_ones {n b : Nat} (h : b < n) : bit (2 ^ n - 1) b = true := by
  rw [bit, beq_iff_eq, ← decide_eq_true_iff (p := _ = 1), ← Nat.testBit_eq_decide_div_mod_eq, Nat.testBit_two_pow_sub_one]
  simpa using h

theorem bit_zero {b : Nat} : bit 0 b = false := by simp [bit]

theorem State.each_congr {n : Nat} {f f' : State → Nat → State} (h : ∀ u, ∀ i < n, f u i = f' u i) : s.each n f = s.each n f' :=
  List.foldl_ext _ _ _ fun u i hi => h u i (List.mem_range.1 hi)

/-- A write of all ones makes the word's sources pending (R488). -/
theorem State.pendWrite_ones : s.pendWrite 0 p w (2 ^ 32 - 1) =
    (s.each 32 fun s b => s.setSrc (128 * p + 32 * w + b) { s.src (128 * p + 32 * w + b) with pend := true }).irqEval :=
  congrArg State.irqEval (State.each_congr fun _ _ hb => if_pos (bit_ones hb))

/-- A write of 0 disables the word's sources, and enables none (R489). -/
theorem State.enWrite_zero : s.enWrite 0 p w 0 =
    (s.each 32 fun s b => s.setSrc (128 * p + 32 * w + b) { s.src (128 * p + 32 * w + b) with en := false }).irqEval := by
  simp only [State.enWrite, State.foreignBits, bit_zero]
  simp

/-! ### Bindings -/

section
variable (hk : k < 8192) (ho : s.opens 0x05 (k / 128) = true)
include hk ho

theorem exec_irqSrcCfgWrite_manager : exec (.irqSrcCfgWrite 0 k 2 v) s = .next (s.srcCfgWrite 0 k 2 v) := by
  obtain ⟨hl, hr⟩ := State.opens_iff.1 ho
  exact congrArg Host.Outcome.next ((if_pos (by simp [hk])).trans (State.act_manager _ hl hr))

end

theorem State.srcCfgWrite_reserved (h : 0xB < (srcWritten (s.src k) 2 v).kind ∨ 64 < (srcWritten (s.src k) 2 v).inst) :
    s.srcCfgWrite 0 k 2 v = s.errOn PAGE_ERR_RESERVED_ENC 0x05 (k / 128) := by
  simp [State.srcCfgWrite, h]

theorem State.srcCfgWrite_admitted (hK : (srcWritten (s.src k) 2 v).kind ≤ 0xB) (hI : (srcWritten (s.src k) 2 v).inst ≤ 64) :
    s.srcCfgWrite 0 k 2 v = if s.bindBad k (srcWritten (s.src k) 2 v) then s.err IRQ_ERR_BIND_BAD (k / 128) else
      (let n := srcWritten (s.src k) 2 v
       let u := s.setSrc k (if n.kind ≠ (s.src k).kind ∨ n.unit ≠ (s.src k).unit then { n with sig := s.signal n } else n)
       State.irqDone (if n.sense == 0 && u.signal n then u.levelSrc k else (u, false)) k) := by
  have hgo : ¬ (0xB < (srcWritten (s.src k) 2 v).kind ∨ 64 < (srcWritten (s.src k) 2 v).inst) := by omega
  simp [State.srcCfgWrite, hgo]

end
end Sys2Proof.Machine

open Sys2Proof Sys2Proof.Machine in
/-- Settles O52: the manager's accesses reach their targets and sources, and each is the case of its function that those decide. -/
theorem interrupts : Obligations.Interrupts := by
  unfold Obligations.Interrupts
  refine ⟨fun s t k hs hf hr h64 h196 => ?_, fun s kind u hk => ?_,
    fun s g p w => ⟨exec_holdoffExpiry_none, fun t h => ⟨fun ht => ?_, fun ht => ?_⟩, exec_stormWindowEnd_nil,
      fun k v => exec_stormWindowEnd_single, fun ho hp hw => ?_⟩, fun s k v hk ho => ?_⟩
  · rw [exec_irqClaim_manager hs hf hr h64 h196, exec_irqComplete_manager hs hf hr h64 h196]
    refine ⟨fun h => by rw [h], fun h => ?_, fun hk => ⟨fun h => congrArg _ (State.irqComplete_notInService hk h),
      fun h hsvc => congrArg _ (State.irqComplete_own hk h (by rw [hsvc]; rfl))⟩⟩
    simp only [h, State.claim_eq]
  · rw [exec_sourceSignal_pulse hk]
    refine ⟨fun h => congrArg _ (if_of_false h), fun h => ?_⟩
    rw [if_pos h]
    exact ⟨fun hn => by simp only [hn], fun k hn => by simp only [hn]⟩
  · rw [exec_holdoffExpiry_some h, if_neg (Nat.not_le.2 ht)]
  · rw [exec_holdoffExpiry_some h, if_pos ht]
  · rw [(exec_irqWrites ho hp hw).1, (exec_irqWrites ho hp hw).2]
    exact ⟨congrArg _ State.pendWrite_ones, congrArg _ State.enWrite_zero⟩
  · rw [exec_irqSrcCfgWrite_manager hk ho]
    refine ⟨fun h => congrArg _ (State.srcCfgWrite_reserved h), fun hK hI hb => ?_, fun hK hI hb hn => ?_⟩
    · rw [State.srcCfgWrite_admitted hK hI, if_pos hb]
    · rw [State.srcCfgWrite_admitted hK hI, if_of_false hb]
      exact congrArg (fun r => Host.Outcome.next (State.irqDone r k)) (if_neg (by simp [hn]))

/-! # Faults, takeovers, nominations and winnowing (R494 to R506) -/

namespace Sys2Proof.Machine
section
variable {s : State} {kind dom u place key : Nat} {tr : Bool} {w : Worn}

/-! ### Detected faults -/

theorem exec_faultDetect_ignored (h : wornOk kind dom u = false ∨ s.domOn dom = false ∨ s.boot.phase = 0) :
    exec (.faultDetect kind dom u place tr) s = .next s :=
  congrArg Host.Outcome.next (if_pos (by rcases h with h | h | h <;> simp [h]))

theorem exec_faultDetect_noSource (hk : kind = 8) (h : 3 < place ∨ bit s.boot.trng place = false) :
    exec (.faultDetect kind dom u place tr) s = .next s :=
  congrArg Host.Outcome.next (ite_eq_left_iff.2 fun _ => if_pos (by rcases h with h | h <;> simp [hk, h]))

/-- The unit that a fault names, as it is reported. -/
def wornAt (kind dom u place : Nat) : Worn := { kind := kind, dom := dom, unit := u, place := place, cause := 1 }

/-- What a transient is counted as where it is detected: a correction of a buffer or of a memory, a health-test failure (R496, R602). -/
def State.transientSeen (s : State) (kind dom u : Nat) : State :=
  if kind = 3 ∧ dom ≤ 8 then s.count (bankStook (dom - 1)) 0x82 0 none
  else if kind = 4 then s.count (bankStack u) 0x1C2 0 none
  else if kind = 8 then (s.satF RNG_STAT_HEALTH_FAILS 0 0 1).err RNG_ERR_HEALTH 0 else s

/-- What a permanent fault does by the kind of its unit (R497, R502, R511). -/
def State.permanentSeen (s : State) (kind dom u place : Nat) : State :=
  let w := wornAt kind dom u place
  if kind = 8 then s.trngFail place
  else if kind = 4 then s.nominate { w with cause := 3, at_ := s.now }
  else if kind = 11 then (if 37 ≤ dom ∧ dom ≤ 40 then s.channelLost w (place != 0) else s.degrade w u)
  else s.fault w

theorem State.transientSeen_eq (h8 : kind ≠ 8) : s.transientSeen kind dom u =
    if kind = 3 ∧ dom ≤ 8 then s.count (bankStook (dom - 1)) 0x82 0 none
    else if kind = 4 then s.count (bankStack u) 0x1C2 0 none else s := by
  simp only [State.transientSeen, h8, if_false]

theorem State.transientSeen_source (h8 : kind = 8) :
    s.transientSeen kind dom u = (s.satF RNG_STAT_HEALTH_FAILS 0 0 1).err RNG_ERR_HEALTH 0 := by
  simp [State.transientSeen, h8]

section
variable (hok : wornOk kind dom u = true) (hd : s.domOn dom = true) (hp : s.boot.phase ≠ 0)
  (h8 : kind = 8 → place ≤ 3 ∧ bit s.boot.trng place = true)
include hok hd hp h8

/-- A fault that a check in service detects is a transient or a permanent one. -/
theorem exec_faultDetect_seen : exec (.faultDetect kind dom u place tr) s = .next (
    if tr then (s.transientSeen kind dom u).transient (wornAt kind dom u place) else s.permanentSeen kind dom u place) := by
  have hgo : ¬ (!(wornOk kind dom u) || !(s.domOn dom) || s.boot.phase == 0) = true := by simp [hok, hd, hp]
  have hsrc : ¬ (kind == 8 && (decide (3 < place) || !(bit s.boot.trng place))) = true := by
    by_cases h : kind = 8
    · obtain ⟨h3, ht⟩ := h8 h
      simp [h3, ht]
    · simp [h]
  refine congrArg Host.Outcome.next ((if_neg hgo).trans ((if_neg hsrc).trans ?_))
  simp only [State.transientSeen, State.permanentSeen, Bool.and_eq_true, beq_iff_eq, decide_eq_true_eq]
  cases tr <;> rfl

theorem exec_faultDetect_transient : exec (.faultDetect kind dom u place true) s =
    .next ((s.transientSeen kind dom u).transient (wornAt kind dom u place)) :=
  exec_faultDetect_seen hok hd hp h8

theorem exec_faultDetect_permanent : exec (.faultDetect kind dom u place false) s = .next (s.permanentSeen kind dom u place) :=
  (exec_faultDetect_seen hok hd hp h8).trans (congrArg _ (if_neg Bool.false_ne_true))

end

/-! ### Transients -/

/-- The transient is kept among those that still count. -/
def State.transientKept (s : State) (w : Worn) : State :=
  { s with rsv := { s.rsv with trans := s.transOf w ++ [{ w with at_ := s.now }] } }

/-- How many of its unit count. -/
def State.transients (s : State) (w : Worn) : Nat := (s.rsv.trans.filter fun x => x.same w).length

/-- Those of its unit count no more. -/
def State.transientsForgotten (s : State) (w : Worn) : State :=
  { s with rsv := { s.rsv with trans := s.rsv.trans.filter fun x => !(x.same w) } }

/-- The transient that has just been kept counts. -/
theorem State.transients_kept_pos : 0 < (s.transientKept w).transients w := by
  simp [State.transients, State.transientKept, Worn.same]

/-- What a transient of each kind does (R21, R496, R497, R602). -/
theorem State.transient_eq : s.transient w = (
    let t := s.transientKept w
    let most := if w.kind = 3 then 4 else if w.kind = 4 then 2 else if w.kind = 8 then 1 else 3
    let v := if w.kind = 3 ∨ w.kind = 4 then t else t.rsvRecord 0xF4 w 1
    if t.transients w < most then v
    else (v.transientsForgotten w).nominate { w with
      cause := if w.kind = 3 ∨ w.kind = 4 then 3 else if w.kind = 8 then 6 else 4, at_ := (v.transientsForgotten w).now }) := by
  simp only [State.transient, Bool.or_eq_true, beq_iff_eq]
  rfl

section
variable (hk3 : w.kind ≠ 3) (hk4 : w.kind ≠ 4) (hk8 : w.kind ≠ 8)
include hk3 hk4 hk8

theorem State.transient_repeated (hn : (s.transientKept w).transients w < 3) :
    s.transient w = (s.transientKept w).rsvRecord 0xF4 w 1 := by
  simp [State.transient_eq, hk3, hk4, hk8, hn]

theorem State.transient_third (hn : 3 ≤ (s.transientKept w).transients w) : s.transient w =
    (let v := ((s.transientKept w).rsvRecord 0xF4 w 1).transientsForgotten w
     v.nominate { w with cause := 4, at_ := v.now }) := by
  simp [State.transient_eq, hk3, hk4, hk8, Nat.not_lt.2 hn]

end

section
variable (hk : w.kind = 3 ∨ w.kind = 4)
include hk

/-- Corrections of a memory leave no record until they nominate (R21). -/
theorem State.transient_corrected (hn : (s.transientKept w).transients w < if w.kind = 3 then 4 else 2) :
    s.transient w = s.transientKept w := by
  rcases hk with hk | hk <;> simp [State.transient_eq, hk] at hn ⊢ <;> omega

theorem State.transient_worn (hn : (if w.kind = 3 then 4 else 2) ≤ (s.transientKept w).transients w) : s.transient w =
    ((s.transientKept w).transientsForgotten w).nominate { w with cause := 3, at_ := s.now } := by
  rcases hk with hk | hk <;> simp [State.transient_eq, hk] at hn ⊢ <;> rw [if_neg (by omega)] <;> rfl

end

/-- A TRNG source is nominated by its first (R602). -/
theorem State.transient_source (hk : w.kind = 8) : s.transient w =
    (let t := ((s.transientKept w).rsvRecord 0xF4 w 1).transientsForgotten w
     t.nominate { w with cause := 6, at_ := t.now }) := by
  have hn := State.transients_kept_pos (s := s) (w := w)
  simp [State.transient_eq, hk, Nat.not_lt.2 (Nat.succ_le_of_lt hn)]

/-! ### Losses without a reserve -/

theorem State.degrade_first (h : key ∉ s.rsv.degraded) : s.degrade w key =
    ({ s with rsv := { s.rsv with degraded := s.rsv.degraded ++ [key] } } : State).rsvRecord 0xF6 w 1 :=
  if_of_false (by simp [h])

/-- The first loss of a pseudo-channel in a stack (R511); where the whole stack goes, its lines are lost (R19). -/
theorem State.channelLost_first {whole : Bool} (h : (s.rsv.degraded.filter fun k => k / 2 ^ 20 == 2 ^ 20 + w.dom) = []) :
    s.channelLost w whole =
      (let t := ({ s with rsv := { s.rsv with degraded := s.rsv.degraded ++ [2 ^ 40 + 2 ^ 20 * w.dom + w.unit % 2 ^ 20] } } : State).rsvRecord
        0xF6 { w with kind := 4, unit := w.dom - 37 } 1
       if whole then t.stackLost (w.dom - 37) else t) := by
  have hkey : 2 ^ 40 + 2 ^ 20 * w.dom + w.unit % 2 ^ 20 ∉ s.rsv.degraded := fun hmem => by
    have hnot := List.filter_eq_nil_iff.1 h _ hmem
    simp only [beq_iff_eq] at hnot
    omega
  simp only [State.channelLost, h, List.isEmpty_nil, if_true, List.any_nil, Bool.or_false, State.degrade_first hkey]

/-! ### Permanent faults -/

/-- The repair map and the nominations have no part in what is left of the reserve. -/
theorem State.rsvLeft_congr {t : State} {k : Nat} (hr : t.regs = s.regs) (hrows : t.rsv.rows = s.rsv.rows)
    (hbanks : t.rsv.banks = s.rsv.banks) : t.rsvLeft k u = s.rsvLeft k u := by
  simp only [State.rsvLeft, State.banksLeft, State.f_congr hr, hrows, hbanks]

section
variable (hk : 3 ≤ w.kind) (ht : s.rsv.takes = [])

/-- The unit is marked failed and nominated no more. -/
def State.failedNow (s : State) (w : Worn) : State :=
  ({ s with rsv := { s.rsv with noms := s.rsv.noms.filter fun x => !(x.same w) } } : State).markFailed w.kind w.unit w.place

theorem State.rsvLeft_failedNow {k : Nat} : (s.failedNow w).rsvLeft k u = s.rsvLeft k u := State.rsvLeft_congr rfl rfl rfl

include hk

theorem State.fault_lost (hl : s.rsvLeft w.kind w.unit = 0) : s.fault w = (s.failedNow w).rsvLost w := by
  have h1 : (w.kind == 1) = false := by simp; omega
  have h2 : (w.kind == 2) = false := by simp; omega
  have hleft : (s.failedNow w).rsvLeft w.kind w.unit = 0 := State.rsvLeft_failedNow.trans hl
  simp only [State.fault, h1, h2, Bool.false_eq_true, if_false]
  exact if_pos (hleft.trans_le (Nat.zero_le _))

include ht

/-- With no takeover waiting and reserve left one starts (R502). -/
theorem State.fault_takeover (hl : s.rsvLeft w.kind w.unit ≠ 0) (hs : s.rsvServes = true) : s.fault w =
    (let v : State := { s.failedNow w with rsv := { (s.failedNow w).rsv with takes := [{ w with at_ := s.now }] } }
     if w.kind = 5 then v.quadCut w.unit else v) := by
  have h1 : (w.kind == 1) = false := by simp; omega
  have h2 : (w.kind == 2) = false := by simp; omega
  have hleft : (s.failedNow w).rsvLeft w.kind w.unit ≠ 0 := fun h => hl (State.rsvLeft_failedNow.symm.trans h)
  have htakes : (s.failedNow w).rsv.takes = [] := ht
  have hfirst : ({ s.failedNow w with rsv := { (s.failedNow w).rsv with
      takes := (s.failedNow w).rsv.takes ++ [{ w with at_ := s.now }] } } : State) =
      { s.failedNow w with rsv := { (s.failedNow w).rsv with takes := [{ w with at_ := s.now }] } } := by
    rw [htakes, List.nil_append]
  simp only [State.fault, h1, h2, Bool.false_eq_true, if_false]
  change (if (s.failedNow w).rsvLeft w.kind w.unit ≤ (((s.failedNow w).rsv.takes.filter _).length) then _ else _) = _
  simp only [htakes, List.filter_nil, List.length_nil, Nat.le_zero_eq]
  refine (if_neg hleft).trans ((if_pos hs).trans ?_)
  simp only [beq_iff_eq]
  exact congrArg (fun v : State => if w.kind = 5 then v.quadCut w.unit else v) hfirst

end
/-! ### Mismatches of two copies -/

section
variable {blk : Nat}

theorem exec_dualCopyMismatch_ignored (h : unitListed blk u = false ∨ s.domOn (domainOf blk u) = false ∨ s.boot.phase = 0 ∨
    pageOf blk u ∈ s.rsv.degraded) : exec (.dualCopyMismatch blk u) s = .next s :=
  congrArg Host.Outcome.next (if_pos (by rcases h with h | h | h | h <;> simp [h]))

/-- The mismatches of the last millisecond (R495). -/
def State.recentMism (s : State) : List (Nat × Nat) := s.rsv.mism.filter fun x => decide (s.now < x.2 + 65536000000)

/-- The mismatch of a block is noted. -/
def State.mismNoted (s : State) (key : Nat) : State :=
  { s with rsv := { s.rsv with mism := s.recentMism ++ [(key, s.now)] } }

section
variable (hl : unitListed blk u = true) (hd : s.domOn (domainOf blk u) = true) (hp : s.boot.phase ≠ 0)
  (hk : pageOf blk u ∉ s.rsv.degraded)
include hl hd hp hk

theorem exec_dualCopyMismatch_noted (hn : (s.recentMism.filter fun x => x.1 == pageOf blk u).length < 2) :
    exec (.dualCopyMismatch blk u) s = .next (s.mismNoted (pageOf blk u)) :=
  congrArg Host.Outcome.next ((if_neg (by simp [hl, hd, hp, hk])).trans (if_pos hn))

/-- The third mismatch within the millisecond leaves the block on one copy. -/
theorem exec_dualCopyMismatch_third (hn : 2 ≤ (s.recentMism.filter fun x => x.1 == pageOf blk u).length) :
    exec (.dualCopyMismatch blk u) s = .next (
      let t := s.mismNoted (pageOf blk u)
      let t1 : State := { t with rsv := { t.rsv with mism := t.rsv.mism.filter (fun x => x.1 != pageOf blk u)
                                                     degraded := s.rsv.degraded ++ [pageOf blk u] } }
      t1.rsvRecord 0xF6 { kind := 11, dom := domainOf blk u, unit := blk * 4096 + u } 1) :=
  congrArg Host.Outcome.next ((if_neg (by simp [hl, hd, hp, hk])).trans
    ((if_neg (Nat.not_lt.2 hn)).trans (State.degrade_first hk)))

end
end

/-! ### Takeovers and retirement -/

/-- The first of the reports that names a unit. -/
def firstOf (kind u : Nat) (l : List Worn) : Option Worn := l.find? fun w => w.kind == kind && w.unit == u

theorem State.takeover_none (h : firstOf kind u s.rsv.takes = none) : s.takeover kind u = s := by
  unfold firstOf at h
  simp only [State.takeover, h]

theorem State.takeover_some (h : firstOf kind u s.rsv.takes = some w) : s.takeover kind u =
    if !(s.rsvServes) then s
    else
      let t : State := { s with rsv := { s.rsv with takes := s.rsv.takes.erase w } }
      if s.rsvLeft kind u == 0 then t.rsvLost w
      else if kind == 2 then t.rsvIn w true
      else (t.rsvIn w true).rsvRecord 0xF0 w w.cause := by
  unfold firstOf at h
  simp only [State.takeover, h]
  rfl

theorem exec_takeoverResume_ignored (h : firstOf kind u s.rsv.takes = none ∨ s.rsvServes = false) :
    exec (.takeoverResume kind u) s = .next s := by
  refine congrArg Host.Outcome.next ?_
  cases hf : firstOf kind u s.rsv.takes with
  | none => exact State.takeover_none hf
  | some w => exact (State.takeover_some hf).trans (if_pos (by simpa [hf] using h))

theorem exec_retire_none (h : firstOf kind u s.rsv.noms = none) : exec (.retire kind u) s = .next s := by
  unfold firstOf at h
  simp only [exec, execRetire, h]

theorem exec_retire_some (h : firstOf kind u s.rsv.noms = some w) : exec (.retire kind u) s = .next (
    if !(s.rsvServes) then s
    else
      let t : State := { s with rsv := { s.rsv with noms := s.rsv.noms.erase w } }
      if s.rsvLeft kind u == 0 then t.rsvExhausted w w.cause
      else
        let v := (t.rsvIn w false).rsvRecord 0xF1 w w.cause
        if kind == 4 && v.rsvLeft 4 u == 0 then v.memSpent u else v) := by
  unfold firstOf at h
  simp only [exec, execRetire, h]

theorem exec_retire_ignored (h : firstOf kind u s.rsv.noms = none ∨ s.rsvServes = false) :
    exec (.retire kind u) s = .next s := by
  cases hf : firstOf kind u s.rsv.noms with
  | none => exact exec_retire_none hf
  | some w => exact (exec_retire_some hf).trans (congrArg _ (if_pos (by simpa [hf] using h)))

section
variable (hs : s.rsvServes = true)
include hs

theorem exec_takeoverResume_lost (hf : firstOf kind u s.rsv.takes = some w) (hl : s.rsvLeft kind u = 0) :
    exec (.takeoverResume kind u) s =
      .next (({ s with rsv := { s.rsv with takes := s.rsv.takes.erase w } } : State).rsvLost w) :=
  congrArg Host.Outcome.next ((State.takeover_some hf).trans ((if_not_of_true hs).trans (if_pos (by simp [hl]))))

theorem exec_takeoverResume_in (hf : firstOf kind u s.rsv.takes = some w) (hl : s.rsvLeft kind u ≠ 0) (hk : kind ≠ 2) :
    exec (.takeoverResume kind u) s =
      .next ((({ s with rsv := { s.rsv with takes := s.rsv.takes.erase w } } : State).rsvIn w true).rsvRecord 0xF0 w w.cause) :=
  congrArg Host.Outcome.next ((State.takeover_some hf).trans ((if_not_of_true hs).trans
    ((if_neg (by simp [hl])).trans (if_neg (by simp [hk])))))

theorem exec_retire_exhausted (hf : firstOf kind u s.rsv.noms = some w) (hl : s.rsvLeft kind u = 0) :
    exec (.retire kind u) s =
      .next (({ s with rsv := { s.rsv with noms := s.rsv.noms.erase w } } : State).rsvExhausted w w.cause) :=
  (exec_retire_some hf).trans (congrArg _ ((if_not_of_true hs).trans (if_pos (by simp [hl]))))

theorem exec_retire_in (hf : firstOf kind u s.rsv.noms = some w) (hl : s.rsvLeft kind u ≠ 0) (hk : kind ≠ 4) :
    exec (.retire kind u) s =
      .next ((({ s with rsv := { s.rsv with noms := s.rsv.noms.erase w } } : State).rsvIn w false).rsvRecord 0xF1 w w.cause) :=
  (exec_retire_some hf).trans (congrArg _ ((if_not_of_true hs).trans
    ((if_neg (by simp [hl])).trans (if_neg (by simp [hk])))))

end

/-! ### Samples (R497) -/

section
variable {slow : List (Nat × Nat × Nat × Nat)} {outside : List (Nat × Nat)}

theorem exec_ageingSample_early (h : s.boot.phase = 0 ∨ s.now < s.rsv.ageAt + 655360000000000) :
    exec (.ageingSample slow) s = .next s :=
  congrArg Host.Outcome.next (if_pos (by rcases h with h | h <;> simp [h, sec]))

theorem exec_phaseCurrentSample_early (h : s.boot.phase = 0 ∨ s.now < s.rsv.phaseAt + 65536000000) :
    exec (.phaseCurrentSample outside) s = .next s :=
  congrArg Host.Outcome.next (if_pos (by rcases h with h | h <;> simp [h, ms]))

variable (hp : s.boot.phase ≠ 0)
include hp

theorem exec_ageingSample_due (ht : s.rsv.ageAt + 655360000000000 ≤ s.now) : exec (.ageingSample slow) s = .next (
    let t : State := { s with rsv := { s.rsv with ageAt := s.now } }
    slow.foldl (fun (v : State) x =>
      if (x.1 == 1 || x.1 == 5 || x.1 == 6 || x.1 == 9) && wornOk x.1 x.2.1 x.2.2.1 && v.domOn x.2.1 then
        v.nominate { kind := x.1, dom := x.2.1, unit := x.2.2.1, place := x.2.2.2, cause := 2, at_ := v.now }
      else v) t) := by
  have hdue : ¬ (s.boot.phase == 0 || decide (s.now < s.rsv.ageAt + sec 10)) = true := by
    have hlt : ¬ s.now < s.rsv.ageAt + sec 10 := Nat.not_lt.2 ht
    simp [hp, hlt]
  exact congrArg Host.Outcome.next (if_neg hdue)

theorem exec_phaseCurrentSample_none (ht : s.rsv.phaseAt + 65536000000 ≤ s.now) :
    exec (.phaseCurrentSample []) s = .next { s with rsv := { s.rsv with phaseAt := s.now, phaseOut := [] } } :=
  congrArg Host.Outcome.next (if_neg (by simp [hp, ms, ht]))

/-- A phase that was already outside stays outside since then. -/
theorem exec_phaseCurrentSample_again {k p t : Nat} (ht : s.rsv.phaseAt + 65536000000 ≤ s.now) (hk : k < 8) (hpl : p < 14)
    (hout : s.rsv.phaseOut = [(k, p, t)]) : exec (.phaseCurrentSample [(k, p)]) s = .next (
      let v : State := { s with rsv := { s.rsv with phaseAt := s.now, phaseOut := [(k, p, t)] } }
      if t + sec 1 ≤ s.now then
        v.nominate { kind := 2, dom := 1 + k, unit := k, place := p, cause := 5, at_ := s.now }
      else v) := by
  have hdue : ¬ (s.boot.phase == 0 || decide (s.now < s.rsv.phaseAt + ms 1)) = true := by
    simp [hp, ms, ht]
  refine congrArg Host.Outcome.next ((if_neg hdue).trans ?_)
  have hin : [(k, p)].filter (fun x => decide (x.1 < 8) && decide (x.2 < 14)) = [(k, p)] := by simp [hk, hpl]
  have hsince : ((s.rsv.phaseOut.find? fun x => x.1 == k && x.2.1 == p).map fun x => x.2.2).getD s.now = t := by simp [hout]
  simp only [hin, List.map_cons, List.map_nil, hsince]
  exact List.foldl_cons.trans (List.foldl_nil.trans (if_congr Iff.rfl rfl rfl))

end

/-! ### Winnowing (R499, R501) -/

theorem exec_winnowTimer_early (h : s.rsvServes = false ∨ s.now < s.rsv.winnowAt + 65536000000000 * (3600 * s.f SAGE_WINNOW_WINNOW_H)) :
    exec .winnowTimer s = .next s :=
  congrArg Host.Outcome.next (if_pos (by
    rw [Bool.or_eq_true, Bool.not_eq_true', decide_eq_true_eq]
    exact h.imp_right fun hd => hd.trans_eq (congrArg _ (Nat.mul_comm _ _))))

theorem exec_winnowTimer_due (hs : s.rsvServes = true)
    (ht : s.rsv.winnowAt + 65536000000000 * (3600 * s.f SAGE_WINNOW_WINNOW_H) ≤ s.now) :
    exec .winnowTimer s = .next { s with rsv := { s.rsv with winnowAt := s.now, winnowing := true } } :=
  congrArg Host.Outcome.next (if_neg (by
    rw [Bool.or_eq_true, Bool.not_eq_true', decide_eq_true_eq, hs]
    rintro (h | h)
    · exact Bool.noConfusion h
    · exact absurd (h.trans_eq (congrArg _ (Nat.mul_comm _ _))) (Nat.not_lt.2 ht)))

section
variable {ok : Bool}

theorem exec_winnowDone_slice_idle (hp : s.boot.phase ≠ 3) (hw : s.rsv.winnowing = false) :
    exec (.winnowDone 5 u place ok) s = .next s :=
  congrArg Host.Outcome.next (if_pos (by simp [hp, hw]))

theorem wornOk_slice (hu : u < 24) : wornOk 5 (9 + u) u = true := by
  simp [wornOk, hu]
  omega

section
variable (hu : u < 24) (hw : s.rsv.winnowing = true) (hf : s.rsv.failed = [])
include hu hw hf

/-- The winnowing of a slice, none of any kind being marked failed. -/
theorem exec_winnowDone_slice : exec (.winnowDone 5 u place ok) s = .next (
    if ok || s.rsvLeft 5 u == 0 then s
    else ((s.rsvUse 5 u).markFailed 5 u place).rsvRecord 0xF2 { kind := 5, dom := 9 + u, unit := u, place := place, cause := 7 } 7) := by
  refine congrArg Host.Outcome.next ((if_neg ?_).trans ?_)
  · simp [wornOk_slice hu, hw]
  · simp only [hf, List.find?_nil]
    rfl

end
end

end
end Sys2Proof.Machine

open Sys2Proof Sys2Proof.Machine in
/-- Settles O53: faults, takeovers, retirement, samples and winnowing, event by event. -/
theorem faultsAndReserve : Obligations.FaultsAndReserve := by
  unfold Obligations.FaultsAndReserve
  refine ⟨fun s kind dom u place tr => ?_, fun s blk u => ?_, fun s kind u => ?_, fun s x => ?_, fun s k p => ?_, fun s => ?_,
    fun s u place ok => ?_⟩
  · intro w
    refine ⟨exec_faultDetect_ignored, fun hok hd hp => ⟨?_, fun hk => exec_faultDetect_noSource hk, fun hk h3 ht => ?_, fun hk => ?_,
      fun hk hlo hhi hdeg => ?_, fun hk hdom hdeg => ?_, fun hk3 hk4 hk8 hk11 htakes => ?_⟩⟩
    · refine ⟨fun hk3 hk4 hk8 hn => ?_, fun hk3 hk4 hk8 hn => ?_, fun hk => ?_⟩
      · rw [exec_faultDetect_transient hok hd hp fun h8 => absurd h8 hk8, State.transientSeen_eq hk8]
        exact congrArg _ (State.transient_repeated hk3 hk4 hk8 hn)
      · rw [exec_faultDetect_transient hok hd hp fun h8 => absurd h8 hk8, State.transientSeen_eq hk8]
        exact congrArg _ (State.transient_third hk3 hk4 hk8 hn)
      · rw [exec_faultDetect_transient hok hd hp fun h8 => absurd h8 (by omega), State.transientSeen_eq (by omega)]
        exact ⟨fun hn => congrArg _ (State.transient_corrected hk hn), fun hn => congrArg _ (State.transient_worn hk hn)⟩
    · refine ⟨(exec_faultDetect_permanent hok hd hp fun _ => ⟨h3, ht⟩).trans (congrArg _ (if_pos hk)), ?_⟩
      rw [exec_faultDetect_transient hok hd hp fun _ => ⟨h3, ht⟩, State.transientSeen_source hk]
      exact congrArg _ (State.transient_source hk)
    · exact (exec_faultDetect_permanent hok hd hp fun h8 => absurd h8 (by omega)).trans
        (congrArg _ ((if_neg (by omega)).trans (if_pos hk)))
    · refine (exec_faultDetect_permanent hok hd hp fun h8 => absurd h8 (by omega)).trans
        (congrArg _ ((if_neg (by omega)).trans ((if_neg (by omega)).trans ((if_pos hk).trans ((if_pos ⟨hlo, hhi⟩).trans
        ((State.channelLost_first (w := wornAt kind dom u place) hdeg).trans ?_))))))
      by_cases hpl : place = 0 <;> simp [hpl, wornAt, w]
    · exact (exec_faultDetect_permanent hok hd hp fun h8 => absurd h8 (by omega)).trans
        (congrArg _ ((if_neg (by omega)).trans ((if_neg (by omega)).trans ((if_pos hk).trans ((if_neg (by omega)).trans
        (State.degrade_first hdeg))))))
    · have hex : exec (.faultDetect kind dom u place false) s = .next (s.fault (wornAt kind dom u place)) :=
        (exec_faultDetect_permanent hok hd hp fun h8 => absurd h8 hk8).trans
          (congrArg _ ((if_neg hk8).trans ((if_neg hk4).trans (if_neg hk11))))
      exact ⟨fun hl => hex.trans (congrArg _ (State.fault_lost hk3 hl)),
        fun hl hs => hex.trans (congrArg _ (State.fault_takeover hk3 htakes hl hs))⟩
  · exact ⟨exec_dualCopyMismatch_ignored, fun hl hd hp hk =>
      ⟨exec_dualCopyMismatch_noted hl hd hp hk, exec_dualCopyMismatch_third hl hd hp hk⟩⟩
  · exact ⟨exec_takeoverResume_ignored, fun w hf hs => ⟨exec_takeoverResume_lost hs hf, exec_takeoverResume_in hs hf⟩,
      exec_retire_ignored, fun w hf hs => ⟨exec_retire_exhausted hs hf, exec_retire_in hs hf⟩⟩
  · refine ⟨exec_ageingSample_early, fun hp ht => ⟨exec_ageingSample_due hp ht, fun hx hok hd => ?_⟩⟩
    refine (exec_ageingSample_due hp ht).trans (congrArg _ (if_pos ?_))
    simp only [List.mem_cons, List.not_mem_nil, or_false] at hx
    rw [Bool.and_eq_true, Bool.and_eq_true]
    exact ⟨⟨by simpa [or_assoc] using hx, hok⟩, hd⟩
  · refine ⟨exec_phaseCurrentSample_early, fun hp ht => ⟨exec_phaseCurrentSample_none hp ht, fun t hk hpl hout => ?_⟩⟩
    have hex := exec_phaseCurrentSample_again hp ht hk hpl hout
    exact ⟨fun hn => hex.trans (congrArg _ (if_neg (Nat.not_le.2 hn))), fun hn => hex.trans (congrArg _ (if_pos hn))⟩
  · exact ⟨exec_winnowTimer_early, exec_winnowTimer_due⟩
  · exact ⟨exec_winnowDone_slice_idle, fun hu hw hf => ⟨exec_winnowDone_slice hu hw hf,
      fun hl => (exec_winnowDone_slice hu hw hf).trans (congrArg _ (if_neg (by simp [hl])))⟩⟩

/-! # Device states, drains, wakes and supply failures (R515 to R527, R583) -/

namespace Sys2Proof.Machine
section
variable {s : State} {k t st : Nat}

/-! ### PWR_CMD (R515) -/

/-- PWR_CMD is told not to start: an entry or a drain runs. -/
def State.pwrBusy (s : State) : Prop := s.b PWR_STAT_ENTERING = true ∨ s.power.target.isSome = true

/-- The command that names state `k`. It is not compiled: the runtime has no tag for an instruction that far down the list. -/
noncomputable def pwrCmdOf (k : Nat) : Instr :=
  if k = 0 then .pwrCmdRun 0 else if k = 1 then .pwrCmdIdle 0 else if k = 2 then .pwrCmdSleep 0
  else if k = 3 then .pwrCmdDsleep 0 else .pwrCmdOff 0

theorem exec_pwrCmdOf (ho : s.opens 0x03 0 = true) (hk : k ≤ 4) : exec (pwrCmdOf k) s = .next (s.pwrCmd k) := by
  obtain ⟨hl, hr⟩ := State.opens_iff.1 ho
  have hact : s.act 0 0x03 0 true (fun v => v.pwrCmd k) = s.pwrCmd k := State.act_manager _ hl hr
  rcases (by omega : k = 0 ∨ k = 1 ∨ k = 2 ∨ k = 3 ∨ k = 4) with rfl | rfl | rfl | rfl | rfl <;>
    exact congrArg Host.Outcome.next hact

theorem State.pwrCmd_busy (hk : k ≤ 4) (hb : s.pwrBusy) : s.pwrCmd k = s.setF PWR_STAT_RESULT 0 0 0x24 :=
  (if_neg (Nat.not_lt.2 hk)).trans (if_pos (Bool.or_eq_true _ _ ▸ hb))

section
variable (hb : ¬ s.pwrBusy)
include hb

theorem State.pwrCmd_notReady (hk : k ≤ 4)
    (h : s.f DEV_SERVICE_SERVICE ≠ 2 ∨ 1 < s.f PWR_STAT_STATE ∨ k = s.f PWR_STAT_STATE) :
    s.pwrCmd k = s.setF PWR_STAT_RESULT 0 0 0x22 :=
  (if_neg (Nat.not_lt.2 hk)).trans ((if_neg (Bool.or_eq_true _ _ ▸ hb)).trans
    (if_pos (by rcases h with h | h | h <;> simp [h])))

variable (hs : s.f DEV_SERVICE_SERVICE = 2)
include hs

/-- A command that the service and the state allow takes effect. -/
theorem State.pwrCmd_allowed (hk : k ≤ 4) (hst : s.f PWR_STAT_STATE ≤ 1) (hne : k ≠ s.f PWR_STAT_STATE) : s.pwrCmd k =
    if k == 0 then
      (if s.wakeOn 6 then (s.wakeIdle 6 0 0).setF PWR_STAT_RESULT 0 0 0 else s.setF PWR_STAT_RESULT 0 0 0x22)
    else if k == 1 then (s.setF PWR_STAT_STATE 0 0 1).setF PWR_STAT_RESULT 0 0 0
    else s.drainTo k false :=
  (if_neg (Nat.not_lt.2 hk)).trans ((if_neg (Bool.or_eq_true _ _ ▸ hb)).trans
    (if_neg (by simp [hs, hne, hst])))

end

/-! ### Wake sources (R519 to R521) -/

theorem State.target_none_of_not_busy (hb : ¬ s.pwrBusy) : s.power.target = none :=
  Option.not_isSome_iff_eq_none.1 fun h => hb (Or.inr h)

theorem wakes_one_contains : (wakes 1).contains k = true ↔ 1 ≤ k ∧ k ≤ 4 := by
  simp [wakes]
  omega

theorem State.wakeIdle_off {source unit detail : Nat} (h : s.wakeOn source = false) : s.wakeIdle source unit detail = s :=
  if_pos (by simp [h])

/-- With no drain a source that wakes from IDLE does so. -/
theorem State.wakeIdle_idle {source unit detail : Nat} (h : s.wakeOn source = true) (ht : s.power.target = none)
    (hst : s.f PWR_STAT_STATE = 1) (hw : (wakes source).contains 1 = true) : s.wakeIdle source unit detail =
      (s.wakeRecord (source, unit, detail, s.devTime) false 1).setF PWR_STAT_STATE 0 0 0 := by
  refine (if_not_of_true h).trans ?_
  simp only [ht]
  exact if_pos (by rw [hst, hw]; rfl)

/-- In RUN a source can only take the place of a later one of the same nanosecond (R520). -/
theorem State.wakeIdle_run {source unit detail : Nat} (h : s.wakeOn source = true) (ht : s.power.target = none)
    (hst : s.f PWR_STAT_STATE = 0) : s.wakeIdle source unit detail = s.wakeTie source unit detail := by
  refine (if_not_of_true h).trans ?_
  simp only [ht]
  exact (if_neg (by simp [hst])).trans (if_pos (by simp [hst]))

/-- During a drain the first source that acts is kept. -/
theorem State.wakeIdle_drain {source unit detail : Nat} (h : s.wakeOn source = true) (ht : s.power.target = some t)
    (hw : s.power.wake = none) (hc : (wakes source).contains t = true) : s.wakeIdle source unit detail =
      { s with power := { s.power with wake := some (source, unit, detail, s.devTime) } } := by
  refine (if_not_of_true h).trans ?_
  simp only [ht, hw]
  exact if_pos (by rw [hc, Bool.true_or, Bool.and_true])

section
variable {source unit detail : Nat}

theorem State.wakeBy_awake (h : s.power.target.isSome = true ∨ s.f PWR_STAT_STATE ≤ 1) :
    s.wakeBy source unit detail = s.wakeIdle source unit detail :=
  if_pos (by simpa using h)

theorem State.wakeBy_asleep (ht : s.power.target = none) (hst : 2 ≤ s.f PWR_STAT_STATE) : s.wakeBy source unit detail =
    if !(s.wakeOn source) || !((wakes source).contains (s.f PWR_STAT_STATE)) then s
    else if s.f PWR_STAT_STATE == 4 then
      (if s.power.wake.isSome then s.wakeTie source unit detail
       else (({ s with power := { s.power with wake := some (source, unit, detail, s.devTime) } } : State).wakeRecord
         (source, unit, detail, s.devTime) false 4).emit (.pwrReq true))
    else s.powerExit (source, unit, detail, s.devTime) false :=
  if_neg (by simp [ht]; omega)

end

theorem exec_wakeN_off (h : s.wakeOn 1 = false) : exec .wakeN s = .next s := by
  refine congrArg Host.Outcome.next ?_
  by_cases hw : s.power.target.isSome = true ∨ s.f PWR_STAT_STATE ≤ 1
  · exact (State.wakeBy_awake hw).trans (State.wakeIdle_off h)
  · rw [not_or, Option.not_isSome_iff_eq_none] at hw
    exact (State.wakeBy_asleep hw.1 (by omega)).trans (if_pos (by simp [h]))

section
variable (h : s.wakeOn 1 = true)
include h

theorem exec_wakeN_drain (ht : s.power.target = some st) (hw : s.power.wake = none) (h1 : 1 ≤ st) (h4 : st ≤ 4) :
    exec .wakeN s = .next { s with power := { s.power with wake := some (1, 0, 0, s.devTime) } } :=
  congrArg Host.Outcome.next ((State.wakeBy_awake (Or.inl (by simp [ht]))).trans
    (State.wakeIdle_drain h ht hw (wakes_one_contains.2 ⟨h1, h4⟩)))

variable (ht : s.power.target = none)
include ht

theorem exec_wakeN_run (hst : s.f PWR_STAT_STATE = 0) : exec .wakeN s = .next (
    if 1 < s.f PWR_LAST_WAKE_SOURCE ∧ s.f PWR_WAKE_TIME_TIME / 2 ^ 16 = time96 s.devTime / 2 ^ 16 ∧
        1 ≤ s.f PWR_LAST_WAKE_FROM_STATE ∧ s.f PWR_LAST_WAKE_FROM_STATE ≤ 4 then
      s.wakeRecord (1, 0, 0, s.devTime) (s.b PWR_LAST_WAKE_DURING_ENTRY) (s.f PWR_LAST_WAKE_FROM_STATE)
    else s) := by
  refine congrArg Host.Outcome.next ((State.wakeBy_awake (Or.inr (by omega))).trans ((State.wakeIdle_run h ht hst).trans ?_))
  refine if_congr ?_ rfl rfl
  rw [Bool.and_eq_true, Bool.and_eq_true, decide_eq_true_eq, beq_iff_eq, wakes_one_contains, and_assoc]

theorem exec_wakeN_idle (hst : s.f PWR_STAT_STATE = 1) :
    exec .wakeN s = .next ((s.wakeRecord (1, 0, 0, s.devTime) false 1).setF PWR_STAT_STATE 0 0 0) :=
  congrArg Host.Outcome.next ((State.wakeBy_awake (Or.inr (by omega))).trans
    (State.wakeIdle_idle h ht hst (wakes_one_contains.2 (by decide))))

theorem exec_wakeN_sleep (hst : s.f PWR_STAT_STATE = 2 ∨ s.f PWR_STAT_STATE = 3) :
    exec .wakeN s = .next (s.powerExit (1, 0, 0, s.devTime) false) := by
  have hc := wakes_one_contains.2 (⟨by omega, by omega⟩ : 1 ≤ s.f PWR_STAT_STATE ∧ s.f PWR_STAT_STATE ≤ 4)
  exact congrArg Host.Outcome.next ((State.wakeBy_asleep ht (by omega)).trans
    ((if_neg (by simp only [h, hc]; decide)).trans (if_neg (by rw [beq_iff_eq]; omega))))

theorem exec_wakeN_off_state (hst : s.f PWR_STAT_STATE = 4) (hw : s.power.wake = none) :
    exec .wakeN s = .next ((({ s with power := { s.power with wake := some (1, 0, 0, s.devTime) } } : State).wakeRecord
      (1, 0, 0, s.devTime) false 4).emit (.pwrReq true)) := by
  have hc := wakes_one_contains.2 (⟨by omega, by omega⟩ : 1 ≤ s.f PWR_STAT_STATE ∧ s.f PWR_STAT_STATE ≤ 4)
  exact congrArg Host.Outcome.next ((State.wakeBy_asleep ht (by omega)).trans
    ((if_neg (by simp only [h, hc]; decide)).trans ((if_pos (by rw [hst]; rfl)).trans (if_neg (by simp [hw])))))

end

/-! ### The drain and the entry (R516, R517) -/

section
variable {l : List (Nat × Nat × Nat)}

theorem exec_powerEntry_idle (h : s.power.target = none ∨ s.entryReady = false) : exec (.powerEntry l) s = .next s := by
  refine congrArg Host.Outcome.next ?_
  cases ht : s.power.target with
  | none => rfl
  | some st => exact if_pos (by simpa [ht] using h)

theorem exec_powerEntry_runs (ht : s.power.target = some st) (hr : s.entryReady = true) : exec (.powerEntry l) s = .next (
    let t : State := { s with power := { s.power with target := none, reload := false, wake := none } }
    let e := ((t.powerDown st l).entryEnd st s.power.reload).setF PWR_STAT_RESULT 0 0 0
    if s.power.reload then e else e.wakeAfter s.power.wake) := by
  simp only [exec, execPowerEntry, ht]
  exact congrArg Host.Outcome.next (if_not_of_true hr)

end

theorem exec_drainTimeout_idle
    (h : s.power.target = none ∨ s.now < s.power.drainAt + 65536000000 * s.f PWR_CTL_DRAIN_MS) :
    exec .drainTimeout s = .next s :=
  congrArg Host.Outcome.next (if_neg (by
    rw [Bool.and_eq_true, decide_eq_true_eq]
    rintro ⟨ht, hdue⟩
    rcases h with h | h
    · simp [h] at ht
    · exact absurd hdue (Nat.not_le.2 (h.trans_eq (congrArg _ (Nat.mul_comm _ _))))))

theorem exec_drainTimeout_due (ht : s.power.target.isSome = true)
    (hdue : s.power.drainAt + 65536000000 * s.f PWR_CTL_DRAIN_MS ≤ s.now) :
    exec .drainTimeout s = .next (s.drainEnd_ 0x24) :=
  congrArg Host.Outcome.next (if_pos (by
    rw [Bool.and_eq_true, decide_eq_true_eq]
    exact ⟨ht, (Nat.add_le_add_left (Nat.mul_comm _ _).le _).trans hdue⟩))

/-! ### Supply failures (R527) -/

theorem exec_supplyWarning_ignored (h : s.powered = false ∨ s.b PWR_STAT_SUPPLY_LOW = true) : exec .supplyWarning s = .next s :=
  congrArg Host.Outcome.next (if_pos (by rcases h with h | h <;> simp [h]))

theorem State.entryAbandon_none (ht : s.power.target = none) : s.entryAbandon = s := if_neg (by simp [ht])

theorem exec_supplyWarning_low (hp : s.powered = true) (hl : s.b PWR_STAT_SUPPLY_LOW = false) (ht : s.power.target = none) :
    exec .supplyWarning s = .next { s.setF PWR_STAT_SUPPLY_LOW 0 0 1 with power := { s.power with lowAt := some s.now } } := by
  refine congrArg Host.Outcome.next ((if_neg (by simp [hp, hl])).trans ?_)
  simp only [State.entryAbandon_none ht]

theorem exec_supply_none (h : s.power.lowAt = none) :
    exec .supplyRecovery s = .next s ∧ exec .pointOfNoReturn s = .next s := by
  constructor
  · simp only [exec, execSupplyRecovery, h]
  · simp only [exec, execPointOfNoReturn, h]

section
variable (hlow : s.power.lowAt = some t)
include hlow

theorem exec_supplyRecovery_some : exec .supplyRecovery s = .next (
    if !(s.powered) || t + us 500 ≤ s.now then s
    else { (s.setF PWR_STAT_SUPPLY_LOW 0 0 0).satF PWR_CNT_DIP_COUNT 0 0 1 with
      power := { s.power with lowAt := none } }) := by
  simp only [exec, execSupplyRecovery, hlow]

theorem exec_pointOfNoReturn_some : exec .pointOfNoReturn s = .next (
    if s.powered && decide (t + us 500 ≤ s.now) then s.noReturn 1 else s) := by
  simp only [exec, execPointOfNoReturn, hlow]

variable (hp : s.powered = true)
include hp

theorem exec_supply_within (hn : s.now < t + us 500) : exec .pointOfNoReturn s = .next s ∧ exec .supplyRecovery s =
    .next { (s.setF PWR_STAT_SUPPLY_LOW 0 0 0).satF PWR_CNT_DIP_COUNT 0 0 1 with power := { s.power with lowAt := none } } :=
  ⟨(exec_pointOfNoReturn_some hlow).trans (congrArg _ (if_neg (by simp [hn]))),
    (exec_supplyRecovery_some hlow).trans (congrArg _ (if_neg (by simp [hp, hn])))⟩

omit hp in
theorem exec_supplyRecovery_late (hn : t + us 500 ≤ s.now) : exec .supplyRecovery s = .next s :=
  (exec_supplyRecovery_some hlow).trans (congrArg _ (if_pos (by simp [hn])))

theorem exec_pointOfNoReturn_late (hn : t + us 500 ≤ s.now) (ht : s.power.target = none) : exec .pointOfNoReturn s =
    .next (let e := (s.nrgLoss).setF PWR_LOSS_TIME_TIME 0 0 (time96 s.devTime)
      { e.setF PWR_STAT_SUPPLY_LOW 0 0 1 with power := { e.power with pnrAt := some e.now, why := 1 } }) := by
  refine (exec_pointOfNoReturn_some hlow).trans (congrArg _ ((if_pos (by simp [hp, hn])).trans ?_))
  simp only [State.noReturn, State.entryAbandon_none ht]
  rfl

end

theorem exec_shutdownSaveDone_ignored (h : s.power.pnrAt = none ∨ s.f PWR_STAT_STATE = 4) :
    exec .shutdownSaveDone s = .next s :=
  congrArg Host.Outcome.next (if_neg (by rcases h with h | h <;> simp [h]))

theorem exec_shutdownSaveDone_off (h : s.power.pnrAt.isSome = true) (hst : s.f PWR_STAT_STATE ≠ 4) :
    exec .shutdownSaveDone s = .next (s.enterOff s.power.why) :=
  congrArg Host.Outcome.next (if_pos (by simp [h, hst]))

theorem exec_supplyRestart_ignored
    (h : s.f PWR_STAT_STATE ≠ 4 ∨ s.power.why ≠ 1 ∨ s.now < s.power.offAt + 655360000000) :
    exec .supplyRestart s = .next s :=
  congrArg Host.Outcome.next (if_neg (by
    rw [Bool.and_eq_true, Bool.and_eq_true, beq_iff_eq, beq_iff_eq, decide_eq_true_eq]
    rintro ⟨⟨hst, hwhy⟩, hdue⟩
    rcases h with h | h | h
    · exact h hst
    · exact h hwhy
    · exact absurd hdue (Nat.not_le.2 h)))

theorem exec_supplyRestart_starts (hst : s.f PWR_STAT_STATE = 4) (hwhy : s.power.why = 1)
    (hdue : s.power.offAt + 655360000000 ≤ s.now) : exec .supplyRestart s = .next s.startSupply :=
  congrArg Host.Outcome.next (if_pos (by
    rw [Bool.and_eq_true, Bool.and_eq_true, beq_iff_eq, beq_iff_eq, decide_eq_true_eq]
    exact ⟨⟨hst, hwhy⟩, hdue⟩))

end
end Sys2Proof.Machine

open Sys2Proof Sys2Proof.Machine in
/-- Settles O54: PWR_CMD by what allows it, the entry, WAKE_N by the device state, and the steps of a supply failure. -/
theorem powerStates : Obligations.PowerStates := by
  unfold Obligations.PowerStates
  refine ⟨fun s ho => ⟨fun k hk => ?_, fun hb hs hst => ?_, fun hb hs hst => ?_⟩, fun s l => ?_, fun s => ?_, fun s => ?_⟩
  · have hex := exec_pwrCmdOf ho hk
    refine ⟨fun hb => hex.trans (congrArg _ (State.pwrCmd_busy hk hb)),
      fun hb h => hex.trans (congrArg _ (State.pwrCmd_notReady hb hk h)), fun hb hs hst h2 => hex.trans (congrArg _ ?_)⟩
    exact (State.pwrCmd_allowed hb hs hk hst (by omega)).trans
      ((if_neg (by rw [beq_iff_eq]; omega)).trans (if_neg (by rw [beq_iff_eq]; omega)))
  · exact (exec_pwrCmdOf (k := 1) ho (by decide)).trans
      (congrArg _ (State.pwrCmd_allowed hb hs (by decide) (by omega) (by omega)))
  · have hex : exec (.pwrCmdRun 0) s = .next (
        if s.wakeOn 6 then (s.wakeIdle 6 0 0).setF PWR_STAT_RESULT 0 0 0 else s.setF PWR_STAT_RESULT 0 0 0x22) :=
      (exec_pwrCmdOf (k := 0) ho (by decide)).trans
        (congrArg _ (State.pwrCmd_allowed hb hs (by decide) (by omega) (by omega)))
    refine ⟨fun hw => hex.trans (congrArg _ (if_of_false hw)), fun hw => hex.trans (congrArg _ ((if_pos hw).trans ?_))⟩
    rw [State.wakeIdle_idle hw (State.target_none_of_not_busy hb) hst (by decide)]
  · exact ⟨exec_powerEntry_idle, fun st => exec_powerEntry_runs, exec_drainTimeout_idle, exec_drainTimeout_due⟩
  · exact ⟨exec_wakeN_off, exec_wakeN_run, fun st => exec_wakeN_drain, exec_wakeN_idle, exec_wakeN_sleep, exec_wakeN_off_state⟩
  · exact ⟨exec_supplyWarning_ignored, exec_supplyWarning_low, exec_supply_none,
      fun t hlow hp => ⟨exec_supply_within hlow hp,
        fun hn => ⟨exec_supplyRecovery_late hlow hn, exec_pointOfNoReturn_late hlow hp hn⟩⟩,
      exec_shutdownSaveDone_ignored, exec_shutdownSaveDone_off, exec_supplyRestart_ignored, exec_supplyRestart_starts⟩

/-! # Counters, the gatherer, the sampler and the Gleaner (R544 to R560) -/

namespace Sys2Proof.Machine
section
variable {s : State} {b c v h code arg : Nat}

/-- A span in microseconds, as the statements write it. -/
theorem us_eq (n : Nat) : us n = 65536000 * n := Nat.mul_comm _ _

/-! ### Counters (R544, R546) -/

theorem exec_pmcCntWrite_beyond (hc : 16 ≤ c) : exec (.pmcCntWrite 0 b c v) s = .next s :=
  congrArg Host.Outcome.next (if_neg (Nat.not_lt.2 hc))

theorem exec_pmcCntWrite_manager (hc : c < 16) (ho : s.opens 0x07 b = true) :
    exec (.pmcCntWrite 0 b c v) s = .next (s.setF PMC_CNT_COUNT b c v) := by
  obtain ⟨hl, hr⟩ := State.opens_iff.1 ho
  exact congrArg Host.Outcome.next ((if_pos hc).trans (State.act_manager _ hl hr))

theorem exec_counterOverflow_none
    (h : s.f PMC_CNT_COUNT b c ≠ 2 ^ 48 - 1 ∨ s.b PMC_EVSEL_EN b c = false ∨ pmcCounters b ≤ c) :
    exec (.counterOverflow b c) s = .next s :=
  congrArg Host.Outcome.next (if_neg (by
    rw [Bool.and_eq_true, Bool.and_eq_true, Bool.and_eq_true, decide_eq_true_eq, beq_iff_eq]
    rintro ⟨⟨⟨-, hc⟩, hen⟩, hall⟩
    rcases h with h | h | h
    · exact h hall
    · simp [h] at hen
    · omega))

theorem exec_counterOverflow_wraps (hl : s.live 0x07 b = true) (hc : c < pmcCounters b) (hen : s.b PMC_EVSEL_EN b c = true)
    (hall : s.f PMC_CNT_COUNT b c = 2 ^ 48 - 1) : exec (.counterOverflow b c) s = .next (s.pmcWrap b c) :=
  congrArg Host.Outcome.next (if_pos (by
    rw [Bool.and_eq_true, Bool.and_eq_true, Bool.and_eq_true, decide_eq_true_eq, beq_iff_eq]
    exact ⟨⟨⟨hl, hc⟩, hen⟩, hall⟩))

/-! ### The gatherer (R548, R549) -/

theorem exec_gathererSnapshot_idle (h : s.domOn 48 = false ∨ s.b PMC_G_CTL_EN = false ∨ s.now < s.gatherNext) :
    exec .gathererSnapshot s = .next s :=
  congrArg Host.Outcome.next (if_neg (by rcases h with h | h | h <;> simp [h]))

theorem exec_gathererSnapshot_due (hd : s.domOn 48 = true) (hen : s.b PMC_G_CTL_EN = true) (hn : s.gatherNext ≤ s.now) :
    exec .gathererSnapshot s = .next s.gather :=
  congrArg Host.Outcome.next (if_pos (by simp [hd, hen, hn]))

/-- The next snapshot falls due one period later. -/
def State.gatherAgain (s : State) : State := { s with gatherNext := s.gatherNext + 65536000 * s.f PMC_G_CTL_PERIOD_US }

/-- The bytes of the snapshot with tag `tag` (Table 18-2). -/
def State.gatherBytes (s : State) (tag : Nat) : List (BitVec 8) :=
  leBytes 8 tag ++ leBytes 12 (time96 s.devTime) ++ leBytes 2 s.gatherSet.length ++ leBytes 2 0 ++
    leBytes 8 (s.f DEV_EPOCH_EPOCH) ++ leBytes 32 0 ++ s.gatherSet.flatMap s.gatherBank

/-- What the snapshot of a state whose next one is already fixed does; `s₀` is the state to go back to where a translation must wait. -/
def State.gatherSlot (s₀ t : State) : State :=
  let tag := t.f PMC_G_TAG_TAG + 1
  let data := t.gatherBytes tag
  match t.writeV 0 (t.f PMC_G_BASE_ADDR + (tag - 1) % t.f PMC_G_RING_SLOTS * data.length) data with
  | .error e => if e.reason == 0 then s₀ else (t.useUp 0 e).setF PMC_G_STAT_FAULT 0 0 1
  | .ok u => ({ u with gatherBusy := u.now + ns (data.length / 4) } : State).setF PMC_G_TAG_TAG 0 0 tag

theorem State.gather_eq : s.gather =
    if s.now < s.gatherBusy then s.gatherAgain.satF PMC_G_STAT_SKIPPED 0 0 1 else s.gatherSlot s.gatherAgain := by
  rw [State.gather, us_eq]
  rfl

/-- The place of the next slot (R548). -/
def State.gatherPlace (t : State) : Nat :=
  t.f PMC_G_BASE_ADDR + (t.f PMC_G_TAG_TAG + 1 - 1) % t.f PMC_G_RING_SLOTS * (t.gatherBytes (t.f PMC_G_TAG_TAG + 1)).length

theorem State.gatherSlot_error {t : State} {e : XErr}
    (hw : t.writeV 0 t.gatherPlace (t.gatherBytes (t.f PMC_G_TAG_TAG + 1)) = .error e) :
    s.gatherSlot t = if e.reason = 0 then s else (t.useUp 0 e).setF PMC_G_STAT_FAULT 0 0 1 := by
  unfold State.gatherPlace at hw
  simp only [State.gatherSlot, hw, beq_iff_eq]

theorem State.gatherSlot_ok {t u : State}
    (hw : t.writeV 0 t.gatherPlace (t.gatherBytes (t.f PMC_G_TAG_TAG + 1)) = .ok u) :
    s.gatherSlot t = ({ u with gatherBusy := u.now + 65536 * ((t.gatherBytes (t.f PMC_G_TAG_TAG + 1)).length / 4) } : State).setF
      PMC_G_TAG_TAG 0 0 (t.f PMC_G_TAG_TAG + 1) := by
  unfold State.gatherPlace at hw
  simp only [State.gatherSlot, hw, ns, Nat.mul_comm _ 65536]

/-! ### The sampler (R550) -/

theorem exec_sampleCountdown_idle
    (hi : s.b PMC_S_CTL_EN = false ∨ bit (s.f PMC_S_SHEAVES_BITS) h = false ∨ PMap.find s.sampleCnt h ≠ some 0) :
    exec (.sampleCountdown h) s = .next s :=
  congrArg Host.Outcome.next (if_neg (by rcases hi with hi | hi | hi <;> simp [hi]))

theorem exec_sampleCountdown_zero (hen : s.b PMC_S_CTL_EN = true) (hb : bit (s.f PMC_S_SHEAVES_BITS) h = true)
    (hz : PMap.find s.sampleCnt h = some 0) : exec (.sampleCountdown h) s = .next (
      let t := s.sampleDraw h
      if 4 ≤ (s.tags.filter fun g => g.sheaf == h).length then t.satF PMC_S_STAT_LOST 0 0 1
      else { t with tagNext := h :: s.tagNext.filter fun x => x != h }) :=
  congrArg Host.Outcome.next (if_pos (by simp [hen, hb, hz]))

/-! ### The Gleaner (R552 to R560) -/

theorem exec_glnTrig_manager (hc : code < 256) (ha : arg < 2 ^ 56) (ho : s.opens 0x06 0 = true) :
    exec (.glnTrig 0 code arg) s =
      .next (if 0xF0 ≤ code ∧ code ≤ 0xF7 then s else s.glnTrigger code true 0 arg) := by
  obtain ⟨hl, hr⟩ := State.opens_iff.1 ho
  refine congrArg Host.Outcome.next ((State.act_manager _ hl hr).trans ?_)
  rw [Nat.mod_eq_of_lt hc, Nat.mod_eq_of_lt ha]
  exact (if_of_false (Bool.false_and _)).trans (if_congr (by rw [Bool.and_eq_true, decide_eq_true_eq, decide_eq_true_eq]) rfl rfl)

theorem State.glnTrigger_invalid {soft : Bool} {origin : Nat} {ws : List Nat} (hv : (s.glnCode code).valid = false) :
    s.glnTrigger code soft origin arg ws = s :=
  if_pos (by simp [hv])

section
variable {soft : Bool} {origin : Nat} {ws : List Nat} (hv : (s.glnCode code).valid = true)
include hv

/-- A trigger that makes no record counts as pending (R553). -/
theorem State.glnTrigger_pending (ht : s.glnTakes code = false) : s.glnTrigger code soft origin arg ws =
    s.setGln code { s.glnCode code with pending := min ((s.glnCode code).pending + 1) 0xFFFFFFFF } :=
  (if_not_of_true hv).trans (if_of_false ht)

theorem State.glnTrigger_record (ht : s.glnTakes code = true) : s.glnTrigger code soft origin arg ws =
    (let c := s.glnCode code
     { s.setGln code { c with tokens := (if c.period == 0 then c.tokens else c.tokens - 1), pending := 0,
                              count := (c.count + 1) % 2 ^ 32, off := s.glnOff } with
       glnRecs := s.glnRecs ++ [{ seq := s.f GLN_SEQ_SEQ + s.glnRecs.length + 1, code := code,
                                  bytes := s.glnBody code soft origin arg ws, at_ := s.now }]
       glnTimes := s.now :: s.glnTimes.filter fun t => decide (s.now < t + us 1) }) :=
  (if_not_of_true hv).trans (if_pos ht)

end

/-- The codes of the reserve chapter apart, a code is what was last put for it. -/
theorem State.glnCode_put {t : State} {x : GlnCode} (ht : t.gln = PMap.put s.gln code x) (hc : code < 0xF0 ∨ 0xF7 < code) :
    t.glnCode code = x := by
  have hown : (decide (0xF0 ≤ code) && decide (code ≤ 0xF7)) = false := by
    rw [← Bool.not_eq_true, Bool.and_eq_true, decide_eq_true_eq, decide_eq_true_eq]
    omega
  simp [State.glnCode, hown, ht]

theorem exec_gleanerToken_early
    (h : (s.glnCode code).period = 0 ∨ s.now < (s.glnCode code).tokenAt + 65536000 * (s.glnCode code).period) :
    exec (.gleanerToken code) s = .next s :=
  congrArg Host.Outcome.next (if_neg (by rw [us_eq]; rcases h with h | h <;> simp [h]))

theorem exec_gleanerToken_due (hp : (s.glnCode code).period ≠ 0)
    (ht : (s.glnCode code).tokenAt + 65536000 * (s.glnCode code).period ≤ s.now) : exec (.gleanerToken code) s =
      .next (s.setGln code { s.glnCode code with
        tokens := min ((s.glnCode code).tokens + 1) (s.glnCode code).burst
        tokenAt := (s.glnCode code).tokenAt + 65536000 * (s.glnCode code).period }) := by
  simp only [exec, execGleanerToken, us_eq]
  exact congrArg Host.Outcome.next (if_pos (by simp [hp, ht]))

/-! ### Records are written (R554, R559) -/

theorem State.regs_store (a : Nat) (bs : List (BitVec 8)) : (s.store a bs).regs = s.regs := by
  induction bs generalizing s a with
  | nil => rfl
  | cons b bs ih => exact ih (s := s.setByte a b) (a + 1)

theorem exec_gleanerRecordWrite_idle (h : s.domOn 48 = false ∨ s.glnRecs = []) : exec .gleanerRecordWrite s = .next s := by
  refine congrArg Host.Outcome.next ?_
  rcases h with h | h
  · exact if_of_false h
  · exact ite_eq_right_iff.2 fun _ => by simp only [State.glnWrite, h]

/-- The record stands in its slot. -/
def State.recWritten (s : State) (r : GlnRec) (rs : List GlnRec) : State :=
  { (s.store (s.glnSlot r.seq) (leBytes 8 (2 * r.seq + 1) ++ r.bytes)).setF GLN_SEQ_SEQ 0 0 r.seq with glnRecs := rs }

theorem State.recWritten_evCnt {r : GlnRec} {rs : List GlnRec} : (s.recWritten r rs).f GLN_CTL_EV_CNT = s.f GLN_CTL_EV_CNT := by
  have hregs : (s.recWritten r rs).regs = (s.setF GLN_SEQ_SEQ 0 0 r.seq).regs := by
    simp only [State.recWritten, State.setF, State.regs_store]
  rw [State.f_congr hregs, State.f_setF_apart GLN_SEQ_SEQ GLN_CTL_EV_CNT rfl (by decide)]

theorem exec_gleanerRecordWrite_first {r : GlnRec} {rs : List GlnRec} (hd : s.domOn 48 = true) (hr : s.glnRecs = r :: rs)
    (hev : s.f GLN_CTL_EV_CNT = 0) : exec .gleanerRecordWrite s = .next (
      let t := s.recWritten r rs
      if (t.glnCode r.code).evEn then t.post 0xB 0 else t) := by
  refine congrArg Host.Outcome.next ((if_pos hd).trans ?_)
  have hev' : (s.recWritten r rs).f GLN_CTL_EV_CNT = 0 := State.recWritten_evCnt.trans hev
  simp only [State.glnWrite, hr]
  exact if_neg (by rw [Bool.and_eq_true]; exact fun hne => absurd hev' (bne_iff_ne.1 hne.1))

end
end Sys2Proof.Machine

open Sys2Proof Sys2Proof.Machine in
/-- Settles O56: the counters, the gatherer, the sampler and the Gleaner, event by event. -/
theorem countersAndGleaner : Obligations.CountersAndGleaner := by
  unfold Obligations.CountersAndGleaner
  refine ⟨fun s b c v => ?_, fun s => ?_, fun s h => ?_, fun s code arg hcode harg ho => ?_, fun s code => ?_, fun s => ?_⟩
  · exact ⟨exec_pmcCntWrite_beyond, exec_pmcCntWrite_manager, exec_counterOverflow_none, exec_counterOverflow_wraps⟩
  · refine ⟨exec_gathererSnapshot_idle, fun hd hen hn => ?_⟩
    have hex := (exec_gathererSnapshot_due hd hen hn).trans (congrArg _ State.gather_eq)
    refine ⟨fun hb => hex.trans (congrArg _ (if_pos hb)), fun hb => ?_⟩
    have hslot := hex.trans (congrArg _ (if_neg (Nat.not_lt.2 hb)))
    exact ⟨fun e hw => hslot.trans (congrArg _ (State.gatherSlot_error hw)),
      fun u hw => hslot.trans (congrArg _ (State.gatherSlot_ok hw))⟩
  · refine ⟨exec_sampleCountdown_idle, fun hen hb hz => ?_⟩
    have hex := exec_sampleCountdown_zero hen hb hz
    exact ⟨fun h4 => hex.trans (congrArg _ (if_pos h4)), fun h4 => hex.trans (congrArg _ (if_neg (Nat.not_le.2 h4)))⟩
  · have hex := exec_glnTrig_manager hcode harg ho
    refine ⟨fun hc => ?_, fun hv hc => ?_⟩
    · by_cases hown : 0xF0 ≤ code ∧ code ≤ 0xF7
      · exact hex.trans (congrArg _ (if_pos hown))
      · exact hex.trans (congrArg _ ((if_neg hown).trans (State.glnTrigger_invalid (hc.resolve_right hown))))
    · have htrig := hex.trans (congrArg _ (if_neg (by omega)))
      refine ⟨fun ht => htrig.trans (congrArg _ (State.glnTrigger_pending hv ht)), fun ht => ?_⟩
      refine ⟨_, _, htrig.trans (congrArg _ (State.glnTrigger_record hv ht)), rfl, rfl, ?_, ?_, ?_, fun _ => rfl, rfl⟩ <;>
        rw [State.glnCode_put (s := s) rfl hc]
      simp only [beq_iff_eq]
  · exact ⟨exec_gleanerToken_early, exec_gleanerToken_due⟩
  · refine ⟨exec_gleanerRecordWrite_idle, fun r rs hd hr => ⟨fun he hev => ?_, fun he hev => ?_⟩⟩
    · exact (exec_gleanerRecordWrite_first hd hr hev).trans (congrArg _ (if_of_false he))
    · exact (exec_gleanerRecordWrite_first hd hr hev).trans (congrArg _ (if_pos he))

/-! # The Drueg chain (R563 to R574) -/

namespace Sys2Proof.Machine
section
variable {s : State} {up : Bool} {f : List (BitVec 8)}

/-! ### Frames -/

/-- A transition has been seen on the receive pair. -/
def State.heard (s : State) (up : Bool) : State :=
  { s with chain := if up then { s.chain with upRx := s.now } else { s.chain with downRx := s.now } }

@[simp] theorem State.heard_walkAt : (s.heard up).chain.walkAt = s.chain.walkAt := by cases up <;> rfl
@[simp] theorem State.heard_rx : (s.heard up).chain.rx = s.chain.rx := by cases up <;> rfl

theorem State.chainFrame_off {is : Bool} (h : s.chainRuns = false) : s.chainFrame is up f = s :=
  if_of_false (by rw [h, Bool.false_and])

theorem State.chainFrame_on {is : Bool} (h : s.chainRuns = true) (hi : is = true) :
    s.chainFrame is up f = s.chainIn up f State.chainWake :=
  if_pos (by rw [h, hi]; rfl)

theorem exec_frames_off (h : s.chainRuns = false) :
    exec (.walk up f) s = .next s ∧ exec (.walkEnd up f) s = .next s ∧ exec (.levelSet up f) s = .next s ∧
    exec (.join up f) s = .next s ∧ exec (.wake up f) s = .next s ∧ exec (.msg up f) s = .next s ∧
    exec (.chainFrameRepeat up f) s = .next s :=
  have hoff {is : Bool} : (.next (s.chainFrame is up f) : Res) = .next s := congrArg _ (State.chainFrame_off h)
  ⟨hoff, hoff, hoff, hoff, hoff, hoff, hoff⟩

section
variable (hr : s.chainRuns = true)
include hr

theorem exec_walk (ht : cType f = 1) : exec (.walk up f) s = .next (s.chainIn up f State.chainWake) :=
  congrArg Host.Outcome.next (State.chainFrame_on hr (by rw [ht]; rfl))

/-- A frame of types 2 to 5 that the unit takes. -/
theorem exec_taken (hm : s.chainMine f = true) :
    (cType f = 2 → exec (.walkEnd up f) s = .next (s.chainIn up f State.chainWake)) ∧
    (cType f = 3 → exec (.levelSet up f) s = .next (s.chainIn up f State.chainWake)) ∧
    (cType f = 4 → exec (.join up f) s = .next (s.chainIn up f State.chainWake)) ∧
    (cType f = 5 → exec (.wake up f) s = .next (s.chainIn up f State.chainWake)) :=
  have hon {k : Nat} (ht : cType f = k) :
      (.next (s.chainFrame (cType f == k && s.chainMine f) up f) : Res) = .next (s.chainIn up f State.chainWake) :=
    congrArg _ (State.chainFrame_on hr (by rw [ht, hm, beq_self_eq_true, Bool.and_true]))
  ⟨hon, hon, hon, hon⟩

omit hr in
theorem chainBase_of_gated (hg : chainGated (cType f) = true) : chainBase (cType f) = false := by
  simp only [chainGated, Bool.or_eq_true, Bool.and_eq_true, beq_iff_eq, decide_eq_true_eq] at hg
  simp only [chainBase, Bool.and_eq_false_iff, decide_eq_false_iff_not]
  omega

theorem exec_msg (hm : s.chainMine f = true) (hg : chainGated (cType f) = true) :
    exec (.msg up f) s = .next (s.chainIn up f State.chainWake) :=
  congrArg Host.Outcome.next (State.chainFrame_on hr (by rw [chainBase_of_gated hg, hm]; rfl))

theorem exec_chainFrameRepeat (hm : s.chainMine f = false) (ht : cType f ≠ 1) :
    exec (.chainFrameRepeat up f) s = .next (s.chainIn up f State.chainWake) :=
  congrArg Host.Outcome.next (State.chainFrame_on hr (by rw [hm, bne_iff_ne.2 ht]; rfl))

end

theorem State.chainIn_damaged {wake : State → State} (h : chainOk f = false) :
    s.chainIn up f wake = (s.heard up).satF DCH_CNT_CRC_COUNT 0 0 1 :=
  if_pos (by rw [h]; rfl)

/-- What a unit does with a frame that it takes, by its type (Table 19-2). -/
def State.chainTaken (s : State) (f : List (BitVec 8)) (wake : State → State) : State :=
  if cType f == 0x02 then (if s.isHead then s.walkEndIn f else s)
  else if cType f == 0x03 then s.applyLvl (cArg f 0 % 16)
  else if cType f == 0x04 then s.walkStart
  else if cType f == 0x05 then wake s
  else s.msgIn f

section
variable {wake : State → State} (hok : chainOk f = true) (hty : chainBase (cType f) = true ∨ chainGated (cType f) = true)
  (hlvl : cLvl f = 0 ∨ cLvl f = s.f DCH_STAT_LVL)
include hok hty hlvl

theorem State.chainIn_admitted : s.chainIn up f wake =
    if cType f == 0x01 then (if up then (s.heard up).walkIn f else s.heard up)
    else
      let pass := !(s.chainMine f && cDst f != 0xFF) && s.b (if up then DCH_STAT_DOWN_LINK else DCH_STAT_UP_LINK)
      let t := if pass then (s.heard up).chainPass (!up) f else s.heard up
      if !(s.chainMine f) then t else t.chainTaken f wake := by
  refine (if_not_of_true hok).trans (if_neg ?_)
  rw [Bool.or_eq_true, Bool.not_eq_true', Bool.not_eq_true', not_or, Bool.not_eq_false, Bool.not_eq_false, Bool.or_eq_true]
  refine ⟨hty, ?_⟩
  change (cLvl f == 0 || cLvl f == s.f DCH_STAT_LVL || _) = true
  rcases hlvl with h | h <;> simp [h]

theorem State.chainIn_walk (ht : cType f = 1) : s.chainIn up f wake = if up then (s.heard up).walkIn f else s.heard up :=
  (State.chainIn_admitted hok hty hlvl).trans (if_pos (beq_iff_eq.2 ht))

/-- A frame for this unit alone is taken and goes no further. -/
theorem State.chainIn_taken (ht : cType f ≠ 1) (hm : s.chainMine f = true) (hd : cDst f ≠ 0xFF) :
    s.chainIn up f wake = (s.heard up).chainTaken f wake := by
  refine (State.chainIn_admitted hok hty hlvl).trans ((if_neg (by rw [beq_iff_eq]; exact ht)).trans ?_)
  simp only [hm, bne_iff_ne.2 hd, Bool.and_self, Bool.not_true, Bool.false_and, Bool.false_eq_true, if_false]

/-- A frame for another unit is passed on where the other link is up (R565). -/
theorem State.chainIn_other (ht : cType f ≠ 1) (hm : s.chainMine f = false) : s.chainIn up f wake =
    if s.b (if up then DCH_STAT_DOWN_LINK else DCH_STAT_UP_LINK) then (s.heard up).chainPass (!up) f else s.heard up := by
  refine (State.chainIn_admitted hok hty hlvl).trans ((if_neg (by rw [beq_iff_eq]; exact ht)).trans ?_)
  simp only [hm, Bool.false_and, Bool.not_false, Bool.true_and, if_true]

end

theorem chainBase_of_type (h1 : 1 ≤ cType f) (h5 : cType f ≤ 5) : chainBase (cType f) = true := by
  simp [chainBase, h1, h5]

section
variable {wake : State → State}

theorem State.chainTaken_walkEnd (ht : cType f = 2) (hh : s.isHead = true) : s.chainTaken f wake = s.walkEndIn f :=
  (if_pos (beq_iff_eq.2 ht)).trans (if_pos hh)

theorem State.chainTaken_levelSet (ht : cType f = 3) : s.chainTaken f wake = s.applyLvl (cArg f 0 % 16) := by
  simp [State.chainTaken, ht]

theorem State.chainTaken_join (ht : cType f = 4) : s.chainTaken f wake = s.walkStart := by
  simp [State.chainTaken, ht]

theorem State.chainTaken_wake (ht : cType f = 5) : s.chainTaken f wake = wake s := by
  simp [State.chainTaken, ht]

theorem State.chainTaken_msg (hg : chainGated (cType f) = true) : s.chainTaken f wake = s.msgIn f := by
  simp only [chainGated, Bool.or_eq_true, Bool.and_eq_true, beq_iff_eq, decide_eq_true_eq] at hg
  simp only [State.chainTaken, beq_iff_eq]
  rw [if_neg (by omega), if_neg (by omega), if_neg (by omega), if_neg (by omega)]

end

/-! ### Walks (R566 to R569) -/

theorem State.walkIn_head (hh : s.isHead = true) : s.walkIn f = s.err DCH_ERR_TWO_HEADS 0 := if_pos hh

section
variable (hh : s.isHead = false)
include hh

theorem State.walkIn_next (ha : cArg f 0 + 1 ≤ 32) : s.walkIn f = (
    let t := (s.takeAddr (cArg f 0 + 1)).setF DCH_STAT_OVERFLOW 0 0 0
    let lvl := min (cArg f 1) s.effLvl
    if t.b DCH_STAT_DOWN_LINK then t.chainSend false 0 0 0x01 (leBytes 1 (cArg f 0 + 1) ++ leBytes 1 lvl)
    else t.chainSend true 1 0 0x02 (leBytes 1 (cArg f 0 + 1) ++ leBytes 1 lvl ++ leBytes 1 0)) :=
  (if_of_false hh).trans (if_neg (Nat.not_lt.2 ha))

theorem State.walkIn_overflow (ha : 32 < cArg f 0 + 1) : s.walkIn f =
    ((s.takeAddr 0).setF DCH_STAT_OVERFLOW 0 0 1).chainSend true 1 0 0x02
      (leBytes 1 32 ++ leBytes 1 (min (cArg f 1) s.effLvl) ++ leBytes 1 1) :=
  (if_of_false hh).trans (if_pos ha)

end

theorem State.walkStart_other (hh : s.isHead = false) : s.walkStart = s := if_pos (by rw [hh]; rfl)

section
variable (hh : s.isHead = true)
include hh

theorem State.walkStart_free (hw : s.chain.walkAt = none) : s.walkStart = s.walkGo :=
  (if_not_of_true hh).trans (if_neg (by simp [hw]))

theorem State.walkStart_again (hw : s.chain.walkAt.isSome = true) :
    s.walkStart = { s with chain := { s.chain with again := true } } :=
  (if_not_of_true hh).trans (if_pos hw)

end

theorem State.walkEndIn_none (hw : s.chain.walkAt = none) : s.walkEndIn f = s := if_pos (by rw [hw]; rfl)

theorem State.walkEndIn_some (hw : s.chain.walkAt.isSome = true)
    (ha : (s.walkResult (cArg f 0) (cArg f 1) (bit (cArg f 2) 0)).chain.again = false) : s.walkEndIn f =
      (let t := s.walkResult (cArg f 0) (cArg f 1) (bit (cArg f 2) 0)
       { t.setF DCH_STAT_WALKING 0 0 0 with chain := { t.chain with walkAt := none, again := false } }) :=
  (if_neg (by simpa [Option.isSome_iff_ne_none] using hw)).trans (if_of_false ha)

/-! ### The queue and the wake -/

theorem State.msgIn_full (h : 8 ≤ s.chain.rx.length) : s.msgIn f = s.satF DCH_CNT_RX_DROP_COUNT 0 0 1 := if_pos h

theorem State.msgIn_room (h : s.chain.rx.length < 8) : s.msgIn f =
    ({ s with chain := { s.chain with rx := s.chain.rx ++ [f] } } : State).rxShow.err DCH_ERR_RX_MSG 0 :=
  if_neg (Nat.not_le.2 h)

theorem State.chainWake_run (hs : s.f PWR_STAT_STATE = 0) (ht : s.power.target = none) :
    s.chainWake = s.satF DCH_CNT_WAKE_IGNORED_COUNT 0 0 1 :=
  if_pos (by simp [hs, ht])

theorem State.chainWake_asleep (h : s.f PWR_STAT_STATE ≠ 0 ∨ s.power.target.isSome = true) : s.chainWake = s.wakeBy 2 0 0 :=
  if_neg (by rcases h with h | h <;> simp [h, ← Option.isSome_iff_ne_none])

/-! ### Links (R563) -/

theorem exec_links_off (h : s.chainRuns = false) :
    exec (.linkBeat up) s = .next s ∧ exec (.chainLinkLoss up) s = .next s ∧ exec (.chainLinkGain up) s = .next s :=
  ⟨congrArg Host.Outcome.next (if_of_false (by rw [h, Bool.false_and])),
    congrArg Host.Outcome.next (if_of_false (by rw [h, Bool.false_and])),
    congrArg Host.Outcome.next (if_pos (by rw [h]; rfl))⟩

theorem exec_linkBeat_up_busy (h : s.now < s.chain.upTx + 262144000 ∨ s.chain.upQ ≠ []) : exec (.linkBeat true) s = .next s :=
  congrArg Host.Outcome.next (if_neg (by
    change ¬ (s.chainRuns && (decide (s.chain.upTx + us 4 ≤ s.now) && s.chain.upQ.isEmpty)) = true
    rcases h with h | h
    · have hlt : ¬ s.chain.upTx + us 4 ≤ s.now := Nat.not_le.2 h
      simp [hlt]
    · simp [h]))

section
variable (hr : s.chainRuns = true)
include hr

theorem exec_linkBeat_up (hq : s.chain.upQ = []) (ht : s.chain.upTx + 262144000 ≤ s.now) : exec (.linkBeat true) s =
    .next ((s.setChain { s.chain with upTx := s.now + 52428800, upEnd := s.now + 52428800 }).emit (.beat true)) := by
  have hdue : s.chain.upTx + us 4 ≤ s.now := ht
  exact congrArg Host.Outcome.next (if_pos (by simp [hr, hq, hdue]))

theorem exec_linkBeat_down (hq : s.chain.downQ = []) (ht : s.chain.downTx + 262144000 ≤ s.now) : exec (.linkBeat false) s =
    .next ((s.setChain { s.chain with downTx := s.now + 52428800, downEnd := s.now + 52428800 }).emit (.beat false)) := by
  have hdue : s.chain.downTx + us 4 ≤ s.now := ht
  exact congrArg Host.Outcome.next (if_pos (by simp [hr, hq, hdue]))

theorem exec_chainLinkLoss_up (h : s.chain.upRx + 655360000 ≤ s.now) :
    exec (.chainLinkLoss true) s = .next (s.setF DCH_STAT_UP_LINK 0 0 0) := by
  have hdue : s.chain.upRx + us 10 ≤ s.now := h
  exact congrArg Host.Outcome.next (if_pos (by simp [hr, hdue]))

theorem exec_chainLinkLoss_down (h : s.chain.downRx + 655360000 ≤ s.now) :
    exec (.chainLinkLoss false) s = .next (s.setF DCH_STAT_DOWN_LINK 0 0 0) := by
  have hdue : s.chain.downRx + us 10 ≤ s.now := h
  exact congrArg Host.Outcome.next (if_pos (by simp [hr, hdue]))

theorem exec_chainLinkGain_up : exec (.chainLinkGain true) s = .next (
    let t : State := { s.setF DCH_STAT_UP_LINK 0 0 1 with chain := { s.chain with upRx := s.now } }
    if s.b DCH_STAT_UP_LINK then t else t.join) :=
  congrArg Host.Outcome.next (if_not_of_true hr)

theorem exec_chainLinkGain_down : exec (.chainLinkGain false) s = .next (
    let t : State := { s.setF DCH_STAT_DOWN_LINK 0 0 1 with chain := { s.chain with downRx := s.now } }
    if s.b DCH_STAT_DOWN_LINK then t else t.walkStart) :=
  congrArg Host.Outcome.next (if_not_of_true hr)

end

theorem exec_chainLinkLoss_live (h : s.now < s.chain.upRx + 655360000) : exec (.chainLinkLoss true) s = .next s := by
  have hlive : ¬ s.chain.upRx + us 10 ≤ s.now := Nat.not_le.2 h
  exact congrArg Host.Outcome.next (if_neg (by simp [hlive]))

theorem exec_walkTimeout_none (h : s.chain.walkAt = none) : exec .walkTimeout s = .next s := by
  simp only [exec, execWalkTimeout, h]

theorem exec_walkTimeout_some {t : Nat} (h : s.chain.walkAt = some t) : exec .walkTimeout s = .next (
    if s.chainRuns && decide (t + ms 10 ≤ s.now) then (s.err DCH_ERR_CHAIN_BREAK 0).walkOver State.walkGo else s) := by
  simp only [exec, execWalkTimeout, h]

/-! ### DCH_CMD -/

section
variable {d : Nat}

/-- The manager's writes of DCH_CMD act (R63). -/
theorem exec_dchCmds (ho : s.opens 0x09 0 = true) :
    exec (.dchCmdWalk 0) s = .next s.walkStart ∧ exec (.dchCmdSend 0) s = .next s.chainSoft ∧
    exec (.dchCmdTake 0) s = .next s.chainTake ∧ exec (.dchCmdWake 0 d) s = .next (s.chainWakeTo d) ∧
    exec (.dchCmdReload 0) s = .next s.reload := by
  obtain ⟨hl, hr⟩ := State.opens_iff.1 ho
  have hact (k : State → State) : Host.Outcome.next (s.act 0 0x09 0 true k) = (.next (k s) : Res) :=
    congrArg Host.Outcome.next (State.act_manager k hl hr)
  exact ⟨hact _, hact _, hact _, hact _, hact _⟩

theorem State.chainWakeTo_bad (hd : chainDst d = false) : s.chainWakeTo d = s.errOn PAGE_ERR_RESERVED_ENC 0x09 0 :=
  if_pos (by rw [hd]; rfl)

section
variable (hd : chainDst d = true)
include hd

theorem State.chainWakeTo_sends (h : s.isHead = true ∨ s.chain.hadAddr = true) : s.chainWakeTo d = s.chainTo d 0 0x05 [] :=
  (if_not_of_true hd).trans (if_neg (by rcases h with h | h <;> simp [h]))

theorem State.chainWakeTo_none (hh : s.isHead = false) (ha : s.chain.hadAddr = false) : s.chainWakeTo d = s :=
  (if_not_of_true hd).trans (if_pos (by simp [hh, ha]))

end

theorem State.chainSoft_bad (h : s.chainAddr = 0 ∨ chainDst (s.f DCH_TX_HDR_DST) = false ∨
    chainGated (s.f DCH_TX_HDR_TYPE) = false ∨ (s.f DCH_TX_HDR_TYPE = 0x10 ∧ s.f DCH_STAT_LVL = 0)) :
    s.chainSoft = s.errOn PAGE_ERR_RESERVED_ENC 0x09 0 := by
  refine if_pos ?_
  rcases h with h | h | h | ⟨hty, hlvl⟩
  · simp [h]
  · simp [h]
  · simp only [chainGated, Bool.or_eq_false_iff] at h
    simp [h.1, h.2]
  · simp [hty, hlvl]

theorem State.chainSoft_msg (ha : s.chainAddr ≠ 0) (hd : chainDst (s.f DCH_TX_HDR_DST) = true)
    (hty : s.f DCH_TX_HDR_TYPE = 0x10) (hlvl : 1 ≤ s.f DCH_STAT_LVL) : s.chainSoft =
      s.chainTo (s.f DCH_TX_HDR_DST) (s.f DCH_STAT_LVL) (s.f DCH_TX_HDR_TYPE)
        ((leBytes 64 (s.f DCH_TX_DATA)).take (s.f DCH_TX_HDR_LEN)) :=
  if_neg (by simp [ha, hd, hty, hlvl])

theorem State.reload_notReady (h : 1 < s.f PWR_STAT_STATE ∨ s.f DEV_SERVICE_SERVICE ≠ 2 ∨ s.power.target.isSome = true) :
    s.reload = s.setF PWR_STAT_RESULT 0 0 0x22 :=
  if_pos (by rcases h with h | h | h <;> simp [h])

theorem State.reload_drains (hst : s.f PWR_STAT_STATE ≤ 1) (hs : s.f DEV_SERVICE_SERVICE = 2) (ht : s.power.target = none) :
    s.reload = s.drainTo 3 true :=
  if_neg (by simp [hst, hs, ht])

end
end
end Sys2Proof.Machine

open Sys2Proof Sys2Proof.Machine in
/-- Settles O57: the frames by what is done with one of each type, the links, the walks and DCH_CMD. -/
theorem druegChain : Obligations.DruegChain := by
  unfold Obligations.DruegChain
  refine ⟨fun s up f => ⟨fun hr k => ?_, fun hr hok => ?_, fun hr hok ht hl => ?_, fun hr hok hl hh hd => ?_,
    fun hr hok ha hd hall => ?_, fun hr hok hl h2 h5 hm => ?_⟩, fun s => ?_, fun s d ho => ?_⟩
  · obtain ⟨hwalk, hend, hlvl, hjoin, hwake, hmsg, hrep⟩ := exec_frames_off (up := up) (f := f) hr
    beta_reduce
    split_ifs
    exacts [hwalk, hend, hlvl, hjoin, hwake, hmsg, hrep]
  · refine ⟨fun ht => (exec_walk hr ht).trans (congrArg _ (State.chainIn_damaged hok)), fun k h2 h5 ht hm => ?_⟩
    obtain ⟨hend, hlvl, hjoin, hwake⟩ := exec_taken (up := up) hr hm
    have hbad : (.next (s.chainIn up f State.chainWake) : Res) = .next ((s.heard up).satF DCH_CNT_CRC_COUNT 0 0 1) :=
      congrArg _ (State.chainIn_damaged hok)
    rcases (by omega : k = 2 ∨ k = 3 ∨ k = 4 ∨ k = 5) with rfl | rfl | rfl | rfl
    exacts [(hend ht).trans hbad, (hlvl ht).trans hbad, (hjoin ht).trans hbad, (hwake ht).trans hbad]
  · have hex := (exec_walk (up := up) hr ht).trans (congrArg _
      (State.chainIn_walk hok (Or.inl (chainBase_of_type (by omega) (by omega))) (Or.inl hl) ht))
    refine ⟨fun hup => hex.trans (congrArg _ (if_of_false hup)), fun hup hh => ?_, fun hup hh => ⟨fun ha => ?_, fun ha => ?_⟩⟩
    · exact hex.trans (congrArg _ ((if_pos hup).trans (State.walkIn_head hh)))
    · exact hex.trans (congrArg _ ((if_pos hup).trans (State.walkIn_next hh ha)))
    · exact hex.trans (congrArg _ ((if_pos hup).trans (State.walkIn_overflow hh ha)))
  · have hm : s.chainMine f = true := by simp [State.chainMine, hh, hd]
    have hin (h2 : 2 ≤ cType f) (h5 : cType f ≤ 5) := State.chainIn_taken (up := up) (wake := State.chainWake) hok
      (Or.inl (chainBase_of_type (by omega) h5)) (Or.inl hl) (by omega) hm (by omega)
    obtain ⟨hend, -, hjoin, -⟩ := exec_taken (up := up) hr hm
    refine ⟨fun ht hw => (hend ht).trans (congrArg _ ?_), fun ht hw hag ha => (hend ht).trans (congrArg _ ?_),
      fun ht hw => (hjoin ht).trans (congrArg _ ?_), fun ht hw => (hjoin ht).trans (congrArg _ ?_)⟩ <;>
      rw [hin (by omega) (by omega)]
    · exact (State.chainTaken_walkEnd (s := s.heard up) ht hh).trans (State.walkEndIn_none (State.heard_walkAt.trans hw))
    · exact (State.chainTaken_walkEnd (s := s.heard up) ht hh).trans (State.walkEndIn_some (by simpa using hw) ha)
    · exact (State.chainTaken_join ht).trans (State.walkStart_free (s := s.heard up) hh (State.heard_walkAt.trans hw))
    · exact (State.chainTaken_join ht).trans (State.walkStart_again (s := s.heard up) hh (by simpa using hw))
  · have hm : s.chainMine f = true := by simp [State.chainMine, ha, hd]
    have hin (h2 : 2 ≤ cType f) (h5 : cType f ≤ 5) (hl : cLvl f = 0) := State.chainIn_taken (up := up) (wake := State.chainWake) hok
      (Or.inl (chainBase_of_type (by omega) h5)) (Or.inl hl) (by omega) hm hall
    obtain ⟨-, hlvl, -, hwake⟩ := exec_taken (up := up) hr hm
    refine ⟨fun hl ht => (hlvl ht).trans (congrArg _ ?_), fun hl ht hs htg => (hwake ht).trans (congrArg _ ?_),
      fun hl ht hs => (hwake ht).trans (congrArg _ ?_), fun hg hl => ?_⟩
    · exact (hin (by omega) (by omega) hl).trans (State.chainTaken_levelSet ht)
    · exact (hin (by omega) (by omega) hl).trans ((State.chainTaken_wake ht).trans (State.chainWake_run hs htg))
    · exact (hin (by omega) (by omega) hl).trans ((State.chainTaken_wake ht).trans (State.chainWake_asleep hs))
    · have ht : cType f ≠ 1 := fun h => by rw [h] at hg; exact absurd hg (by decide)
      have hex := (exec_msg (up := up) hr hm hg).trans (congrArg _
        ((State.chainIn_taken hok (Or.inr hg) (Or.inr hl) ht hm hall).trans (State.chainTaken_msg hg)))
      exact ⟨fun h8 => hex.trans (congrArg _ (State.msgIn_full (h8.trans_eq (congrArg _ State.heard_rx.symm)))),
        fun h8 => hex.trans (congrArg _ ((State.msgIn_room ((congrArg _ State.heard_rx).trans_lt h8)).trans
          (by rw [State.heard_rx]; rfl)))⟩
  · have hex := (exec_chainFrameRepeat (up := up) hr hm (by omega)).trans (congrArg _
      (State.chainIn_other hok (Or.inl (chainBase_of_type (by omega) h5)) (Or.inl hl) (by omega) hm))
    exact ⟨fun ho => hex.trans (congrArg _ (if_pos ho)), fun ho => hex.trans (congrArg _ (if_of_false ho))⟩
  · refine ⟨exec_links_off, fun hr => ⟨exec_linkBeat_up hr, exec_linkBeat_down hr, exec_linkBeat_up_busy, exec_chainLinkLoss_up hr,
      exec_chainLinkLoss_down hr, exec_chainLinkLoss_live, exec_chainLinkGain_up hr, exec_chainLinkGain_down hr⟩,
      exec_walkTimeout_none, fun t hw => ⟨fun hn => ?_, fun hn hr => ?_⟩⟩
    · have hnot : ¬ t + ms 10 ≤ s.now := Nat.not_le.2 hn
      exact (exec_walkTimeout_some hw).trans (congrArg _ (if_neg (by simp [hnot])))
    · have hdue : t + ms 10 ≤ s.now := hn
      exact (exec_walkTimeout_some hw).trans (congrArg _ (if_pos (by simp [hr, hdue])))
  · obtain ⟨hwalk, hsend, htake, hwake, hreload⟩ := exec_dchCmds (d := d) ho
    exact ⟨fun hh => hwalk.trans (congrArg _ (State.walkStart_other hh)),
      fun hh hw => hwalk.trans (congrArg _ (State.walkStart_free hh hw)), htake,
      fun hd => hwake.trans (congrArg _ (State.chainWakeTo_bad hd)),
      fun hd h => hwake.trans (congrArg _ (State.chainWakeTo_sends hd h)),
      fun hd hh ha => hwake.trans (congrArg _ (State.chainWakeTo_none hd hh ha)),
      ⟨fun h => hsend.trans (congrArg _ (State.chainSoft_bad h)),
        fun ha hd hty hlvl => hsend.trans (congrArg _ (State.chainSoft_msg ha hd hty hlvl))⟩,
      fun h => hreload.trans (congrArg _ (State.reload_notReady h)),
      fun hst hs ht => hreload.trans (congrArg _ (State.reload_drains hst hs ht))⟩

/-! # Start-up (R583 to R601) -/

namespace Sys2Proof.Machine
section
variable {s : State} {c₀ c₁ : List (BitVec 8)}

/-! ### POR_N (R587, R588) -/

/-- The levels of INT_N change what the block drives, and nothing else. -/
theorem State.intPins_eq (driven : Bool) : ∃ o, s.intPins driven = { s with out := o } := by
  simp only [State.intPins, List.foldl_cons, List.foldl_nil]
  split_ifs
  exacts [⟨_, rfl⟩, ⟨_, rfl⟩, ⟨_, rfl⟩, ⟨s.out, rfl⟩]

/-- POR_N low leaves the reset state with what flash, the pins and host memory hold. -/
theorem exec_porNAssert : ∃ o, exec .porNAssert s = .next { s.porState with out := o } := by
  obtain ⟨o, ho⟩ := State.intPins_eq (s := s) false
  by_cases hrun : s.f PWR_STAT_STATE ≤ 1 <;>
    by_cases hlow : (s.f PWR_STAT_STATE == 4 || (s.power.pnrAt.isSome && s.power.why == 2)) = true
  · refine ⟨.pwrReq true :: o, ?_⟩
    simp only [exec, execPorNAssert, if_pos hrun, ho]
    exact congrArg Host.Outcome.next (if_pos hlow)
  · refine ⟨o, ?_⟩
    simp only [exec, execPorNAssert, if_pos hrun, ho]
    exact congrArg Host.Outcome.next (if_neg hlow)
  · refine ⟨.pwrReq true :: s.out, ?_⟩
    simp only [exec, execPorNAssert, if_neg hrun]
    exact congrArg Host.Outcome.next (if_pos hlow)
  · refine ⟨s.out, ?_⟩
    simp only [exec, execPorNAssert, if_neg hrun]
    exact congrArg Host.Outcome.next (if_neg hlow)

section
variable {lead head : Nat}

theorem exec_porNRelease_ignored (h : s.boot.phase ≠ 0 ∨ s.f PWR_STAT_STATE = 4) : exec (.porNRelease lead head) s = .next s :=
  congrArg Host.Outcome.next (if_pos (by rcases h with h | h <;> simp [h]))

theorem exec_porNRelease_starts (hp : s.boot.phase = 0) (hst : s.f PWR_STAT_STATE ≠ 4) : exec (.porNRelease lead head) s =
    .next ((((s.setF DEV_STRAPS_LEAD_HOST 0 0 lead).setF DEV_STRAPS_DCH_HEAD 0 0 head).setF DCH_STAT_HEAD 0 0 head).startUp 0) :=
  congrArg Host.Outcome.next (if_neg (by simp [hp, hst]))

end

/-! ### The boot image (R593 to R595) -/

theorem State.directory_both {x y : Nat × Nat} (h₀ : dirOf c₀ = some x) (h₁ : dirOf c₁ = some y) :
    s.directory c₀ c₁ = if later y.2 x.2 32 then y else x := by
  simp only [State.directory, h₀, h₁]

theorem State.directory_first {x : Nat × Nat} (h₀ : dirOf c₀ = some x) (h₁ : dirOf c₁ = none) : s.directory c₀ c₁ = x := by
  simp only [State.directory, h₀, h₁]

theorem State.directory_second {x : Nat × Nat} (h₀ : dirOf c₀ = none) (h₁ : dirOf c₁ = some x) : s.directory c₀ c₁ = x := by
  simp only [State.directory, h₀, h₁]

section
variable {a b : Image} {l : List Nat}

/-- Both copies of the directory have been read, and `d` is the one in use. -/
def State.dirRead (s : State) (d : Nat × Nat) : State :=
  (({ s.bump.bump with boot := { s.boot with dir := d } } : State).flashRead 0 0x1000).flashRead 0x1000 0x1000

/-- The slots are tried in turn: `k` with image `x`, then the other one with image `y`. -/
def State.bootFrom (s : State) (k : Nat) (x y : Image) (l : List Nat) : State :=
  let v := s.imageRead k x
  if v.imageOk x then v.imageRuns k x l
  else
    let t := (v.err SAGE_ERR_BOOT_FALLBACK 0).imageRead (1 - k) y
    if t.imageOk y then (t.setF SAGE_STAT_FALLBACK 0 0 1).imageRuns (1 - k) y l
    else { t.setF SAGE_STAT_BOOT 0 0 3 with boot := { t.boot with phase := 5 } }

theorem exec_imageAccepted_idle (hp : s.boot.phase ≠ 1) : exec (.imageAccepted (c₀, c₁) a b l) s = .next s :=
  congrArg Host.Outcome.next (if_pos (bne_iff_ne.2 hp))

/-- The image that the boot reads from slot `k`: what has been written there, or what the board's flash held. -/
def State.bootImage (s : State) (a b : Image) (k : Nat) : Image := PMap.get s.boot.slots k (if k == 0 then a else b)

theorem exec_imageAccepted_boots (hp : s.boot.phase = 1) : exec (.imageAccepted (c₀, c₁) a b l) s = .next (
    let d := s.boot.dirs.getD (s.directory c₀ c₁)
    (s.dirRead d).bootFrom (d.1 % 2) (s.bootImage a b (d.1 % 2)) (s.bootImage a b (1 - d.1 % 2)) l) :=
  congrArg Host.Outcome.next (if_neg (by simp [hp]))

section
variable (hs : s.boot.slots = []) (hp : s.boot.phase = 1)
include hs

theorem State.bootImage_board : s.bootImage a b 0 = a ∧ s.bootImage a b 1 = b := by
  unfold State.bootImage
  rw [hs]
  exact ⟨rfl, rfl⟩

include hp

theorem exec_imageAccepted_zero (hd : (s.boot.dirs.getD (s.directory c₀ c₁)).1 = 0) :
    exec (.imageAccepted (c₀, c₁) a b l) s = .next ((s.dirRead (s.boot.dirs.getD (s.directory c₀ c₁))).bootFrom 0 a b l) := by
  obtain ⟨h₀, h₁⟩ := State.bootImage_board (a := a) (b := b) hs
  simp only [exec_imageAccepted_boots hp, hd, Nat.zero_mod, Nat.sub_zero, h₀, h₁]

theorem exec_imageAccepted_one (hd : (s.boot.dirs.getD (s.directory c₀ c₁)).1 = 1) :
    exec (.imageAccepted (c₀, c₁) a b l) s = .next ((s.dirRead (s.boot.dirs.getD (s.directory c₀ c₁))).bootFrom 1 b a l) := by
  obtain ⟨h₀, h₁⟩ := State.bootImage_board (a := a) (b := b) hs
  simp only [exec_imageAccepted_boots hp, hd, Nat.one_mod, Nat.sub_self, h₀, h₁]

end
end

/-! ### Entropy (R601) -/

/-- What seeding of the DRBG writes, before the boundary that Zhoem may request. -/
def State.entropySet (s : State) : State :=
  let t : State := { (s.setF DEV_SERVICE_ENTROPY_READY 0 0 1).setF RNG_STAT_READY 0 0 1 with
    boot := { s.boot with asked := 0, seedAt := s.now } }
  ((t.setF RNG_STAT_STARVED 0 0 0).setF RNG_OUT_STATUS 0 0 0).setF PMC_S_STAT_PROVISIONAL 0 0 0

/-- Seeding may in addition request a boundary. -/
theorem State.entropyUp_eq : ∃ r, s.entropyUp = { s.entropySet with epochReq := r } := by
  refine ⟨if (List.range 96).any (fun n => s.entropySet.b ESTR_STAT_PROVISIONAL n || (s.entropySet.emac n).rekey) then true
    else s.entropySet.epochReq, ?_⟩
  by_cases h : ((List.range 96).any fun n => s.entropySet.b ESTR_STAT_PROVISIONAL n || (s.entropySet.emac n).rekey) = true
  · rw [if_pos h]
    exact if_pos h
  · rw [if_neg h]
    exact if_neg h

theorem State.f_entropySet_apart {F : Fld} {u i : Nat} (hF : F.addr u i ∉ [DEV_SERVICE_ENTROPY_READY.addr 0 0,
    RNG_STAT_READY.addr 0 0, RNG_STAT_STARVED.addr 0 0, RNG_OUT_STATUS.addr 0 0, PMC_S_STAT_PROVISIONAL.addr 0 0]) :
    s.entropySet.f F u i = s.f F u i := by
  simp only [List.mem_cons, List.not_mem_nil, or_false, not_or] at hF
  obtain ⟨h₁, h₂, h₃, h₄, h₅⟩ := hF
  exact (State.f_setF_ne _ _ h₅).trans ((State.f_setF_ne _ _ h₄).trans ((State.f_setF_ne _ _ h₃).trans
    ((State.f_setF_ne _ _ h₂).trans (State.f_setF_ne _ _ h₁))))

theorem State.entropySet_ready : s.entropySet.b DEV_SERVICE_ENTROPY_READY = true ∧ s.entropySet.b RNG_STAT_READY = true ∧
    s.entropySet.f RNG_OUT_STATUS = 0 := by
  refine ⟨beq_iff_eq.2 ?_, beq_iff_eq.2 ?_, ?_⟩
  · exact (State.f_setF_ne _ _ (by decide)).trans ((State.f_setF_ne _ _ (by decide)).trans ((State.f_setF_ne _ _ (by decide)).trans
      ((State.f_setF_ne _ _ (by decide)).trans (State.f_setF_same ..))))
  · exact (State.f_setF_ne _ _ (by decide)).trans ((State.f_setF_ne _ _ (by decide)).trans ((State.f_setF_ne _ _ (by decide)).trans
      (State.f_setF_same ..)))
  · exact (State.f_setF_ne _ _ (by decide)).trans (State.f_setF_same ..)

/-- A set of sources fits SRC_OK. -/
theorem foldl_setBit_lt {l : List Nat} (hl : ∀ k ∈ l, k < 4) : ∀ x, x < 16 → l.foldl setBit x < 16 := by
  have hone : ∀ x < 16, ∀ k < 4, setBit x k < 16 := by decide
  induction l with
  | nil => exact fun x hx => hx
  | cons k l ih =>
    exact fun x hx => ih (fun j hj => hl j (List.mem_cons_of_mem k hj)) _ (hone x hx k (hl k List.mem_cons_self))

section
variable {src : Nat}

/-- The sources of the set that are good. -/
def State.goodSources (s : State) (src : Nat) : List Nat := (List.range 4).filter fun k => bit src k && bit s.boot.trng k

/-- The good sources are known, and the first three of them are in service. -/
def State.sourcesIn (s : State) (src : Nat) : State :=
  ({ s with boot := { s.boot with trng := (s.goodSources src).foldl setBit 0 } } : State).setF RNG_STAT_SRC_OK 0 0
    (((s.goodSources src).take 3).foldl setBit 0)

theorem exec_entropyReady_ignored (h : s.boot.phase = 0 ∨ (s.goodSources src).length < 2 ∨ s.b DEV_SERVICE_ENTROPY_READY = true ∨
    s.b RNG_STAT_STARVED = true) : exec (.entropyReady src) s = .next s :=
  congrArg Host.Outcome.next (if_pos (by
    change (_ || _ || _ || decide ((s.goodSources src).length < 2)) = true
    rcases h with h | h | h | h <;> simp [h]))

theorem exec_entropyReady_seeds (hp : s.boot.phase ≠ 0) (hg : 2 ≤ (s.goodSources src).length)
    (he : s.b DEV_SERVICE_ENTROPY_READY = false) (hst : s.b RNG_STAT_STARVED = false) : exec (.entropyReady src) s =
    .next (s.sourcesIn src).entropyUp :=
  congrArg Host.Outcome.next (if_neg (by
    change ¬ (_ || _ || _ || decide ((s.goodSources src).length < 2)) = true
    simp [hp, Nat.not_lt.2 hg, he, hst]))

theorem goodSources_take_lt : ((s.goodSources src).take 3).foldl setBit 0 < 16 :=
  foldl_setBit_lt (fun _ hk => List.mem_range.1 (List.mem_of_mem_filter (List.mem_of_mem_take hk))) 0 (by decide)

theorem State.sourcesIn_srcOk : (s.sourcesIn src).entropySet.f RNG_STAT_SRC_OK = ((s.goodSources src).take 3).foldl setBit 0 := by
  rw [State.f_entropySet_apart (by decide)]
  exact (State.f_setF_same ..).trans (Nat.mod_eq_of_lt goodSources_take_lt)

end

/-! ### Services (R598, R600) -/

theorem exec_seedlingService_idle {cfg : List (Nat × Nat)} (hp : s.boot.phase ≠ 2) : exec (.seedlingService cfg) s = .next s :=
  congrArg Host.Outcome.next (if_pos (bne_iff_ne.2 hp))

theorem exec_fullService_idle (hp : s.boot.phase ≠ 3) : exec .fullService s = .next s :=
  congrArg Host.Outcome.next (if_pos (bne_iff_ne.2 hp))

theorem exec_seedlingService_runs {cfg : List (Nat × Nat)} (hp : s.boot.phase = 2) : exec (.seedlingService cfg) s = .next (
    let t := (((restDoms.foldl State.domUp s).imageConfig cfg).setF DEV_SERVICE_SERVICE 0 0 1).setF DEV_SERVICE_SHEAVES 0 0 32
    ({ t with boot := { t.boot with phase := 3 } } : State).each 96 fun s n =>
      if s.quadMode (n / 4) == 1 && !(s.absent 0x30 n) && s.b KRP_CTL_ENABLE n then s.linkEnable n true else s) :=
  congrArg Host.Outcome.next (if_neg (by simp [hp]))

theorem exec_fullService_runs (hp : s.boot.phase = 3) : exec .fullService s = .next (
    let t := (s.setF DEV_SERVICE_SERVICE 0 0 2).setF DEV_SERVICE_SHEAVES 0 0 64
    ({ t with boot := { t.boot with phase := 4 }, rsv := { t.rsv with winnowAt := s.now } } : State).each 96 fun s n =>
      if s.quadMode (n / 4) == 1 && !(s.absent 0x30 n) then s.linkSeed n else s) :=
  congrArg Host.Outcome.next (if_neg (by simp [hp]))

/-! ### REFCLK and the rails (R583, R585) -/

theorem exec_refclkLoss : exec .refclkLoss s = .next (
    let t : State := { s with boot := { s.boot with refGone := true } }
    if s.powered then t.noReturn 3 else t) := rfl

theorem exec_refclkReturn : exec .refclkReturn s = .next (
    let t : State := { s with boot := { s.boot with refGone := false } }
    if s.f PWR_STAT_STATE == 4 && s.power.why == 3 then t.startSupply else t) := rfl

theorem exec_railsInTolerance_none (h : s.power.wake = none) : exec .railsInTolerance s = .next s := by
  simp only [exec, execRailsInTolerance, h]

theorem exec_railsInTolerance_some {w : Nat × Nat × Nat × Nat} (h : s.power.wake = some w) :
    exec .railsInTolerance s = .next (if s.f PWR_STAT_STATE == 4 && !s.boot.refGone then s.startUp w.1 else s) := by
  simp only [exec, execRailsInTolerance, h]

end
end Sys2Proof.Machine

open Sys2Proof Sys2Proof.Machine in
/-- Settles O58: POR_N, the boot, entropy, the services and the supply, event by event. -/
theorem startUp : Obligations.StartUp := by
  unfold Obligations.StartUp
  refine ⟨fun s => ?_, fun s lead head => ⟨exec_porNRelease_ignored, exec_porNRelease_starts⟩, fun s c0 c1 a b l hs => ?_,
    fun s src => ?_, fun s cfg => ?_, fun s => ?_⟩
  · obtain ⟨o, ho⟩ := exec_porNAssert (s := s)
    exact ⟨_, ho, rfl, rfl, rfl, rfl, rfl, rfl, rfl, rfl, rfl, rfl, rfl, rfl, rfl, rfl⟩
  · refine ⟨exec_imageAccepted_idle, fun hp hd => ⟨fun hok => ?_, fun hok => ⟨fun hok' => ?_, fun hok' => ?_⟩⟩, fun hp hd hok => ?_,
      fun x y => State.directory_both, fun x => ⟨State.directory_first, State.directory_second⟩⟩
    · exact (exec_imageAccepted_zero hs hp hd).trans (congrArg _ (if_pos hok))
    · exact (exec_imageAccepted_zero hs hp hd).trans (congrArg _ ((if_of_false hok).trans (if_pos hok')))
    · exact (exec_imageAccepted_zero hs hp hd).trans (congrArg _ ((if_of_false hok).trans (if_of_false hok')))
    · exact (exec_imageAccepted_one hs hp hd).trans (congrArg _ (if_pos hok))
  · refine ⟨exec_entropyReady_ignored, fun hp hg he hst => ?_⟩
    obtain ⟨r, hr⟩ := State.entropyUp_eq (s := s.sourcesIn src)
    obtain ⟨hready, hrng, hout⟩ := State.entropySet_ready (s := s.sourcesIn src)
    have hmem : ({ (s.sourcesIn src).entropySet with epochReq := r } : State).mem = s.mem := rfl
    have hregs : ({ (s.sourcesIn src).entropySet with epochReq := r } : State).regs = (s.sourcesIn src).entropySet.regs := rfl
    exact ⟨{ (s.sourcesIn src).entropySet with epochReq := r }, (exec_entropyReady_seeds hp hg he hst).trans (congrArg _ hr), rfl,
      (State.b_congr hregs ..).trans hready, (State.b_congr hregs ..).trans hrng, (State.f_congr hregs ..).trans hout,
      (State.f_congr hregs ..).trans State.sourcesIn_srcOk, rfl, fun a => congrArg (PMap.get · a memDefault) hmem, rfl⟩
  · refine ⟨exec_seedlingService_idle, exec_seedlingService_runs, exec_fullService_idle, fun hp => (exec_fullService_runs hp).trans ?_⟩
    simp only [Bool.true_or, Bool.and_true]
  · refine ⟨fun hp => exec_refclkLoss.trans (congrArg _ (if_of_false hp)), fun hp => exec_refclkLoss.trans (congrArg _ (if_pos hp)),
      fun h => exec_refclkReturn.trans (congrArg _ (if_neg ?_)), fun hst hw => exec_refclkReturn.trans (congrArg _ (if_pos ?_)),
      fun h => ?_, fun w hw hst hg => (exec_railsInTolerance_some hw).trans (congrArg _ (if_pos ?_))⟩
    · rcases h with h | h <;> simp [h]
    · simp [hst, hw]
    · cases hw : s.power.wake with
      | none => exact exec_railsInTolerance_none hw
      | some w =>
        refine (exec_railsInTolerance_some hw).trans (congrArg _ (if_neg ?_))
        rcases h with h | h | h
        · simp [hw] at h
        · simp [h]
        · simp [h]
    · simp [hst, hg]

/-! # The boot flash and entropy (R596, R601, R602) -/

namespace Sys2Proof.Machine
section
variable {s : State} {m : Image} {k status : Nat}

/-! ### SAGE_FL_CMD (R596) -/

/-- The manager's writes of SAGE_FL_CMD act (R63). -/
theorem exec_sageFlCmds (ho : s.opens 0x02 0 = true) :
    exec (.sageFlCmdWrite 0) s = .next s.flashWrite ∧ exec (.sageFlCmdRestart 0) s = .next s.flashRestart ∧
    exec (.sageFlCmdCommitSvn 0) s = .next s.flashSvn := by
  obtain ⟨hl, hr⟩ := State.opens_iff.1 ho
  have hact (k : State → State) : Host.Outcome.next (s.act 0 0x02 0 true k) = (.next (k s) : Res) :=
    congrArg Host.Outcome.next (State.act_manager k hl hr)
  exact ⟨hact _, hact _, hact _⟩

/-- A flash command is over, with its status shown. -/
def State.flashOver (s : State) (status : Nat) : State :=
  (({ s with boot := { s.boot with writing := none } } : State).setF SAGE_FL_STAT_RUNNING 0 0 0).setF SAGE_FL_STAT_RESULT 0 0 status

theorem State.flashEnd_ok : s.flashEnd 0 = s.flashOver 0 := by
  simp only [State.flashEnd, State.flashOver, beq_self_eq_true, if_true]

theorem State.flashEnd_fail (h : status ≠ 0) : s.flashEnd status = (s.flashOver status).err SAGE_ERR_FL_FAIL 0 :=
  if_neg (by simp [h])

theorem State.flash_busy (h : s.b SAGE_FL_STAT_RUNNING = true) :
    s.flashWrite = s.flashBusy ∧ s.flashRestart = s.flashBusy ∧ s.flashSvn = s.flashBusy :=
  ⟨if_pos h, if_pos h, if_pos h⟩

/-- The image that WRITE reads from host memory. -/
def State.flashData (s : State) : List (BitVec 8) :=
  (List.range (s.f SAGE_FL_LEN_BYTES)).map fun i => s.byte (hostAt (s.f SAGE_FL_ADDR_ADDR + i))

section
variable (h : s.b SAGE_FL_STAT_RUNNING = false)
include h

theorem State.flashWrite_good (hok : s.imageOk (flashImage s.flashData) = true) : s.flashWrite =
    (let p := s.flashProgram (slotAt s.spareSlot) 0x400000 s.flashData
     { p.setF SAGE_FL_STAT_RUNNING 0 0 1 with boot := { p.boot with writing := some (flashImage s.flashData) } }) :=
  (if_of_false h).trans (if_pos hok)

theorem State.flashWrite_bad (hok : s.imageOk (flashImage s.flashData) = false) :
    s.flashWrite = (s.flashOver 0x11).err SAGE_ERR_FL_FAIL 0 :=
  (if_of_false h).trans ((if_of_false hok).trans (State.flashEnd_fail (by decide)))

theorem State.flashRestart_boot (hb : s.f SAGE_STAT_BOOT ≠ 3) : s.flashRestart = s :=
  (if_of_false h).trans (if_neg (by simp [hb]))

theorem State.flashRestart_recovery (hb : s.f SAGE_STAT_BOOT = 3) : s.flashRestart = (s.flashOver 0).startUp 10 :=
  (if_of_false h).trans ((if_pos (beq_iff_eq.2 hb)).trans (congrArg (State.startUp · 10) State.flashEnd_ok))

theorem State.flashSvn_commits : s.flashSvn =
    (let v := max (s.f SAGE_SEC_SVN_MIN) (s.f SAGE_SEC_SVN)
     ({ s.setF SAGE_SEC_SVN_MIN 0 0 v with boot := { s.boot with svnMin := some v } } : State).flashOver 0) :=
  (if_of_false h).trans State.flashEnd_ok

end

theorem exec_flashWriteDone_none {ok : Bool} (h : s.boot.writing = none) : exec (.flashWriteDone ok) s = .next s := by
  simp only [exec, execFlashWriteDone, h]

section
variable (h : s.boot.writing = some m)
include h

/-- The spare slot holds image `x` when it has been read back. -/
def State.slotNow (s : State) (m x : Image) : State :=
  let r := s.imageRead s.spareSlot m
  { r with boot := { r.boot with slots := PMap.put r.boot.slots s.spareSlot x } }

theorem exec_flashWriteDone_good :
    exec (.flashWriteDone true) s = .next (((s.slotNow m m).dirWrite s.spareSlot).flashOver 0) := by
  simp only [exec, execFlashWriteDone, h, if_true, State.flashEnd_ok]
  rfl

theorem exec_flashWriteDone_bad : exec (.flashWriteDone false) s =
    .next (((s.slotNow m { m with digestOk := false }).flashOver 0x11).err SAGE_ERR_FL_FAIL 0) := by
  have hfail (t : State) : t.flashEnd 0x11 = (t.flashOver 0x11).err SAGE_ERR_FL_FAIL 0 := State.flashEnd_fail (by decide)
  simp only [exec, execFlashWriteDone, h, Bool.false_eq_true, if_false, hfail]
  rfl

end

/-! ### RNG_OUT (R602) -/

theorem exec_rngOut_size {size : Nat} (h : size ≠ 16) : exec (.rngOut 0 size) s = .next { s with rdata := 0 } :=
  congrArg Host.Outcome.next ((if_neg (by simp)).trans (if_pos (by simp [h])))

theorem exec_rngOut_manager (ho : s.opens 0x08 0 = true) : exec (.rngOut 0 16) s = .next (
    if !(s.b DEV_SERVICE_ENTROPY_READY) then { s with rdata := 0x220000000000000000 }
    else { s.bump with rdata := leNat ((List.range 8).map fun j => Config.drbg s.draws j)
                       boot := { s.boot with asked := s.boot.asked + 1 } }) := by
  obtain ⟨hl, hr⟩ := State.opens_iff.1 ho
  exact congrArg Host.Outcome.next ((if_neg (by simp)).trans (if_neg (by simp [hl, hr])))

/-! ### Reseeds (R601, R602) -/

theorem State.seeded_iff : s.seeded = true ↔ s.b DEV_SERVICE_ENTROPY_READY = true ∨ s.b RNG_STAT_STARVED = true := by
  rw [State.seeded, Bool.or_eq_true]

/-- The DRBG has no sources to be reseeded from. -/
def State.starvedNow (s : State) : State :=
  let t := ((s.setF DEV_SERVICE_ENTROPY_READY 0 0 0).setF RNG_STAT_READY 0 0 0).setF RNG_OUT_STATUS 0 0 0x22
  ({ t.setF RNG_STAT_STARVED 0 0 1 with boot := { t.boot with asked := 0, seedAt := t.now } } : State).err RNG_ERR_STARVED 0

theorem State.reseed_eq : s.reseed =
    if 2 ≤ popcount 4 (s.f RNG_STAT_SRC_OK) then (s.addF RNG_CNT_RESEED_COUNT 0 0 1).entropyUp else s.starvedNow := rfl

theorem exec_rngCmdReseed (ho : s.opens 0x08 0 = true) : exec (.rngCmdReseed 0) s = .next (if s.seeded then s.reseed else s) := by
  obtain ⟨hl, hr⟩ := State.opens_iff.1 ho
  exact congrArg Host.Outcome.next (State.act_manager State.reseedNow hl hr)

/-- A reseed is due 100 ms after the last, or after 65,536 requests. -/
def State.reseedDue (s : State) : Prop := s.boot.seedAt + 6553600000000 ≤ s.now ∨ 65536 ≤ s.boot.asked

theorem exec_reseedTimer_idle (h : ¬ s.seeded = true ∨ ¬ s.reseedDue) : exec .reseedTimer s = .next s :=
  congrArg Host.Outcome.next (if_neg (by
    rw [Bool.and_eq_true, Bool.or_eq_true, decide_eq_true_eq, decide_eq_true_eq]
    exact fun hd => h.elim (· hd.1) (· hd.2)))

theorem exec_reseedTimer_due (hs : s.seeded = true) (hd : s.reseedDue) : exec .reseedTimer s = .next s.reseed :=
  congrArg Host.Outcome.next (if_pos (by
    rw [Bool.and_eq_true, Bool.or_eq_true, decide_eq_true_eq, decide_eq_true_eq]
    exact ⟨hs, hd⟩))

/-! ### A source that fails (R601) -/

theorem exec_healthTestFail_ignored (h : 3 < k ∨ s.boot.phase = 0 ∨ s.domReady 45 = false ∨ bit s.boot.trng k = false) :
    exec (.healthTestFail k) s = .next s :=
  congrArg Host.Outcome.next (if_pos (by rcases h with h | h | h | h <;> simp [h]))

theorem exec_healthTestFail_fails (hk : k ≤ 3) (hp : s.boot.phase ≠ 0) (hd : s.domReady 45 = true)
    (ht : bit s.boot.trng k = true) : exec (.healthTestFail k) s = .next (s.trngFail k) :=
  congrArg Host.Outcome.next (if_neg (by simp [hk, hp, hd, ht]))

end
end Sys2Proof.Machine

open Sys2Proof Sys2Proof.Machine in
/-- Settles O59: the flash commands, RNG_OUT, reseeds and a failing source, event by event. -/
theorem flashAndEntropy : Obligations.FlashAndEntropy := by
  unfold Obligations.FlashAndEntropy
  refine ⟨fun s ho => ?_, fun s ok m => ⟨exec_flashWriteDone_none, fun h => ⟨exec_flashWriteDone_good h, exec_flashWriteDone_bad h⟩⟩,
    fun s size => ⟨exec_rngOut_size, fun ho => ⟨fun he => ?_, fun he => ?_⟩⟩, fun s => ?_,
    fun s k => ⟨exec_healthTestFail_ignored, exec_healthTestFail_fails⟩⟩
  · obtain ⟨hwrite, hrestart, hsvn⟩ := exec_sageFlCmds ho
    refine ⟨fun hrun => ?_, fun hrun => ⟨fun hok => ?_, fun hok => ?_, fun hb => ?_, fun hb => ?_, ?_⟩⟩
    · obtain ⟨hw, hr, hc⟩ := State.flash_busy hrun
      exact ⟨hwrite.trans (congrArg _ hw), hrestart.trans (congrArg _ hr), hsvn.trans (congrArg _ hc)⟩
    · exact hwrite.trans (congrArg _ (State.flashWrite_good hrun hok))
    · exact hwrite.trans (congrArg _ (State.flashWrite_bad hrun hok))
    · exact hrestart.trans (congrArg _ (State.flashRestart_boot hrun hb))
    · exact hrestart.trans (congrArg _ (State.flashRestart_recovery hrun hb))
    · exact hsvn.trans (congrArg _ (State.flashSvn_commits hrun))
  · exact (exec_rngOut_manager ho).trans (congrArg _ (if_pos (by rw [he]; rfl)))
  · exact (exec_rngOut_manager ho).trans (congrArg _ (if_not_of_true he))
  · intro seeded due good starved
    have hgood (hg : good) : (.next s.reseed : Res) = .next (s.addF RNG_CNT_RESEED_COUNT 0 0 1).entropyUp :=
      congrArg _ (State.reseed_eq.trans (if_pos hg))
    have hstarved (hg : ¬ good) : (.next s.reseed : Res) = .next starved := congrArg _ (State.reseed_eq.trans (if_neg hg))
    refine ⟨fun ho => ?_, fun h => exec_reseedTimer_idle (h.imp_left (mt State.seeded_iff.1)),
      fun hs hd hg => (exec_reseedTimer_due (State.seeded_iff.2 hs) hd).trans (hgood hg),
      fun hs hd hg => (exec_reseedTimer_due (State.seeded_iff.2 hs) hd).trans (hstarved hg)⟩
    have hex := exec_rngCmdReseed ho
    exact ⟨fun hs => hex.trans (congrArg _ (if_neg (mt State.seeded_iff.1 hs))),
      fun hs hg => (hex.trans (congrArg _ (if_pos (State.seeded_iff.2 hs)))).trans (hgood hg),
      fun hs hg => (hex.trans (congrArg _ (if_pos (State.seeded_iff.2 hs)))).trans (hstarved hg)⟩
